-- ==== Sys2Proof/Word.lean ====
section
/-! DEFINITION. The word types of the block: bytes of dictionary values, PDUs and frames. -/

namespace Sys2Proof

/-- One byte (R35: every multi-byte value is a little-endian sequence of these). -/
abbrev Byte := BitVec 8

/-- A value, a PDU or a frame as the sequence of bytes it is on the wire. -/
abbrev Bytes := List Byte

end Sys2Proof
end

