-- ==== Sys2Proof/Syntax.lean ====
section
/-! DEFINITION. The commands of the block, one constructor of `Instr` for each row of the spec's table of
operations and events. Operands are what the row is given from outside: a session and the bytes of a value,
an instance, a measured value, a received frame. -/

namespace Sys2Proof

/-- Radio A, B, C (R12). -/
abbrev Radio := Fin 3
/-- TRX0 to TRX15 (R12). -/
abbrev Trx := Fin 16
/-- C0 to C7 (R12). -/
abbrev CoreId := Fin 8

/-- The transports of *Transports* (02_object_dictionary). -/
inductive Transport where
  | field | udp | mailbox
  | port (ch : Fin 8)
  deriving DecidableEq, Repr

/-- How an I2C transfer ended on the bus (R309). -/
inductive I2cAnswer where
  | acked (rd : Bytes) | nak | stuck
  deriving DecidableEq, Repr

/-- What the outside answers while one dictionary operation or PDU executes: whether the Ed448 signature it
carries verifies under the key it names, whether the digest of the payload in flash matches, whether the key
digest matches the fused one, the I2C bus, the PCIe endpoint, the units that miss a vote. -/
structure Env where
  sigOk : Bool := true
  keyOk : Bool := true
  digestOk : Bool := true
  i2c : I2cAnswer := .nak
  pcie : Option Nat := none
  /-- A hardware-backed object's word reads back poisoned (R449). -/
  poisoned : Bool := false
  deriving DecidableEq, Repr

/-- One transceiver's 10 us window (R78): samples at or above OVR_LEVEL, in-channel and wideband power in
0.1 dBm. -/
structure TrxWindow where
  trx : Trx
  overs : Nat
  inChannel : Int
  wideband : Int
  deriving DecidableEq, Repr

/-- A preamble correlation above the threshold, with what the receiver measures once its AGC has settled (R95, R130,
R131, R137, R138). -/
structure Correlation where
  /-- 0 802.11 OFDM, 1 DSSS, 2 MR-OFDM, 3 MR-FSK. -/
  family : Nat := 0
  /-- MR-FSK: symbol rate in kb/s; MR-OFDM: option. -/
  rate : Nat := 0
  /-- MR-FSK: octets of the preamble. -/
  octets : Nat := 4
  /-- in-channel power at the antenna port, 0.1 dBm. -/
  power : Int
  /-- carrier frequency offset, Hz. -/
  cfo : Int := 0
  /-- the AGC's decision on LNA_BYP. -/
  byp : Bool := false
  /-- the 20 MHz subchannels the PPDU covers, a bitmap. -/
  covers : Nat := 0
  deriving DecidableEq, Repr

/-- What the tracking loops see of the PPDU after its preamble (R132 to R134). -/
structure Tracking where
  /-- pilot phase residuals after correction, degrees: per user, per symbol after the signal field. -/
  residuals : List (List Nat) := []
  /-- MR-FSK symbols since the SFD: demodulated less ideal deviation in Hz, soft metric. -/
  fsk : List (Int × Nat) := []
  /-- Doppler midambles of the PPDU. -/
  midambles : Nat := 0
  deriving DecidableEq, Repr

/-- A PPDU whose preamble the receiver correlates with. -/
structure Preamble extends Correlation, Tracking
  deriving DecidableEq, Repr

/-- One calibration step (R75, R76): the image rejection reached in dB, and whether no transmission or reception is expected
within 40 us. -/
structure CalStep where
  rejectionDb : Nat
  quiet : Bool
  deriving DecidableEq, Repr

/-- What a READ asks: the count of a RANGE, and what the engine meets (R40, R449). -/
structure ReadAsk where
  count : Option Nat := none
  env : Env := {}
  deriving DecidableEq, Repr

/-- A U-APSD trigger: the most MPDUs of its service period, 0 for all, and the delivery-enabled ACs (R170). -/
structure ApsdTrigger where
  maxSp : Nat
  acs : List Nat
  deriving DecidableEq, Repr

/-- A decoded signal field (R137): the L-SIG with the duration it signals in us, the PLCP header, the PHRs with the MCS or
the FEC that the SFD tells (R130). -/
inductive SigField where
  | lsig (parity rateOk : Bool) (length durUs : Nat)
  | plcp (crcOk : Bool) (durUs : Nat)
  | ofdmPhr (hcsOk modeSwitch : Bool) (mcs : Nat)
  | fskPhr (sfdOk reservedZero modeSwitch fec : Bool) (length : Nat)
  deriving DecidableEq, Repr

/-- One 4 us window of in-channel power at the DDC output, 0.01 dBm at the RX pin, with what stood in it (R144, R147):
the radio transmitting, a reception or its 10 us, CCA busy, a channel change, path switch or calibration step, LNA_BYP. -/
structure NfWindow where
  power : Int
  tx : Bool := false
  rx : Bool := false
  busy : Bool := false
  change : Bool := false
  byp : Bool := false
  deriving DecidableEq, Repr

/-- What a radio senses one so many ns before a clear channel assessment ends (R142): energy at the antenna port in
0.1 dBm, and whether a SUN preamble is detected. -/
structure CcaObs where
  ageNs : Nat
  power : Int
  preamble : Bool
  deriving DecidableEq, Repr

/-- One user of a received PPDU as the signal fields give it (R128): BCC coded, its BCC rate in Mb/s and its
streams. -/
structure RxUser where
  bcc : Bool
  rate : Nat
  nss : Nat
  deriving DecidableEq, Repr

/-- A received MPDU with what the receiver measured of it (R164 to R175). -/
structure RxMpdu where
  /-- 0 QoS data, 1 non-QoS data, 2 management, 3 class 2 or 3 frame of no entry, 4 RTS. -/
  kind : Nat
  sta : Nat
  tid : Nat
  sn : Nat
  pn : Nat
  retry : Bool
  fcsOk : Bool
  protect : Bool
  micOk : Bool
  ackReq : Bool
  fourAddr : Bool
  snap : Bool
  etherType : Nat
  pmBit : Bool
  endsExchange : Bool
  /-- Queue Size or BSR report: access category and bytes (R183). -/
  report : Option (Nat × Nat)
  bss : Nat
  /-- which user of the PPDU it belongs to, in the order signalled (R128). -/
  user : Nat := 0
  addr : Bytes
  robust : Bool
  rssi : Nat
  rate : Nat
  /-- a data frame: destination and source address and payload of its (first) MSDU, LLC/SNAP removed; a management
  frame: MAC header to the end of the body. -/
  body : Bytes
  /-- the later MSDUs of an A-MSDU: LLC/SNAP present, EtherType, addresses and payload. -/
  more : List (Bool × Nat × Bytes)
  deriving DecidableEq, Repr

/-- A probe request (R153). -/
structure ProbeReq where
  ssid : Bytes
  bssid : Bytes
  addr : Bytes
  body : Bytes
  deriving DecidableEq, Repr

/-- One transmission a radio is asked for (R109, R114, R172): its kind of *Held requests*, its users
(station, AC, MPDU count), air time and deadline in Datum ns, requested DAC power in 0.01 dBm, whether the
RFFE writes are done, whether a non-STR partner's medium was idle for PIFS. -/
structure PpduReq where
  /-- 0 response, 1 contention, 2 beacon, 3 planned or trigger, 4 Chain. -/
  kind : Nat
  id : Nat
  ac : Nat
  sta : Option Nat
  mpdus : Nat
  durNs : Nat
  /-- a DSSS/CCK PPDU, whose ramps are capped at 2 us (R135). -/
  dsss : Bool
  deadline : Option Nat
  power : Int
  /-- air time of the response the protocol requires, 0 none (R109). -/
  respNs : Nat := 0
  rffeDone : Bool
  partnerIdle : Bool
  /-- the primary and secondary 20 MHz subchannels found busy in the PIFS before (R186). -/
  busy : Nat
  /-- 0 data, 1 Basic trigger, 2 BSRP trigger, 3 sounding, 4 Probe Response, 5 delivery to a station that polled,
  6 group-addressed frames. -/
  form : Nat
  late : Nat
  deriving DecidableEq, Repr

/-- One user of a TB PPDU as received (R192). -/
structure TbUser where
  sta : Nat
  valid : Bool
  ac : Nat
  bytes : Nat
  lossSymbols : List Nat
  /-- BCC coded, its BCC rate in Mb/s and its streams (R127, R128). -/
  bcc : Bool := false
  rate : Nat := 0
  nss : Nat := 1
  /-- the RU it is received on, the frequency and sampling offset left after acquisition in Hz and 0.01 ppm (R132). -/
  ru : Nat := 0
  freq : Int := 0
  sfo : Int := 0
  deriving DecidableEq, Repr

/-- A TB PPDU as received: its start in ns after the trigger's nominal end, and its users (R192). -/
structure TbPpdu where
  startNs : Nat
  users : List TbUser
  deriving DecidableEq, Repr

/-- What a slot finds at its start: the radio, whether its RFFE writes are done, and the frames whose data is late (R17, R97). -/
structure SlotIn where
  radio : Radio
  rffeDone : Bool
  late : List Nat
  deriving DecidableEq, Repr

/-- A Chain frame as received (R212, R216). -/
structure ChainFrame where
  /-- 0 BEACON, 1 DATA, 2 KEEPALIVE, 3 ACK, 4 JOIN_REQUEST, 5 JOIN_RESPONSE, 6 LEAVE. -/
  kind : Nat
  seq : Nat
  retry : Bool
  more : Bool
  missed : Nat
  srcShort : Nat
  srcExt : Bytes
  keyIndex : Nat
  counter : Nat
  fcsOk : Bool
  micOk : Bool
  ar : Bool
  pan : Nat
  /-- measured S minus scheduled S, in us (R215). -/
  errUs : Int
  rssi : Nat
  body : Bytes
  deriving DecidableEq, Repr

/-- What the checks of the stored words that a unit reads tell of flipped bits (R22, R25): none, one word corrected, one
uncorrectable and so marked poisoned. -/
inductive EccObs where
  | clean
  | corrected
  | poisoned
  deriving DecidableEq, Repr

/-- A packet as it enters the packet processor (R230): ingress port code, metadata word, bytes. -/
structure Packet where
  ingress : Nat
  kind : Nat
  source : Nat
  tid : Nat
  bss : Nat
  truncated : Bool
  poisonHeader : Bool
  /-- a table entry (index, element) that read back poisoned on this packet's lookups (R451). -/
  poisonEntry : Option (Nat × Nat)
  /-- a table entry (index, element) that was corrected on this packet's lookups (R25). -/
  corrEntry : Option (Nat × Nat)
  bytes : Bytes
  deriving DecidableEq, Repr

/-- A segmentation-offload descriptor (*Segmentation-offload descriptor*). -/
structure SegDesc where
  payload : Nat
  mss : Nat
  hdr : Nat
  l4Off : Nat
  l3Off : Nat
  l3 : Nat
  l4 : Nat
  deriving DecidableEq, Repr

/-- A frame handed to the traffic manager (R257, R267): its ingress k of POLICER_MAP (none from the cores), its
traffic class and TID, the station or member entry it is for (0 none), its entry stamp in Datum seconds and ns, its
SOURCE_KIND and SOURCE_ID, the queues it goes to, and its bytes without FCS. -/
structure TmFrame where
  id : Nat
  ingress : Option Nat
  cls : Nat
  tid : Nat
  dst : Nat
  entry : Nat × Nat
  src : Nat × Nat
  queues : List Nat
  tstamp : Bool
  seg : Option SegDesc
  truncated : Bool
  bytes : Bytes
  deriving DecidableEq, Repr

/-- An egress of R258. -/
inductive Egress where
  | eth (p : Fin 2) | field | host | cores
  | radio (r : Radio)
  deriving DecidableEq, Repr

/-- A frame received on ETH0, ETH1 or FIELD (R284, R288). -/
structure RxFrame where
  len : Nat
  fcsOk : Bool
  etherType : Nat
  /-- receive SC element offset, AN, PN, tag verifies. -/
  secTag : Option (Nat × Nat × Nat × Bool)
  pcp : Nat
  velmoti : Bool
  fecUncorr : Nat
  bytes : Bytes
  deriving DecidableEq, Repr

/-- A packet ring (R295). -/
inductive Ring where
  | coreRx (k : Fin 16) | coreTx (j : Fin 4) | hostRx (c : Fin 8) | hostTx (j : Fin 4)
  deriving DecidableEq, Repr

/-- A ring takes the head of its queue: what reading its cells finds, and which of them are poisoned (R25, R297). -/
structure RingTake where
  ring : Ring
  ecc : EccObs
  badCells : List Nat
  deriving DecidableEq, Repr

/-- What the source of a DMA burst gives: the data PCIe returns, none when it completes with an error, and what a read of
memory finds (R25). -/
structure BurstIn where
  pcie : Option Bytes
  ecc : EccObs
  deriving DecidableEq, Repr

/-- A HEARTBEAT as received (R431, R333). -/
structure Heartbeat where
  state : Nat
  pairId : Nat
  /-- bit 0 firmware kicked, bit 1 every enabled radio locked, bit 2 links up. -/
  health : Nat
  updating : Bool
  trial : Bool
  ackSeq : Nat
  stampSec : Nat
  stampNs : Nat
  stampFrac : Nat
  synced : Bool
  tsf : Nat
  roundTripNs : Nat
  rateDiff : Int
  deriving DecidableEq, Repr

/-- A mirror frame's content (R436): a dictionary value, a key slot with its counter, an armed Traverse, or a
counter's present value. -/
inductive MirrorItem where
  | object (idx el : Nat) (v : Bytes)
  | key (slot state typ counter : Nat) (material salt : Bytes)
  | traverse (slot : Nat) (staged : List (Nat × Nat × Bytes)) (sec ns frac : Nat) (persist : Bool)
  | seqCounter (sta tid sn : Nat)
  | replay (sta tid pn : Nat)
  | aids (used : List Nat)
  | agreement (rx : Bool) (ctx sta tid win wstart : Nat)
  | chain (r : Radio) (number bSec bNs schedVer : Nat)
  deriving DecidableEq, Repr

/-- An error or event record as a unit delivers it (R448, R453). -/
structure LogIn where
  unit : Nat
  cls : Nat
  code : Nat
  sec : Nat
  ns : Nat
  stepGen : Nat
  inst : Nat
  detail : Nat
  deriving DecidableEq, Repr

/-- A power requester's request (R420). -/
inductive PowerReq where
  | floor | fabric (mv : Nat) | dram | corePoint (c : CoreId) (point : Nat)
  | trx (t : Trx) | contention (r : Radio) (units id : Nat)
  | booking (r : Radio) (units id : Nat) | port (p : Fin 2) | pcieLane (n : Nat) | baseLane (n : Nat)
  | cipherLane (l : Fin 12)
  deriving DecidableEq, Repr

/-- An image header's verification as the boot ROM finds it at each boot (R349, R357, R483). -/
structure BootIn where
  pufTries : List Bool
  pcieRole : Bool
  pairId : Bool
  trialChecksOk : Bool
  confirmedChecksOk : Bool
  otherChecksOk : Bool
  profileOk : Bool
  deriving DecidableEq, Repr

/-- An object the running image declares (R38). -/
structure FwObject where
  idx : Nat
  lo : Nat
  hi : Nat
  /-- type code of *Object types*, size in bytes, access code 0 RO 1 RW 2 WO 3 RS 5 CMD. -/
  typ : Nat
  size : Nat
  access : Nat
  /-- persistence class P (R10, R63). -/
  pers : Bool := false
  deriving DecidableEq, Repr

/-- An inbound PCIe request (R304, R305): address within BAR0, or in the device's DRAM in the root role. -/
structure PcieIn where
  write : Bool
  bar0 : Bool
  addr : Nat
  width : Nat
  value : Nat
  poisoned : Bool
  /-- what the words of memory that a read returns tell (R25). -/
  ecc : EccObs
  deriving DecidableEq, Repr

/-- The commands: one constructor per row of opcode_table.json, in the table's order. -/
inductive Instr where
  -- fabric, windows, dictionary engine
  | monitorRefresh (readings : List Nat)
  | flagClear (idx el ones setLast : Nat)
  | registerWrite (core : CoreId) (addr width value : Nat)
  | pduReceive (tr : Transport) (head body : Bytes) (plain : Bytes) (env : Env)
  | dpGo (ch : Fin 9) (env : Env)
  | pduExecute (sess : Nat) (env : Env)
  | seqWaitExpiry (sess : Nat)
  | read (sess idx el : Nat) (ask : ReadAsk)
  | write (sess idx el : Nat) (v : Bytes) (env : Env)
  | stage (sess idx el : Nat) (v : Bytes)
  | close (sess : Nat)
  | stake (sess : Nat) (v : Bytes) (persist : Bool)
  | abort (sess : Nat)
  | subscribe (sess idx el : Nat) (v : Bytes)
  | notify (sub : Nat)
  | open1 (tr : Transport) (nm : Bytes) (k : Nat) (em : Bytes)
  | open3 (sess : Nat) (env : Env)
  | endSession (sess : Nat)
  | sessionIdleTimeout (sess : Nat)
  | fwAnswer (req code detail : Nat) (v : Bytes)
  | fwTimeout (req : Nat)
  | stakeInstant (slot : Fin 4)
  | stakeLatched (slot : Fin 4)
  | persistSave (poisoned : Bool)
  | abortRadioTx (r : Radio)
  | abortRadioRx (r : Radio)
  | abortCipherLane (l : Fin 12)
  | abortDmaChannel (c : Fin 64)
  | abortThread (t : Fin 512)
  | abortTraverse (slot : Fin 4) (instantFirst : Bool)
  | abortDramMigration
  | abortUpdate
  | describe (sess idx el : Nat)
  -- transceiver array
  | overrangeWindow (r : Radio) (w : List TrxWindow)
  | pathSwitch (r : Radio)
  | pathSwitchDone (r : Radio)
  | blockHoldExpiry (r : Radio)
  | probeExpiry (r : Radio)
  | imageRecalTimer (r : Radio) (rejectionDb : List Nat)
  | fallbackCalStep (t : Trx) (step : CalStep)
  | trxJoinCalDone (t : Trx) (temp : Int)
  | sentinelDwellEnd (t : Trx) (powers : List Int) (moved : List Nat)
  | rffeWrite (bus : Fin 3)
  -- front end
  | channelChange (r : Radio)
  | channelChangeDone (r : Radio) (temps : List Int) (us : Nat)
  | loLocked (r : Radio)
  | lockTimeout (r : Radio)
  | lockLost (r : Radio)
  | relockDone (r : Radio) (temps : List Int)
  | faultRetry (r : Radio) (locks : Bool) (temps : List Int)
  | recalStart (r : Radio) (temps : List Int)
  | recalDone (r : Radio) (temps : List Int)
  | heldRequestDeadline (r : Radio) (id : Nat)
  | dutyBucketRoll (sub : Fin 16)
  | diagTxStop (sess : Nat) (rest : Bytes)
  | diagTxCw (sess : Nat) (rest : Bytes)
  | diagTxPacket (sess : Nat) (rest : Bytes)
  | diagTxMask (sess : Nat) (rest : Bytes)
  | diagTimeoutExpiry (r : Radio)
  | diagDurationEnd (r : Radio)
  -- baseband
  | preambleDetect (r : Radio) (c : Correlation) (tr : Tracking)
  | signalFieldDecode (r : Radio) (sf : SigField) (format : Option Nat) (users : List RxUser)
  | restart (r : Radio) (p : Preamble)
  | nfIntervalEnd (r : Radio) (t : Trx) (windows : List NfWindow)
  -- 802.11 MAC
  | tbtt (r : Radio) (b : Fin 16) (mediumFree : Bool)
  | probeRequest (r : Radio) (b : Fin 16) (p : ProbeReq)
  | staAlloc (sess : Nat) (v : Bytes)
  | staEntryWrite (sess el : Nat) (v : Bytes)
  | staFree (sess : Nat) (v : Bytes)
  | aidRelease (pool : Fin 3) (aid : Nat) (tenSeconds : Bool)
  | mpduReceive (r : Radio) (m : RxMpdu)
  | blockAckReq (r : Radio) (sta tid sn : Nat)
  | reorderTimeout (ctx : Nat)
  | ppduAssembly (r : Radio) (p : PpduReq)
  | ackReceive (r : Radio) (acked : List (Nat × Nat × Nat))
  | ackTimeout (r : Radio)
  | psPoll (r : Radio) (sta : Nat)
  | uapsdTrigger (r : Radio) (sta : Nat) (sp : ApsdTrigger)
  | addRx (sess : Nat) (rest : Bytes)
  | addTx (sess : Nat) (rest : Bytes)
  | deleteRx (sess : Nat) (rest : Bytes)
  | deleteTx (sess : Nat) (rest : Bytes)
  | mtxDoorbell (core : CoreId) (r : Radio) (tail : Nat)
  | mtxComplete (r : Radio) (desc status : Nat)
  -- scheduled access
  | planSnapshot (r : Radio) (dirUl : Bool) (ac : Nat)
  | planDone (r : Radio) (ns : Nat)
  | tbPpduReceive (r : Radio) (p : TbPpdu)
  | peerTrigger (r : Radio) (sta : Nat) (csRequired busy : Bool) (durNs : Nat)
  | bookingRetry (r : Radio)
  | twtAdd (sess : Nat) (rest : Bytes)
  | twtDelete (sess : Nat) (rest : Bytes)
  | twtSpStart (a : Fin 1024)
  | twtSpEnd (a : Fin 1024)
  -- Chain mode
  | chainStart (r : Radio)
  | chainHead (r : Radio)
  | slotStart (slot : SlotIn)
  | beaconForm (r : Radio)
  | sharedPosition (r : Radio) (k : Nat) (cca : List CcaObs)
  | chainFrameReceive (r : Radio) (f : ChainFrame)
  | chainAckTimeout (r : Radio)
  | joinPendingExpiry (rec : Fin 16)
  | memberJoin (sess : Nat) (rest : Bytes)
  | memberReject (sess : Nat) (rest : Bytes)
  | memberRemove (sess : Nat) (rest : Bytes)
  | beaconMissed (r : Radio)
  | joinTimeout (r : Radio)
  | joinBackoffExpiry (r : Radio)
  | scanAdvance (r : Radio)
  -- packet processor
  | packetIngress (p : Packet)
  | packetHandoff (ctx : Nat)
  | bridgeAgeExpiry (el : Nat)
  | flowIdleExpiry (entry : Nat)
  | ppModeWrite (sess : Nat) (v : Bytes)
  | tableEntryWrite (sess idx el : Nat) (v : Bytes)
  | commit (sess : Nat)
  | discard (sess : Nat)
  | versionReclaim (n : Nat)
  | versionLiveTimeout
  | ruleInsert (sess : Nat) (rest : Bytes)
  | ruleDelete (sess : Nat) (rest : Bytes)
  | bridgeInsert (sess : Nat) (rest : Bytes)
  | bridgeDelete (sess : Nat) (rest : Bytes)
  | bridgeFlush (sess : Nat) (rest : Bytes)
  | routeInsert (sess : Nat) (rest : Bytes)
  | routeDelete (sess : Nat) (rest : Bytes)
  | flowInsert (sess : Nat) (rest : Bytes)
  | flowDelete (sess : Nat) (rest : Bytes)
  | flowFlush (sess : Nat) (rest : Bytes)
  -- traffic manager
  | frameEnqueue (f : TmFrame)
  | egressRequest (e : Egress) (named : Option Nat) (ac : Option Nat) (ecc : EccObs) (badCells : List Nat)
  | refill
  | gateEntryChange (g : Fin 5)
  | dramReturn (q : Nat)
  -- wired ports
  | ethFrameReceive (p : Fin 3) (f : RxFrame)
  | linkDown (p : Fin 4)
  | linkUp (p : Fin 4) (fecLock : Bool) (an speed width : Nat)
  | statsRead (sess idx el : Nat)
  | pauseReceive (p : Fin 2) (pfc : Bool) (vector : Nat) (quanta : List Nat)
  | pauseExpiry (p : Fin 2) (c : Fin 8)
  | pauseRefresh (p : Fin 2) (c : Fin 8)
  | ringRxDeliver (take : RingTake)
  | txRingDoorbell (ring : Ring) (tail : Nat) (words : List Nat) (bufs : List Bytes) (bad : List Nat)
  | plcaLost
  | plcaRestored
  | pcieCfgRead (sess : Nat) (rest : Bytes) (env : Env)
  | pcieCfgWrite (sess : Nat) (rest : Bytes) (env : Env)
  | i2cXfer (sess : Nat) (v : Bytes) (env : Env)
  | uartDataWrite (core : CoreId) (v : Nat)
  | uartDataRead (core : CoreId)
  | uartRxByte (b : Byte)
  | gpioOutWrite (sess : Nat) (v : Bytes)
  -- Datum
  | datumIncrWrite (sess : Nat) (v : Bytes)
  | datumIncrApply
  | stepRelative (sess : Nat) (rest : Bytes)
  | stepAbsolute (sess : Nat) (rest : Bytes)
  | stepApply
  | dtmSnapRead (core : CoreId)
  | tpoCfgWrite (sess el : Nat) (v : Bytes)
  | tpoEdge (o : Fin 4)
  | captureEdge (i : Fin 3) (rising : Bool) (sinceLastNs highNs : Nat)
  | capturePop (sess : Nat) (v : Bytes)
  | aonCalCount (c : Nat)
  | datumAdvance (edges : Nat)
  | followStep
  -- security
  | cipherJobStart (l : Fin 12) (key : EccObs)
  | cipherJobDone (l : Fin 12) (tagOk : Bool)
  | laneParity (l : Fin 12)
  | install (sess : Nat) (rest : Bytes)
  | erase (sess : Nat) (rest : Bytes)
  | rekeyPop (sess : Nat) (v : Bytes)
  | attest (sess : Nat) (v : Bytes)
  | attestDone
  | extend (sess : Nat) (v : Bytes)
  | program (sess : Nat) (rest : Bytes) (env : Env)
  | revoke (sess : Nat) (rest : Bytes) (env : Env)
  | debugDisable (sess : Nat) (rest : Bytes) (env : Env)
  | challenge (sess : Nat) (rest : Bytes)
  | respond (sess : Nat) (rest : Bytes) (env : Env)
  | entropyFail
  -- DRAM controller
  | mcInit (core : CoreId)
  | initDone
  | initTimeout
  | mcService (core : CoreId)
  | trnStart (core : CoreId) (v : Nat)
  | trnDone (laneFail errBeats : Nat)
  | mrw (core : CoreId) (v : Nat)
  | mrr (core : CoreId) (v data : Nat)
  | laneDelayWrite (core : CoreId) (addr v : Nat)
  | dramRead (addr len : Nat)
  | dramWrite (addr : Nat) (data : Bytes)
  | dramIssue (sc : Fin 2) (flips : List Nat)
  | rowIdleClose (cs : Fin 4) (sc : Fin 2) (bank : Nat)
  | refresh (cs : Fin 4)
  | tempPoll (over85 : Bool)
  | caParityAlert (sc : Fin 2) (executed : Nat)
  | migrationBlock (poisoned : Nat)
  | migrateStart (sess : Nat) (rest : Bytes)
  | migrateResume (sess : Nat) (rest : Bytes)
  -- DMA engine
  | dmaDoorbell (core : CoreId) (ch : Fin 64) (tail : Nat)
  | dmaBurst (data : BurstIn)
  | dmaDescriptorDone (ch : Fin 64)
  | dmaStop (core : CoreId) (ch : Fin 64)
  | dmaStopRelease (core : CoreId) (ch : Fin 64)
  | dmaResume (core : CoreId) (ch : Fin 64)
  -- dispatcher
  | create (core : CoreId) (op arg : Nat)
  | wait (core : CoreId) (op arg : Nat)
  | yield (core : CoreId)
  | exit (core : CoreId)
  | post (core : CoreId) (op arg : Nat)
  | setPriority (core : CoreId) (op : Nat)
  | threadAbort (core : CoreId) (op : Nat)
  | dspNextRead (core : CoreId)
  | waitTimeout (t : Fin 512)
  | migrateExpiry (t : Fin 512)
  -- power
  | powerCmdStandby (sess : Nat) (rest : Bytes)
  | powerCmdHibernate (sess : Nat) (rest : Bytes)
  | entryDone
  | entryAborted (unit step : Nat)
  | wake (source : Fin 6)
  | powerRequest (q : PowerReq)
  | vidChange (cpu : Bool)
  | coreDvfsWrite (sess el : Nat) (v : Bytes)
  | beaconBooking (r : Radio) (b : Fin 16)
  | supplyFailAssert (lowNs : Nat)
  | supplyRestore
  -- pair
  | heartbeatSend
  | heartbeatReceive (h : Heartbeat)
  | heartbeatMissed
  | mirror (cls seq : Nat) (item : MirrorItem) (crcOk : Bool)
  | mirrorAck (seq : Nat)
  | mirrorResend
  | resyncReq
  | resyncData (cls seq : Nat) (item : MirrorItem) (crcOk last : Bool) (progress : Nat)
  | switchover
  | stakeMirrorTimeout (slot : Fin 4)
  | waitExpiry
  | claimSample
  | peerActiveChange (level : Bool)
  | pairKick (core : CoreId) (v : Nat)
  | kickTimeout
  | pairSwitchover (sess : Nat)
  | resync (sess : Nat)
  -- log
  | logDeliver (rec : LogIn)
  | logCommit
  | logAck (sess : Nat) (v : Bytes)
  -- update
  | begin (sess : Nat) (rest : Bytes) (env : Env)
  | updateData (sess : Nat) (v : Bytes)
  | finish (sess : Nat) (rest : Bytes) (env : Env)
  | activate (sess : Nat) (rest : Bytes)
  | updateDiscard (sess : Nat) (rest : Bytes)
  | revert (sess : Nat) (rest : Bytes)
  | benchmark (sess : Nat) (v : Bytes)
  | trialWindowExpiry
  | profileApply
  -- start-up and clocks
  | resetN (lowNs : Nat)
  | powerGood (i : Fin 8)
  | pgLost (i : Fin 8)
  | pllLost (domain : Fin 14)
  | refWindow (edges : Nat)
  | startupStepTimeout (lastWindow : Nat)
  | pllLock
  | resetRelease (b : BootIn)
  | failRetryExpiry
  | rcTrim (v : Nat)
  | limpRefCheck (w1 w2 : Nat)
  | thermReading (sensor : Fin 9) (v : Int)
  | thermTrip (sensor : Fin 9)
  | datumTick
  | aonPowerOn
  | powerLoss
  | supplyBack
  | entropyRestored
  | peerActiveHeld
  | fwDeclare (objs : List FwObject)
  | coreLoad (core : CoreId) (addr width : Nat) (fetch : Bool) (flips : List Nat)
  | inboundRequest (q : PcieIn)
  | enableReassert
  | aerUncorrectable
  deriving DecidableEq, Repr

end Sys2Proof
end

