-- ==== Sys2Proof/Config.lean ====
section
/-! DEFINITION. What the spec leaves open and no step chooses: free values and the named standards
whose arithmetic the spec does not define. Each is a constant WITHOUT a body: nothing can evaluate it. -/

namespace Sys2Proof.Config

/-- Free value: the k-th byte drawn where the spec gives no value (a nonce, an ephemeral key, an unstated
result). `State.free` is advanced by every draw (log entry 1). -/
opaque freeByte : Nat → Byte

/-- Free value: the k-th number the spec leaves open (a random draw, an elapsed time inside its bound). -/
opaque freeNat : Nat → Nat

/-- Byte `i` of SHAKE256 of a message (R44, R349, R354; FIPS 202 is named, not defined, by the spec). -/
opaque shake256 : Bytes → Nat → Byte

/-- Byte `i` of the X448 shared secret of two ephemeral keys (R44; RFC 7748). -/
opaque x448 : Bytes → Bytes → Nat → Byte

/-- Byte `i` of the AES-256-GCM sealing of a plaintext under a key, a nonce and additional data (R45). -/
opaque gcmSeal : Bytes → Bytes → Bytes → Bytes → Nat → Byte

/-- Byte `i` of the Ed448 signature of a message by the device's identity key (R349). -/
opaque identitySign : Bytes → Nat → Byte

/-- Byte `i` of what a cipher lane writes for a DMA job, beyond the bytes it passes through: operation (3 ENCRYPT, 4 DECRYPT,
5 CMAC), key type, bytes of additional data, key, nonce, source (R335, R387; AES, GCM, CCM and CMAC are named only). -/
opaque cipherOut : Nat → Nat → Nat → Bytes → Bytes → Bytes → Nat → Byte

/-- The least VDD_FAB in mV at which the monitors would read the guaranteed rate: R18 names the voltage,
no rule relates voltage to readings. Arguments: lowest valid reading, rate, present set point. -/
opaque floorVoltage : Nat → Nat → Nat → Nat

/-- What an MR-OFDM frame's air time in ns exceeds its octets at its data rate by (preamble, PHR, tail and padding): option,
MCS, octets of the MPDU (R129 gives the data rates, no rule gives the rest). -/
opaque ofdmOverhead : Nat → Nat → Nat → Nat

/-- The linear mean in 0.01 dBm of powers in 0.01 dBm (R147): the spec names it; no integer is its value, and no rule says how
it is rounded. -/
opaque linearMean : List Int → Int

/-- What a READ of DESCRIBE returns: type code, access code (0 RO, 1 RW, 2 WO, 3 RS, 4 RL, 5 CMD), whether persistent,
size, default. The spec lists the fields and gives neither their widths nor their layout. -/
opaque describeRecord : Nat → Nat → Bool → Nat → Bytes → Bytes

/-- Free value: the contents of the boot ROM, which the spec places and does not list (*Control-core address map*). -/
opaque romByte : Nat → Byte

end Sys2Proof.Config
end

