-- ==== Sys2Proof/Machine/State.lean ====
section
/-! DEFINITION. The state of the RNS3716 as plain data, its faults and refusals, and the state at reset.
One structure per unit of *Units, instances and timing*; the dictionary's stored values, the unit-window
registers and memory are three sparse tables in canonical form. -/

namespace Sys2Proof.Machine
open Sys2Proof

/-- Why the block stops with a fault. No command of the table does: an access fault is raised on the issuing
core and is state (R29, R30, R399). -/
inductive Fault where
  /-- Raised by nothing: kept so that the reason type is not empty. Safe. -/
  | none
  deriving DecidableEq, Repr

/-- Why a command has no meaning in the model. -/
inductive Refusal where
  /-- Raised by an arm of exec whose command has no meaning yet. Safe: nothing is claimed of it. -/
  | notModelled (mnemonic : String)
  deriving DecidableEq, Repr

/-- A sparse table: keys strictly rising, none mapped to the value an absent key has. -/
abbrev Tab (α : Type) := List (Nat × α)

/-- Datum (R313): seconds, nanoseconds, fraction in 2^-32 ns. Also every stamp. -/
structure DatumVal where
  sec : Nat := 0
  ns : Nat := 0
  frac : Nat := 0
  deriving DecidableEq, Repr

/-! ### Dictionary engine (02_object_dictionary) -/

/-- A request operation of a PDU body (*Request operation*). -/
structure Op where
  opcode : Nat
  flags : Nat
  idx : Nat
  el : Nat
  value : Bytes
  deriving DecidableEq, Repr

/-- A response operation (*Response operation*): abort code, detail word, value. -/
structure RespOp where
  opcode : Nat
  flags : Nat
  idx : Nat
  el : Nat
  abort : Nat
  detail : Nat
  value : Bytes
  deriving DecidableEq, Repr

/-- What a held operation waits for: a firmware answer (R38), a latching stake (R62), the standby's
acknowledgement of an armed Traverse (R438), a version reclaim (R253), a Datum step's applying tick (R317), the
partner's next HEARTBEAT (R465), firmware's answers to what a closure check of the slot reads (R57). -/
inductive Suspend where
  | firmware (req : Nat)
  | latch (slot : Nat)
  | mirrorAck (slot : Nat)
  | reclaim
  | datumStep
  | peerHeartbeat
  | closure (slot : Nat)
  deriving DecidableEq, Repr

/-- A PDU accepted into a session's order (R49). -/
structure Pdu where
  seq : Nat
  enc : Bool
  ops : List Op
  deriving DecidableEq, Repr

/-- A PDU being executed (R39, R40): what remains, what has been answered, what the present one waits for. -/
structure Exec where
  seq : Nat
  todo : List Op
  resps : List RespOp := []
  room : Nat
  skipping : Bool := false
  wait : Option Suspend := none
  /-- a command of the table that names one operation, not a PDU: its answer goes to `lastResp` alone. -/
  direct : Bool := false
  /-- END or SEQ FFFF_FFFFh has been executed (R47). -/
  ending : Bool := false
  deriving DecidableEq, Repr

/-- A session (R44 to R49). Local sessions are never absent. -/
structure Session where
  num : Nat
  tr : Transport
  opened : Bool
  /-- 0 none, 1 OBSERVE, 2 FULL (R48), 3 unattested, 4 unattested under a FULL key (R352). -/
  rights : Nat
  keySlot : Nat := 0
  nextSeq : Nat := 1
  waiting : List Pdu := []
  stored : List (Nat × Bytes) := []
  held : List Nat := []
  exec : Option Exec := none
  nm : Bytes := []
  nd : Bytes := []
  em : Bytes := []
  ed : Bytes := []
  keys : Bytes := []
  openedAt : Nat := 0
  deriving DecidableEq, Repr

/-- A subscription (R52, R53). -/
structure Sub where
  sess : Nat
  idx : Nat
  el : Nat
  mode : Nat
  minMs : Nat
  periodMs : Nat
  nseq : Nat := 0
  /-- `now` at which the period, counted from the first notification, next runs out (R53). -/
  nextAt : Nat := 0
  lastAt : Nat := 0
  lastVal : Option Bytes := none
  lastEvt : Nat := 0
  /-- A sample that could not be read is owed (R53). -/
  owed : Bool := false
  deriving DecidableEq, Repr

/-- *Traverse states*. -/
inductive TravState where
  | idle | opened | closed | armed | applying
  deriving DecidableEq, Repr

/-- A Traverse slot (R54 to R63). `staged` stands in the order in which each object was first staged. -/
structure Traverse where
  st : TravState := .idle
  owner : Nat := 0
  staged : List (Nat × Nat × Bytes) := []
  readSet : List (Nat × Nat) := []
  failing : Nat := 0
  t : DatumVal := {}
  result : Nat := 0
  late : Bool := false
  persist : Bool := false
  /-- Waits for the standby's acknowledgement (R438). -/
  mirroring : Bool := false
  /-- The values to apply have been switched (T ordered), latching is awaited. -/
  waitReclaim : Bool := false
  deriving DecidableEq, Repr

/-- A firmware-served request that is outstanding (R38). -/
structure FwReq where
  id : Nat
  /-- the session whose operation waits; 0 when a closure check asked (R57). -/
  sess : Nat
  op : Op
  /-- bytes of one element of a READ with RANGE, of which only whole ones are returned (R40); 0 for every other request. -/
  size : Nat := 0
  deriving DecidableEq, Repr

/-- A CLOSE that waits for firmware to answer the objects its rules name (R38, R57): slot, requests outstanding with their
object, answers so far (none: refused or not answered). -/
structure CloseAsk where
  slot : Nat
  sess : Nat
  left : List (Nat × Nat × Nat)
  vals : List (Nat × Nat × Option Bytes) := []
  deriving DecidableEq, Repr

/-- A dictionary-port channel or the PCIe mailbox (R43). -/
structure Channel where
  busy : Bool := false
  done : Bool := false
  doneCount : Nat := 0
  rspLen : Nat := 0
  reqBuf : Bytes := []
  rspBuf : Bytes := []
  deriving DecidableEq, Repr

/-- The persistent set in flash (R63): generation and values of its two copies, and a save in progress. -/
structure Flash where
  gen : Nat := 0
  saved : Tab Bytes := []
  /-- the second copy of the record. -/
  gen2 : Nat := 0
  saved2 : Tab Bytes := []
  saving : Option (Tab Bytes) := none
  /-- application settings of slots A and B as last saved by the image of that slot (R469). -/
  apps : Vector (Tab Bytes) 2 := Vector.replicate 2 []
  deriving DecidableEq, Repr

/-- The last write of a CMD object: its value, what its action produced, its abort code (R10, R50). -/
structure CmdRec where
  value : Bytes := []
  out : Bytes := []
  code : Nat := 0
  deriving DecidableEq, Repr

structure Dict where
  chans : Vector Channel 9 := Vector.replicate 9 {}
  sessions : List Session
  subs : List Sub := []
  travs : Vector Traverse 4 := Vector.replicate 4 {}
  declared : Option (List FwObject) := none
  fwReqs : List FwReq := []
  nextReq : Nat := 0
  closeAsks : List CloseAsk := []
  /-- OPEN_1 answered in the present second and the `now` at which that second began (R46). -/
  open1Count : Nat := 0
  open1Since : Nat := 0
  /-- Last write of 0130h.0, its abort code and elapsed ns (R64). -/
  lastAbort : Bytes := []
  abortCode : Nat := 0
  abortNs : Nat := 0
  /-- Last write and result of every other CMD object (R10), by key. -/
  cmds : Tab CmdRec := []
  /-- PDUs sent and not yet observed: transport, bytes. -/
  sent : List (Transport × Bytes) := []
  deriving DecidableEq, Repr

/-! ### Transceivers, front ends, baseband (03, 04, 05) -/

/-- A channel: centre and edges in kHz and bandwidth in kHz. -/
structure Chan where
  centre : Nat
  lo : Nat
  hi : Nat
  bw : Nat
  deriving DecidableEq, Repr

/-- What the down-converters of a radio's transceivers are set to (R72 to R74): the slice they deliver, the 32-bit NCO
frequency word, whether the output is conjugated, the output rate in kS/s. -/
structure Ddc where
  slice : Chan
  nco : Nat
  conj : Bool
  rate : Nat
  deriving DecidableEq, Repr

/-- What the DACs of a radio's transceivers do (R82). -/
inductive DacMode where
  | off | nrz | mixed
  deriving DecidableEq, Repr

/-- One transmission of a radio, due or on the air (R91, R135): its request, its kind as *Held requests* has it, S and E in
ns of `now`, the transceivers it uses, its channel and its DAC power in 0.01 dBm. -/
structure Air where
  id : Nat
  kind : Nat
  s : Nat
  e : Nat
  /-- nominal end: E less the ramp-down. -/
  nominal : Nat
  trx : List Trx
  chan : Chan
  power : Int
  deriving DecidableEq, Repr

/-- *Front-end states*. -/
inductive FeState where
  | off | changing | ready | recal | relock | fault | diag
  deriving DecidableEq, Repr

/-- *Receive path states*. -/
inductive PathState where
  | sampling | fallback | probe
  deriving DecidableEq, Repr

/-- A diagnostic transmission (R118 to R121). -/
structure Diag where
  mode : Nat := 0
  chan : Option Chan := none
  /-- TRX_MASK. -/
  mask : Nat := 0
  power : Int := 0
  durMs : Nat := 0
  running : Bool := false
  /-- 0 running, 1 DURATION, 2 TIMEOUT, 3 STOP, 4 ABORT, 5 STAKE, 6 LOCK_LOST. -/
  ended : Nat := 0
  /-- `now` at which the down-counter of R120, loaded at the first S, reaches zero. -/
  remaining : Nat := 0
  deriving DecidableEq, Repr

/-- A reception in progress (R137 to R140). -/
structure Reception where
  refPower : Int
  /-- family, symbol rate or option, carrier offset in Hz, subchannels covered (R130, R131, R137). -/
  family : Nat := 0
  rate : Nat := 0
  cfo : Int := 0
  covers : Nat := 0
  /-- sampling-clock offset in 0.001 ppm: carrier offset over carrier frequency (R131). -/
  sfo : Int := 0
  /-- TRACK_BW in force for it. -/
  trackBw : Nat := 0
  /-- offset that the MR-FSK tracker follows, Hz (R134). -/
  fskHz : Int := 0
  /-- channel estimates made: at the preamble and at each Doppler midamble (R132). -/
  estimates : Nat := 1
  /-- FEC told by the SFD, MCS told by the MR-OFDM PHR (R130). -/
  fec : Bool := false
  mcs : Nat := 0
  /-- `now` at which the duration that the signal field signals ends (R141). -/
  until_ : Option Nat := none
  /-- users decoded and dropped, in the order signalled (R128). -/
  kept : List Bool := []
  /-- the station entry it is known to come from (R160). -/
  from_ : Option Nat := none
  sigOk : Bool := false
  format : Option Nat := none
  users : Nat := 0
  passed : Nat := 0
  deriving DecidableEq, Repr

/-- A trigger frame (R192, R193): format, symbols that its UL Length is derived from, UL target RSSI in 0.1 dBm, and the RU
size of each user; users dropped at assembly hold unassigned RUs, STA-ID 2046 (R188). -/
structure Trig where
  fmt : Nat
  nsym : Nat
  rssi : Int
  rus : List (Nat × Nat)
  deriving DecidableEq, Repr

/-- A transmission in progress or awaiting its response (R163, R172). -/
structure Transmission where
  req : PpduReq
  s : Nat
  power : Int
  /-- MPDUs it carries: station, TID, SN. -/
  mpdus : List (Nat × Nat × Nat)
  awaiting : Bool
  /-- the trigger it is; STA-IDs of a planned PPDU's RUs, 2046 for an unassigned one (R188, R192). -/
  trig : Option Trig := none
  staIds : List Nat := []
  deriving DecidableEq, Repr

structure FrontEnd where
  st : FeState := .off
  chan : Option Chan := none
  pending : Option Chan := none
  plan : Nat := 0
  cost : Nat := 0
  usable : Bool := true
  attempts : Nat := 0
  loLocked : Bool := false
  held : List PpduReq := []
  /-- the change that brings the radio to its channel has not reached step 6 yet. -/
  newChan : Bool := false
  lastUs : Nat := 0
  longestUs : Nat := 0
  changes : Nat := 0
  timeouts : Nat := 0
  temp : Int := 0
  path : PathState := .sampling
  /-- why the path is what it is: 0 mode, 1 blocker, 2 no plan. -/
  reason : Nat := 0
  hold : Nat := 0
  switchPending : Option PathState := none
  switching : Bool := false
  switches : Nat := 0
  /-- `now` at step 6 of the change that brought the radio to its channel (R116). -/
  dwellFrom : Nat := 0
  diag : Diag := {}
  rx : Option Reception := none
  /-- Datum at the start of the last PPDU received (*MRX descriptor*). -/
  rxAt : DatumVal := {}
  tx : Option Transmission := none
  returned : List (Nat × Nat) := []
  /-- transmissions due, on the air, or ended so lately that their lines or windows still matter. -/
  air : List Air := []
  ddc : Option Ddc := none
  /-- LO of the fallback path in kHz (R74), 0 while the synthesizers are down. -/
  lo : Nat := 0
  dac : DacMode := .off
  /-- why the pending switch is asked for (0 mode, 1 blocker), and the `now` at which it was. -/
  switchWhy : Nat := 0
  switchAsked : Nat := 0
  /-- `now` at which preamble detection last resumed (R143). -/
  rxFrom : Nat := 0
  /-- the loops of the users of the last TB PPDU: RU, frequency offset in Hz, sampling offset in 0.01 ppm (R132). -/
  tbLoops : List (Nat × Int × Int) := []
  /-- the front end has been OFF or in FAULT and not READY since (R89). -/
  fresh : Bool := true
  deriving DecidableEq, Repr

structure Transceiver where
  calibrated : Bool := false
  joining : Bool := false
  /-- the LO frequency in kHz that the stored image-rejection coefficients are of (R75). -/
  coeffLo : Option Nat := none
  rejection : Nat := 0
  overrange : Nat := 0
  temp : Int := 0
  qualified : Bool := false
  powered : Bool := false
  /-- the DAC is powered: never a sentinel's (R87). -/
  dacOn : Bool := false
  /-- the AGC's decision that LNA_BYP follows in receive (R95). -/
  lnaByp : Bool := false
  polaritySet : Bool := false
  scanAt : Nat := 0
  /-- `now` at which the sentinel's dwell in progress began (R88). -/
  dwellFrom : Nat := 0
  /-- `now` until which a calibration step blinds the receive path (R76). -/
  blindTo : Nat := 0
  deriving DecidableEq, Repr

/-- The RFFE commands supported, with register address and data bytes (R96). -/
inductive RffeCmd where
  | reg0Write (data : Nat)
  | regWrite (reg data : Nat)
  | regRead (reg : Nat)
  | extWrite (reg : Nat) (data : List Nat)
  | extRead (reg count : Nat)
  | broadcast (reg data : Nat)
  deriving DecidableEq, Repr

/-- A queued RFFE command (R97): due instant, radio, queue order, USID, the request whose transmission needs it. -/
structure RffeWrite where
  due : Nat
  radio : Nat
  order : Nat
  usid : Nat
  cmd : RffeCmd
  req : Nat
  deriving DecidableEq, Repr

structure Rf where
  fe : Vector FrontEnd 3 := Vector.replicate 3 {}
  trx : Vector Transceiver 16 := Vector.replicate 16 {}
  rffe : Vector (List RffeWrite) 3 := Vector.replicate 3 []
  rffeOrder : Nat := 0
  /-- the last command each bus has run: USID and command. -/
  rffeLast : Vector (Option (Nat × RffeCmd)) 3 := Vector.replicate 3 none
  /-- staged values whose radio has not reached its boundary since T: radio, index, element, value (R60). -/
  deferred : List (Nat × Nat × Bytes) := []
  /-- Duty buckets per REG_DUTY sub-band: current bucket first, then the 60 past ones, ns (R115). -/
  duty : Vector (List Nat) 16 := Vector.replicate 16 []
  deriving DecidableEq, Repr

/-! ### 802.11 MAC and scheduled access (06, 07) -/

/-- An MPDU held in a receive reorder context (R164). -/
structure HeldMpdu where
  sn : Nat
  pn : Nat
  m : RxMpdu
  /-- radio and BSS it arrived on, and its entry's SOURCE_KIND and VLAN on arrival (R156). -/
  radio : Nat := 0
  bss : Nat := 0
  kind : Nat := 1
  vlan : Nat := 0
  /-- `now` at its arrival (R165). -/
  since : Nat := 0
  deriving DecidableEq, Repr

structure RxCtx where
  sta : Nat
  tid : Nat
  win : Nat
  wstart : Nat
  held : List HeldMpdu := []
  deriving DecidableEq, Repr

/-- A frame in a queue (R263, R267): its length with FCS, entry stamp, cells, the weight and burst of its tags. -/
structure QFrame where
  id : Nat
  bytes : Bytes
  len : Nat
  cls : Nat
  tid : Nat
  dst : Nat
  /-- Datum seconds and ns at the frame's entry (R321), and Datum at its enqueue (R279). -/
  entry : Nat × Nat
  src : Nat × Nat := (0, 0)
  stamp : DatumVal
  cells : Nat
  inDram : Bool
  weight : Nat
  burst : Nat
  seg : Option SegDesc
  tstamp : Bool
  ingress : Option Nat
  truncated : Bool
  /-- segments already sent (R300). -/
  sentSegs : Nat := 0
  /-- counted as held at its gate (R273). -/
  held : Bool := false
  deriving DecidableEq, Repr

/-- A transmit MPDU that has been assigned its SN and PN (R158, R163). -/
structure TxMpdu where
  sta : Nat
  tid : Nat
  sn : Nat
  pn : Nat
  frame : QFrame
  tries : Nat := 0
  /-- More Data and EOSP (R170, R171). -/
  more : Bool := false
  eosp : Bool := false
  /-- the key slot it was placed under (R158, R180). -/
  slot : Nat := 0xFFFF
  deriving DecidableEq, Repr

structure TxCtx where
  sta : Nat
  tid : Nat
  win : Nat
  wstart : Nat
  deriving DecidableEq, Repr

/-- An MSDU delivered towards the packet processor, in delivery order (R164, R174, R233, R234). -/
structure Msdu where
  radio : Nat
  bss : Nat
  /-- 1 station, 2 peer, 3 member. -/
  kind : Nat
  source : Nat
  tid : Nat
  vlan : Nat
  sn : Nat
  etherType : Nat
  body : Bytes
  deriving DecidableEq, Repr

/-- A management transmit descriptor that is submitted (R177). -/
structure MtxDesc where
  idx : Nat
  sta : Nat
  bss : Nat
  protect : Nat
  noAck : Bool
  len : Nat
  life : Nat
  /-- ANY_LINK; a data frame (EAPOL, R178); `now` of its submission. -/
  anyLink : Bool := false
  data : Bool := false
  since : Nat := 0
  deriving DecidableEq, Repr

/-- A quarantined AID (R157): BSSs (0 to 47) that still have a DTIM beacon to send. -/
structure AidQuar where
  pool : Nat
  aid : Nat
  left : List Nat
  deriving DecidableEq, Repr

/-- One user of a plan (R185). -/
structure PlanUser where
  sta : Nat
  ru : Nat
  demand : Nat
  score : Nat
  /-- as the snapshot has them: RATE_INFO of the plan's direction, MAX_BW, and whether LDPC is clear (R185, R186). -/
  rate : Nat := 0
  bw : Nat := 0
  bcc : Bool := false
  deriving DecidableEq, Repr

structure Plan where
  at_ : Nat
  ul : Bool
  ac : Nat
  /-- 0 data, 1 BSRP, 2 sounding. -/
  form : Nat := 0
  users : List PlanUser
  units : Nat
  /-- the snapshot's candidates of the plan's format, in order (R184, R186). -/
  snap : List PlanUser := []
  cands : Nat
  /-- stations of a MU-MIMO group that counts as its first user (R187). -/
  group : List Nat := []
  /-- Datum of the snapshot. -/
  stamp : DatumVal := {}
  /-- symbols and most users of the snapshot's PLAN_PARAMS, and the format of its users, 4 HE or 5 EHT (R185). -/
  nsym : Nat := 0
  maxUsers : Nat := 0
  fmt : Nat := 4
  deriving DecidableEq, Repr

structure Mac where
  tsf : Nat := 0
  tsfTicks : Nat := 0
  /-- AIDs in use: 2048 * pool + aid (R154). -/
  aids : List Nat := []
  quar : List AidQuar := []
  snCtr : Tab Nat := []
  bssSn : Tab Nat := []
  rxBa : Tab RxCtx := []
  txBa : Tab TxCtx := []
  /-- Last SN by station and TID, by station and link, last PN by station and TID (R166, R167). -/
  lastSn : Tab Nat := []
  lastMgmt : Tab Nat := []
  lastPn : Tab Nat := []
  retry : List TxMpdu := []
  /-- frames a radio has fetched from the traffic manager and not yet placed in a PPDU (R264). -/
  fetched : Vector (List QFrame) 3 := Vector.replicate 3 []
  inFlight : Vector (List TxMpdu) 3 := Vector.replicate 3 []
  barOwed : List (Nat × Nat × Nat) := []
  /-- starting SN of the last BlockAckReq sent, by station and TID (R163). -/
  barSent : Tab Nat := []
  toPp : List Msdu := []
  mtx : Vector (List MtxDesc) 3 := Vector.replicate 3 []
  mtxDone : Vector (List Nat) 3 := Vector.replicate 3 []
  class3 : List (Bytes × Nat) := []
  responses : Tab Nat := []
  dtimCount : Tab Nat := []
  /-- open U-APSD service periods: station, radio. -/
  uapsd : List (Nat × Nat) := []
  /-- beacons sent by BSS element, and the last beacon and Probe Response of each. -/
  beacons : Tab Nat := []
  lastBeacon : Tab Bytes := []
  lastProbe : Tab Bytes := []
  /-- group-addressed frames sent after the last DTIM beacon (R171). -/
  groupSent : List TxMpdu := []
  /-- the newest completed plan, and the one being built (R188, R189). -/
  plan : Vector (Option Plan) 3 := Vector.replicate 3 none
  planning : Vector (Option Plan) 3 := Vector.replicate 3 none
  ulSince : Tab Nat := []
  missRun : Tab Nat := []
  excluded : List Nat := []
  /-- `now` of a station's last beamforming feedback (R187). -/
  soundAt : Tab Nat := []
  /-- last received rate, `now` of the last frame, and last power management bit, by station * 4 + radio. -/
  rxRate : Tab Nat := []
  heard : Tab Nat := []
  pm : Tab Nat := []
  spOpen : List Nat := []
  spTrig : List Nat := []
  spHeard : List Nat := []
  spEarly : List Nat := []
  /-- Free-running booking marks (R195, R196, R423): radio * 8 + kind. -/
  bookings : List Nat := []
  beaconBooked : List Nat := []
  deriving DecidableEq, Repr

/-! ### Chain mode (08) -/

inductive MemberState where
  | scan | joining | synced | holdover
  deriving DecidableEq, Repr

/-- The schedule in force: a coordinator's as latched at a head (R228), a member's as its last beacon carried it. Lengths
in 250 us units; `cfg` is CHAIN_CONFIG as latched, and the member's own. -/
structure Sched where
  len : Nat := 0
  window : Nat := 0
  /-- runs: count, kind, length. -/
  runs : List (Nat × Nat × Nat) := []
  ch0 : Nat := 0
  spacing : Nat := 0
  m : Nat := 1
  seed : Nat := 0
  /-- D in ms, 0 none. -/
  dwell : Nat := 0
  persist : Nat := 0
  step : Nat := 5
  cfg : Bytes := []
  deriving DecidableEq, Repr

/-- A unicast Chain frame that awaits its acknowledgement or its retransmission (R217, R218): member entry (0 the
coordinator), kind, sequence number, times sent, its frame from a queue, its body. -/
structure ChainTx where
  entry : Nat
  kind : Nat
  seq : Nat
  tries : Nat
  ext : Bytes := []
  frame : Option QFrame := none
  body : Bytes
  deriving DecidableEq, Repr

/-- A Chain frame the device has sent. -/
structure ChainSent where
  kind : Nat
  entry : Nat
  seq : Nat
  retry : Bool
  counter : Nat
  body : Bytes
  /-- key index, AR, destination and source addresses, of 2 or 8 bytes (R212). -/
  keyIndex : Nat := 1
  ar : Bool := false
  dst : Bytes := []
  src : Bytes := []
  /-- Frame Pending (R219), and the sender's MORE and MISSED (*Chain header*). -/
  pending : Bool := false
  more : Bool := false
  missed : Nat := 0
  /-- the MHR, the Chain header and the nonce as sent (R212, R213). -/
  mhr : Bytes := []
  header : Bytes := []
  nonce : Bytes := []
  /-- RATE, preamble octets and CHAIN_PHY flags it is sent with (R129, R130). -/
  rate : Nat := 0
  preamble : Nat := 0
  flags : Nat := 0
  deriving DecidableEq, Repr

structure JoinRec where
  radio : Nat
  rejoin : Bool
  ext : Bytes
  fsk : Nat
  ofdm : Nat
  rssi : Nat
  stamp : DatumVal
  deriving DecidableEq, Repr

/-- A JOIN_RESPONSE (kind 5) or LEAVE (kind 6) queued for the next downlink slot (R225, R226). -/
structure ChainResp where
  kind : Nat
  ext : Bytes
  entry : Nat
  status : Nat := 0
  rate : Nat := 0
  short : Nat := 0xFFFF
  slot : Nat := 0xFFFF
  deriving DecidableEq, Repr

structure ChainRadio where
  /-- the radio has begun its first chain, or a member follows its coordinator's. -/
  running : Bool := false
  number : Nat := 0
  /-- B(N) on the chain timer, in DATUM ticks, and as a Datum stamp. -/
  bTick : Nat := 0
  bStamp : DatumVal := {}
  sched : Sched := {}
  nextSched : Option Sched := none
  /-- dedicated slots in force by entry, and those that come into force at the next chain (R228, R229). -/
  slots : Tab Nat := []
  nextSlots : Option (Tab Nat) := none
  /-- the slot in progress, the next to start, and ns of the present one that are used. -/
  inSlot : Option Nat := none
  slot : Nat := 0
  used : Nat := 0
  /-- `now` at which the present slot began; its sending waits for the gate that its hop closed (R105). -/
  slotAt : Nat := 0
  due : Bool := false
  /-- frames whose data has not reached the radio in time, and whether the slot's RFFE writes are done (R17, R97). -/
  late : List Nat := []
  rffeDone : Bool := true
  group : Nat := 0
  schedVer : Nat := 0
  /-- deltas (short address, slot) and quarantined slots, with the chains they last (R229). -/
  deltas : List (Nat × Nat × Nat) := []
  quarantine : List (Nat × Nat) := []
  contact : List Nat := []
  announce : List Nat := []
  /-- the beacon formed: DATUM of its S, TIME_SYNCED, and the `now` of its S (R214). -/
  formed : Option (DatumVal × Bool × Nat) := none
  stepped : Bool := false
  txSeq : Tab Nat := []
  await : Option ChainTx := none
  retry : List ChainTx := []
  resps : List ChainResp := []
  /-- newest first. -/
  sent : List ChainSent := []
  /-- last counter accepted under the join key, by extended address (R216). -/
  joinCtr : List (Bytes × Nat) := []
  -- member role (R222, R223)
  mst : MemberState := .scan
  missed : Nat := 0
  backoffK : Nat := 0
  backoff : Nat := 0
  joinDue : Bool := false
  scanChan : Nat := 0
  short : Nat := 0xFFFF
  mSlot : Nat := 0xFFFF
  mRate : Nat := 0
  timing : Int := 0
  lastSeq : Option Nat := none
  /-- last counters accepted from the coordinator: under the pairwise key, the network key, the join key. -/
  ctrs : Tab Nat := []
  syncAt : Nat := 0
  /-- the chain in which the last JOIN_REQUEST was sent or its wait drawn, and `now` since which a scan has listened on its
  channel (R222). -/
  joinChain : Nat := 0
  scanAt : Nat := 0
  /-- Datum in ns of the stake that enabled the radio (R204). -/
  upAt : Nat := 0
  deriving DecidableEq, Repr

structure ChainUnit where
  radios : Vector ChainRadio 3 := Vector.replicate 3 {}
  pending : Vector (Option JoinRec) 16 := Vector.replicate 16 none
  ticks : Nat := 0
  deriving DecidableEq, Repr

/-! ### Packet processor and traffic manager (09, 10) -/

/-- Where a packet goes (R241): egress kind 0 PORT, 1 STATION, 2 MEMBER, 3 core ring, 4 flood; index. -/
structure Dest where
  kind : Nat
  index : Nat
  deriving DecidableEq, Repr

/-- What a context hands to the traffic manager: queues, destination entry, class, bytes. -/
structure PpOut where
  queues : List Nat
  dst : Nat
  cls : Nat
  seg : Option SegDesc := none
  tstamp : Bool := false
  bytes : Bytes
  deriving DecidableEq, Repr

/-- A packet context (R247, R248): the version it is judged under, its order queue, its ingress (*Port codes*), source
and entry stamp, and the frames it hands off. -/
structure PpCtx where
  version : Nat
  order : Nat
  ingress : Nat
  src : Nat × Nat
  tid : Nat
  entry : Nat × Nat
  truncated : Bool := false
  outs : List PpOut
  deriving DecidableEq, Repr

/-- What a commit superseded (R251, R253): the version it superseded, the stake instant in 2^-32 ns (0 a COMMIT), the
route generation before it, and the old copies. -/
structure PpOld where
  version : Nat
  t : Nat
  gen : Nat
  vals : List (Nat × Nat × Bytes)
  deriving DecidableEq, Repr

structure PpUnit where
  committed : Nat := 0
  /-- live versions, oldest first, and the superseded copies not yet freed, newest first. -/
  live : List Nat := []
  olds : List PpOld := []
  /-- the open version: index, element, record (R251). -/
  openCh : List (Nat × Nat × Bytes) := []
  routeGen : Nat := 0
  ctxs : Tab PpCtx := []
  ctxNext : Nat := 0
  /-- `now` of the last hit of a dynamic bridge or learned flow entry, by object key; flows that saw FIN or RST. -/
  hitAt : Tab Nat := []
  finSeen : List Nat := []
  /-- the fast cache: entries of a set, most recently used first (R243). -/
  cache : Tab (List Nat) := []
  frames : Nat := 0
  /-- TRUNC_DROPS (R285), which no object carries. -/
  truncDrops : Nat := 0
  /-- packets steered to the dictionary engine (R231). -/
  toDict : List Bytes := []
  deriving DecidableEq, Repr

structure Queue where
  frames : List QFrame := []
  drops : Nat := 0
  deriving DecidableEq, Repr

/-- A child's tags at a node of the WFQ tree (R262). -/
structure Tags where
  s : Nat := 0
  f : Nat := 0
  idleV : Nat := 0
  weight : Nat := 1
  backlogged : Bool := false
  deriving DecidableEq, Repr

/-- A node of the tree: virtual time and its children's tags. -/
structure Node where
  v : Nat := 0
  kids : Tab Tags := []
  deriving DecidableEq, Repr

/-- A frame or segment that has left a port: the frame, the port code, its FCS inverted (R285), its bytes. -/
structure SentFrame where
  frame : Nat
  port : Nat
  fcsBad : Bool
  bytes : Bytes
  deriving DecidableEq, Repr

/-- A gate control list in force (R271, R272). -/
structure Gate where
  enabled : Bool := false
  fixed : Bool := false
  entries : List (Nat × Nat) := []
  base : DatumVal := {}
  cycle : Nat := 0
  maxFrame : Nat := 64
  /-- Datum from which a staked list is in force, 2^-32 ns (R272). -/
  start : Nat := 0
  deriving DecidableEq, Repr

structure TmUnit where
  queues : Tab Queue := []
  nodes : Tab Node := []
  shapers : Tab Int := []
  policers : Tab (Nat × Nat) := []
  freeCells : Nat := 131072
  leastFree : Nat := 131072
  dramCells : Nat := 0
  gates : Vector Gate 5 := Vector.replicate 5 {}
  /-- staked lists that wait for a cycle boundary of the old list (R272). -/
  nextGate : Vector (Option Gate) 5 := Vector.replicate 5 none
  gateEntry : Vector Nat 5 := Vector.replicate 5 0
  cellRefs : Tab Nat := []
  /-- frames sent by the ports, newest first. -/
  sent : List SentFrame := []
  retired : List Nat := []
  /-- refills since reset (R266). -/
  refills : Nat := 0
  /-- the frame a gated egress has in transmission: its class and the `now` of its end (R275). -/
  inTx : Vector (Option (Nat × Nat)) 5 := Vector.replicate 5 none
  deriving DecidableEq, Repr

/-! ### Wired ports, Datum (11, 12) -/

/-- A pause frame the port has sent (R294): PFC or PAUSE, the classes it names, its quanta. -/
structure PauseFrame where
  pfc : Bool
  classes : Nat
  quanta : Nat
  deriving DecidableEq, Repr

structure EthPort where
  link : Bool := false
  fecLock : Bool := false
  an : Nat := 0
  upStamp : DatumVal := {}
  /-- pause quanta in force per class and the `now` at which each ends (R292, R293). -/
  paused : Vector Nat 8 := Vector.replicate 8 0
  pauseEnd : Vector Nat 8 := Vector.replicate 8 0
  /-- classes the port is pausing (bit 0 in PAUSE mode), when it last sent each its pause, and the frames sent, newest
  first (R294). -/
  pausing : Nat := 0
  pauseAt : Vector Nat 8 := Vector.replicate 8 0
  pauses : List PauseFrame := []
  deriving DecidableEq, Repr

/-- A packet on its way from a port or a transmit ring to the packet processor (R230, R298): ingress port code, entry
stamp, the class a descriptor sets. -/
structure RxStored where
  ingress : Nat
  stamp : DatumVal
  truncated : Bool
  cls : Option Nat := none
  tstamp : Bool := false
  seg : Option SegDesc := none
  bytes : Bytes
  deriving DecidableEq, Repr

/-- The xSPI port (R307): the level of XSPI_RESET_N, and whether the port runs 8D-8D-8D at 200 MHz (false: 1S-1S-1S at
25 MHz). After the boot ROM's step 3 it is released and fast. -/
structure Xspi where
  resetN : Bool := true
  fast : Bool := true
  deriving DecidableEq, Repr

/-- The test instructions of R311; `debug` stands for those that reach the control cores' debug module. -/
inductive TapInst
  | bypass | idcode | samplePreload | extest | debug
  deriving DecidableEq, Repr

/-- The JTAG port (R311): the level the board drives at JTAG_TRST_N, low with no tester attached, and the instruction
that a tester has loaded. No row of the table is a TCK edge (log entry 160). -/
structure Tap where
  trstN : Bool := false
  inst : TapInst := .bypass
  deriving DecidableEq, Repr

/-- A crossing of single events (R486): the source's toggle, the data held with it, and `now` at which the acknowledge
has returned. -/
structure Crossing where
  toggle : Bool := false
  held : Nat := 0
  ackAt : Nat := 0
  deriving DecidableEq, Repr

structure Wired where
  /-- packets received and not yet taken by the packet processor, oldest first. -/
  rx : List RxStored := []
  /-- what the device has written to host memory: receive ring, descriptor, words 1 to 3 and data. -/
  hostOut : List (Nat × Nat × Bytes) := []
  /-- number of frames the transmit rings have submitted. -/
  txFrames : Nat := 0
  eth : Vector EthPort 2 := Vector.replicate 2 {}
  fieldLink : Bool := false
  plcaOk : Bool := false
  beaconsLost : Nat := 0
  uartRx : Bytes := []
  uartTx : Bytes := []
  /-- `now` at which the oldest byte of the transmit FIFO began, and the bytes the console has sent. -/
  uartAt : Nat := 0
  uartSent : Bytes := []
  /-- levels the board drives at the pins. -/
  gpioLevel : Nat := 0
  pcieRoot : Bool := false
  pcieLink : Bool := false
  pcieSpeed : Nat := 0
  pcieWidth : Nat := 0
  aerCorr : Nat := 0
  aerUncorr : Nat := 0
  msix : Nat := 0
  vector13Owed : Bool := false
  /-- a completion sent to the last inbound request: value, poisoned, unsupported (R304, R305). -/
  completion : Option (Nat × Bool × Bool) := none
  xspi : Xspi := {}
  tap : Tap := {}
  deriving DecidableEq, Repr

structure Snap where
  t : DatumVal := {}
  gen : Nat := 0
  deriving DecidableEq, Repr

/-- The pulse an output last emitted: when it ends, in elapsed ns, and whether it is active low, both as configured at its
leading edge (R322, R323). -/
structure TpoPulse where
  endAt : Nat
  low : Bool
  deriving DecidableEq, Repr

/-- A pulse output (R322 to R325). -/
structure Tpo where
  pulse : Option TpoPulse := none
  next : Option DatumVal := none
  pulses : Nat := 0
  late : Nat := 0
  deriving DecidableEq, Repr

structure CapRec where
  falling : Bool
  gen : Nat
  stamp : DatumVal
  deriving DecidableEq, Repr

/-- A step request (R317). -/
structure StepReq where
  absolute : Bool
  /-- ABSOLUTE: the value in 2^-32 ns; RELATIVE: the offset in 2^-32 ns. -/
  units : Int
  follow : Bool
  sess : Option Nat
  deriving DecidableEq, Repr

structure DatumUnit where
  t : DatumVal := {}
  incr : Nat := 0x400000000
  incrPend : Option Nat := none
  steps : List StepReq := []
  stepGen : Nat := 0
  lastStep : DatumVal := {}
  snaps : Vector Snap 8 := Vector.replicate 8 {}
  running : Bool := true
  restored : Bool := true
  /-- D0 and the R of that instant in 2^-32 ns, none when no count was complete (R330, R332). -/
  d0 : Option (DatumVal × Option Nat) := none
  /-- R in 2^-32 ns (R329). -/
  aonCal : Nat := 0
  tpo : Vector Tpo 4 := Vector.replicate 4 {}
  fifo : Vector (List CapRec) 3 := Vector.replicate 3 []
  popped : Bytes := []
  pairO : Int := 0
  pairRtt : Nat := 0
  pairRate : Int := 0
  pairStamp : DatumVal := {}
  pairValid : Bool := false
  followRun : Nat := 0
  deriving DecidableEq, Repr

/-! ### Security (13) -/

/-- 0 EMPTY, 1 ACTIVE, 2 EXHAUSTED, 3 FAULTED (R342 to R348). -/
structure KeySlot where
  st : Nat
  typ : Nat
  material : Bytes
  salt : Bytes
  counter : Nat
  warned : Bool := false
  exhausted : Bool := false
  stamp : DatumVal := {}
  /-- EMPTY, its material not yet overwritten because a lane still holds it (R344). -/
  erasing : Bool := false
  deriving DecidableEq, Repr

/-- Who reads a job's result (*Job results*): an 802.11 MPDU, management frame or beacon; a Chain frame of a radio; a port,
with the frame that leaves when the job is done; a reception, whose tag came with it; the DMA engine. -/
inductive JobOwner
  | mpdu
  | chain (r : Nat)
  | port (f : SentFrame)
  | reception
  | dma
  deriving DecidableEq, Repr

/-- A cipher job (R27, R337). -/
structure Job where
  id : Nat
  /-- 1 RADIO_TX, 2 RADIO_RX, 3 MACSEC, 4 DMA. -/
  cls : Nat
  slot : Nat
  tx : Bool
  counter : Nat := 0
  bytes : Nat
  retryPn : Bool := false
  /-- type, material and salt as read at the job's start (R337). -/
  typ : Nat := 0
  material : Bytes := []
  salt : Bytes := []
  owner : JobOwner := .mpdu
  /-- an MLD station's frame: the MLD addresses that its nonce and additional data use (R179). -/
  aad : Bytes := []
  deriving DecidableEq, Repr

structure LaneSt where
  job : Option Job := none
  enabled : Bool := true
  jobs : Nat := 0
  parity : Nat := 0
  aborts : Nat := 0
  authFail : Nat := 0
  reload : Bool := false
  deriving DecidableEq, Repr

structure Rekey where
  kind : Nat
  slot : Nat
  counter : Nat
  stamp : DatumVal
  deriving DecidableEq, Repr

structure Sec where
  slots : Tab KeySlot := []
  lanes : Vector LaneSt 12 := Vector.replicate 12 {}
  waiting : List Job := []
  /-- ended jobs whose owner has not read their result: the job and its code of *Job results*. -/
  results : Tab (Nat × Job) := []
  nextJob : Nat := 0
  rekeys : List Rekey := []
  popped : Bytes := []
  idFault : Bool := false
  attempts : Nat := 0
  entropyOk : Bool := true
  attesting : Option Bytes := none
  report : Bytes := []
  unlocked : Bool := false
  challenge : Option (Bytes × Nat) := none
  deriving DecidableEq, Repr

/-! ### DRAM, DMA, cores (14, 15, 16) -/

inductive McState where
  | off | init | training | service | selfRefresh | fault
  deriving DecidableEq, Repr

/-- A read entry of the transaction table (R365): its line, the bytes asked of it with their values when it was accepted
(R367), when it was accepted, whether it is the read of a read-merge-write, and whether it waits for a write. -/
structure RdEnt where
  line : Nat
  off : Nat
  data : Bytes
  order : Nat
  since : Nat
  merge : Bool := false
  waitWrite : Bool := false
  deriving DecidableEq, Repr

/-- A write entry: its line, the offsets it covers, and whether its merge read is still to come (R365 to R367). -/
structure WrEnt where
  line : Nat
  offs : List Nat
  order : Nat
  merging : Bool := false
  deriving DecidableEq, Repr

/-- A bank's page state (R370). -/
structure Bank where
  row : Option Nat := none
  last : Option Nat := none
  ctr : Nat := 2
  /-- `now` of the last column access. -/
  used : Nat := 0
  deriving DecidableEq, Repr

structure Rank where
  st : Nat := 0
  logical : Nat := 0xFF
  corr : Nat := 0
  uncorr : Nat := 0
  ca : Nat := 0
  deriving DecidableEq, Repr

structure Migration where
  st : Nat := 0
  src : Nat := 0
  spare : Nat := 0
  cause : Nat := 0
  blocks : Nat := 0
  total : Nat := 0
  poison : Nat := 0
  stamp : DatumVal := {}
  /-- `now` at which the block in progress started (R378). -/
  blockAt : Nat := 0
  deriving DecidableEq, Repr

/-- One line of a request that the controller has not acknowledged: line, offset, length, the bytes of a write (R14, R365). -/
structure DramHeld where
  line : Nat
  off : Nat
  len : Nat
  data : Option Bytes
  deriving DecidableEq, Repr

structure Dram where
  st : McState := .off
  rds : List RdEnt := []
  wrs : List WrEnt := []
  order : Nat := 0
  /-- read data returned: address, bytes, poisoned. -/
  replies : List (Nat × Bytes × Bool) := []
  /-- requests held at the fabric, oldest first (R14, R365, R374). -/
  held : List DramHeld := []
  banks : Tab Bank := []
  drain : Bool := false
  postponed : Vector Nat 4 := Vector.replicate 4 0
  /-- `now` of each rank's last refresh interval (R371). -/
  refreshAt : Vector Nat 4 := Vector.replicate 4 0
  hot : Bool := false
  /-- RANK_RETIRED as the last reset found it (R382). -/
  retired : Nat := 0
  /-- chip selects of the last 64 commands of a subchannel, oldest first (R376). -/
  cmds : Vector (List Nat) 2 := Vector.replicate 2 []
  /-- mode registers written: (2 × CS + subchannel) × 256 + number. -/
  modeRegs : Tab Nat := []
  rankMap : Vector Nat 4 := ⟨#[0, 1, 2, 3], rfl⟩
  ranks : Vector Rank 4 := Vector.replicate 4 {}
  mig : Migration := {}
  /-- addresses of poisoned 64-bit words of memory, on-chip or SDRAM (R23, R366, R392). -/
  poison : List Nat := []
  deriving DecidableEq, Repr

/-- A DMA descriptor as read (*DMA descriptor*). -/
structure DmaDesc where
  src : Nat
  dst : Nat
  len : Nat
  op : Nat
  srcW : Nat
  dstW : Nat
  key : Nat
  srcPcie : Bool
  dstPcie : Bool
  notify : Bool
  aad : Nat
  addr : Nat
  deriving DecidableEq, Repr

/-- A descriptor in progress: the configuration in force at its start (R384), source bytes moved, its status so far, what
a cipher operation has read and the job it waits for, and whether it has only its completion left. -/
structure DmaCur where
  d : DmaDesc
  packing : Bool
  opnd : Nat
  pos : Nat := 0
  status : Nat := 0
  result : Nat := 0
  taken : Bytes := []
  job : Option Nat := none
  poisoned : Bool := false
  ready : Bool := false
  deriving DecidableEq, Repr

structure Dma where
  cur : Vector (Option DmaCur) 64 := Vector.replicate 64 none
  rr : Nat := 0
  deriving DecidableEq, Repr

inductive ThState where
  | free | ready | running | waiting
  deriving DecidableEq, Repr

/-- A thread slot (R400, R401). -/
structure Thread where
  st : ThState := .free
  prio : Nat := 0
  mask : Nat := 0
  lastCore : Option Nat := none
  gen : Nat := 0
  waits : List Nat := []
  bound : Bool := false
  timedOut : Bool := false
  /-- `now` at which its WAIT times out; 0 none. -/
  deadline : Nat := 0
  dispatches : Nat := 0
  since : Nat := 0
  /-- `now` at which it became READY (R405). -/
  readyAt : Nat := 0
  anyCore : Bool := false
  deriving DecidableEq, Repr

structure Operand where
  count : Nat := 0
  value : Nat := 0
  waiter : Option Nat := none
  posts : Nat := 0
  deriving DecidableEq, Repr

structure CoreSt where
  held : Bool := false
  point : Nat := 0
  running : Option Nat := none
  reserved : Option Nat := none
  /-- the thread that was running here was aborted and nothing popped since (R408). -/
  aborted : Bool := false
  opnds : List Nat := []
  dispatches : Nat := 0
  preempts : Nat := 0
  /-- DSP_RESULT of the last operation. -/
  result : Nat := 0
  /-- Last access fault raised on the core: address, and 0 access, 1 load, 2 instruction (R29, R30, R399). -/
  accessFault : Option (Nat × Nat) := none
  readData : Nat := 0
  deriving DecidableEq, Repr

structure Cores where
  threads : Tab Thread := []
  opnds : Tab Operand := []
  cores : Vector CoreSt 8 := Vector.replicate 8 {}
  stamp : Nat := 0
  deriving DecidableEq, Repr

/-! ### Power, pair, log, update, start-up (17 to 22) -/

/-- A grant of the arbiter (R420): requester kind, instance, units, age; booking or contention. -/
structure Grant where
  /-- 0 floor, 1 fabric, 2 DRAM, 3 transceiver, 4 contention, 5 core, 6 port, 7 PCIe, 8 baseline link,
  9 cipher lane, 10 booking. -/
  kind : Nat
  inst : Nat
  units : Nat
  age : Nat := 0
  deriving DecidableEq, Repr

/-- A sleep entry in progress (R416, R418). -/
structure SleepEntry where
  hibernate : Bool
  mask : Nat
  stamp : DatumVal
  alarm : Bytes
  deriving DecidableEq, Repr

structure Power where
  /-- *Power states* code in force. -/
  now_ : Nat := 0
  before : Nat := 0
  entry : Option SleepEntry := none
  asleep : Option SleepEntry := none
  latch : Nat := 0
  grants : List Grant := []
  age : Nat := 0
  supplyLow : Bool := false
  restoring : Bool := false
  /-- `now` at which SUPPLY_FAIL_N rose (R425). -/
  backAt : Nat := 0
  /-- the condition of RATE_SHORT, of SUPPLY_SHORT, held at its last judgement (R20, R425). -/
  rateShort : Bool := false
  supplyShort : Bool := false
  reclaimed : List Grant := []
  vidFab : Nat := 70
  vidCpu : Nat := 20
  /-- `now` of each code's last change, and the code VDD_FAB came from (R419, R421). -/
  vidFabAt : Option Nat := none
  vidCpuAt : Option Nat := none
  vidFabWas : Nat := 70
  targetFab : Nat := 70
  /-- VDD_FAB is held at 0.85 V: fewer than six readings were valid at the last refresh (R19). -/
  fabHeld : Bool := false
  pendingCore : List (Nat × Nat) := []
  deriving DecidableEq, Repr

inductive PairState where
  | solo | wait | syncing | standby | active | fenced
  deriving DecidableEq, Repr

/-- A mirror frame sent and not yet acknowledged (R430, R436): sequence number, class, content, `now` of its first sending. -/
structure MirrorFrame where
  seq : Nat
  cls : Nat
  item : MirrorItem
  at_ : Nat
  deriving DecidableEq, Repr

structure Pair where
  st : PairState := .solo
  id : Nat := 0
  en : Bool := false
  /-- window exponent and KICK_TIMEOUT in force: PAIR_CFG as the last reset found it (R447). -/
  win : Nat := 24
  kickMs : Nat := 100
  partner : Nat := 0
  partnerHealth : Nat := 0
  partnerBusy : Bool := false
  heard : Bool := false
  link : Bool := false
  peerIn : Bool := false
  activeOut : Bool := false
  missed : Nat := 0
  claiming : Bool := false
  retryClaim : Bool := false
  /-- `now` at which the kick timeout of an ACTIVE device passes (R434). -/
  kickAt : Nat := 0
  outSeq : Nat := 1
  inSeq : Nat := 1
  unacked : List MirrorFrame := []
  ackOut : Nat := 0
  keyRes : Tab Nat := []
  snRes : Tab Nat := []
  copying : Bool := false
  copyDone : Bool := false
  progress : Nat := 0
  handing : Bool := false
  switchHeld : Bool := false
  takeovers : Nat := 0
  lastTakeover : DatumVal := {}
  hbSent : Nat := 0
  deriving DecidableEq, Repr

/-- A log record (*Log record*, R453). -/
structure LogRec where
  seq : Nat := 0
  unit : Nat
  cls : Nat
  code : Nat
  stamp : DatumVal
  gen : Nat
  unitSeq : Nat
  acked : Bool := false
  boot : Bool := false
  inst : Nat
  detail : Nat
  deriving DecidableEq, Repr

structure Log where
  waiting : List LogRec := []
  recs : List LogRec := []
  nextSeq : Nat := 1
  unitSeq : Tab Nat := []
  corrAt : Tab Nat := []
  /-- `now` at the applying tick of each step, by the STEP_GEN it ended (R454). -/
  stepAt : Tab Nat := []
  unacked : List Nat := []
  ring : List LogRec := []
  restored : Nat := 0
  high : List Nat := []
  /-- FAULT_N is driven low by a wake fault not yet restored (R478, R481). -/
  wakeFault : Bool := false
  deriving DecidableEq, Repr

inductive UpdState where
  | idle | receiving | ready | trial
  deriving DecidableEq, Repr

/-- An image or profile slot in flash (R460, R462). -/
structure Slot where
  header : Option Bytes := none
  payload : Bytes := []
  deriving DecidableEq, Repr

structure Update where
  st : UpdState := .idle
  header : Bytes := []
  received : Bytes := []
  profile : Bool := false
  target : Nat := 0
  result : Nat := 0
  images : Vector Slot 2 := Vector.replicate 2 {}
  profiles : Vector Slot 2 := Vector.replicate 2 {}
  inForce : Nat := 0
  running : Nat := 0
  confirmed : Nat := 0
  trial : Option Nat := none
  trialBooted : Bool := false
  window : Nat := 0
  /-- `now` at which the trial window in progress ends. -/
  windowEnd : Nat := 0
  fallbacks : Nat := 0
  floor : Nat := 0
  floorOwed : Bool := false
  oldFormat : Bool := false
  /-- a profile that waits for its T: its entries, T, and its slot (R471). -/
  scheduled : Option (List (Nat × Nat × Bytes) × DatumVal × Nat) := none
  resetDue : Bool := false
  /-- BEGIN waits for the partner's next HEARTBEAT (R465). -/
  peerTie : Bool := false
  /-- what ends the trial at the next boot: 1 window, 2 reset, 3 REVERT (R467). -/
  fallCause : Nat := 2
  /-- format of the platform record, and of each slot's application settings, none before any (R469). -/
  platFormat : Nat := 0
  appFormat : Vector (Option Nat) 2 := Vector.replicate 2 none
  deriving DecidableEq, Repr

/-- Where the start-up stands (R473 to R480). -/
inductive Phase where
  | stepA | stepB | stepC | pll | released | failed | asleep | reassert | off
  deriving DecidableEq, Repr

/-- A wake fault record in the AON (R481). -/
structure WakeFault where
  code : Nat
  detail : Nat
  attempts : Nat
  edges : Nat
  deriving DecidableEq, Repr

structure Start where
  phase : Phase := .released
  attempts : Nat := 0
  enHold : Bool := true
  enMain : Bool := true
  xoEn : Bool := true
  pg : Nat := 0xFF
  refRun : Nat := 2
  lastWindow : Nat := 0
  locked : Nat := 0x30C4
  limp : Bool := false
  rescue : Bool := false
  cause : Nat := 0
  lastAttempts : Nat := 1
  rrStamp : DatumVal := {}
  faults : List WakeFault := []
  limpOk : Bool := true
  failRetry : Nat := 60
  rcTrim : Nat := 0
  fromStandby : Bool := false
  boots : Nat := 0
  booted : Bool := true
  /-- sensors whose last reading was valid, by bit. -/
  thermValid : Nat := 0
  /-- the crossings from the CPU domain, by the address of the register whose write is the event (R486). -/
  crossings : Tab Crossing := []
  /-- highest valid reading since reset, 0.1 °C. -/
  highest : Int := 0
  deriving DecidableEq, Repr

/-- What the spec calls per part, per die, per image or per board, and the fuses. -/
structure Part where
  siliconRev : Nat := 0xA0
  serial : Bytes := List.replicate 16 0
  compatMin : Nat := 1
  compatMax : Nat := 1
  compatActive : Nat := 1
  fwVersion : Nat := 1
  secVersion : Nat := 0
  idPubkey : Bytes := List.replicate 57 0
  idCert : Bytes := []
  idChain : Bytes := []
  vendorId : Nat := 0
  /-- fuse slots: state (0 empty, 1 active, 2 revoked) and digest. -/
  fuses : Vector (Nat × Bytes) 4 := ⟨#[(1, List.replicate 64 0), (0, List.replicate 64 0),
    (0, List.replicate 64 0), (0, List.replicate 64 0)], rfl⟩
  fuseSeq : Nat := 0
  debugOff : Bool := false
  deriving DecidableEq, Repr

/-- The whole block. -/
structure State where
  pending : List Instr
  /-- index of the next free value (log entry 1). -/
  free : Nat
  /-- elapsed time since VDD_AON arrived, ns (log entry 2). -/
  now : Nat
  /-- the response operation of the last dictionary operation executed by a command (log entry 3). -/
  lastResp : Option RespOp
  /-- stored object values: key index * 65536 + element. -/
  obj : Tab Bytes
  /-- unit-window registers: key address. -/
  reg : Tab Nat
  /-- memory of the cores' address map: on-chip SRAM, packet buffer window, DRAM. -/
  mem : List Host.Cell
  flash : Flash
  dict : Dict
  rf : Rf
  mac : Mac
  chain : ChainUnit
  pp : PpUnit
  tm : TmUnit
  wired : Wired
  datum : DatumUnit
  sec : Sec
  dram : Dram
  dma : Dma
  cores : Cores
  power : Power
  pair : Pair
  log : Log
  upd : Update
  start : Start
  part : Part
  deriving DecidableEq, Repr

/-- The nine local sessions as they stand after reset: FULL rights, first SEQ 1 (R42, R49). -/
def localSessions : List Session :=
  [{ num := 0xFF00, tr := .port 0, opened := true, rights := 2 },
   { num := 0xFF01, tr := .port 1, opened := true, rights := 2 },
   { num := 0xFF02, tr := .port 2, opened := true, rights := 2 },
   { num := 0xFF03, tr := .port 3, opened := true, rights := 2 },
   { num := 0xFF04, tr := .port 4, opened := true, rights := 2 },
   { num := 0xFF05, tr := .port 5, opened := true, rights := 2 },
   { num := 0xFF06, tr := .port 6, opened := true, rights := 2 },
   { num := 0xFF07, tr := .port 7, opened := true, rights := 2 },
   { num := 0xFF10, tr := .mailbox, opened := true, rights := 2 }]

/-- The grants every running device holds after reset (R420): the floor, the fabric at 850 mV, P400 of each
core, and the twelve cipher lanes; the DRAM controller is OFF and charges 0. -/
def resetGrants : List Grant :=
  { kind := 0, inst := 0, units := 32 } :: { kind := 1, inst := 0, units := 210 } ::
    ((List.range 8).map fun c => { kind := 5, inst := c, units := 2 }) ++
    ((List.range 12).map fun l => { kind := 9, inst := l, units := 2 })

/-- The machine right after the reset of a power-on, with reset released at Rr: every object and register at
its default, Datum zero, no session, no Traverse, the packet processor in STARTUP, the pair in SOLO. Values the
spec does not state are those of log entries 4 and 5. -/
def State.reset : State :=
  { pending := [], free := 0, now := 0, lastResp := none, obj := [], reg := [], mem := [], flash := {},
    dict := { sessions := localSessions }, rf := {}, mac := {}, chain := {}, pp := {}, tm := {}, wired := {},
    datum := {}, sec := {}, dram := {}, dma := {}, cores := {}, power := { grants := resetGrants }, pair := {},
    log := {},
    upd := { images := ⟨#[{ header := some [] }, {}], rfl⟩ }, start := {}, part := {} }

end Sys2Proof.Machine
end

