-- ==== Sys2Proof/Machine/ObjTable.lean ====
section
/-! DEFINITION. The object dictionary's tables: one row for each line of the spec's object tables (index and
element range, type code, length, access code, default, persistence, stated ranges), one list a chapter. -/

namespace Sys2Proof.Machine
open Sys2Proof

/-- Access codes (R10). -/
inductive Acc where
  | ro | rw | wo | rs | rl | cmd
  deriving DecidableEq, Repr

/-- The lengths a value may have (R37). -/
inductive Len where
  | exact (n : Nat)
  | upTo (n : Nat)
  | oneOf (l : List Nat)
  | between (lo hi : Nat)
  deriving DecidableEq, Repr

/-- A stated range of one field of a value: offset and width in bytes. -/
inductive Chk where
  /-- unsigned, inclusive bounds -/
  | u (off w lo hi : Nat)
  /-- two's complement, inclusive bounds -/
  | s (off w : Nat) (lo hi : Int)
  | one (off w : Nat) (vs : List Nat)
  | oneOrRange (off w v lo hi : Nat)
  /-- a reserved field: whatever is written, it reads as zero (R5; log entry 45) -/
  | zero (off w : Nat)
  /-- reserved bits of a field of `w` bytes: those outside the mask read as zero whatever is written (R5; log entry 45) -/
  | keep (off w m : Nat)
  /-- bits outside the mask are reserved: a value with one of them set is a reserved encoding (R6; log entry 45) -/
  | mask (off w m : Nat)
  /-- bits `lo` and up, `n` of them, of a field of `w` bytes hold a code of at most `hi` (R6) -/
  | code (off w lo n hi : Nat)
  /-- a multiple of `n` -/
  | align (off w n : Nat)
  /-- the field at `off` is below `k` times the field at `off'` -/
  | below (off w off' w' k : Nat)
  /-- the field at `off` is at least the field of the same width at `than` -/
  | ge (off w than : Nat)
  /-- unless the field at `off` is `v`, the field at `off'` is between the bounds -/
  | unlessU (off w v off' w' lo hi : Nat)
  deriving DecidableEq, Repr

/-- One line of an object table. -/
structure ObjRow where
  ilo : Nat
  ihi : Nat
  elo : Nat
  ehi : Nat
  typ : Nat
  len : Len
  acc : Acc
  dflt : Bytes
  pers : Bool
  chks : List Chk
  deriving DecidableEq, Repr

def row (ilo ihi elo ehi typ : Nat) (len : Len) (acc : Acc) (dflt : Bytes) (pers : Bool) (chks : List Chk) : ObjRow :=
  { ilo, ihi, elo, ehi, typ, len, acc, dflt, pers, chks }

/-- `n` zero bytes. -/
def zeros (n : Nat) : Bytes := List.replicate n 0

/-- Objects of chapter 01. -/
def objsFabric : List ObjRow := [
  row 0x1100 0x1100 0 0 3 (.exact 2) .rs [96, 0] true [.u 0 2 24 120],
  row 0x1101 0x1101 0 0 2 (.exact 1) .ro [8] false [],
  row 0x1101 0x1101 1 8 3 (.exact 2) .ro (zeros 2) false [],
  row 0x1102 0x1102 0 0 3 (.exact 2) .ro [82, 3] false [],
  row 0x1103 0x1103 0 0 3 (.exact 2) .ro [82, 3] false [],
  row 0x1104 0x1104 0 0 4 (.exact 4) .rw (zeros 4) false [],
  row 0x1105 0x1105 0 0 2 (.exact 1) .ro [4] false [],
  row 0x1105 0x1105 1 4 4 (.exact 4) .ro (zeros 4) false []]

/-- Objects of chapter 02. -/
def objsDict : List ObjRow := [
  row 0x0000 0x0000 0 0 4 (.exact 4) .ro [22, 55, 0, 0] false [],
  row 0x0001 0x0001 0 0 3 (.exact 2) .ro (zeros 2) false [],
  row 0x0002 0x0002 0 0 10 (.upTo 16) .ro [] false [],
  row 0x0003 0x0003 0 0 4 (.exact 4) .ro (zeros 4) false [],
  row 0x0004 0x0004 0 0 3 (.exact 2) .rs (zeros 2) true [],
  row 0x0004 0x0004 1 1 3 (.exact 2) .ro (zeros 2) false [],
  row 0x0004 0x0004 2 2 3 (.exact 2) .ro (zeros 2) false [],
  row 0x0004 0x0004 3 3 3 (.exact 2) .ro (zeros 2) false [],
  row 0x0010 0x0010 0 0 4 (.exact 4) .ro (zeros 4) false [],
  row 0x0011 0x0011 0 0 12 (.exact 4) .cmd (zeros 4) false [],
  row 0x0100 0x0100 0 0 2 (.exact 1) .ro (zeros 1) false [],
  row 0x0101 0x0101 0 0 3 (.exact 2) .rw [44, 1] true [.u 0 2 10 3600],
  row 0x0102 0x0102 0 0 3 (.exact 2) .rs [207, 184] true [.u 0 2 1024 65535],
  row 0x0103 0x0103 0 0 2 (.exact 1) .rs [7] true [.mask 0 1 7],
  row 0x0110 0x0110 0 0 2 (.exact 1) .ro [8] false [],
  row 0x0110 0x0110 1 8 10 (.upTo 57) .rs [] true [],
  row 0x0111 0x0111 1 8 2 (.exact 1) .rs (zeros 1) true [.u 0 1 0 2],
  row 0x0111 0x0111 0 0 2 (.exact 1) .ro [8] false [],
  row 0x0112 0x0112 0 0 4 (.exact 4) .ro (zeros 4) false [],
  row 0x0112 0x0112 1 1 4 (.exact 4) .ro (zeros 4) false [],
  row 0x0112 0x0112 2 2 4 (.exact 4) .ro (zeros 4) false [],
  row 0x0112 0x0112 3 3 4 (.exact 4) .ro (zeros 4) false [],
  row 0x0120 0x0120 0 0 2 (.exact 1) .ro [4] false [],
  row 0x0120 0x0120 1 4 12 (.exact 22) .ro (zeros 22) false [],
  row 0x0121 0x0121 0 0 4 (.exact 4) .rw [128, 222, 40, 0] true [.u 0 4 60 31536000],
  row 0x0130 0x0130 0 0 12 (.exact 4) .cmd (zeros 4) false [],
  row 0x0140 0x0140 0 0 3 (.exact 2) .ro (zeros 2) false [],
  row 0x0140 0x0140 1 256 12 (.oneOf [0, 128]) .rs [] true [],
  row 0x0150 0x0150 0 0 2 (.exact 1) .ro (zeros 1) false []]

/-- Objects of chapter 03. -/
def objsTrx : List ObjRow := [
  row 0x2000 0x2000 0 0 2 (.exact 1) .ro [16] false [],
  row 0x2001 0x2001 1 16 2 (.exact 1) .rs [255] true [.one 0 1 [0, 1, 2, 3, 255]],
  row 0x2001 0x2001 0 0 2 (.exact 1) .ro [16] false [],
  row 0x2002 0x2002 1 16 2 (.exact 1) .rs (zeros 1) true [.u 0 1 0 2],
  row 0x2002 0x2002 0 0 2 (.exact 1) .ro [16] false [],
  row 0x2003 0x2003 1 16 2 (.exact 1) .rs (zeros 1) true [.mask 0 1 31],
  row 0x2003 0x2003 0 0 2 (.exact 1) .ro [16] false [],
  row 0x2004 0x2004 1 16 2 (.exact 1) .rs [7] true [.mask 0 1 7],
  row 0x2004 0x2004 0 0 2 (.exact 1) .ro [16] false [],
  row 0x2005 0x2005 1 16 3 (.exact 2) .rs [0, 255] true [.one 1 1 [0, 1, 2, 255], .mask 0 1 15, .unlessU 1 1 255 0 1 1 15],
  row 0x2005 0x2005 0 0 2 (.exact 1) .ro [16] false [],
  row 0x2006 0x2006 1 16 12 (.exact 8) .rs [232, 3, 32, 3, 200, 0, 244, 1] true [],
  row 0x2006 0x2006 0 0 2 (.exact 1) .ro [16] false [],
  row 0x2010 0x2010 1 3 2 (.exact 1) .rs (zeros 1) true [.u 0 1 0 2],
  row 0x2010 0x2010 0 0 2 (.exact 1) .ro [3] false [],
  row 0x2011 0x2011 1 3 2 (.exact 1) .rs (zeros 1) true [.u 0 1 0 1],
  row 0x2011 0x2011 0 0 2 (.exact 1) .ro [3] false [],
  row 0x2012 0x2012 1 3 12 (.exact 7) .rs [32, 7, 8, 0, 30, 232, 3] true [.u 0 2 1024 2047, .u 2 2 1 256, .u 4 1 10 60, .u 5 2 10 60000],
  row 0x2012 0x2012 0 0 2 (.exact 1) .ro [3] false [],
  row 0x2020 0x2020 1 3 12 (.exact 7) .ro (zeros 7) false [],
  row 0x2020 0x2020 0 0 2 (.exact 1) .ro [3] false [],
  row 0x2021 0x2021 1 3 4 (.exact 4) .ro (zeros 4) false [],
  row 0x2021 0x2021 0 0 2 (.exact 1) .ro [3] false [],
  row 0x2022 0x2022 1 16 12 (.exact 8) .ro (zeros 8) false [],
  row 0x2022 0x2022 0 0 2 (.exact 1) .ro [16] false [],
  row 0x2030 0x2030 1 16 12 (.exact 132) .rs (zeros 132) true [.u 0 1 0 16, .zero 1 1, .u 2 2 1 1000, .u 8 1 0 4, .zero 9 3, .u 16 1 0 4, .zero 17 3, .u 24 1 0 4, .zero 25 3, .u 32 1 0 4, .zero 33 3, .u 40 1 0 4, .zero 41 3, .u 48 1 0 4, .zero 49 3, .u 56 1 0 4, .zero 57 3, .u 64 1 0 4, .zero 65 3, .u 72 1 0 4, .zero 73 3, .u 80 1 0 4, .zero 81 3, .u 88 1 0 4, .zero 89 3, .u 96 1 0 4, .zero 97 3, .u 104 1 0 4, .zero 105 3, .u 112 1 0 4, .zero 113 3, .u 120 1 0 4, .zero 121 3, .u 128 1 0 4, .zero 129 3],
  row 0x2030 0x2030 0 0 2 (.exact 1) .ro [16] false [],
  row 0x2031 0x2031 1 256 12 (.exact 24) .ro (zeros 24) false [],
  row 0x2031 0x2031 0 0 3 (.exact 2) .ro [0, 1] false [],
  row 0x2040 0x2040 0 0 4 (.exact 4) .rw (zeros 4) false [],
  row 0x2041 0x2041 0 0 2 (.exact 1) .ro [5] false [],
  row 0x2041 0x2041 1 5 4 (.exact 4) .ro (zeros 4) false []]

/-- Objects of chapter 04. -/
def objsSynth : List ObjRow := [
  row 0x2050 0x2050 1 3 12 (.exact 15) .ro (zeros 15) false [],
  row 0x2050 0x2050 0 0 2 (.exact 1) .ro [3] false [],
  row 0x2051 0x2051 1 3 4 (.exact 4) .rw (zeros 4) false [],
  row 0x2051 0x2051 0 0 2 (.exact 1) .ro [3] false [],
  row 0x2052 0x2052 0 0 2 (.exact 1) .ro [9] false [],
  row 0x2053 0x2053 1 9 4 (.exact 4) .ro (zeros 4) false [],
  row 0x2053 0x2053 0 0 2 (.exact 1) .ro [9] false [],
  row 0x2054 0x2054 1 9 4 (.exact 4) .ro (zeros 4) false [],
  row 0x2054 0x2054 0 0 2 (.exact 1) .ro [9] false [],
  row 0x2055 0x2055 1 9 4 (.exact 4) .ro (zeros 4) false [],
  row 0x2055 0x2055 0 0 2 (.exact 1) .ro [9] false [],
  row 0x7000 0x7000 0 0 3 (.exact 2) .rl (zeros 2) true [],
  row 0x7001 0x7001 0 0 4 (.exact 4) .rl (zeros 4) true [],
  row 0x7002 0x7002 0 0 2 (.exact 1) .ro [255] false [],
  row 0x7010 0x7010 1 16 12 (.exact 10) .rl (zeros 10) true [],
  row 0x7010 0x7010 0 0 2 (.exact 1) .ro [16] false [],
  row 0x7020 0x7020 0 0 3 (.exact 2) .rl (zeros 2) true [.u 0 2 0 256],
  row 0x7020 0x7020 1 256 12 (.exact 14) .rl [] true [.u 8 1 0 4, .mask 9 1 1],
  row 0x7030 0x7030 0 0 2 (.exact 1) .rl (zeros 1) true [.u 0 1 0 16],
  row 0x7030 0x7030 1 16 12 (.exact 14) .rl [] true [.u 8 2 1 10000, .u 10 4 60 86400],
  row 0x7040 0x7040 1 16 5 (.exact 8) .ro (zeros 8) false [],
  row 0x7040 0x7040 0 0 2 (.exact 1) .ro [16] false [],
  row 0x7041 0x7041 1 16 4 (.exact 4) .ro (zeros 4) false [],
  row 0x7041 0x7041 0 0 2 (.exact 1) .ro [16] false [],
  row 0x7042 0x7042 1 3 12 (.exact 6) .ro (zeros 6) false [],
  row 0x7042 0x7042 0 0 2 (.exact 1) .ro [3] false [],
  row 0x7F80 0x7F80 0 0 12 (.exact 24) .cmd (zeros 24) false [.u 1 1 0 2, .zero 17 1, .zero 22 2],
  row 0x7F81 0x7F81 0 0 3 (.exact 2) .rs [16, 39] true [.u 0 2 100 10000],
  row 0x7F82 0x7F82 1 3 12 (.exact 8) .ro (zeros 8) false [],
  row 0x7F82 0x7F82 0 0 2 (.exact 1) .ro [3] false [],
  row 0x7F83 0x7F83 0 0 2 (.exact 1) .rs (zeros 1) true []]

/-- Objects of chapter 05. -/
def objsPhy : List ObjRow := [
  row 0x2100 0x2100 1 3 2 (.exact 1) .rs (zeros 1) true [.u 0 1 0 2],
  row 0x2100 0x2100 0 0 2 (.exact 1) .ro [3] false [],
  row 0x2101 0x2101 1 3 12 (.exact 8) .rs (zeros 8) true [.u 4 1 0 4, .u 5 1 0 15],
  row 0x2101 0x2101 0 0 2 (.exact 1) .ro [3] false [],
  row 0x2102 0x2102 1 3 12 (.exact 3) .rs [255, 3, 8] true [.mask 0 2 1023, .u 2 1 1 8],
  row 0x2102 0x2102 0 0 2 (.exact 1) .ro [3] false [],
  row 0x2103 0x2103 1 3 12 (.exact 6) .rs [1, 0, 0, 1, 8, 16] true [.u 1 1 0 4, .mask 2 1 127, .mask 3 1 15, .u 4 1 4 64, .u 5 1 1 64],
  row 0x2103 0x2103 0 0 2 (.exact 1) .ro [3] false [],
  row 0x2110 0x2110 1 3 12 (.exact 4) .rs [1, 4, 4, 16] true [.u 0 1 0 2, .u 1 1 1 16, .u 2 1 1 16, .u 3 1 1 64],
  row 0x2110 0x2110 0 0 2 (.exact 1) .ro [3] false [],
  row 0x2120 0x2120 1 3 12 (.exact 7) .rs [204, 252, 148, 253, 1, 174, 252] true [.s 0 2 (-950) (-620), .s 2 2 (-820) (-400), .u 4 1 1 4, .s 5 2 (-1100) (-600)],
  row 0x2120 0x2120 0 0 2 (.exact 1) .ro [3] false [],
  row 0x2121 0x2121 1 3 12 (.exact 18) .ro (zeros 18) false [],
  row 0x2121 0x2121 0 0 2 (.exact 1) .ro [3] false [],
  row 0x2130 0x2130 1 3 3 (.exact 2) .rw [232, 3] true [.u 0 2 10 10000],
  row 0x2130 0x2130 0 0 2 (.exact 1) .ro [3] false [],
  row 0x2131 0x2131 1 16 12 (.exact 18) .ro ([0, 128] ++ zeros 16) false [],
  row 0x2131 0x2131 0 0 2 (.exact 1) .ro [16] false [],
  row 0x2132 0x2132 1 16 12 (.exact 10) .rs (zeros 10) true [],
  row 0x2132 0x2132 0 0 2 (.exact 1) .ro [16] false [],
  row 0x2140 0x2140 1 3 12 (.exact 28) .ro (zeros 28) false [],
  row 0x2140 0x2140 0 0 2 (.exact 1) .ro [3] false [],
  row 0x2150 0x2150 1 3 4 (.exact 4) .rw (zeros 4) false [],
  row 0x2150 0x2150 0 0 2 (.exact 1) .ro [3] false [],
  row 0x2151 0x2151 0 0 2 (.exact 1) .ro [6] false [],
  row 0x2152 0x2152 1 6 4 (.exact 4) .ro (zeros 4) false [],
  row 0x2152 0x2152 0 0 2 (.exact 1) .ro [6] false [],
  row 0x2153 0x2153 1 6 4 (.exact 4) .ro (zeros 4) false [],
  row 0x2153 0x2153 0 0 2 (.exact 1) .ro [6] false [],
  row 0x2154 0x2154 1 6 4 (.exact 4) .ro (zeros 4) false [],
  row 0x2154 0x2154 0 0 2 (.exact 1) .ro [6] false []]

/-- Objects of chapter 06. -/
def objsMac : List ObjRow := [
  row 0x3000 0x3000 1 3 12 (.exact 8) .rs (zeros 8) true [.u 0 1 0 1, .zero 7 1],
  row 0x3000 0x3000 0 0 2 (.exact 1) .ro [3] false [],
  row 0x3010 0x3010 1 48 12 (.exact 24) .rs (zeros 24) true [.u 0 1 0 1, .one 7 1 [0, 1, 2, 255], .u 8 1 0 2, .u 9 1 1 255, .u 10 2 20 1000, .below 12 2 10 2 64, .mask 14 1 7, .zero 15 1, .zero 22 2],
  row 0x3010 0x3010 0 0 2 (.exact 1) .ro [48] false [],
  row 0x3011 0x3011 1 48 12 (.upTo 1536) .rs [] true [.u 2 2 24 1532],
  row 0x3011 0x3011 0 0 2 (.exact 1) .ro [48] false [],
  row 0x3012 0x3012 1 48 12 (.upTo 1536) .rs [] true [.zero 33 1],
  row 0x3012 0x3012 0 0 2 (.exact 1) .ro [48] false [],
  row 0x3020 0x3020 1 3 12 (.exact 32) .rs [3, 4, 6, 10, 0, 0, 244, 1, 7, 4, 10, 10, 0, 0, 244, 1, 1, 3, 4, 10, 94, 0, 200, 0, 1, 2, 3, 10, 47, 0, 100, 0] true [.u 0 1 1 15, .u 1 1 0 15, .u 2 1 0 15, .u 3 1 1 31, .u 6 2 1 60000, .u 8 1 1 15, .u 9 1 0 15, .u 10 1 0 15, .u 11 1 1 31, .u 14 2 1 60000, .u 16 1 1 15, .u 17 1 0 15, .u 18 1 0 15, .u 19 1 1 31, .u 22 2 1 60000, .u 24 1 1 15, .u 25 1 0 15, .u 26 1 0 15, .u 27 1 1 31, .u 30 2 1 60000],
  row 0x3020 0x3020 0 0 2 (.exact 1) .ro [3] false [],
  row 0x3021 0x3021 0 0 3 (.exact 2) .rw [50, 0] true [.u 0 2 1 1000],
  row 0x3100 0x3100 0 0 3 (.exact 2) .ro (zeros 2) false [],
  row 0x3100 0x3100 1 2048 12 (.exact 144) .rw (zeros 144) false [.u 0 1 0 3, .u 1 1 0 2, .u 2 1 0 2, .mask 3 1 15, .u 4 2 0 2007, .u 14 1 0 2, .mask 15 1 7, .zero 36 12, .u 54 1 0 1, .u 55 1 0 2, .u 56 1 0 15, .u 58 1 0 4, .mask 59 1 63, .u 86 1 0 1, .u 87 1 0 2, .u 88 1 0 15, .u 90 1 0 4, .mask 91 1 63, .u 118 1 0 1, .u 119 1 0 2, .u 120 1 0 15, .u 122 1 0 4, .mask 123 1 63],
  row 0x3101 0x3101 1 3 3 (.exact 2) .ro [215, 7] false [],
  row 0x3101 0x3101 0 0 2 (.exact 1) .ro [3] false [],
  row 0x3102 0x3102 0 0 12 (.exact 12) .cmd (zeros 12) false [.u 0 1 0 2, .u 1 1 0 15, .u 2 1 0 2, .zero 3 1, .zero 10 2],
  row 0x3103 0x3103 0 0 3 (.exact 2) .cmd (zeros 2) false [.u 0 2 1 2048],
  row 0x3200 0x3200 0 0 3 (.exact 2) .ro (zeros 2) false [],
  row 0x3200 0x3200 1 4096 12 (.exact 10) .ro (zeros 10) false [],
  row 0x3201 0x3201 0 0 3 (.exact 2) .ro (zeros 2) false [],
  row 0x3201 0x3201 1 4096 12 (.exact 10) .ro (zeros 10) false [],
  row 0x3202 0x3202 0 0 12 (.exact 10) .cmd (zeros 10) false [.u 0 1 1 4, .zero 1 1, .u 2 2 1 2048, .u 4 1 0 7, .zero 5 1],
  row 0x3400 0x3400 1 3 12 (.exact 52) .ro (zeros 52) false [],
  row 0x3400 0x3400 0 0 2 (.exact 1) .ro [3] false [],
  row 0x3401 0x3401 1 3 4 (.exact 4) .rw (zeros 4) false [],
  row 0x3401 0x3401 0 0 2 (.exact 1) .ro [3] false [],
  row 0x3402 0x3402 0 0 2 (.exact 1) .ro [7] false [],
  row 0x3403 0x3403 1 7 4 (.exact 4) .ro (zeros 4) false [],
  row 0x3403 0x3403 0 0 2 (.exact 1) .ro [7] false [],
  row 0x3404 0x3404 1 7 4 (.exact 4) .ro (zeros 4) false [],
  row 0x3404 0x3404 0 0 2 (.exact 1) .ro [7] false [],
  row 0x3405 0x3405 1 7 4 (.exact 4) .ro (zeros 4) false [],
  row 0x3405 0x3405 0 0 2 (.exact 1) .ro [7] false []]

/-- Objects of chapter 07. -/
def objsPlan : List ObjRow := [
  row 0x3500 0x3500 1 3 12 (.exact 20) .rs [7, 148, 2, 0, 140, 0, 200, 0, 2, 1, 4, 8, 20, 0, 50, 0, 40, 0, 168, 253] true [.mask 0 1 15, .u 1 1 1 148, .u 2 1 1 148, .zero 3 1, .u 4 2 16 390, .u 6 2 50 10000, .u 8 1 1 64, .u 9 1 1 64, .u 10 1 1 64, .u 11 1 1 64, .u 12 2 1 1000, .u 14 2 5 1000, .u 16 1 10 90, .zero 17 1, .s 18 2 (-900) (-400)],
  row 0x3500 0x3500 0 0 2 (.exact 1) .ro [3] false [],
  row 0x3501 0x3501 1 3 12 (.exact 21) .ro (zeros 21) false [],
  row 0x3501 0x3501 0 0 2 (.exact 1) .ro [3] false [],
  row 0x3502 0x3502 1 3 12 (.exact 36) .ro (zeros 36) false [],
  row 0x3502 0x3502 0 0 2 (.exact 1) .ro [3] false [],
  row 0x3503 0x3503 1 3 4 (.exact 4) .rw (zeros 4) false [],
  row 0x3503 0x3503 0 0 2 (.exact 1) .ro [3] false [],
  row 0x3504 0x3504 0 0 2 (.exact 1) .ro [4] false [],
  row 0x3505 0x3505 1 4 4 (.exact 4) .ro (zeros 4) false [],
  row 0x3505 0x3505 0 0 2 (.exact 1) .ro [4] false [],
  row 0x3506 0x3506 1 4 4 (.exact 4) .ro (zeros 4) false [],
  row 0x3506 0x3506 0 0 2 (.exact 1) .ro [4] false [],
  row 0x3507 0x3507 1 4 4 (.exact 4) .ro (zeros 4) false [],
  row 0x3507 0x3507 0 0 2 (.exact 1) .ro [4] false [],
  row 0x3510 0x3510 1 2048 12 (.exact 64) .ro (zeros 64) false [],
  row 0x3510 0x3510 0 0 3 (.exact 2) .ro [0, 8] false [],
  row 0x3600 0x3600 0 0 3 (.exact 2) .ro (zeros 2) false [],
  row 0x3600 0x3600 1 1024 12 (.exact 24) .ro (zeros 24) false [],
  row 0x3601 0x3601 0 0 12 (.oneOf [5, 22]) .cmd [] false [.u 0 1 1 2, .zero 1 1]]

/-- Objects of chapter 08. -/
def objsChain : List ObjRow := [
  row 0x3800 0x3800 1 3 2 (.exact 1) .rs (zeros 1) true [.u 0 1 0 1],
  row 0x3800 0x3800 0 0 2 (.exact 1) .ro [3] false [],
  row 0x3801 0x3801 1 3 12 (.exact 26) .rs ([0, 0, 0, 0, 0, 0, 0, 0, 0, 0, 0, 16, 40, 0, 4, 40, 2, 3, 5] ++ zeros 7) true [.u 10 2 256 16384, .u 12 1 8 80, .one 13 1 [0, 1, 2, 3, 4, 5, 6, 7, 128, 129, 130, 131, 132, 133, 134], .u 14 1 1 255, .u 15 1 1 100, .u 16 1 0 7, .u 17 1 0 7, .u 18 1 2 64, .mask 19 1 1],
  row 0x3801 0x3801 0 0 2 (.exact 1) .ro [3] false [],
  row 0x3802 0x3802 1 3 12 (.exact 10) .rs (zeros 10) true [.oneOrRange 6 1 1 3 128, .zero 7 1],
  row 0x3802 0x3802 0 0 2 (.exact 1) .ro [3] false [],
  row 0x3803 0x3803 1 3 12 (.exact 130) .rs (zeros 130) true [.u 0 1 1 32, .zero 1 1],
  row 0x3803 0x3803 0 0 2 (.exact 1) .ro [3] false [],
  row 0x3810 0x3810 0 0 3 (.exact 2) .ro (zeros 2) false [],
  row 0x3810 0x3810 1 1024 12 (.exact 48) .ro (zeros 48) false [],
  row 0x3811 0x3811 1 1024 3 (.exact 2) .rs [255, 255] false [],
  row 0x3811 0x3811 0 0 3 (.exact 2) .ro [0, 4] false [],
  row 0x3812 0x3812 0 0 12 (.exact 12) .cmd (zeros 12) false [.u 0 1 1 3, .zero 11 1],
  row 0x3820 0x3820 0 0 2 (.exact 1) .ro (zeros 1) false [],
  row 0x3820 0x3820 1 16 12 (.exact 26) .ro (zeros 26) false [],
  row 0x3830 0x3830 1 3 12 (.exact 25) .ro (zeros 25) false [],
  row 0x3830 0x3830 0 0 2 (.exact 1) .ro [3] false [],
  row 0x3831 0x3831 1 3 12 (.exact 25) .ro (zeros 25) false [],
  row 0x3831 0x3831 0 0 2 (.exact 1) .ro [3] false [],
  row 0x3840 0x3840 1 3 12 (.exact 56) .ro (zeros 56) false [],
  row 0x3840 0x3840 0 0 2 (.exact 1) .ro [3] false [],
  row 0x3841 0x3841 1 3 4 (.exact 4) .rw (zeros 4) false [],
  row 0x3841 0x3841 0 0 2 (.exact 1) .ro [3] false [],
  row 0x3842 0x3842 0 0 2 (.exact 1) .ro [9] false [],
  row 0x3843 0x3843 1 9 4 (.exact 4) .ro (zeros 4) false [],
  row 0x3843 0x3843 0 0 2 (.exact 1) .ro [9] false [],
  row 0x3844 0x3844 1 9 4 (.exact 4) .ro (zeros 4) false [],
  row 0x3844 0x3844 0 0 2 (.exact 1) .ro [9] false [],
  row 0x3845 0x3845 1 9 4 (.exact 4) .ro (zeros 4) false [],
  row 0x3845 0x3845 0 0 2 (.exact 1) .ro [9] false []]

/-- Objects of chapter 09. -/
def objsPp : List ObjRow := [
  row 0x4000 0x4000 0 0 2 (.exact 1) .rw [1] false [.u 0 1 0 3],
  row 0x4001 0x4001 0 0 12 (.exact 15) .ro (zeros 15) false [],
  row 0x4002 0x4002 0 0 2 (.exact 1) .cmd (zeros 1) false [.u 0 1 1 2],
  row 0x4003 0x4003 0 0 3 (.exact 2) .rs [128, 0] true [.u 0 2 64 256],
  row 0x4004 0x4004 0 0 10 (.upTo 6) .rs [] true [],
  row 0x4005 0x4005 1 8 10 (.upTo 16) .rs [] true [],
  row 0x4005 0x4005 0 0 2 (.exact 1) .ro [8] false [],
  row 0x4006 0x4006 0 0 12 (.exact 5) .rs [1, 44, 1, 10, 0] true [.u 0 1 0 1, .u 1 2 1 3600, .u 3 2 1 600],
  row 0x4007 0x4007 0 0 3 (.exact 2) .rs [44, 1] true [.u 0 2 10 3600],
  row 0x4010 0x4010 1 32 12 (.exact 42) .rs (zeros 42) true [.u 0 1 0 1, .u 1 1 0 1],
  row 0x4010 0x4010 0 0 2 (.exact 1) .ro [32] false [],
  row 0x4011 0x4011 1 16 12 (.exact 4) .rs (zeros 4) true [.one 0 1 [0, 2, 3, 6]],
  row 0x4011 0x4011 0 0 2 (.exact 1) .ro [16] false [],
  row 0x4020 0x4020 1 8 12 (.exact 4) .rs (zeros 4) true [.zero 1 1],
  row 0x4020 0x4020 0 0 2 (.exact 1) .ro [8] false [],
  row 0x4030 0x4030 1 4096 5 (.exact 8) .rs (zeros 8) true [.mask 0 8 72057594037927935],
  row 0x4030 0x4030 0 0 3 (.exact 2) .ro [0, 16] false [],
  row 0x4100 0x4100 0 0 3 (.exact 2) .ro (zeros 2) false [],
  row 0x4100 0x4100 1 4096 12 (.exact 176) .rw (zeros 176) true [.mask 0 1 1, .zero 1 1, .zero 4 4, .code 8 8 62 2 2, .code 8 8 52 4 3, .code 8 8 29 2 2, .keep 8 8 0xFFFFFFFFFFFFFFF8],
  row 0x4101 0x4101 0 0 12 (.oneOf [4, 180]) .cmd [] false [.u 0 1 1 2, .zero 1 1],
  row 0x4102 0x4102 1 4096 5 (.exact 8) .ro (zeros 8) false [],
  row 0x4102 0x4102 0 0 3 (.exact 2) .ro [0, 16] false [],
  row 0x4200 0x4200 0 0 3 (.exact 2) .ro (zeros 2) false [],
  row 0x4200 0x4200 1 32768 12 (.exact 14) .rw (zeros 14) false [.u 6 2 0 4095, .mask 8 1 7, .u 9 1 0 2],
  row 0x4201 0x4201 0 0 12 (.oneOf [2, 16]) .cmd [] false [.u 0 1 1 3, .zero 1 1],
  row 0x4300 0x4301 1 32768 12 (.exact 32) .rw (zeros 32) true [.u 16 1 0 128, .mask 17 1 7, .u 18 1 0 2, .zero 19 1, .one 30 1 [0, 1, 2, 3, 4, 5, 6, 7, 255], .zero 31 1],
  row 0x4300 0x4300 0 0 3 (.exact 2) .ro [0, 128] false [],
  row 0x4301 0x4301 0 0 3 (.exact 2) .ro [0, 128] false [],
  row 0x4310 0x4310 0 0 12 (.exact 34) .cmd (zeros 34) false [.u 0 1 1 2, .zero 1 1],
  row 0x4400 0x4403 1 32768 12 (.exact 72) .ro (zeros 72) false [.mask 44 1 7, .one 45 1 [0, 1, 2, 3, 4, 5, 6, 7, 255], .u 46 1 0 2, .zero 47 1],
  row 0x4400 0x4400 0 0 3 (.exact 2) .ro [0, 128] false [],
  row 0x4401 0x4401 0 0 3 (.exact 2) .ro [0, 128] false [],
  row 0x4402 0x4402 0 0 3 (.exact 2) .ro [0, 128] false [],
  row 0x4403 0x4403 0 0 3 (.exact 2) .ro [0, 128] false [],
  row 0x4410 0x4410 0 0 12 (.oneOf [2, 66]) .cmd [] false [.u 0 1 1 3, .zero 1 1],
  row 0x4500 0x4500 1 256 12 (.exact 44) .rs (zeros 44) true [.u 0 1 0 2, .u 1 1 0 4, .zero 2 2],
  row 0x4500 0x4500 0 0 3 (.exact 2) .ro [0, 1] false [],
  row 0x4600 0x4600 1 16 12 (.exact 4) .rs (zeros 4) true [.u 0 1 0 1, .zero 1 1],
  row 0x4600 0x4600 0 0 2 (.exact 1) .ro [16] false [],
  row 0x4700 0x4700 0 0 12 (.exact 60) .ro (zeros 60) false [],
  row 0x4701 0x4701 0 0 4 (.exact 4) .rw (zeros 4) false [],
  row 0x4702 0x4702 0 0 2 (.exact 1) .ro [7] false [],
  row 0x4702 0x4702 1 7 4 (.exact 4) .ro (zeros 4) false []]

/-- Objects of chapter 10. -/
def objsTm : List ObjRow := [
  row 0x5000 0x5000 1 1 12 (.exact 15) .rs [16, 0, 48, 117, 0, 0, 0, 1, 0, 0, 0, 16, 0, 0, 75] true [.u 0 2 1 1024, .u 2 4 0 1048576, .u 6 4 1 131072, .u 10 4 0 4194304, .u 14 1 1 100],
  row 0x5000 0x5000 2 2 12 (.exact 15) .rs [4, 0, 48, 117, 0, 0, 0, 1, 0, 0, 0, 16, 0, 0, 75] true [.u 0 2 1 1024, .u 2 4 0 1048576, .u 6 4 1 131072, .u 10 4 0 4194304, .u 14 1 1 100],
  row 0x5000 0x5000 3 3 12 (.exact 15) .rs [32, 0, 48, 117, 0, 0, 0, 1, 0, 0, 0, 16, 0, 0, 75] true [.u 0 2 1 1024, .u 2 4 0 1048576, .u 6 4 1 131072, .u 10 4 0 4194304, .u 14 1 1 100],
  row 0x5000 0x5000 4 4 12 (.exact 15) .rs [64, 0, 48, 117, 0, 0, 0, 1, 0, 0, 0, 16, 0, 0, 75] true [.u 0 2 1 1024, .u 2 4 0 1048576, .u 6 4 1 131072, .u 10 4 0 4194304, .u 14 1 1 100],
  row 0x5000 0x5000 0 0 2 (.exact 1) .ro [4] false [],
  row 0x5001 0x5001 1 8 12 (.exact 16) .rs [1, 0, 16, 0, 48, 117, 0, 0, 0, 8, 0, 0, 255, 255, 75, 0] true [.u 2 2 1 1024, .oneOrRange 12 2 65535 1 1024, .zero 15 1],
  row 0x5001 0x5001 9 16 12 (.exact 16) .rs [2, 0, 16, 0, 48, 117, 0, 0, 0, 8, 0, 0, 255, 255, 75, 0] true [.u 2 2 1 1024, .oneOrRange 12 2 65535 1 1024, .zero 15 1],
  row 0x5001 0x5001 17 24 12 (.exact 16) .rs [3, 0, 16, 0, 48, 117, 0, 0, 0, 8, 0, 0, 255, 255, 75, 0] true [.u 2 2 1 1024, .oneOrRange 12 2 65535 1 1024, .zero 15 1],
  row 0x5001 0x5001 25 32 12 (.exact 16) .rs [4, 0, 16, 0, 48, 117, 0, 0, 0, 8, 0, 0, 255, 255, 75, 0] true [.u 2 2 1 1024, .oneOrRange 12 2 65535 1 1024, .zero 15 1],
  row 0x5001 0x5001 33 48 12 (.exact 16) .rs [5, 0, 16, 0, 48, 117, 0, 0, 0, 8, 0, 0, 255, 255, 75, 0] true [.u 2 2 1 1024, .oneOrRange 12 2 65535 1 1024, .zero 15 1],
  row 0x5001 0x5001 49 96 12 (.exact 16) .rs [0, 0, 16, 0, 48, 117, 0, 0, 0, 8, 0, 0, 255, 255, 75, 0] true [.u 2 2 1 1024, .oneOrRange 12 2 65535 1 1024, .zero 15 1],
  row 0x5001 0x5001 97 104 12 (.exact 16) .rs [1, 0, 16, 0, 48, 117, 0, 0, 0, 8, 0, 0, 255, 255, 75, 0] true [.u 2 2 1 1024, .oneOrRange 12 2 65535 1 1024, .zero 15 1],
  row 0x5001 0x5001 105 248 12 (.exact 16) .rs [0, 0, 16, 0, 48, 117, 0, 0, 0, 8, 0, 0, 255, 255, 75, 0] true [.u 2 2 1 1024, .oneOrRange 12 2 65535 1 1024, .zero 15 1],
  row 0x5001 0x5001 249 249 12 (.exact 16) .rs [1, 0, 16, 0, 48, 117, 0, 0, 0, 8, 0, 0, 255, 255, 75, 0] true [.u 2 2 1 1024, .oneOrRange 12 2 65535 1 1024, .zero 15 1],
  row 0x5001 0x5001 250 250 12 (.exact 16) .rs [2, 0, 16, 0, 48, 117, 0, 0, 0, 8, 0, 0, 255, 255, 75, 0] true [.u 2 2 1 1024, .oneOrRange 12 2 65535 1 1024, .zero 15 1],
  row 0x5001 0x5001 251 251 12 (.exact 16) .rs [3, 0, 16, 0, 48, 117, 0, 0, 0, 8, 0, 0, 255, 255, 75, 0] true [.u 2 2 1 1024, .oneOrRange 12 2 65535 1 1024, .zero 15 1],
  row 0x5001 0x5001 252 256 12 (.exact 16) .rs [0, 0, 16, 0, 48, 117, 0, 0, 0, 8, 0, 0, 255, 255, 75, 0] true [.u 2 2 1 1024, .oneOrRange 12 2 65535 1 1024, .zero 15 1],
  row 0x5001 0x5001 0 0 3 (.exact 2) .ro [0, 1] false [],
  row 0x5002 0x5002 1 1 12 (.exact 10) .rs [254, 0, 16, 0, 48, 117, 0, 0, 255, 255] true [.one 0 1 [0, 1, 2, 3, 4, 16, 17, 18, 254, 255], .zero 1 1, .u 2 2 1 1024, .oneOrRange 8 2 65535 1 1024],
  row 0x5002 0x5002 2 2 12 (.exact 10) .rs [0, 0, 16, 0, 48, 117, 0, 0, 255, 255] true [.one 0 1 [0, 1, 2, 3, 4, 16, 17, 18, 254, 255], .zero 1 1, .u 2 2 1 1024, .oneOrRange 8 2 65535 1 1024],
  row 0x5002 0x5002 3 3 12 (.exact 10) .rs [1, 0, 16, 0, 48, 117, 0, 0, 255, 255] true [.one 0 1 [0, 1, 2, 3, 4, 16, 17, 18, 254, 255], .zero 1 1, .u 2 2 1 1024, .oneOrRange 8 2 65535 1 1024],
  row 0x5002 0x5002 4 4 12 (.exact 10) .rs [2, 0, 16, 0, 48, 117, 0, 0, 255, 255] true [.one 0 1 [0, 1, 2, 3, 4, 16, 17, 18, 254, 255], .zero 1 1, .u 2 2 1 1024, .oneOrRange 8 2 65535 1 1024],
  row 0x5002 0x5002 5 5 12 (.exact 10) .rs [3, 0, 16, 0, 48, 117, 0, 0, 255, 255] true [.one 0 1 [0, 1, 2, 3, 4, 16, 17, 18, 254, 255], .zero 1 1, .u 2 2 1 1024, .oneOrRange 8 2 65535 1 1024],
  row 0x5002 0x5002 6 6 12 (.exact 10) .rs [4, 0, 16, 0, 48, 117, 0, 0, 255, 255] true [.one 0 1 [0, 1, 2, 3, 4, 16, 17, 18, 254, 255], .zero 1 1, .u 2 2 1 1024, .oneOrRange 8 2 65535 1 1024],
  row 0x5002 0x5002 7 512 12 (.exact 10) .rs [255, 0, 16, 0, 48, 117, 0, 0, 255, 255] true [.one 0 1 [0, 1, 2, 3, 4, 16, 17, 18, 254, 255], .zero 1 1, .u 2 2 1 1024, .oneOrRange 8 2 65535 1 1024],
  row 0x5002 0x5002 0 0 3 (.exact 2) .ro [0, 2] false [],
  row 0x5010 0x5010 1 1024 12 (.exact 8) .rs (zeros 8) true [.u 0 4 64 25000000, .u 4 4 1600 16777216],
  row 0x5010 0x5010 0 0 3 (.exact 2) .ro [0, 4] false [],
  row 0x5011 0x5011 1 1024 8 (.exact 8) .ro (zeros 8) false [],
  row 0x5011 0x5011 0 0 3 (.exact 2) .ro [0, 4] false [],
  row 0x5020 0x5020 1 256 12 (.exact 16) .rs (zeros 16) true [.ge 8 4 0, .ge 12 4 4],
  row 0x5020 0x5020 0 0 3 (.exact 2) .ro [0, 1] false [],
  row 0x5021 0x5021 1 56 3 (.exact 2) .rs (zeros 2) true [.u 0 2 0 256],
  row 0x5021 0x5021 0 0 2 (.exact 1) .ro [56] false [],
  row 0x5022 0x5022 1 256 12 (.exact 12) .ro (zeros 12) false [],
  row 0x5022 0x5022 0 0 3 (.exact 2) .ro [0, 1] false [],
  row 0x5030 0x5030 1 5 12 (.exact 22) .rs (zeros 22) true [.u 0 1 0 1, .u 1 1 0 1, .u 2 1 1 64, .zero 3 1, .u 10 4 0 999999999, .u 16 4 1000 1000000000, .u 20 2 64 9600],
  row 0x5030 0x5030 0 0 2 (.exact 1) .ro [5] false [],
  row 0x5031 0x5035 1 64 12 (.exact 6) .rs [255, 0, 64, 66, 15, 0] true [.zero 1 1],
  row 0x5031 0x5031 0 0 2 (.exact 1) .ro [64] false [],
  row 0x5032 0x5032 0 0 2 (.exact 1) .ro [64] false [],
  row 0x5033 0x5033 0 0 2 (.exact 1) .ro [64] false [],
  row 0x5034 0x5034 0 0 2 (.exact 1) .ro [64] false [],
  row 0x5035 0x5035 0 0 2 (.exact 1) .ro [64] false [],
  row 0x5040 0x5040 0 0 12 (.exact 12) .rs (zeros 12) true [.align 0 8 4096, .u 8 4 0 8192],
  row 0x5041 0x5041 0 0 4 (.exact 4) .rs [0, 32, 0, 0] true [.u 0 4 0 65536],
  row 0x5050 0x5050 1 8448 12 (.exact 20) .ro (zeros 20) false [],
  row 0x5050 0x5050 0 0 3 (.exact 2) .ro [0, 33] false [],
  row 0x5060 0x5060 0 0 12 (.exact 16) .ro (zeros 16) false [],
  row 0x5070 0x5070 0 0 12 (.exact 48) .ro (zeros 48) false [],
  row 0x5071 0x5071 0 0 4 (.exact 4) .rw (zeros 4) false [],
  row 0x5072 0x5072 0 0 2 (.exact 1) .ro [8] false [],
  row 0x5072 0x5072 1 8 4 (.exact 4) .ro (zeros 4) false []]

/-- Objects of chapter 11. -/
def objsWired : List ObjRow := [
  row 0x5800 0x5800 1 2 12 (.exact 4) .rs [0, 238, 5, 0] true [.u 0 1 0 6, .u 1 2 64 9600, .u 3 1 0 1],
  row 0x5800 0x5800 0 0 2 (.exact 1) .ro [2] false [],
  row 0x5801 0x5801 1 2 12 (.exact 16) .ro (zeros 16) false [],
  row 0x5801 0x5801 0 0 2 (.exact 1) .ro [2] false [],
  row 0x5802 0x5802 1 2 12 (.exact 144) .ro (zeros 144) false [],
  row 0x5802 0x5802 0 0 2 (.exact 1) .ro [2] false [],
  row 0x5803 0x5803 1 2 12 (.exact 12) .rs [0, 0, 255, 255, 0, 2, 0, 0, 0, 1, 0, 0] true [.u 0 1 0 2, .zero 1 1, .u 2 2 1 65535],
  row 0x5803 0x5803 0 0 2 (.exact 1) .ro [2] false [],
  row 0x5804 0x5804 1 2 12 (.exact 2) .ro (zeros 2) false [],
  row 0x5804 0x5804 0 0 2 (.exact 1) .ro [2] false [],
  row 0x5810 0x5810 1 2 12 (.exact 26) .rs (zeros 26) true [.u 0 1 0 1, .u 1 1 0 1, .u 2 1 0 2, .u 3 1 0 1, .u 16 1 0 3, .zero 17 1],
  row 0x5810 0x5810 0 0 2 (.exact 1) .ro [2] false [],
  row 0x5811 0x5811 1 8 12 (.exact 28) .rs (zeros 28) true [.u 0 1 0 1, .zero 1 1],
  row 0x5811 0x5811 0 0 2 (.exact 1) .ro [8] false [],
  row 0x5812 0x5812 1 32 12 (.exact 122) .rs (zeros 122) true [.u 0 1 0 1, .zero 1 1, .u 10 1 0 1, .zero 11 1, .u 38 1 0 1, .zero 39 1, .u 66 1 0 1, .zero 67 1, .u 94 1 0 1, .zero 95 1],
  row 0x5812 0x5812 0 0 2 (.exact 1) .ro [32] false [],
  row 0x5820 0x5820 0 0 12 (.exact 8) .rs [1, 0, 8, 32, 0, 128, 238, 5] true [.u 0 1 0 1, .u 1 1 0 7, .u 2 1 1 8, .u 6 2 64 1522],
  row 0x5821 0x5821 0 0 12 (.exact 6) .ro (zeros 6) false [],
  row 0x5822 0x5822 0 0 12 (.exact 64) .ro (zeros 64) false [],
  row 0x5830 0x5830 0 0 12 (.exact 16) .ro (zeros 16) false [],
  row 0x5831 0x5831 0 0 12 (.exact 12) .rs (zeros 12) true [.align 0 8 4096],
  row 0x5832 0x5832 0 0 12 (.exact 10) .cmd (zeros 10) false [.u 0 1 1 2, .zero 3 1, .u 4 2 0 4095, .align 4 2 4],
  row 0x5840 0x5840 1 32 12 (.exact 3) .rs (zeros 3) true [.u 0 1 0 2, .u 1 1 0 2, .u 2 1 0 1],
  row 0x5840 0x5840 0 0 2 (.exact 1) .ro [32] false [],
  row 0x5841 0x5841 0 0 4 (.exact 4) .ro (zeros 4) false [],
  row 0x5842 0x5842 0 0 4 (.exact 4) .rw (zeros 4) false [],
  row 0x5850 0x5850 1 2 3 (.exact 2) .rs [100, 0] true [.one 0 2 [100, 400, 1000]],
  row 0x5850 0x5850 0 0 2 (.exact 1) .ro [2] false [],
  row 0x5851 0x5851 0 0 12 (.between 4 36) .cmd [] false [.u 0 1 0 1, .u 1 1 0 127, .u 2 1 0 32, .u 3 1 0 32],
  row 0x5852 0x5852 0 0 4 (.exact 4) .rs [0, 194, 1, 0] true [.u 0 4 9600 3000000],
  row 0x5860 0x5860 1 4 4 (.exact 4) .rw (zeros 4) false [],
  row 0x5860 0x5860 0 0 2 (.exact 1) .ro [4] false [],
  row 0x5861 0x5861 0 0 2 (.exact 1) .ro [9] false [],
  row 0x5862 0x5862 1 36 4 (.exact 4) .ro (zeros 4) false [],
  row 0x5862 0x5862 0 0 2 (.exact 1) .ro [36] false []]

/-- Objects of chapter 12. -/
def objsDatum : List ObjRow := [
  row 0x1200 0x1200 0 0 9 (.exact 12) .ro (zeros 12) false [],
  row 0x1201 0x1201 0 0 5 (.exact 8) .rw [0, 0, 0, 0, 4, 0, 0, 0] false [.u 0 8 17171279250 17188459118],
  row 0x1202 0x1202 0 0 12 (.exact 16) .cmd (zeros 16) false [.u 0 1 0 1, .zero 1 3, .unlessU 0 1 0 10 4 0 999999999],
  row 0x1203 0x1203 0 0 1 (.exact 1) .rw (zeros 1) false [.u 0 1 0 1],
  row 0x1204 0x1204 0 0 12 (.exact 17) .ro (zeros 17) false [],
  row 0x1205 0x1205 0 0 12 (.exact 37) .ro (zeros 37) false [],
  row 0x1206 0x1206 0 0 5 (.exact 8) .ro (zeros 8) false [],
  row 0x1210 0x1210 1 4 12 (.exact 28) .rw (zeros 28) true [.u 0 1 0 2, .u 1 1 0 1, .zero 2 2],
  row 0x1210 0x1210 0 0 2 (.exact 1) .ro [4] false [],
  row 0x1211 0x1211 1 4 12 (.exact 20) .ro (zeros 20) false [],
  row 0x1211 0x1211 0 0 2 (.exact 1) .ro [4] false [],
  row 0x1220 0x1220 1 3 12 (.exact 2) .rw (zeros 2) true [.u 0 1 0 1, .u 1 1 0 2],
  row 0x1220 0x1220 0 0 2 (.exact 1) .ro [3] false [],
  row 0x1221 0x1221 1 3 2 (.exact 1) .ro (zeros 1) false [],
  row 0x1221 0x1221 0 0 2 (.exact 1) .ro [3] false [],
  row 0x1222 0x1222 0 0 12 (.exact 1) .cmd (zeros 1) false [.u 0 1 0 2],
  row 0x1230 0x1230 1 3 12 (.exact 8) .rw (zeros 8) true [.s 0 4 (-100000) (100000), .s 4 4 (-100000) (100000)],
  row 0x1230 0x1230 0 0 2 (.exact 1) .ro [3] false [],
  row 0x1231 0x1231 1 3 12 (.exact 20) .ro (zeros 20) false [],
  row 0x1231 0x1231 0 0 2 (.exact 1) .ro [3] false [],
  row 0x1240 0x1240 0 0 1 (.exact 1) .rs (zeros 1) true [.u 0 1 0 1],
  row 0x1241 0x1241 0 0 12 (.exact 29) .ro (zeros 29) false [],
  row 0x1250 0x1250 0 0 4 (.exact 4) .rw (zeros 4) false [],
  row 0x1251 0x1251 0 0 2 (.exact 1) .ro [6] false [],
  row 0x1251 0x1251 1 6 4 (.exact 4) .ro (zeros 4) false []]

/-- Objects of chapter 13. -/
def objsSec : List ObjRow := [
  row 0x6000 0x6000 0 0 3 (.exact 2) .ro (zeros 2) false [],
  row 0x6000 0x6000 1 8192 12 (.exact 48) .ro (zeros 48) false [],
  row 0x6001 0x6001 0 0 12 (.exact 48) .cmd (zeros 48) false [.u 0 1 1 2],
  row 0x6002 0x6002 0 0 2 (.exact 1) .rs [240] true [.u 0 1 1 255],
  row 0x6003 0x6003 0 0 2 (.exact 1) .ro (zeros 1) false [],
  row 0x6004 0x6004 0 0 12 (.oneOf [0, 24]) .cmd [] false [],
  row 0x6010 0x6010 0 0 2 (.exact 1) .ro [12] false [],
  row 0x6010 0x6010 1 12 12 (.exact 22) .ro (zeros 22) false [],
  row 0x6020 0x6020 0 0 4 (.exact 4) .rw (zeros 4) false [],
  row 0x6021 0x6021 0 0 2 (.exact 1) .ro [6] false [],
  row 0x6021 0x6021 1 6 4 (.exact 4) .ro (zeros 4) false [],
  row 0x6100 0x6100 0 0 10 (.upTo 57) .ro [] false [],
  row 0x6101 0x6101 0 0 10 (.upTo 1024) .ro [] false [],
  row 0x6102 0x6102 0 0 10 (.upTo 1024) .ro [] false [],
  row 0x6103 0x6103 0 0 12 (.exact 3) .ro (zeros 3) false [],
  row 0x6110 0x6110 0 0 12 (.exact 32) .cmd (zeros 32) false [],
  row 0x6111 0x6111 0 0 2 (.exact 1) .ro [8] false [],
  row 0x6111 0x6111 1 8 10 (.upTo 64) .ro (zeros 64) false [],
  row 0x6112 0x6112 0 0 12 (.exact 66) .cmd (zeros 66) false [.u 0 1 6 7, .zero 1 1],
  row 0x6120 0x6120 1 4 12 (.exact 65) .ro (zeros 65) false [],
  row 0x6120 0x6120 0 0 2 (.exact 1) .ro [4] false [],
  row 0x6121 0x6121 0 0 3 (.exact 2) .ro (zeros 2) false [],
  row 0x6122 0x6122 0 0 12 (.exact 243) .cmd (zeros 243) false [.u 0 1 1 3, .zero 3 1, .zero 6 2],
  row 0x6130 0x6130 0 0 12 (.exact 175) .cmd (zeros 175) false [.u 0 1 1 2, .mask 2 1 1, .zero 3 1]]

/-- Objects of chapter 14. -/
def objsDram : List ObjRow := [
  row 0x6400 0x6400 0 0 12 (.exact 6) .rs [224, 21, 1, 8, 16, 0] true [.one 0 2 [3200, 4000, 4400, 4800, 5200, 5600], .u 2 1 1 4, .one 3 1 [4, 8, 16], .one 4 1 [8, 16, 24, 32], .u 5 1 0 1],
  row 0x6400 0x6400 1 1 12 (.exact 6) .ro [224, 21, 1, 8, 16, 0] false [],
  row 0x6401 0x6401 0 0 12 (.exact 2) .rs [96, 32] true [.u 0 1 1 128],
  row 0x6402 0x6402 1 4 12 (.exact 14) .ro (zeros 14) false [],
  row 0x6402 0x6402 0 0 2 (.exact 1) .ro [4] false [],
  row 0x6403 0x6403 0 0 12 (.exact 28) .ro (zeros 28) false [],
  row 0x6404 0x6404 0 0 12 (.exact 2) .cmd (zeros 2) false [.u 0 1 1 2],
  row 0x6405 0x6405 0 0 2 (.exact 1) .rs (zeros 1) true [.mask 0 1 15],
  row 0x6406 0x6406 0 0 12 (.exact 80) .ro (zeros 80) false [],
  row 0x6407 0x6407 0 0 4 (.exact 4) .rw (zeros 4) false [],
  row 0x6408 0x6408 0 0 2 (.exact 1) .ro [6] false [],
  row 0x6408 0x6408 1 6 4 (.exact 4) .ro (zeros 4) false []]

/-- Objects of chapter 15. -/
def objsDma : List ObjRow := [
  row 0x6500 0x6500 0 0 2 (.exact 1) .ro [64] false [],
  row 0x6500 0x6500 1 64 12 (.exact 4) .rs (zeros 4) true [.u 0 1 0 1, .u 1 1 0 1],
  row 0x6501 0x6501 1 64 12 (.exact 28) .ro (zeros 28) false [],
  row 0x6501 0x6501 0 0 2 (.exact 1) .ro [64] false [],
  row 0x6502 0x6502 0 0 4 (.exact 4) .rw (zeros 4) false [],
  row 0x6503 0x6503 0 0 2 (.exact 1) .ro [3] false [],
  row 0x6503 0x6503 1 3 4 (.exact 4) .ro (zeros 4) false []]

/-- Objects of chapter 16. -/
def objsCores : List ObjRow := [
  row 0x6800 0x6800 0 0 2 (.exact 1) .ro [8] false [],
  row 0x6800 0x6800 1 8 12 (.exact 17) .ro (zeros 17) false [],
  row 0x6801 0x6801 0 0 3 (.exact 2) .rs [0, 2] true [.one 0 2 [0, 256, 512, 1024, 2048]],
  row 0x6801 0x6801 1 1 3 (.exact 2) .ro [0, 2] false [],
  row 0x6802 0x6802 0 0 3 (.exact 2) .rs [50, 0] true [.u 0 2 5 10000],
  row 0x6810 0x6810 0 0 3 (.exact 2) .ro (zeros 2) false [],
  row 0x6810 0x6810 1 512 12 (.exact 22) .ro (zeros 22) false [],
  row 0x6811 0x6811 0 0 3 (.exact 2) .ro [0, 16] false [],
  row 0x6811 0x6811 1 4096 12 (.exact 12) .ro (zeros 12) false [],
  row 0x6820 0x6820 0 0 12 (.exact 32) .ro (zeros 32) false [],
  row 0x6821 0x6821 0 0 4 (.exact 4) .rw (zeros 4) false [],
  row 0x6822 0x6822 0 0 2 (.exact 1) .ro [5] false [],
  row 0x6822 0x6822 1 5 4 (.exact 4) .ro (zeros 4) false []]

/-- Objects of chapter 17. -/
def objsPower : List ObjRow := [
  row 0x1300 0x1300 0 0 2 (.exact 1) .rs (zeros 1) true [.u 0 1 0 2],
  row 0x1300 0x1300 1 1 2 (.exact 1) .ro (zeros 1) false [],
  row 0x1301 0x1301 0 0 12 (.exact 16) .cmd (zeros 16) false [.u 0 1 1 2, .zero 1 1, .mask 2 2 63, .u 10 4 0 999999999],
  row 0x1302 0x1302 0 0 12 (.exact 5) .rs [4, 176, 4, 64, 0] true [.u 0 1 1 8, .one 1 2 [400, 800, 1200, 1600, 2000], .u 3 2 24 120],
  row 0x1303 0x1303 0 0 12 (.exact 4) .rs [144, 1, 24, 0] true [.one 0 2 [400, 800, 1200, 1600, 2000], .u 2 2 24 120],
  row 0x1304 0x1304 0 0 3 (.exact 2) .rs [7, 0] true [.mask 0 2 63],
  row 0x1310 0x1310 0 0 12 (.exact 8) .rs [0, 5, 240, 0, 80, 0, 9, 0] true [.u 0 2 200 1440, .u 2 2 40 65535, .u 4 2 0 400, .mask 6 1 15, .zero 7 1],
  row 0x1311 0x1311 1 16 12 (.exact 26) .rs (zeros 26) true [.u 1 1 0 8],
  row 0x1311 0x1311 0 0 2 (.exact 1) .ro [16] false [],
  row 0x1312 0x1312 1 8 3 (.exact 2) .rw [176, 4] false [.one 0 2 [400, 800, 1200, 1600, 2000]],
  row 0x1312 0x1312 0 0 2 (.exact 1) .ro [8] false [],
  row 0x1320 0x1320 0 0 12 (.exact 11) .ro (zeros 11) false [],
  row 0x1321 0x1321 0 0 12 (.exact 36) .ro (zeros 36) false [],
  row 0x1322 0x1322 1 112 4 (.exact 4) .ro (zeros 4) false [],
  row 0x1322 0x1322 0 0 2 (.exact 1) .ro [112] false [],
  row 0x1323 0x1323 0 0 12 (.exact 18) .ro (zeros 18) false [],
  row 0x1324 0x1324 0 0 12 (.exact 5) .ro (zeros 5) false [],
  row 0x1330 0x1330 0 0 4 (.exact 4) .rw (zeros 4) false [],
  row 0x1331 0x1331 0 0 2 (.exact 1) .ro [8] false [],
  row 0x1331 0x1331 1 8 4 (.exact 4) .ro (zeros 4) false []]

/-- Objects of chapter 18. -/
def objsPair : List ObjRow := [
  row 0x1400 0x1400 0 0 12 (.exact 4) .rs [0, 24, 100, 0] true [.u 0 1 0 1, .u 1 1 16 28, .u 2 2 10 1000],
  row 0x1401 0x1401 0 0 12 (.exact 26) .ro (zeros 26) false [],
  row 0x1402 0x1402 0 0 2 (.exact 1) .cmd (zeros 1) false [.u 0 1 1 2],
  row 0x1403 0x1403 0 0 3 (.exact 2) .rs (zeros 2) true [.oneOrRange 0 2 0 16 4095],
  row 0x1404 0x1404 0 0 12 (.exact 28) .ro (zeros 28) false [],
  row 0x1405 0x1405 0 0 4 (.exact 4) .rw (zeros 4) false [],
  row 0x1406 0x1406 0 0 2 (.exact 1) .ro [6] false [],
  row 0x1406 0x1406 1 6 4 (.exact 4) .ro (zeros 4) false []]

/-- Objects of chapter 19. -/
def objsLog : List ObjRow := [
  row 0x7F00 0x7F00 0 0 12 (.exact 13) .ro (zeros 13) false [],
  row 0x7F01 0x7F01 1 1024 12 (.exact 32) .ro (zeros 32) false [],
  row 0x7F01 0x7F01 0 0 3 (.exact 2) .ro [0, 4] false [],
  row 0x7F02 0x7F02 0 0 4 (.exact 4) .cmd (zeros 4) false [],
  row 0x7F10 0x7F10 1 16 2 (.exact 1) .rs [90] true [.u 0 1 50 100],
  row 0x7F10 0x7F10 0 0 2 (.exact 1) .ro [16] false [],
  row 0x7F11 0x7F11 0 0 12 (.exact 12) .ro (zeros 12) false [],
  row 0x7F12 0x7F12 0 0 4 (.exact 4) .rw (zeros 4) false [],
  row 0x7F13 0x7F13 0 0 2 (.exact 1) .ro [5] false [],
  row 0x7F13 0x7F13 1 5 4 (.exact 4) .ro (zeros 4) false []]

/-- Objects of chapter 20. -/
def objsUpdate : List ObjRow := [
  row 0x1600 0x1600 0 0 4 (.exact 4) .cmd (zeros 4) false [],
  row 0x1601 0x1601 0 0 12 (.oneOf [4, 516]) .cmd [] false [.u 0 1 1 5, .zero 1 1],
  row 0x1602 0x1602 0 0 12 (.between 5 1028) .wo [] false [],
  row 0x1603 0x1603 0 0 12 (.exact 23) .ro (zeros 23) false [],
  row 0x1604 0x1604 0 0 3 (.exact 2) .rs [88, 2] true [.u 0 2 60 3600],
  row 0x1605 0x1605 1 2 12 (.exact 21) .ro (zeros 21) false [],
  row 0x1605 0x1605 0 0 2 (.exact 1) .ro [2] false [],
  row 0x1610 0x1610 0 0 1 (.exact 1) .rw (zeros 1) true [.u 0 1 0 1],
  row 0x1620 0x1620 0 0 10 (.upTo 16) .rs [] true [],
  row 0x1630 0x1630 0 0 4 (.exact 4) .rw (zeros 4) false [],
  row 0x1631 0x1631 0 0 2 (.exact 1) .ro [4] false [],
  row 0x1631 0x1631 1 4 4 (.exact 4) .ro (zeros 4) false []]

/-- Objects of chapter 21. -/
def objsClock : List ObjRow := [
  row 0x1000 0x1000 0 0 12 (.exact 9) .ro (zeros 9) false [],
  row 0x1001 0x1001 0 0 12 (.exact 3) .rs [1, 60, 0] true [.u 0 1 0 1, .oneOrRange 1 2 0 10 3600],
  row 0x1002 0x1002 0 0 2 (.exact 1) .ro (zeros 1) false [],
  row 0x1003 0x1003 0 0 12 (.exact 15) .ro (zeros 15) false [],
  row 0x1004 0x1004 0 0 12 (.exact 14) .ro (zeros 14) false [],
  row 0x1005 0x1005 0 0 4 (.exact 4) .rw (zeros 4) false [],
  row 0x1006 0x1006 0 0 2 (.exact 1) .ro [2] false [],
  row 0x1006 0x1006 1 2 4 (.exact 4) .ro (zeros 4) false []]

/-- Objects of chapter 22. -/
def objsTherm : List ObjRow := [
  row 0x1700 0x1700 0 0 2 (.exact 1) .ro [9] false [],
  row 0x1700 0x1700 1 9 6 (.exact 2) .ro (zeros 2) false [],
  row 0x1701 0x1701 0 0 2 (.exact 1) .rs [110] true [.u 0 1 80 118],
  row 0x1702 0x1702 0 0 12 (.exact 5) .ro (zeros 5) false [],
  row 0x1703 0x1703 0 0 4 (.exact 4) .rw (zeros 4) false [],
  row 0x1704 0x1704 0 0 2 (.exact 1) .ro [2] false [],
  row 0x1704 0x1704 1 2 4 (.exact 4) .ro (zeros 4) false []]

/-- Chapter tables by the index range of *Object index ranges* that holds them (R36). -/
def objRows (idx : Nat) : List ObjRow :=
  if idx < 0x1000 then objsDict
  else if idx < 0x1100 then objsClock
  else if idx < 0x1200 then objsFabric
  else if idx < 0x1300 then objsDatum
  else if idx < 0x1400 then objsPower
  else if idx < 0x1500 then objsPair
  else if idx < 0x1700 then objsUpdate
  else if idx < 0x2000 then objsTherm
  else if idx < 0x2050 then objsTrx
  else if idx < 0x2100 then objsSynth
  else if idx < 0x3000 then objsPhy
  else if idx < 0x3500 then objsMac
  else if idx < 0x3800 then objsPlan
  else if idx < 0x4000 then objsChain
  else if idx < 0x5000 then objsPp
  else if idx < 0x5800 then objsTm
  else if idx < 0x6000 then objsWired
  else if idx < 0x6400 then objsSec
  else if idx < 0x6500 then objsDram
  else if idx < 0x6800 then objsDma
  else if idx < 0x7000 then objsCores
  else if idx < 0x7F00 then objsSynth
  else if idx < 0x7F80 then objsLog
  else objsSynth

/-- The row of an object, when the device has it. -/
def objRow? (idx el : Nat) : Option ObjRow :=
  (objRows idx).find? fun r => decide (r.ilo ≤ idx ∧ idx ≤ r.ihi ∧ r.elo ≤ el ∧ el ≤ r.ehi)

/-- Is any element of the index present (R36, R37)? -/
def hasIndex (idx : Nat) : Bool :=
  (objRows idx).any fun r => decide (r.ilo ≤ idx ∧ idx ≤ r.ihi)

/-- The default of an object as its table gives it; empty for an absent one. -/
def defaultOf (idx el : Nat) : Bytes :=
  match objRow? idx el with
  | some r => r.dflt
  | none => []

end Sys2Proof.Machine
end

