-- ==== Sys2Proof/Machine/Ops.lean ====
section
/-! DEFINITION. The named operations every unit shares: sparse tables, little-endian values, the object store,
registers and memory, Datum arithmetic and free values. -/

namespace Sys2Proof.Machine
open Sys2Proof

/-- What one command answers. -/
abbrev Out := Host.Outcome State Fault Refusal

/-! ### Sparse tables -/

/-- The value a table lists at a key. -/
def tget {α : Type} : Tab α → Nat → Option α
  | [], _ => none
  | (k', v) :: r, k => if k' = k then some v else tget r k

/-- The table with a key listed, keys kept rising. -/
def tput {α : Type} : Tab α → Nat → α → Tab α
  | [], k, v => [(k, v)]
  | (k', v') :: r, k, v =>
    if k < k' then (k, v) :: (k', v') :: r
    else if k = k' then (k, v) :: r
    else (k', v') :: tput r k v

/-- The table without a key. -/
def tdel {α : Type} : Tab α → Nat → Tab α
  | [], _ => []
  | (k', v') :: r, k => if k' = k then tdel r k else (k', v') :: tdel r k

/-- Every key of the table is above the bound and the keys rise strictly. -/
def risesFrom {α : Type} : Nat → Tab α → Bool
  | _, [] => true
  | b, (k, _) :: r => decide (b ≤ k) && risesFrom (k + 1) r

/-- The table's keys rise strictly. -/
def tabWf {α : Type} (t : Tab α) : Bool := risesFrom 0 t

/-- A listed value, or the one an absent key has. -/
def tgetD {α : Type} (t : Tab α) (k : Nat) (d : α) : α := (tget t k).getD d

/-- A table whose absent keys have value `d`: writing `d` removes the entry. -/
def tputD {α : Type} [DecidableEq α] (t : Tab α) (k : Nat) (v d : α) : Tab α :=
  if v = d then tdel t k else tput t k v

/-! ### Vectors by number -/

def vget {α : Type} {n : Nat} (v : Vector α n) (i : Nat) (d : α) : α := (v.toList[i]?).getD d

def vset {α : Type} {n : Nat} (v : Vector α n) (i : Nat) (x : α) : Vector α n := v.setIfInBounds i x

def vmod {α : Type} {n : Nat} (v : Vector α n) (i : Fin n) (f : α → α) : Vector α n := v.set i (f v[i])

/-- The first of `k` numbers from `i` that passes a test. -/
def findFrom (p : Nat → Bool) : Nat → Nat → Option Nat
  | 0, _ => none
  | k + 1, i => if p i then some i else findFrom p k (i + 1)

/-- The lowest number below `n` that passes a test. -/
def findLt (n : Nat) (p : Nat → Bool) : Option Nat := findFrom p n 0

/-! ### Values (R35) -/

/-- A number as `w` bytes, least significant first. -/
def le : Nat → Nat → Bytes
  | 0, _ => []
  | w + 1, v => BitVec.ofNat 8 v :: le w (v / 256)

/-- The number a sequence of bytes is, least significant first. -/
def leNat : Bytes → Nat
  | [] => 0
  | b :: r => b.toNat + 256 * leNat r

/-- An integer in two's complement. -/
def leInt (w : Nat) (v : Int) : Bytes := le w (v % (2 ^ (8 * w) : Nat)).toNat

/-- A number read as two's complement of `w` bytes. -/
def sgn (w v : Nat) : Int := if v < 2 ^ (8 * w - 1) then (v : Int) else (v : Int) - ((2 ^ (8 * w) : Nat) : Int)

/-- `n` bytes of a value from an offset. -/
def sub (b : Bytes) (off n : Nat) : Bytes := (b.drop off).take n

/-- An unsigned field of a value. -/
def fld (b : Bytes) (off w : Nat) : Nat := leNat (sub b off w)

/-- A signed field of a value. -/
def fldI (b : Bytes) (off w : Nat) : Int := sgn w (fld b off w)

/-- A value with some bytes replaced. -/
def patch (b : Bytes) (off : Nat) (x : Bytes) : Bytes := b.take off ++ x ++ b.drop (off + x.length)

/-- A value with one field replaced. -/
def setFld (b : Bytes) (off w v : Nat) : Bytes := patch b off (le w v)

def boolByte (b : Bool) : Bytes := [if b then 1 else 0]

/-- A bit of a number. -/
def bit (n i : Nat) : Bool := n.testBit i

/-- A number with one bit set or cleared. -/
def setBit (n i : Nat) (b : Bool) : Nat :=
  if b then (if n.testBit i then n else n + 2 ^ i) else (if n.testBit i then n - 2 ^ i else n)

/-- Bits `lo` and up, `w` of them. -/
def bits (n lo w : Nat) : Nat := n / 2 ^ lo % 2 ^ w

/-- Number of one bits among the lowest `w`. -/
def popcount : Nat → Nat → Nat
  | 0, _ => 0
  | w + 1, n => n % 2 + popcount w (n / 2)

/-- `a / b` rounded up. -/
def cdiv (a b : Nat) : Nat := (a + b - 1) / b

/-- Big-endian number of a packet's bytes. -/
def beNat (b : Bytes) : Nat := leNat b.reverse

def be (w v : Nat) : Bytes := (le w v).reverse

/-! ### Datum (R313) -/

/-- Datum in units of 2^-32 ns. -/
def DatumVal.units (d : DatumVal) : Nat := (d.sec * 1000000000 + d.ns) * 4294967296 + d.frac

/-- The Datum of a number of units; the seconds wrap at 2^48 (R313). -/
def datumOf (u : Nat) : DatumVal :=
  { sec := u / 4294967296 / 1000000000 % 2 ^ 48, ns := u / 4294967296 % 1000000000, frac := u % 4294967296 }

/-- Datum in whole nanoseconds. -/
def DatumVal.nanos (d : DatumVal) : Nat := d.sec * 1000000000 + d.ns

/-- A DATUM value: 6 bytes of seconds, 4 of nanoseconds, 2 of fraction in 2^-16 ns (R9, R35). -/
def DatumVal.enc (d : DatumVal) : Bytes := le 6 d.sec ++ le 4 d.ns ++ le 2 (d.frac / 65536)

/-- The Datum that 12 bytes of a value hold. -/
def datumAt (b : Bytes) (off : Nat) : DatumVal :=
  { sec := fld b off 6, ns := fld b (off + 6) 4, frac := fld b (off + 10) 2 * 65536 }

def DatumVal.addNs (d : DatumVal) (n : Nat) : DatumVal := datumOf (d.units + n * 4294967296)

/-- Datum `n` ns later, or earlier for a negative `n`, not below zero. -/
def DatumVal.shiftNs (d : DatumVal) (n : Int) : DatumVal := datumOf ((d.units : Int) + n * 4294967296).toNat

/-- `d` is at or before `e`. -/
def DatumVal.le (d e : DatumVal) : Bool := decide (d.units ≤ e.units)

/-! ### The object store -/

/-- The key of an object in the store. -/
def okey (idx el : Nat) : Nat := idx * 65536 + el

/-- The default of an object: COMPAT_LEVEL's is COMPAT_MAX, and those of its two limits, of SILICON_REV, of SERIAL and of
FW_VERSION are the part's and the image's own; every other is its table's (*Dictionary objects*). -/
def State.dflt (s : State) (idx el : Nat) : Bytes :=
  if idx = 0x0004 ∧ (el = 0 ∨ el = 2) then le 2 s.part.compatMax
  else if idx = 0x0004 ∧ el = 1 then le 2 s.part.compatMin
  else if idx = 0x0001 ∧ el = 0 then le 2 s.part.siliconRev
  else if idx = 0x0002 ∧ el = 0 then s.part.serial
  else if idx = 0x0003 ∧ el = 0 then le 4 s.part.fwVersion
  else if idx = 0x0004 ∧ el = 3 then le 2 s.part.compatActive
  else defaultOf idx el

/-- The stored value of an object: its default when nothing else has been stored. -/
def State.objB (s : State) (idx el : Nat) : Bytes := (tget s.obj (okey idx el)).getD (s.dflt idx el)

/-- Store a value; the default is stored as absence. -/
def State.setObj (s : State) (idx el : Nat) (v : Bytes) : State :=
  { s with obj := tputD s.obj (okey idx el) v (s.dflt idx el) }

/-- A stored value as an unsigned number. -/
def State.objN (s : State) (idx el : Nat) : Nat := leNat (s.objB idx el)

/-- An unsigned field of a stored value. -/
def State.objF (s : State) (idx el off w : Nat) : Nat := fld (s.objB idx el) off w

/-- A signed field of a stored value. -/
def State.objI (s : State) (idx el off w : Nat) : Int := fldI (s.objB idx el) off w

def State.setObjF (s : State) (idx el off w v : Nat) : State := s.setObj idx el (setFld (s.objB idx el) off w v)

/-- Replace bytes of a stored value. -/
def State.patchObj (s : State) (idx el off : Nat) (x : Bytes) : State := s.setObj idx el (patch (s.objB idx el) off x)

/-- Add to a field of `w` bytes, wrapping (R34). -/
def State.addObjF (s : State) (idx el off w n : Nat) : State :=
  s.setObjF idx el off w ((s.objF idx el off w + n) % 2 ^ (8 * w))

/-- Add to the `k`th U32 of a statistics record. -/
def State.stat (s : State) (idx el k n : Nat) : State := s.addObjF idx el (4 * k) 4 n

/-- Add to the `k`th U64 of a statistics record. -/
def State.stat64 (s : State) (idx el k n : Nat) : State := s.addObjF idx el (8 * k) 8 n

/-- The elements of an index that hold another value than their default. -/
def setElements (s : State) (idx : Nat) : List Nat :=
  (s.obj.filter fun p => p.1 / 65536 == idx).map fun p => p.1 % 65536

/-! ### Unit-window registers and memory -/

/-- Host ring blocks and BAR0 live at PCIe addresses; the model keeps them above every core address. -/
def bar0 : Nat := 2 ^ 60

/-- Radio window of a radio. -/
def radioWindow (r : Nat) : Nat := 0x11000000 + 0x400000 * r

/-- Packet ring blocks (R295): core receive ring 0, core transmit ring 0, host receive ring 0, host transmit ring 0. -/
def coreRxBase : Nat := 0x13040000
def coreTxBase : Nat := 0x13040800
def hostRxBase : Nat := bar0 + 0x10000
def hostTxBase : Nat := bar0 + 0x10800

/-- The MSI-X table of BAR0, 32 entries of 16 bytes, and its pending bits (R304). -/
def msixTable : Nat := bar0 + 0x20000
def msixPending : Nat := bar0 + 0x21000

/-- Is the address at offset `off` of one of `n` blocks of `stride` bytes? -/
def inBlocks (a base stride n off : Nat) : Bool :=
  decide (base ≤ a ∧ a < base + stride * n) && (a - base) % stride == off

/-- The reset value of a register: 0 but for the ring sizes, the training seed and the mask bits of the MSI-X table, which
PCI's own table resets to 1 (log entry 43). -/
def regDefault (a : Nat) : Nat :=
  if (List.range 3).any fun r => a == radioWindow r + 8 || a == radioWindow r + 0x28 then 4
  else if inBlocks a coreRxBase 0x40 16 8 || inBlocks a coreTxBase 0x40 4 8 ||
      inBlocks a hostRxBase 0x40 8 8 || inBlocks a hostTxBase 0x40 4 8 then 0x304
  else if inBlocks a 0x10100000 0x40 64 8 then 4
  else if a = 0x10700018 || inBlocks a msixTable 16 32 12 then 1
  else 0

/-- A register that no typed field holds. -/
def State.regAt (s : State) (a : Nat) : Nat := tgetD s.reg a (regDefault a)

def State.setReg (s : State) (a v : Nat) : State := { s with reg := tputD s.reg a v (regDefault a) }

/-- What an unlisted byte of memory reads as (log entry 6). -/
def memDefault : Byte := 0

/-- The canonical form of memory: addresses rising, nothing listed that equals the default. -/
def memWf (m : List Host.Cell) : Bool := tabWf m && m.all fun c => decide (c.2 ≠ memDefault)

/-- One byte of memory. -/
def readMem (m : List Host.Cell) (a : Nat) : Byte := tgetD m a memDefault

/-- Memory with one byte written. -/
def writeMem (m : List Host.Cell) (a : Nat) (b : Byte) : List Host.Cell := tputD m a b memDefault

def readMemN (m : List Host.Cell) (a : Nat) : Nat → Bytes
  | 0 => []
  | n + 1 => readMem m a :: readMemN m (a + 1) n

/-- Memory with successive bytes written. -/
def writeMemN (m : List Host.Cell) (a : Nat) : Bytes → List Host.Cell
  | [] => m
  | b :: r => writeMemN (writeMem m a b) (a + 1) r

/-! ### Free values (log entry 1) -/

/-- A number the spec leaves open, and the state that will draw another. -/
def State.draw (s : State) : Nat × State := (Config.freeNat s.free, { s with free := s.free + 1 })

/-- A free number in `[lo, hi]`: the spec states the bounds and no value. -/
def State.drawIn (s : State) (lo hi : Nat) : Nat × State :=
  (lo + Config.freeNat s.free % (hi - lo + 1), { s with free := s.free + 1 })

/-- `n` free bytes (a nonce, an ephemeral key). -/
def State.drawBytes (s : State) (n : Nat) : Bytes × State :=
  ((List.range n).map fun i => Config.freeByte (s.free + i), { s with free := s.free + n })

/-! ### Commands and the reset line -/

/-- A state with the queue of another: a command's effect is on everything but the queue. -/
def State.keepQueue (s t : State) : State := { t with pending := s.pending }

/-- A command to a unit outside the AON domain: while reset is asserted or the device is off it reaches no unit
and nothing changes (R473; log entry 7). -/
def live (s : State) (f : State → State) : Out :=
  .next (if s.start.phase = .released then s.keepQueue (f s) else s)

/-- A command the AON domain takes at any time. -/
def aon (s : State) (f : State → State) : Out := .next (s.keepQueue (f s))

/-- What a unit answers to an operation: the abort code and detail word of *Abort codes*. -/
abbrev Res := Nat × Nat

def ok : Res := (0, 0)

/-- Abort codes (R66). -/
def aNoObject : Nat := 1
def aNoElement : Nat := 2
def aAccess : Nat := 3
def aType : Nat := 4
def aRange : Nat := 5
def aState : Nat := 6
def aStageOnly : Nat := 7
def aLocked : Nat := 8
def aBusy : Nat := 9
def aFull : Nat := 10
def aClosure : Nat := 11
def aStakePast : Nat := 12
def aAborted : Nat := 13
def aAuth : Nat := 14
def aTimeout : Nat := 15
def aRefused : Nat := 16

/-- A detail word: unit ID and reason (R66). -/
def det (unit reason : Nat) : Nat := unit * 0x1000000 + reason

/-- A refusal by a unit. -/
def abortBy (code unit reason : Nat) : Res := (code, det unit reason)

/-- A refusal by the dictionary engine (unit 70h). -/
def dictAbort (code reason : Nat) : Res := (code, det 0x70 reason)

/-- The unit IDs of *Unit IDs*; no other code appears in a record or a detail word (R13). -/
def unitIds : List Nat :=
  [0x01, 0x02, 0x03, 0x04, 0x10, 0x11, 0x12, 0x13, 0x14, 0x15, 0x20, 0x21, 0x30, 0x31, 0x32, 0x40, 0x41, 0x50, 0x51, 0x52, 0x60, 0x70]

/-- The unit ID of a radio (R13). -/
def radioUnit (r : Nat) : Nat := 2 + r

end Sys2Proof.Machine
end

