-- ==== Sys2Proof/Machine/Check.lean ====
section
/-! DEFINITION. The checks the dictionary engine makes of a value before any unit sees it: length by type, stated range,
well-formed UTF-8 (00_scope R6, R9; 02_object_dictionary R37, R501). -/

namespace Sys2Proof.Machine
open Sys2Proof

/-- Is a length one that the object's type allows (R37)? -/
def lenOk : Len → Nat → Bool
  | .exact n, k => k == n
  | .upTo n, k => decide (k ≤ n)
  | .oneOf l, k => l.contains k
  | .between lo hi, k => decide (lo ≤ k ∧ k ≤ hi)

/-- Does a field hold a value of its stated range? -/
def chkOk (v : Bytes) : Chk → Bool
  | .u off w lo hi => decide (lo ≤ fld v off w ∧ fld v off w ≤ hi)
  | .s off w lo hi => decide (lo ≤ fldI v off w ∧ fldI v off w ≤ hi)
  | .one off w vs => vs.contains (fld v off w)
  | .oneOrRange off w x lo hi => decide (fld v off w = x ∨ (lo ≤ fld v off w ∧ fld v off w ≤ hi))
  | .zero _ _ => true
  | .keep _ _ _ => true
  | .mask off w m => (List.range (8 * w)).all fun i => !bit (fld v off w) i || bit m i
  | .code off w lo n hi => decide (fld v off w / 2 ^ lo % 2 ^ n ≤ hi)
  | .align off w n => fld v off w % n == 0
  | .below off w off' w' k => decide (fld v off w < k * fld v off' w')
  | .ge off w than => decide (fld v than w ≤ fld v off w)
  | .unlessU off w x off' w' lo hi => decide (fld v off w = x ∨ (lo ≤ fld v off' w' ∧ fld v off' w' ≤ hi))

/-- A value with its reserved fields read as zero (R5; log entry 45). -/
def scrub (r : ObjRow) (v : Bytes) : Bytes :=
  r.chks.foldl (fun v c =>
    match c with
    | .zero off w => v.zipIdx.map fun p => if off ≤ p.2 ∧ p.2 < off + w then 0 else p.1
    | .keep off w m => if off + w ≤ v.length then setFld v off w (fld v off w &&& m) else v
    | _ => v) v

/-- The lengths of the runs of SLOT_RUNS and their kinds: 1 to 64 ms in 250 µs units less one, kinds 0 to 3 (R205). -/
def runsOk (v : Bytes) : Bool :=
  (List.range (fld v 0 1)).all fun k => decide (fld v (4 + 4 * k) 1 ≤ 3 ∧ 3 ≤ fld v (5 + 4 * k) 1)

/-- Continuation bytes that the lead byte of a UTF-8 sequence asks for, and the bounds of the first of them. -/
def utf8Lead (b : Nat) : Option (Nat × Nat × Nat) :=
  if b < 0x80 then some (0, 0x80, 0xBF)
  else if 0xC2 ≤ b ∧ b ≤ 0xDF then some (1, 0x80, 0xBF)
  else if b = 0xE0 then some (2, 0xA0, 0xBF)
  else if b = 0xED then some (2, 0x80, 0x9F)
  else if 0xE1 ≤ b ∧ b ≤ 0xEF then some (2, 0x80, 0xBF)
  else if b = 0xF0 then some (3, 0x90, 0xBF)
  else if 0xF1 ≤ b ∧ b ≤ 0xF3 then some (3, 0x80, 0xBF)
  else if b = 0xF4 then some (3, 0x80, 0x8F)
  else none

/-- Well-formed UTF-8: `need` continuation bytes are owed, the next of them between `lo` and `hi`. -/
def utf8Run : Nat → Nat → Nat → Bytes → Bool
  | need, _, _, [] => need == 0
  | 0, _, _, b :: r =>
    match utf8Lead b.toNat with
    | some (n, lo, hi) => utf8Run n lo hi r
    | none => false
  | n + 1, lo, hi, b :: r => if lo ≤ b.toNat ∧ b.toNat ≤ hi then utf8Run n 0x80 0xBF r else false

def utf8Ok (v : Bytes) : Bool := utf8Run 0 0x80 0xBF v

/-- The fields of TPO_CFG that its mode uses (R322). -/
def tpoOk (v : Bytes) : Bool :=
  let m := fld v 0 1
  let period := fld v 16 8
  let width := fld v 24 4 * 65536
  m == 0 || (decide (fld v 10 4 ≤ 999999999 ∧ 524288 ≤ width) &&
    (m != 2 || decide (65536000 ≤ period ∧ period ≤ 65536000000000000 ∧ width + 524288 ≤ period)))

/-- The range that the type itself states (R9). -/
def typeOk (typ : Nat) (v : Bytes) : Bool :=
  if typ = 1 then decide (leNat v ≤ 1)
  else if typ = 9 then decide (fld v 6 4 ≤ 999999999)
  else if typ = 0xB then utf8Ok v
  else true

/-- The checks of type and range (R37, R501). -/
def valueRes (r : ObjRow) (v : Bytes) : Res :=
  if lenOk r.len v.length = false then dictAbort aType 0x13
  else if v.isEmpty = true ∧ r.len ≠ .exact 0 then ok
  else if typeOk r.typ v = false ∨ (r.chks.all (chkOk v)) = false then dictAbort aRange 0x14
  else ok

end Sys2Proof.Machine
end

