-- ==== Sys2Proof/Machine/Flags.lean ====
section
/-! DEFINITION. Sticky status flags with their companion event counters (R32 to R34), and what a unit delivers to
the log and to the high-water watch (R448, R453, R458, R503). -/

namespace Sys2Proof.Machine
open Sys2Proof

/-- The flag objects of the device: index of the flags, and index of Radio A's (or the only) counters. -/
def flagBanks : List (Nat × Nat) :=
  [(0x1104, 0x1105), (0x2040, 0x2041), (0x2051, 0x2053), (0x2150, 0x2152), (0x3401, 0x3403), (0x3503, 0x3505),
   (0x3841, 0x3843), (0x4701, 0x4702), (0x5071, 0x5072), (0x5860, 0x5862), (0x1250, 0x1251), (0x6020, 0x6021),
   (0x6407, 0x6408), (0x6502, 0x6503), (0x6821, 0x6822), (0x1330, 0x1331), (0x1405, 0x1406), (0x7F12, 0x7F13),
   (0x1630, 0x1631), (0x1005, 0x1006), (0x1703, 0x1704)]

/-- The banks that have one object of counters for each radio. -/
def perRadioBanks : List Nat := [0x2051, 0x2150, 0x3401, 0x3503, 0x3841]

/-- Is the object a flag object (R53)? -/
def isFlagObj (idx : Nat) : Bool := flagBanks.any fun p => p.1 == idx

/-- The companion counter of a flag bit: index and element (R34; PORT_EVT counts 9 to a port). -/
def counterOf (idx el b : Nat) : Nat × Nat :=
  let base := ((flagBanks.find? fun p => p.1 == idx).map (·.2)).getD 0
  if idx = 0x5860 then (base, 9 * (el - 1) + b + 1)
  else if perRadioBanks.contains idx then (base + (el - 1), b + 1)
  else (base, b + 1)

/-- A setting event: the flag is set and its counter counts it, whether or not the flag was set (R32). -/
def State.setFlag (s : State) (idx el b : Nat) : State :=
  let s := s.setObj idx el (le 4 (setBit (s.objN idx el) b true))
  let c := counterOf idx el b
  s.setObj c.1 c.2 (le 4 ((s.objN c.1 c.2 + 1) % 2 ^ 32))

/-- Set flags of a radio's bank. -/
def State.radioFlag (s : State) (idx : Nat) (r : Nat) (b : Nat) : State := s.setFlag idx (r + 1) b

/-- A write of 1 clears a flag; the set bits of the mask are cleared (R32). -/
def State.clearFlags (s : State) (idx el ones : Nat) : State :=
  s.setObj idx el (le 4 ((List.range 32).foldl (fun v i => if ones.testBit i then setBit v i false else v) (s.objN idx el)))

/-- A unit's next UNIT_SEQ, 16 bits, wrapping (*Log record*). -/
def unitSeqOf (s : State) (unit : Nat) : Nat := tgetD s.log.unitSeq unit 0

/-- The record is delivered and waits to be due (R454). -/
def putRec (s : State) (r : LogRec) : State :=
  { s with log := { s.log with
      waiting := s.log.waiting ++ [{ r with unitSeq := unitSeqOf s r.unit }]
      unitSeq := tput s.log.unitSeq r.unit ((unitSeqOf s r.unit + 1) % 65536) } }

/-- A CORRECTED record of a unit is logged only when it has logged none since reset or 1 s has passed since its
last; otherwise RECOVERY_STATUS counts it (R448). -/
def mayLogCorrected (s : State) (unit : Nat) : Bool :=
  match tget s.log.corrAt unit with
  | none => true
  | some t => decide (t + 1000000000 ≤ s.now)

/-- A unit delivers a record. -/
def deliverRec (s : State) (r : LogRec) : State :=
  if r.cls = 1 then
    if mayLogCorrected s r.unit then
      putRec { s with log := { s.log with corrAt := tput s.log.corrAt r.unit s.now } } r
    else s.addObjF 0x7F11 0 8 4 1
  else putRec s r

/-- A unit records an event at the present Datum (R503). -/
def State.logEvent (s : State) (unit cls code inst detail : Nat) : State :=
  deliverRec s { unit, cls, code, stamp := s.datum.t, gen := s.datum.stepGen, unitSeq := 0, inst, detail }

/-- DP_CORR and a CORRECTED record: a word corrected on a storage read or an egress (R25). -/
def State.corrected (s : State) (unit inst detail : Nat) : State :=
  (s.setFlag 0x1104 0 2).logEvent unit 1 0xF001 inst detail

/-- DP_UNCORR: a word failed its check uncorrectably or arrived poisoned (R25). -/
def State.uncorrected (s : State) : State := s.setFlag 0x1104 0 3

/-- DP_UNCORR and a CONTAINED record of the consuming unit (R449). -/
def State.poisonConsumed (s : State) (unit inst detail : Nat) : State :=
  s.uncorrected.logEvent unit 2 0xF002 inst detail

/-- A watched resource's use has changed (R458): at its threshold it is logged and TABLE_HIGH set, once until the
use has fallen 5 % below the threshold. -/
def State.watch (s : State) (res use limit unit inst : Nat) : State :=
  let w := s.objN 0x7F10 res
  if s.log.high.contains res then
    if use ≤ limit * (w - 5) / 100 then { s with log := { s.log with high := s.log.high.filter (· != res) } } else s
  else if w < 100 ∧ cdiv (limit * w) 100 ≤ use then
    ({ s with log := { s.log with high := s.log.high ++ [res] } }.logEvent unit 0 (0xF100 + res) inst use).setFlag 0x7F12 0 3
  else s

/-- A save of persistent values begins: they are laid over the previous generation, or join
the save in progress into one generation (R63; DESIGN CHOICE, log entry 145). -/
def State.saveValues (s : State) (vals : List (Nat × Bytes)) : State :=
  let base := s.flash.saving.getD s.flash.saved
  { s with flash := { s.flash with saving := some (vals.foldl (fun t p => tput t p.1 p.2) base) } }

/-- An abort command has completed (R64): its value, its abort code, and the elapsed ns within the function's bound; a
function that was not running completes at once. -/
def State.abortDone (s : State) (fn inst code : Nat) (ran : Bool) (bound : Nat) : State :=
  let (ns, s) := if ran then s.drawIn 0 bound else (0, s)
  { s with dict := { s.dict with lastAbort := le 1 fn ++ [0] ++ le 2 inst, abortCode := code, abortNs := ns } }

end Sys2Proof.Machine
end

