-- ==== Sys2Proof/Machine/Ecc.lean ====
section
/-! DEFINITION. The (72,64) Hsiao code of every stored word (01_architecture, R22 to R25). -/

namespace Sys2Proof.Machine
open Sys2Proof

/-- The three-element subsets of 0 to 7 in ascending lexicographic order, as bit masks (R22). -/
def subsets3 : List Nat :=
  (List.range 8).flatMap fun a => ((List.range 8).filter (a < ·)).flatMap fun b =>
    ((List.range 8).filter (b < ·)).map fun c => 2 ^ a + 2 ^ b + 2 ^ c

/-- The first eight five-element subsets in the same order: d56 to d63 (R22). -/
def subsets5 : List Nat := [31, 47, 79, 143, 55, 87, 151, 103]

/-- The check bits data bit `i` takes part in. -/
def eccColumn (i : Nat) : Nat := ((subsets3 ++ subsets5)[i]?).getD 0

/-- The eight check bits of a 64-bit word. -/
def eccCheck (d : Nat) : Nat :=
  (List.range 64).foldl (fun c i => if d.testBit i then c ^^^ eccColumn i else c) 0

/-- *Syndrome decoding*. -/
inductive EccOut where
  | clean
  | poison
  | checkBit
  | dataBit (i : Nat)
  | uncorrectable
  deriving DecidableEq, Repr

/-- What a syndrome tells (R23: FFh is poison however it came about). -/
def eccDecode (syn : Nat) : EccOut :=
  if syn = 0 then .clean
  else if syn = 255 then .poison
  else if popcount 8 syn = 1 then .checkBit
  else match (List.range 64).find? fun i => eccColumn i == syn with
    | some i => .dataBit i
    | none => .uncorrectable

/-- The syndrome that flipped bits leave: bits 0 to 63 data, 64 to 71 check. -/
def eccFlips (flips : List Nat) : Nat :=
  flips.foldl (fun c i => c ^^^ (if i < 64 then eccColumn i else if i < 72 then 2 ^ (i - 64) else 0)) 0

/-- Is the word delivered as poisoned (R25)? -/
def eccBad : EccOut → Bool
  | .poison => true
  | .uncorrectable => true
  | _ => false

/-- Is the word corrected on its way (R25)? -/
def eccFixed : EccOut → Bool
  | .checkBit => true
  | .dataBit _ => true
  | _ => false

end Sys2Proof.Machine
end

