-- ==== Sys2Proof/Machine/Packet.lean ====
section
/-! DEFINITION. Bytes of Ethernet, IP, TCP, UDP and PTP headers as the egress adjusts them: checksums, segmentation
(R299) and one-step time-stamps (R319, R320). -/

namespace Sys2Proof.Machine
open Sys2Proof

/-- Big-endian field of a packet. -/
def beF (b : Bytes) (off w : Nat) : Nat := beNat (sub b off w)
/-- A packet with a big-endian field replaced. -/
def setBe (b : Bytes) (off w v : Nat) : Bytes := patch b off (be w (v % 2 ^ (8 * w)))

/-- Sum of 16-bit big-endian words, an odd last byte padded. -/
def sum16 : Bytes → Nat
  | [] => 0
  | [x] => x.toNat * 256
  | x :: y :: r => x.toNat * 256 + y.toNat + sum16 r

/-- Fold to 16 bits in ones' complement. -/
def fold16 (n : Nat) : Nat := let m := n % 65536 + n / 65536; m % 65536 + m / 65536

/-- The Internet checksum of a sum. -/
def csum (n : Nat) : Nat := 65535 - fold16 (fold16 n)

/-- The offset of the EtherType after at most two VLAN tags. -/
def etherOff (b : Bytes) : Nat :=
  let tag (o : Nat) : Bool := beF b o 2 == 0x8100 || beF b o 2 == 0x88A8
  if tag 12 then (if tag 16 then 20 else 16) else 12

/-- Source and destination addresses and protocol summed as the pseudo-header. -/
def pseudoSum (b : Bytes) (l3 l3Type proto len : Nat) : Nat :=
  if l3Type = 1 then sum16 (sub b (l3 + 12) 8) + proto + len else sum16 (sub b (l3 + 8) 32) + proto + len

/-- Segment `k` of a segmentation-offload frame (R299): the header copied, the next MSS bytes, and the adjusted
fields. -/
def segmentOf (b : Bytes) (d : SegDesc) (k : Nat) : Bytes :=
  let before := k * d.mss
  let n := min d.mss (d.payload - before)
  let last : Bool := decide (d.payload ≤ before + n)
  let f := b.take d.hdr ++ sub b (d.hdr + before) n
  let f := if d.l3 = 1 then
      let f := setBe (setBe f (d.l3Off + 2) 2 (d.hdr - d.l3Off + n)) (d.l3Off + 4) 2 (beF b (d.l3Off + 4) 2 + k)
      let f := setBe f (d.l3Off + 10) 2 0
      setBe f (d.l3Off + 10) 2 (csum (sum16 (sub f d.l3Off (4 * (beF f d.l3Off 1 % 16)))))
    else setBe f (d.l3Off + 4) 2 (d.hdr - d.l3Off - 40 + n)
  let l4len := d.hdr - d.l4Off + n
  if d.l4 = 1 then
    let f := setBe f (d.l4Off + 4) 4 (beF b (d.l4Off + 4) 4 + before)
    let fl := beF b (d.l4Off + 13) 1
    let fl := if k = 0 then fl else setBit fl 7 false
    let fl := if last then fl else setBit (setBit fl 0 false) 3 false
    let f := setBe (setBe f (d.l4Off + 13) 1 fl) (d.l4Off + 16) 2 0
    setBe f (d.l4Off + 16) 2 (csum (pseudoSum f d.l3Off d.l3 6 l4len + sum16 (f.drop d.l4Off)))
  else
    let f := setBe (setBe f (d.l4Off + 4) 2 l4len) (d.l4Off + 6) 2 0
    let c := csum (pseudoSum f d.l3Off d.l3 17 l4len + sum16 (f.drop d.l4Off))
    setBe f (d.l4Off + 6) 2 (if c = 0 then 0xFFFF else c)

/-- Segments of a frame: ceil(PAYLOAD_LEN / MSS). -/
def segCount (d : SegDesc) : Nat := cdiv d.payload d.mss

/-- Where a frame's PTP message stands, and the offset of its UDP checksum with whether it is IPv4's (R319). -/
def ptpFind (b : Bytes) : Option (Nat × Option (Nat × Bool)) :=
  let eo := etherOff b
  let et := beF b eo 2
  let ip := eo + 2
  if et = 0x88F7 then some (ip, none)
  else if et = 0x0800 ∧ beF b ip 1 = 0x45 ∧ beF b (ip + 9) 1 = 17 ∧ beF b (ip + 22) 2 = 319 then
    some (ip + 28, some (ip + 26, true))
  else if et = 0x86DD ∧ beF b (ip + 6) 1 = 17 ∧ beF b (ip + 42) 2 = 319 then some (ip + 48, some (ip + 46, false))
  else none

/-- A PTP message of major version 2 that is Sync or Delay_Req. -/
def ptpStampable (b : Bytes) : Bool :=
  match ptpFind b with
  | some (o, _) => beF b (o + 1) 1 % 16 == 2 && (beF b o 1 % 16 == 0 || beF b o 1 % 16 == 1)
  | none => false

/-- Insert P: originTimestamp, fraction bits 31:16 into correctionField, and the UDP checksum corrected; a zero IPv4
UDP checksum stays zero (R320). -/
def ptpInsert (b : Bytes) (p : Nat × Nat × Nat) : Bytes :=
  match ptpFind b with
  | none => b
  | some (o, cs) =>
    let f := setBe (setBe b (o + 34) 6 p.1) (o + 40) 4 p.2.1
    let f := setBe f (o + 8) 8 (beF b (o + 8) 8 + p.2.2 / 65536)
    match cs with
    | none => f
    | some (c, v4) =>
      let old := beF b c 2
      if v4 = true ∧ old = 0 then f
      else
        -- HC' = ~(~HC + ~m + m') over the words of the message
        let m := sum16 (b.drop (c + 2))
        let m' := sum16 (f.drop (c + 2))
        setBe f c 2 (csum ((65535 - old) + (65535 - fold16 (fold16 m)) + fold16 (fold16 m')))

end Sys2Proof.Machine
end

