-- ==== Sys2Proof/Machine/Cores.lean ====
section
/-! DEFINITION. The task dispatcher (16_cores_dispatch): operand slots, thread states, dispatch, migration and
abort, and the access fault a core takes (R29, R30, R399). -/

namespace Sys2Proof.Machine
open Sys2Proof

/-- An access fault on the issuing core: recorded, and the access has no other effect (R29, R30).
Kinds: 0 access, 1 load of poison, 2 fetch of poison, 3 load, 4 fetch. -/
def State.fault (s : State) (c : CoreId) (addr kind : Nat) : State :=
  { s with cores := { s.cores with cores := vmod s.cores.cores c fun k => { k with accessFault := some (addr, kind) } } }

def State.modCore (s : State) (c : CoreId) (f : CoreSt → CoreSt) : State :=
  { s with cores := { s.cores with cores := vmod s.cores.cores c f } }

def State.core (s : State) (c : CoreId) : CoreSt := s.cores.cores[c]

/-- A thread slot; a slot never used is FREE in generation 0. -/
def State.thread (s : State) (t : Nat) : Thread := tgetD s.cores.threads t {}

def State.setThread (s : State) (t : Nat) (x : Thread) : State :=
  { s with cores := { s.cores with threads := tputD s.cores.threads t x {} } }

def State.opnd (s : State) (o : Nat) : Operand := tgetD s.cores.opnds o {}

def State.setOpnd (s : State) (o : Nat) (x : Operand) : State :=
  { s with cores := { s.cores with opnds := tputD s.cores.opnds o x {} } }

/-- A handle: slot in bits 8:0, generation in bits 15:9 (R400). -/
def handleOf (t : Nat) (x : Thread) : Nat := t + 512 * x.gen

/-- Does a handle name a live thread (R400)? -/
def handleLive (s : State) (h : Nat) : Bool :=
  let x := s.thread (h % 512)
  decide (x.gen = h / 512 % 128 ∧ x.st ≠ .free)

/-- Base of a core's dispatcher block (R410). -/
def dspBase (c : CoreId) : Nat := 0x10200000 + 0x100 * c.val

/-- Set a cause of the core's dispatcher interrupt, and its companion counter (*Dispatcher core block*). -/
def setCause (s : State) (c : CoreId) (b : Nat) : State :=
  let s := s.setReg (dspBase c + 0x30) (setBit (s.regAt (dspBase c + 0x30)) b true)
  s.setReg (dspBase c + 0x34 + 4 * b) ((s.regAt (dspBase c + 0x34 + 4 * b) + 1) % 2 ^ 32)

/-- Is a thread eligible on a core (R405)? -/
def eligibleOn (x : Thread) (c : CoreId) : Bool :=
  x.mask.testBit c.val &&
    match x.lastCore with
    | none => true
    | some k => x.anyCore || !x.mask.testBit k || k == c.val

/-- A core that runs nothing, holds no reservation and is released from reset. -/
def coreIdle (s : State) (c : CoreId) : Bool :=
  (s.core c).running.isNone && (s.core c).reserved.isNone && !(s.core c).held

/-- Is the thread reserved for some core? -/
def isReserved (s : State) (t : Nat) : Bool := (List.finRange 8).any fun c => (s.core c).reserved == some t

/-- Reserve a READY thread for a core and raise DISPATCH (R406). -/
def reserve (s : State) (c : CoreId) (t : Nat) : State :=
  setCause (s.modCore c fun k => { k with reserved := some t }) c 0

/-- The READY, unreserved thread a core gets: highest priority, then longest READY (R406). -/
def bestFor (s : State) (c : CoreId) : Option Nat :=
  (s.cores.threads.foldl (fun (best : Option (Nat × Thread)) p =>
    if p.2.st = .ready ∧ eligibleOn p.2 c = true ∧ isReserved s p.1 = false then
      match best with
      | none => some p
      | some b => if p.2.prio < b.2.prio ∨ (p.2.prio = b.2.prio ∧ p.2.since < b.2.since) then some p else some b
    else best) none).map (·.1)

/-- A core has no RUNNING thread: it is assigned one if any is eligible (R406). -/
def offerCore (s : State) (c : CoreId) : State :=
  if coreIdle s c then
    match bestFor s c with
    | some t => reserve s c t
    | none => s
  else s

/-- The priority a core runs at, when it runs a thread. -/
def runningPrio (s : State) (c : CoreId) : Option Nat := (s.core c).running.map fun t => (s.thread t).prio

/-- PREEMPT goes to the thread's last core if that runs a lower priority, else to the core running the lowest,
lowest core number on a tie (R407). -/
def preemptTarget (s : State) (x : Thread) : Option CoreId :=
  let cands := (List.finRange 8).filter fun c =>
    eligibleOn x c && (match runningPrio s c with | some p => decide (x.prio < p) | none => false)
  match cands.find? fun c => x.lastCore == some c.val with
  | some c => some c
  | none => cands.foldl (fun (b : Option CoreId) c =>
      match b with
      | none => some c
      | some d => if (runningPrio s d).getD 0 < (runningPrio s c).getD 0 then some c else some d) none

/-- A thread is READY and unreserved: an idle eligible core gets it, which one being open; with none idle, PREEMPT
(R406, R407). -/
def offerThread (s : State) (t : Nat) : State :=
  let x := s.thread t
  if x.st = .ready ∧ isReserved s t = false then
    match (List.finRange 8).filter fun c => eligibleOn x c && coreIdle s c with
    | [] =>
      match preemptTarget s x with
      | some c => (setCause (s.modCore c fun k => { k with preempts := k.preempts + 1 }) c 1).stat 0x6820 0 3 1
      | none => s
    | c :: cs =>
      let (d, s) := s.draw
      reserve s ((c :: cs)[d % (cs.length + 1)]?.getD c) t
  else s

/-- The next READY stamp: the order in which threads became READY. -/
def tickReady (s : State) : State := { s with cores := { s.cores with stamp := s.cores.stamp + 1 } }

/-- A thread becomes READY (R401). -/
def makeReady (s : State) (t : Nat) (x : Thread) : State :=
  offerThread (tickReady (s.setThread t { x with st := .ready, since := s.cores.stamp, readyAt := s.now, anyCore := false })) t

/-- Release the bindings of a thread (R401). -/
def unbind (s : State) (t : Nat) : State :=
  (s.thread t).waits.foldl (fun s o =>
    if (s.opnd o).waiter = some t then s.setOpnd o { s.opnd o with waiter := none } else s) s

/-- A post to an operand slot (R402): counted, its value replaced; the last absent operand makes the bound thread
READY. -/
def State.postOperand (s : State) (o v : Nat) : State :=
  let x := s.opnd o
  let s := s.setOpnd o { x with count := if x.count < 65535 then x.count + 1 else x.count, value := v,
                                posts := (x.posts + 1) % 2 ^ 32 }
  let s := if x.count < 65535 then s else s.setFlag 0x6821 0 0
  match x.waiter with
  | some t =>
    if (s.thread t).st = .waiting ∧ (s.thread t).waits.all (fun o => decide (0 < (s.opnd o).count)) = true then
      makeReady s t { s.thread t with deadline := 0 }
    else s
  | none => s

/-- A fixed slot is posted with value 0 (*Fixed operand slots*). -/
def State.postFixed (s : State) (o : Nat) : State := s.postOperand o 0

/-- The cores that hold a thread, running or reserved. -/
def releaseCores (s : State) (t : Nat) (ab : Bool) : State :=
  (List.finRange 8).foldl (fun s c =>
    if (s.core c).running = some t then
      let s := s.modCore c fun k => { k with running := none, aborted := ab }
      if ab then setCause s c 2 else s
    else if (s.core c).reserved = some t then s.modCore c fun k => { k with reserved := none }
    else s) s

/-- Offer every idle core a thread. -/
def offerCores (s : State) : State := (List.finRange 8).foldl offerCore s

/-- The number of slots that are not FREE. -/
def threadsInUse (s : State) : Nat := (s.cores.threads.filter fun p => decide (p.2.st ≠ .free)).length

/-- The slot becomes FREE: its generation increments (R400), bindings are released. -/
def freeThread (s : State) (t : Nat) (ab : Bool) : State :=
  let s := unbind s t
  let s := s.setThread t { gen := ((s.thread t).gen + 1) % 128 }
  let s := offerCores (releaseCores s t ab)
  s.watch 11 (threadsInUse s) 512 0x41 0xFF

/-- *Thread abort* (R408). -/
def abortThread (s : State) (t : Nat) : State :=
  ((freeThread s t true).stat 0x6820 0 5 1).setFlag 0x6821 0 2

/-- DSP_RESULT of an operation (*Operation status*). -/
def dspResult (s : State) (c : CoreId) (st v : Nat) : State :=
  s.modCore c fun k => { k with result := st * 65536 + v }

/-- A refusal with STALE is counted and flagged (R400). -/
def dspStale (s : State) (c : CoreId) : State :=
  dspResult ((s.stat 0x6820 0 7 1).setFlag 0x6821 0 3) c 2 0

/-- The lowest FREE slot. -/
def lowestFree (s : State) : Option Nat := findLt 512 fun t => decide ((s.thread t).st = .free)

/-- An operation of this core's RUNNING thread: NO_THREAD without one, STALE after an abort. -/
def onRunning (s : State) (c : CoreId) (f : Nat → State → State) : State :=
  match (s.core c).running with
  | some t => f t s
  | none => if (s.core c).aborted then dspStale s c else dspResult s c 5 0

/-- The RUNNING thread leaves its core. -/
def leaveCore (s : State) (c : CoreId) : State := s.modCore c fun k => { k with running := none }

/-- CREATE (R401, R409). -/
def execCreate (c : CoreId) (op arg : Nat) (s : State) : Out := live s fun s =>
  let s := s.setReg (dspBase c + 0x18) arg
  let mask := bits op 24 8
  if mask = 0 then dspResult s c 4 0
  else match lowestFree s with
    | none => dspResult ((s.stat 0x6820 0 6 1).setFlag 0x6821 0 1) c 1 0
    | some t =>
      let x : Thread := { gen := (s.thread t).gen, prio := bits op 16 5, mask }
      let s := makeReady (s.stat 0x6820 0 0 1) t x
      dspResult (s.watch 11 (threadsInUse s) 512 0x41 0xFF) c 0 (handleOf t x)

/-- WAIT of the RUNNING thread on one to four operands (R401, R402). -/
def execWait (c : CoreId) (op arg : Nat) (s : State) : Out := live s fun s =>
  let s := s.setReg (dspBase c + 0x18) arg
  onRunning s c fun t s =>
    let n := bits arg 48 3
    let os := (List.range n).map fun i => bits arg (12 * i) 12
    if n = 0 ∨ 4 < n then dspResult s c 4 0
    else if os.any (fun o => (s.opnd o).waiter.isSome && (s.opnd o).waiter != some t) then dspResult s c 3 0
    else
      let x := { s.thread t with waits := os, timedOut := false }
      let s := leaveCore (dspResult s c 0 0) c
      if os.all fun o => decide (0 < (s.opnd o).count) then
        let s := tickReady (s.setThread t { x with st := .ready, since := s.cores.stamp, readyAt := s.now, anyCore := false, deadline := 0 })
        offerThread (offerCore s c) t
      else
        let tmo := bits op 0 32
        let s := s.setThread t { x with st := .waiting, bound := true, deadline := if tmo = 0 then 0 else s.now + tmo * 1000 }
        offerCore (os.foldl (fun s o => s.setOpnd o { s.opnd o with waiter := some t }) s) c

/-- YIELD: the RUNNING thread goes READY at the tail of its priority (R401). -/
def execYield (c : CoreId) (s : State) : Out := live s fun s =>
  onRunning s c fun t s =>
    let s := leaveCore (dspResult s c 0 0) c
    let s := tickReady (s.setThread t { s.thread t with st := .ready, since := s.cores.stamp, readyAt := s.now, anyCore := false,
                                                        waits := [], timedOut := false })
    offerThread (offerCore s c) t

/-- EXIT: the RUNNING thread's slot becomes FREE (R401). -/
def execExit (c : CoreId) (s : State) : Out := live s fun s =>
  onRunning s c fun t s => freeThread (dspResult s c 0 0) t false

/-- POST by a core: slots 0 to 15 are the device's own (R404). -/
def execPost (c : CoreId) (op arg : Nat) (s : State) : Out := live s fun s =>
  let s := s.setReg (dspBase c + 0x18) arg
  if bits op 0 12 < 16 then dspResult s c 4 0
  else (dspResult s c 0 0).postOperand (bits op 0 12) (bits arg 0 32)

/-- SET_PRIORITY, from the thread's next dispatch decision (*Dispatcher operations*). -/
def execSetPriority (c : CoreId) (op : Nat) (s : State) : Out := live s fun s =>
  if handleLive s (bits op 0 16) = false then dspStale s c
  else if bits op 24 8 = 0 then dspResult s c 4 0
  else
    let t := bits op 0 9
    offerThread ((dspResult s c 0 0).setThread t { s.thread t with prio := bits op 16 5, mask := bits op 24 8 }) t

/-- ABORT by handle (R408). -/
def execThreadAbort (c : CoreId) (op : Nat) (s : State) : Out := live s fun s =>
  if handleLive s (bits op 0 16) then abortThread (dspResult s c 0 0) (bits op 0 9) else dspStale s c

/-- What DSP_NEXT pops: one count of each present operand of the wait set is consumed and its value loaded,
bindings are released (R401). -/
def consume (s : State) (t : Nat) : List Nat → Nat → State × Nat × List Nat
  | [], _ => (s, 0, [])
  | o :: os, i =>
    let x := s.opnd o
    let (s1, v, hit) :=
      if (s.thread t).timedOut = false ∧ 0 < x.count then (s.setOpnd o { x with count := x.count - 1 }, x.value, 1)
      else (s, 0, 0)
    let (s2, m, vs) := consume s1 t os (i + 1)
    (s2, hit * 2 ^ i + m, v :: vs)

/-- A read of DSP_NEXT: pops the reserved thread, or reads 0 (*Dispatcher core block*). -/
def execDspNextRead (c : CoreId) (s : State) : Out := live s fun s =>
  match (s.core c).reserved, (s.core c).running with
  | some t, none =>
    let x := s.thread t
    let (s, m, vs) := consume s t x.waits 0
    let s := unbind s t
    let s := s.setThread t { x with st := .running, lastCore := some c.val, anyCore := false, waits := [],
                                    bound := false, timedOut := false, dispatches := (x.dispatches + 1) % 2 ^ 32 }
    let v := 2 ^ 63 + (if x.timedOut then 2 ^ 62 else 0) + m * 2 ^ 58 + x.prio * 2 ^ 16 + handleOf t x
    (s.modCore c fun k => { k with running := some t, reserved := none, aborted := false, opnds := vs,
                                   dispatches := k.dispatches + 1, readData := v }).stat 0x6820 0 1 1
  | _, _ => s.modCore c fun k => { k with readData := 0 }

/-- WAIT_TIMEOUT: once the deadline of a WAIT has come its bindings are released and the thread goes READY with TIMED_OUT
(R401). -/
def execWaitTimeout (t : Fin 512) (s : State) : Out := live s fun s =>
  let x := s.thread t.val
  if x.st = .waiting ∧ x.deadline ≠ 0 ∧ x.deadline ≤ s.now then
    makeReady ((unbind s t.val).stat 0x6820 0 4 1) t.val { x with waits := [], bound := false, timedOut := true, deadline := 0 }
  else s

/-- Core `k` runs a thread of priority `p` or higher. -/
def runsAtLeast (s : State) (k p : Nat) : Bool :=
  match (vget s.cores.cores k {}).running with
  | some u => decide ((s.thread u).prio ≤ p)
  | none => false

/-- MIGRATE_EXPIRY: a thread has been READY for MIGRATE_US while its last core ran at its priority or above: it becomes
eligible on every core of its mask (R405). -/
def execMigrateExpiry (t : Fin 512) (s : State) : Out := live s fun s =>
  let x := s.thread t.val
  match x.lastCore with
  | none => s
  | some k =>
    if x.st = .ready ∧ x.anyCore = false ∧ x.mask.testBit k = true ∧ isReserved s t.val = false ∧
        x.readyAt + s.objN 0x6802 0 * 1000 ≤ s.now ∧
        runsAtLeast s k x.prio = true then
      offerThread (((s.setThread t.val { x with anyCore := true }).stat 0x6820 0 2 1).setFlag 0x6821 0 4) t.val
    else s

end Sys2Proof.Machine
end

