-- ==== Sys2Proof/Machine/Datum.lean ====
section
/-! DEFINITION. Datum (12_datum_time): the counter and its ticks, increment writes, steps, snapshots, pulse
outputs, captures, and time across a stopped clock. -/

namespace Sys2Proof.Machine
open Sys2Proof

/-- Every DATUM tick is 4 ns of elapsed time on REF, and the TSF and the chain timer count ticks, 250 to a
microsecond (R150, R204, R317). -/
def countTicks (s : State) (n : Nat) : State :=
  { s with now := s.now + 4 * n
           mac := { s.mac with tsf := (s.mac.tsf + (s.mac.tsfTicks + n) / 250) % 2 ^ 64
                               tsfTicks := (s.mac.tsfTicks + n) % 250 }
           chain := { s.chain with ticks := s.chain.ticks + n } }

def State.setDatum (s : State) (d : DatumUnit) : State := { s with datum := d }

/-- One rising edge of the DATUM clock (R313). -/
def tickDatum (s : State) : State :=
  (countTicks s 1).setDatum { s.datum with t := datumOf (s.datum.t.units + s.datum.incr) }

/-- The DATUM clock runs: in the running states and in STANDBY, not in HIBERNATE, limp or reset (R330, R411, R484). -/
def datumRuns (s : State) : Bool := s.datum.running && (s.start.phase == .released || s.start.phase == .asleep)

/-- DATUM_TICK: Datum adds DATUM_INCR while its clock runs (R313). -/
def execDatumTick (s : State) : Out := aon s fun s => if datumRuns s then tickDatum s else s

/-- A direct write of DATUM_INCR waits for the first tick at least 100 ns after it (R314). -/
def incrWritten (s : State) : State := s.setDatum { s.datum with incrPend := some (s.objN 0x1201 0) }

/-- DATUM_INCR_APPLY: the written increment applies from this tick on (R314). -/
def execDatumIncrApply (s : State) : Out := live s fun s =>
  match s.datum.incrPend with
  | some i => if s.datum.running then tickDatum (s.setDatum { s.datum with incr := i, incrPend := none }) else s
  | none => s

/-! ### Pulse outputs (R322 to R325) -/

def tpoMode (s : State) (o : Fin 4) : Nat := s.objF 0x1210 (o + 1) 0 1
/-- START and PERIOD in 2^-32 ns. -/
def tpoStart (s : State) (o : Fin 4) : Nat := (datumAt (s.objB 0x1210 (o + 1)) 4).units
def tpoPeriod (s : State) (o : Fin 4) : Nat := s.objF 0x1210 (o + 1) 16 8 * 65536

def State.tpo (s : State) (o : Fin 4) : Tpo := s.datum.tpo[o]

def State.modTpo (s : State) (o : Fin 4) (f : Tpo → Tpo) : State :=
  s.setDatum { s.datum with tpo := vmod s.datum.tpo o f }

/-- Is the output active low? -/
def tpoLow (s : State) (o : Fin 4) : Bool := s.objF 0x1210 (o + 1) 1 1 == 1

/-- A pulse is emitted: it lasts WIDTH with the polarity now set (R322). -/
def emitPulse (s : State) (o : Fin 4) : State :=
  s.modTpo o fun p => { p with pulses := (p.pulses + 1) % 2 ^ 32
                               pulse := some { endAt := s.now + s.objF 0x1210 (o + 1) 24 4, low := tpoLow s o } }

/-- The level of the pin: active while a pulse lasts, whatever has been configured since; inactive otherwise, with the DATUM
clock stopped and in the limp state (R322, R323, R325). -/
def tpoLevel (s : State) (o : Fin 4) : Bool :=
  match (s.tpo o).pulse with
  | some p => if s.datum.running = true ∧ s.start.limp = false ∧ s.now < p.endAt then !p.low else tpoLow s o
  | none => tpoLow s o

/-- The first periodic edge at or after an instant. -/
def firstEdge (start period from_ : Nat) : Nat :=
  if from_ ≤ start then start else if period = 0 then start else start + period * cdiv (from_ - start) period

/-- The first periodic edge after an instant. -/
def edgeAfter (start period u : Nat) : Nat := firstEdge start period (u + 1)

/-- A new TPO_CFG takes effect (R323). -/
def tpoConfigured (s : State) (o : Fin 4) : State :=
  let u := s.datum.t.units
  match tpoMode s o with
  | 1 =>
    if u ≤ tpoStart s o then s.modTpo o fun p => { p with next := some (datumOf (tpoStart s o)) }
    else (s.modTpo o fun p => { p with next := none }).setFlag 0x1250 0 3
  | 2 => s.modTpo o fun p => { p with next := some (datumOf (firstEdge (tpoStart s o) (tpoPeriod s o) u)) }
  | _ => s.modTpo o fun p => { p with next := none }

/-- The edge that follows one emitted or passed at `u`. -/
def nextEdge (s : State) (o : Fin 4) (u : Nat) : Option DatumVal :=
  if tpoMode s o = 2 then some (datumOf (edgeAfter (tpoStart s o) (tpoPeriod s o) u)) else none

/-- TPO_EDGE: Datum reaches the pending edge (R322); with the DATUM clock stopped the output is held (R325). -/
def execTpoEdge (o : Fin 4) (s : State) : Out := live s fun s =>
  match (s.tpo o).next with
  | some e =>
    if s.datum.running = true ∧ e.units < s.datum.t.units + s.datum.incr then
      (emitPulse s o).modTpo o fun p => { p with next := nextEdge s o e.units }
    else s
  | none => s

/-- A forward step past a pending edge emits one pulse, late (R324). -/
def tpoStepped (s : State) (o : Fin 4) : State :=
  match (s.tpo o).next with
  | some e =>
    if e.units < s.datum.t.units then
      ((emitPulse s o).modTpo o fun p => { p with next := nextEdge s o s.datum.t.units, late := (p.late + 1) % 2 ^ 32 }).setFlag 0x1250 0 3
    else s
  | none => s

/-- After an advance a PERIODIC output goes on from the first later edge; a ONCE edge that fell in the stop gives
no pulse and sets TPO_LATE (R325). -/
def tpoAdvanced (s : State) (o : Fin 4) : State :=
  match (s.tpo o).next with
  | some e =>
    if e.units ≤ s.datum.t.units then
      let s' := s.modTpo o fun p => { p with next := nextEdge s o s.datum.t.units }
      if tpoMode s o = 1 then s'.setFlag 0x1250 0 3 else s'
    else s
  | none => s

/-! ### Steps (R317) -/

/-- What a step would set Datum to, in 2^-32 ns. -/
def stepResult (s : State) (q : StepReq) : Int :=
  if q.absolute then q.units else (s.datum.t.units : Int) + q.units + s.datum.incr

/-- The first value Datum cannot hold: 2^48 s. -/
def datumLimit : Nat := 2 ^ 48 * 1000000000 * 4294967296

/-- The applying tick of a step (R317): Datum takes the value and STEP_GEN counts it, or, outside its range, the
tick passes as any other and the step is refused. The Boolean says whether it was applied. -/
def applyStep (s : State) (q : StepReq) : State × Bool :=
  let u := stepResult s q
  if 0 ≤ u ∧ u < (datumLimit : Int) then
    let v := datumOf u.toNat
    let gen := (s.datum.stepGen + 1) % 2 ^ 32
    let s := { s with log := { s.log with stepAt := tput s.log.stepAt s.datum.stepGen (s.now + 4) } }
    let s := (countTicks s 1).setDatum { s.datum with t := v, stepGen := gen, lastStep := v }
    let s := s.setFlag 0x1250 0 0
    ((List.finRange 4).foldl tpoStepped s, true)
  else (tickDatum s, false)

/-- A write of DATUM_STEP (R317): refused before Datum is restored, else it waits for its applying tick. -/
def stepWrite (sess : Nat) (v : Bytes) (s : State) : State × Option Res :=
  if s.datum.restored = false then (s, some (abortBy aBusy 0x51 1))
  else
    let q : StepReq :=
      if fld v 0 1 = 1 then { absolute := true, units := (datumAt v 4).units, follow := false, sess := some sess }
      else { absolute := false, units := fldI v 4 8 * 65536, follow := false, sess := some sess }
    (s.setDatum { s.datum with steps := s.datum.steps ++ [q] }, none)

/-! ### Snapshots, captures (R316, R326, R327) -/

/-- A read of DTM_SNAP_S latches this core's snapshot (*Datum window registers*). -/
def execDtmSnapRead (c : CoreId) (s : State) : Out := live s fun s =>
  (s.setDatum { s.datum with snaps := vmod s.datum.snaps c fun _ => { t := s.datum.t, gen := s.datum.stepGen } }).modCore c
    fun k => { k with readData := s.datum.t.sec }

/-- Is an edge of the input recorded, by TCI_CFG and R326? -/
def captures (s : State) (i : Fin 3) (rising : Bool) (sinceLast high : Nat) : Bool :=
  let e := s.objF 0x1220 (i + 1) 1 1
  s.objF 0x1220 (i + 1) 0 1 == 1 && (e == 2 || (e == 0) == rising) &&
    (if i = 2 then decide (100 ≤ high) else decide (100 ≤ sinceLast))

/-- CAPTURE_EDGE: the edge is stamped to half a nanosecond within its tick and stored, or finds the FIFO full. -/
def execCaptureEdge (i : Fin 3) (rising : Bool) (sinceLastNs highNs : Nat) (s : State) : Out := live s fun s =>
  if captures s i rising sinceLastNs highNs then
    if (s.datum.fifo[i]).length < 16 then
      let (k, s) := s.drawIn 0 7
      let r : CapRec := { falling := !rising, gen := s.datum.stepGen, stamp := datumOf (s.datum.t.units + k * 2147483648) }
      (s.setDatum { s.datum with fifo := vmod s.datum.fifo i fun l => l ++ [r] }).postFixed 3
    else s.setFlag 0x1250 0 4
  else s

/-- CAPTURE_POP: the input's oldest record is removed and is what a READ returns (R327). -/
def capturePop (v : Bytes) (s : State) : State × Res :=
  let n := fld v 0 1
  match vget s.datum.fifo n [] with
  | r :: rest =>
    (s.setDatum { s.datum with
        fifo := vset s.datum.fifo n rest
        popped := [1] ++ le 1 n ++ boolByte r.falling ++ [0] ++ le 4 r.gen ++ r.stamp.enc }, ok)
  | [] => (s.setDatum { s.datum with popped := [0] ++ le 1 n ++ zeros 18 }, ok)

/-! ### Time across a stopped clock (R329 to R332) -/

/-- AON_CAL_COUNT: from a complete count of REF cycles over 32,768 AON cycles, R in 2^-32 ns (R329). -/
def execAonCalCount (c : Nat) (s : State) : Out := live s fun s =>
  if s.datum.running then s.setDatum { s.datum with aonCal := c * 25 * s.datum.incr / (32768 * 4) } else s

/-- The DATUM clock stops: D0 and the R then held are recorded (R330). -/
def stopDatum (d : DatumUnit) : DatumUnit :=
  if d.running then
    { d with running := false, restored := false,
             d0 := match d.d0 with
               | some x => some x
               | none => some (d.t, if d.aonCal = 0 then none else some d.aonCal) }
  else d

/-- The Datum that `n` AON edges after D0 give, in 2^-32 ns: N times R (R331, R332). -/
def advanceBy (d : DatumUnit) (r : Option Nat) (n : Nat) : Nat :=
  match r with
  | some r => n * r
  | none => n * (30517578125 * d.incr) / 4000000

/-- The advance at the first AON edge after the DATUM clock runs again (R331). -/
def advanceDatum (s : State) (n : Nat) : State :=
  match s.datum.d0 with
  | some (d0, r) =>
    if s.datum.running = true ∧ s.datum.restored = false then
      let u := advanceBy s.datum r n
      let t := datumOf (d0.units + u)
      let ns := u / 4294967296
      let unc := (match r with
        | some _ => cdiv (u * 205) (4294967296 * 100000000)
        | none => cdiv (u * 2) (4294967296 * 10000)) + 25
      let s := countTicks s (ns / 4)
      let s := s.setDatum { s.datum with t, restored := true, d0 := none }
      let s := (s.setObj 0x1203 0 [0]).setFlag 0x1250 0 1
      let s := s.setObj 0x1205 0 (t.enc ++ le 8 ns ++ le 8 unc ++ le 8 n ++ boolByte r.isSome)
      (List.finRange 4).foldl tpoAdvanced s
    else s
  | none => s

/-! ### The pair (R333, R334) -/

/-- A time record of the active: PAIR_TIME takes the offset, the round trip and the rate difference (R333). -/
def pairTime (s : State) (h : Heartbeat) : State :=
  let sent : DatumVal := { sec := h.stampSec, ns := h.stampNs, frac := h.stampFrac }
  let o : Int := ((sent.units : Int) + ((h.roundTripNs * 4294967296 / 2 : Nat) : Int) - s.datum.t.units) / 65536
  s.setDatum { s.datum with pairO := o, pairRtt := h.roundTripNs, pairRate := h.rateDiff, pairStamp := s.datum.t, pairValid := true }

/-- The standby follows the active (R334): beyond 100 ns a RELATIVE step is due and TIME_SYNCED is cleared; after
16 records within 100 ns TIME_SYNCED copies the active's. -/
def followActive (s : State) (synced : Bool) : State :=
  if s.objN 0x1240 0 = 1 then
    let lim : Int := 100 * 65536
    if s.datum.pairO > lim ∨ s.datum.pairO < -lim then
      let q : StepReq := { absolute := false, units := s.datum.pairO * 65536, follow := true, sess := none }
      (s.setDatum { s.datum with followRun := 0, steps := s.datum.steps ++ [q] }).setObj 0x1203 0 [0]
    else
      let k := s.datum.followRun + 1
      let s := s.setDatum { s.datum with followRun := k }
      if 16 ≤ k then s.setObj 0x1203 0 (boolByte synced) else s.setObj 0x1203 0 [0]
  else s

end Sys2Proof.Machine
end

