-- ==== Sys2Proof/Machine/Power.lean ====
section
/-! DEFINITION. The power arbiter (17_power) and the guaranteed-rate floor (01_architecture): charges, grants and
bookings, the VID codes, the speed monitors. -/

namespace Sys2Proof.Machine
open Sys2Proof

def State.setPower (s : State) (p : Power) : State := { s with power := p }

/-! ### Charges (*Requester charges*) -/

def fabricCharge (mv : Nat) : Nat := cdiv ((mv - 500) * 6) 10

/-- Units per core of a DVFS point (*DVFS points*). -/
def pointCharge (p : Nat) : Nat := ([2, 7, 12, 18, 26][p]?).getD 26

def pointMhz (p : Nat) : Nat := 400 * (p + 1)

/-- The VDD_CPU code of a point: 500 mV + 5 mV * code (R421). -/
def pointVid (p : Nat) : Nat := ([20, 40, 56, 72, 90][p]?).getD 90

def pointOf (mhz : Nat) : Nat := mhz / 400 - 1

def dramCharge (st : McState) : Nat :=
  match st with
  | .off => 0
  | .fault => 0
  | .selfRefresh => 2
  | .init => 32
  | .training => 32
  | .service => 32

/-- Receive draw of a transceiver's FEM. -/
def femRx (s : State) (t : Nat) : Nat := s.objF 0x1311 (t + 1) 0 1

/-- Entry `i` of FEM_DRAW: DAC power in 0.1 dBm and draw. -/
def femEntry (s : State) (t i : Nat) : Int × Nat :=
  (s.objI 0x1311 (t + 1) (2 + 3 * i) 2, s.objF 0x1311 (t + 1) (4 + 3 * i) 1)

/-- The entries of a transceiver's FEM_DRAW. -/
def femEntries (s : State) (t : Nat) : List (Int × Nat) :=
  (List.range (s.objF 0x1311 (t + 1) 1 1)).map (femEntry s t)

/-- The FEM draw at a DAC power: the entry at or above it; a transmission needs one. Power in 0.01 dBm. -/
def femDraw (s : State) (t : Nat) (p : Int) : Option Nat :=
  ((femEntries s t).find? fun e => decide (p ≤ 10 * e.1)).map (·.2)

/-- A transmission's charge on one transceiver at a DAC power in 0.01 dBm. -/
def txCharge (s : State) (t : Nat) (p : Int) : Option Nat :=
  (femDraw s t p).map fun d => (if p ≤ 0 then 6 else 10) + d

/-- A powered transceiver's charge. -/
def trxCharge (s : State) (t : Nat) : Nat := 10 + femRx s t

def portCharge (mode : Nat) : Nat := if mode = 0 then 0 else if mode ≤ 3 then 20 else if mode ≤ 5 then 12 else 4

/-! ### Grants (R420) -/

/-- The running state in force: FULL, TRIM or LISTEN. -/
def runState (s : State) : Nat := s.power.now_

/-- The core frequency cap of the running state (R413). -/
def coreCap (s : State) : Nat :=
  if runState s = 1 then s.objF 0x1302 0 1 2 else if runState s = 2 then s.objF 0x1303 0 0 2 else 2000

/-- The guaranteed rate that R18 holds: FAB_RATE, or the running state's (R413). -/
def guaranteedRate (s : State) : Nat :=
  if runState s = 1 then s.objF 0x1302 0 3 2 else if runState s = 2 then s.objF 0x1303 0 2 2 else s.objN 0x1100 0

/-- The budget in force: BACKUP_BUDGET from a supply-fail until it has been over for 1 s (R424, R425). -/
def budget (s : State) : Nat :=
  if s.power.supplyLow ∨ s.power.restoring then s.objF 0x1310 0 2 2 else s.objF 0x1310 0 0 2

def prebook (s : State) : Nat := s.objF 0x1310 0 4 2

def committed (s : State) : Nat := (s.power.grants.map (·.units)).sum

def grantOf (s : State) (kind inst : Nat) : Option Grant :=
  s.power.grants.find? fun g => g.kind == kind && g.inst == inst

def grantUnits (s : State) (kind inst : Nat) : Nat := ((grantOf s kind inst).map (·.units)).getD 0

/-- Release a grant. -/
def State.release (s : State) (kind inst : Nat) : State :=
  s.setPower { s.power with grants := s.power.grants.filter fun g => !(g.kind == kind && g.inst == inst) }

/-- Hold a grant of so many units, in place of the requester's former one. -/
def State.grant (s : State) (kind inst units : Nat) : State :=
  let s := s.release kind inst
  if units = 0 then s
  else s.setPower { s.power with grants := s.power.grants ++ [{ kind, inst, units, age := s.power.age }], age := s.power.age + 1 }

/-- What the requester could hold in all: the budget less the others, and less PREBOOK_RESERVE when the request is
unscheduled. -/
def roomFor (s : State) (kind inst : Nat) (sched : Bool) : Nat :=
  budget s - (committed s - grantUnits s kind inst) - (if sched then 0 else prebook s)

/-- A refused or reduced grant (R420). -/
def grantReduced (s : State) : State := (s.stat 0x1321 0 6 1).setFlag 0x1330 0 6

/-- A request for a fixed charge: granted whole, or refused (R420). A request for no more than is held is granted. -/
def State.request (s : State) (kind inst units : Nat) (sched : Bool) : State × Bool :=
  if units ≤ roomFor s kind inst sched ∨ units ≤ grantUnits s kind inst then (s.grant kind inst units, true)
  else (grantReduced s, false)

/-- A contention transmission's request: it takes what fits (R422). -/
def State.requestUpTo (s : State) (kind inst units : Nat) : State × Nat :=
  let g := min units (roomFor s kind inst false)
  let s := s.grant kind inst g
  if g < units then (grantReduced s, g) else (s, g)

/-- A booking: granted whole, or refused, which BOOKING_REFUSED tells (R423). -/
def State.book (s : State) (inst units : Nat) : State × Bool :=
  if units ≤ roomFor s 10 inst true ∨ units ≤ grantUnits s 10 inst then (s.grant 10 inst units, true)
  else ((grantReduced s).stat 0x1321 0 7 1 |>.setFlag 0x1330 0 7, false)

/-- Bookings are keyed by radio and a kind: 0 standing response, 1 beacon, 2 Chain chain, 3 trigger exchange,
4 member slot, 5 named by a request. -/
def bookKey (r k id : Nat) : Nat := (id * 8 + k) * 4 + r

/-! ### Core points and VID codes (R421) -/

/-- A core asks for a point: a raise waits for VDD_CPU, a lowering changes the frequency at once (R421); the cap
of the running state bounds both (R413). -/
def requestPoint (s : State) (c : CoreId) (p : Nat) : State :=
  let p := min p (pointOf (coreCap s))
  let cur := (s.core c).point
  if p ≤ cur then
    let s := s.grant 5 c.val (pointCharge p)
    (s.setPower { s.power with pendingCore := s.power.pendingCore.filter (·.1 != c.val) }).modCore c fun k => { k with point := p }
  else
    let (s, given) := s.request 5 c.val (pointCharge p) false
    if given then s.setPower { s.power with pendingCore := s.power.pendingCore.filter (·.1 != c.val) ++ [(c.val, p)] } else s

/-- The highest point in use or waiting for its voltage. -/
def topPoint (s : State) : Nat :=
  let a := (s.cores.cores.toList.map (·.point)).foldl max 0
  (s.power.pendingCore.map (·.2)).foldl max a

/-- The VID code of a voltage, rounded up to 5 mV. -/
def vidOf (mv : Nat) : Nat := cdiv (mv - 500) 5

def fabVoltage (s : State) : Nat := 500 + 5 * s.power.vidFab

/-- Have 50 µs passed since a code's last change (R421)? -/
def settled (s : State) (at_ : Option Nat) : Bool :=
  match at_ with
  | some t => !s.datum.running || decide (t + 50000 ≤ s.now)
  | none => true

/-- A granted raise changes the core's frequency once VDD_CPU has been at its voltage for 50 µs (R421), at the next command of
the arbiter (log entry 170). -/
def coresReady (s : State) : State :=
  if settled s s.power.vidCpuAt then
    let go := s.power.pendingCore.filter fun p => decide (pointVid p.2 ≤ s.power.vidCpu)
    let s := s.setPower { s.power with pendingCore := s.power.pendingCore.filter fun p => !decide (pointVid p.2 ≤ s.power.vidCpu) }
    go.foldl (fun s p =>
      { s with cores := { s.cores with cores := vset s.cores.cores p.1 { vget s.cores.cores p.1 {} with point := p.2 } } }) s
  else s

/-- The code VDD_FAB goes to: its target, never below the floor nor above 0.85 V, at which too few valid readings hold it (R18 to
R20). -/
def fabCode (s : State) : Nat := if s.power.fabHeld then 70 else min 70 (max s.power.targetFab (vidOf (s.objN 0x1102 0)))

/-- VID_CHANGE, 50 µs or more after the code's previous change: VDD_CPU goes to the highest point in use or granted, VDD_FAB to its
target and the fabric's charge with it (R18 to R20, R421). -/
def execVidChange (cpu : Bool) (s : State) : Out := live s fun s =>
  if cpu then
    let s := coresReady s
    if settled s s.power.vidCpuAt = true ∧ pointVid (topPoint s) ≠ s.power.vidCpu then
      s.setPower { s.power with vidCpu := pointVid (topPoint s), vidCpuAt := some s.now }
    else s
  else if settled s s.power.vidFabAt = true ∧ fabCode s ≠ s.power.vidFab then
    (s.setPower { s.power with vidFab := fabCode s, vidFabWas := s.power.vidFab, vidFabAt := some s.now }).grant 1 0
      (fabricCharge (500 + 5 * fabCode s))
  else s

/-- CORE_DVFS has been written: the core's point is requested (R420). -/
def coreDvfsWritten (s : State) (el : Nat) : State :=
  let s := coresReady s
  if h : el - 1 < 8 then requestPoint s ⟨el - 1, h⟩ (pointOf (s.objN 0x1312 el)) else s

/-! ### Speed monitors (R18 to R20) -/

def insertSorted (x : Nat) : List Nat → List Nat
  | [] => [x]
  | y :: r => if x ≤ y then x :: y :: r else y :: insertSorted x r

def sortNat (l : List Nat) : List Nat := l.foldr insertSorted []

/-- Twice the median of the eight readings: the sum of the two in the middle. -/
def median2 (l : List Nat) : Nat := let t := sortNat l; (t[3]?).getD 0 + (t[4]?).getD 0

/-- A reading in 0.1 Mpps is invalid below 10 Mpps, above 250 Mpps, or more than 25 % off the median (R19). -/
def readingValid (m2 r : Nat) : Bool :=
  decide (100 ≤ r ∧ r ≤ 2500) && decide (4 * (2 * r) ≤ 5 * m2 ∧ 3 * m2 ≤ 4 * (2 * r))

/-- The floor voltage for a lowest valid reading (R18). The spec relates voltage and reading only by monotony, so
the value is free on the side of the present set point where the reading puts it (log entry 9). -/
def floorFor (low rate mv : Nat) : Nat :=
  let f := Config.floorVoltage low rate mv
  if 105 * rate ≤ 10 * low then 550 + f % (mv - 550 + 1) else min 850 (mv + 1 + f % (850 - mv + 1))

/-- SUPPLY_SHORT: the backup budget is still exceeded and nothing is left to reclaim (R425). -/
def supplyShort (s : State) : State :=
  let short := s.power.supplyLow && decide (budget s < committed s)
  let s' := s.setPower { s.power with supplyShort := short }
  if short ∧ s.power.supplyShort = false then (s'.setFlag 0x1330 0 2).logEvent 0x50 4 0xF00D 0xFF 0 else s'

/-- RATE_SHORT at 0.85 V, and its DEVICE_FAULT, when the condition arises (R20). -/
def rateShort (s : State) (low : Nat) : State :=
  let short := decide (fabVoltage s = 850 ∧ low < 10 * guaranteedRate s)
  let s' := s.setPower { s.power with rateShort := short }
  if short ∧ s.power.rateShort = false then (s'.setFlag 0x1104 0 0).logEvent 0x50 4 0xF00C 0xFF 0 else s'

/-- MONITOR_REFRESH: the readings are stored, invalid ones flagged and left out, the floor recomputed from the valid ones;
with fewer than six of them VDD_FAB is held at 0.85 V (R18 to R20). -/
def execMonitorRefresh (readings : List Nat) (s : State) : Out := live s fun s =>
  let rs := (List.range 8).map fun i => (readings[i]?).getD 0 % 65536
  let s := coresReady s
  let s := (List.range 8).foldl (fun s i => s.setObj 0x1101 (i + 1) (le 2 ((rs[i]?).getD 0))) s
  let m2 := median2 rs
  let valid := rs.filter (readingValid m2)
  let s := (List.range (8 - valid.length)).foldl (fun s _ => s.setFlag 0x1104 0 1) s
  let held := decide (valid.length < 6)
  if valid.isEmpty then s.setPower { s.power with fabHeld := held, targetFab := 70 }
  else
    let low := valid.foldl min 2500
    let fl := floorFor low (guaranteedRate s) (fabVoltage s)
    let s := (s.setObj 0x1102 0 (le 2 fl)).setPower { s.power with fabHeld := held, targetFab := if held then 70 else vidOf fl }
    supplyShort (rateShort s low)

/-! ### Requests (R420, R422, R423) -/

/-- A unit is powered by its grant: a transceiver or a cipher lane. -/
def powerTrx (s : State) (t : Nat) (on : Bool) : State :=
  { s with rf := { s.rf with trx := vset s.rf.trx t { vget s.rf.trx t {} with powered := on } } }

def enableLane (s : State) (l : Nat) (on : Bool) : State :=
  { s with sec := { s.sec with lanes := vset s.sec.lanes l { vget s.sec.lanes l {} with enabled := on } } }

/-- Has the requester's grant been reclaimed? It stays off until the restore (R425). -/
def isReclaimed (s : State) (kind inst : Nat) : Bool := s.power.reclaimed.any fun g => g.kind == kind && g.inst == inst

/-- The request of a unit that a supply-fail may reclaim: refused while it is reclaimed (R420, R425). -/
def unitRequest (s : State) (kind inst units : Nat) : State × Bool :=
  if isReclaimed s kind inst then (grantReduced s, false) else s.request kind inst units false

/-- POWER_REQUEST: the arbiter answers one request (R420). -/
def execPowerRequest (q : PowerReq) (s : State) : Out := live s fun s =>
  let s := coresReady s
  match q with
  | .floor => s.grant 0 0 32
  | .fabric mv => s.setPower { s.power with targetFab := min 70 (vidOf (max mv (s.objN 0x1102 0))) }
  | .dram => s.grant 2 0 (dramCharge s.dram.st)
  | .corePoint c p => requestPoint s c p
  | .trx t =>
    let (s, given) := unitRequest s 3 t.val (trxCharge s t.val)
    if given then powerTrx s t.val true else s
  | .contention r units _ => (s.requestUpTo 4 r.val units).1
  | .booking r units id => (s.book (bookKey r.val 5 id) units).1
  | .port p => (unitRequest s 6 p.val (portCharge (s.objF 0x5800 (p.val + 1) 0 1))).1
  | .pcieLane n => (unitRequest s 7 0 (6 * n)).1
  | .baseLane n => (unitRequest s 8 0 (16 * n)).1
  | .cipherLane l =>
    let (s, given) := unitRequest s 9 l.val 2
    if given then enableLane s l.val true else s

end Sys2Proof.Machine
end

