-- ==== Sys2Proof/Machine/Radio.lean ====
section
/-! DEFINITION. The transceiver array (03), the synthesizers, front-end states and regulatory guard (04): what the
MAC and Chain mode share. Rows that release a held transmission stand in Gate.lean. -/

namespace Sys2Proof.Machine
open Sys2Proof

def State.setRf (s : State) (x : Rf) : State := { s with rf := x }
def State.fe (s : State) (r : Radio) : FrontEnd := s.rf.fe[r]
def State.modFe (s : State) (r : Radio) (f : FrontEnd → FrontEnd) : State :=
  s.setRf { s.rf with fe := vmod s.rf.fe r f }
def State.trx (s : State) (t : Trx) : Transceiver := s.rf.trx[t]
def State.modTrx (s : State) (t : Trx) (f : Transceiver → Transceiver) : State :=
  s.setRf { s.rf with trx := vmod s.rf.trx t f }

def personality (s : State) (r : Radio) : Nat := s.objN 0x2100 (r + 1)
def isWlan (s : State) (r : Radio) : Bool := personality s r == 1
def isChain (s : State) (r : Radio) : Bool := personality s r == 2

/-! ### Channels and sampling plans (R69 to R71) -/

/-- A channel from its centre and bandwidth in kHz. -/
def chanOf (centre bw : Nat) : Chan := { centre, lo := centre - bw / 2, hi := centre + bw / 2, bw }

/-- Bandwidth code to kHz. -/
def bwKhz (code : Nat) : Nat := 20000 * 2 ^ code

/-- The channel WLAN_CHANNEL sets. -/
def wlanChan (s : State) (r : Radio) : Chan := chanOf (s.objF 0x2101 (r + 1) 0 4) (bwKhz (s.objF 0x2101 (r + 1) 4 1))

/-- Plan rate in kHz (*Sampling plans*). -/
def planRate (p : Nat) : Nat := 9216000 + 192000 * p

/-- A plan is usable when the channel keeps 120 MHz from its Nyquist frequency (R69). -/
def planUsable (p : Nat) (c : Chan) : Bool :=
  decide (c.hi + 120000 ≤ planRate p / 2) || decide (planRate p / 2 + 120000 ≤ c.lo)

def inChan (c : Chan) (f : Nat) : Bool := decide (c.lo ≤ f ∧ f ≤ c.hi)

/-- The cost of a usable plan: 3 for each interleave offset spur, 1 for each reference spur in the channel (R70). -/
def planCost (p : Nat) (c : Chan) : Nat :=
  let fs := planRate p
  let off := ((List.range 15).filter fun k => inChan c ((k + 1) * fs / 16)).length
  let ref := ((List.range 123).filter fun n =>
    let f := (n + 1) * 40000
    decide (f < fs / 2) && inChan c (if c.hi ≤ fs / 2 then f else fs - f)).length
  3 * off + ref

/-- Distance of a plan's Nyquist frequency from the nearer channel edge. -/
def planDistance (p : Nat) (c : Chan) : Nat :=
  let fn := planRate p / 2
  min (max fn c.lo - min fn c.lo) (max fn c.hi - min fn c.hi)

/-- The plan of a channel, its cost, and whether any plan is usable: the cheapest usable plan, ties keeping the
lower rate (R70); with none, the plan whose Nyquist frequency lies farthest (R71). -/
def selectPlan (c : Chan) : Nat × Nat × Bool :=
  let us := (List.range 4).filter fun p => planUsable p c
  match us with
  | [] => ((List.range 4).foldl (fun b p => if planDistance b c < planDistance p c then p else b) 0, 0, false)
  | p :: ps =>
    let b := ps.foldl (fun b q => if planCost q c < planCost b c then q else b) p
    (b, planCost b c, true)

/-- The channel the sampling plans are judged for: in Chain mode the 20 MHz slice that the DDC delivers (R69, R73). -/
def sliceOf (c : Chan) : Chan := if c.bw < 20000 then chanOf c.centre 20000 else c

/-- Does a channel lie in the second Nyquist zone of a plan (*Direct RF sampling*)? -/
def zoneTwo (p : Nat) (c : Chan) : Bool := decide (planRate p / 2 < c.centre)

/-- The 32-bit NCO word of a frequency, to the nearest step of fs/2^32 (R72; log entry 147). -/
def ncoWord (f fs : Nat) : Nat := (f * 2 ^ 32 + fs / 2) / fs % 2 ^ 32

/-- The LO of the fallback path: 40 MHz below the channel centre, or above it with IF_SIDE 1 (R74). -/
def loOf (c : Chan) (side : Nat) : Nat := if side = 0 then c.centre - 40000 else c.centre + 40000

/-- What the DDC is set to. On the RF-sampling path it tunes to fc, or to fs − fc with its output conjugated for a
second-zone channel (R72); on the fallback path to the IF, +40 or −40 MHz of the 640 MS/s stream (R74). -/
def ddcOf (c : Chan) (p : Nat) (path : PathState) (side : Nat) : Ddc :=
  let sl := sliceOf c
  if path = .fallback then
    { slice := sl, nco := if side = 0 then ncoWord 40000 640000 else 2 ^ 32 - ncoWord 40000 640000, conj := false, rate := sl.bw }
  else if zoneTwo p c then { slice := sl, nco := ncoWord (planRate p - c.centre) (planRate p), conj := true, rate := sl.bw }
  else { slice := sl, nco := ncoWord c.centre (planRate p), conj := false, rate := sl.bw }

/-- The band of a channel as FEM_BANDS numbers it (log entry 10). -/
def bandOf (c : Chan) : Nat :=
  if 410000 ≤ c.centre ∧ c.centre ≤ 1000000 then 0
  else if 2400000 ≤ c.centre ∧ c.centre ≤ 2500000 then 1
  else if 5150000 ≤ c.centre ∧ c.centre < 5925000 then 2
  else if 5925000 ≤ c.centre ∧ c.centre ≤ 7125000 then 3
  else 4

/-! ### Transceivers of a radio (R84, R86, R413) -/

def trxAssign (s : State) (t : Trx) : Nat := s.objN 0x2001 (t + 1)

/-- The transceivers assigned to a radio, lowest first. -/
def assigned (s : State) (r : Radio) : List Trx := (List.finRange 16).filter fun t => trxAssign s t == r.val + 1

/-- How many transceivers the running state lets a radio use (R413). -/
def chainCount (s : State) : Nat := if runState s = 1 then s.objF 0x1302 0 0 1 else if runState s = 2 then 1 else 16

/-- The transceivers a radio uses: the lowest-numbered, powered and calibrated (R86, R413). -/
def chains (s : State) (r : Radio) : List Trx :=
  ((assigned s r).take (chainCount s)).filter fun t => (s.trx t).powered && (s.trx t).calibrated

/-- A FEM_TIMING field of one transceiver: 0 TR_LEAD, 2 PA_LEAD, 4 PA_LAG, 6 TR_LAG. -/
def femT (s : State) (t : Trx) (off : Nat) : Nat := s.objF 0x2006 (t.val + 1) off 2

/-- The largest of a FEM_TIMING field over a radio's transceivers: 0 TR_LEAD, 2 PA_LEAD, 4 PA_LAG, 6 TR_LAG (R91). -/
def femTiming (s : State) (r : Radio) (off : Nat) : Nat :=
  ((chains s r).map fun t => femT s t off).foldl max 0

/-- Are a transceiver's fallback coefficients those of the radio's LO frequency (R75)? -/
def coeffCurrent (s : State) (r : Radio) (t : Trx) : Bool := (s.trx t).coeffLo == some (s.fe r).lo

/-! ### Sentinels' scans (R87 to R89) -/

def scanCount (s : State) (t : Trx) : Nat := s.objF 0x2030 (t.val + 1) 0 1

/-- The channel of entry `e` of a sentinel's scan list. -/
def scanChan (s : State) (t : Trx) (e : Nat) : Chan :=
  chanOf (s.objF 0x2030 (t.val + 1) (4 + 8 * e) 4) (bwKhz (s.objF 0x2030 (t.val + 1) (8 + 8 * e) 1))

/-- The front end of a sentinel's clock radio. -/
def clockFe (s : State) (t : Trx) : FrontEnd := vget s.rf.fe (s.objN 0x2002 (t.val + 1)) {}

/-- The clock radio's sampling synthesizer does not run (R89). -/
def clockDead (s : State) (t : Trx) : Bool := (clockFe s t).st == .off || (clockFe s t).st == .fault

/-- The result of an entry that was not received: UNUSABLE, noise floor 8000h. What the other fields hold the spec does not
say: zeros, with the present stamp (log entry 148). -/
def unusableResult (s : State) (t : Trx) (e : Nat) : State :=
  s.setObj 0x2031 (16 * t.val + e + 1)
    (le 4 (scanChan s t e).centre ++ le 2 0 ++ le 2 0 ++ le 2 0x8000 ++ [0] ++ [1] ++ s.datum.t.enc)

/-- The first entry from `e` on that the clock radio's plan can use; those skipped are marked (R88). -/
def skipUnusable (t : Trx) : Nat → State → Nat → State × Nat
  | 0, s, e => (s, e)
  | k + 1, s, e =>
    if planUsable (clockFe s t).plan (scanChan s t e) then (s, e)
    else skipUnusable t k (unusableResult s t e) ((e + 1) % max 1 (scanCount s t))

/-- A dwell begins at an entry, or at the next one that the plan can use; without a running clock the sentinel keeps stepping
through its dwells (R88, R89). -/
def beginDwell (s : State) (t : Trx) (e : Nat) : State :=
  let (s, e) := if clockDead s t then (s, e) else skipUnusable t (scanCount s t) s e
  s.modTrx t fun x => { x with scanAt := e, dwellFrom := s.now }

/-- The sentinels clocked from a radio. -/
def sentinelsOf (s : State) (r : Radio) : List Trx :=
  (List.finRange 16).filter fun t => trxAssign s t == 0 && s.objN 0x2002 (t.val + 1) == r.val

/-- The clock radio reaches READY again: its sentinels start their lists from the first entry (R89). -/
def restartSentinels (s : State) (r : Radio) : State := (sentinelsOf s r).foldl (fun s t => beginDwell s t 0) s

/-- The clock radio's plan has changed: the dwells in progress restart (R88). -/
def restartDwells (s : State) (r : Radio) : State :=
  (sentinelsOf s r).foldl (fun s t => beginDwell s t (s.trx t).scanAt) s

/-! ### Transceivers take their part -/

/-- A transceiver joins a radio: it is powered, and calibrates before the radio uses it (R86). -/
def joinTrx (s : State) (t : Trx) : State :=
  let (s, given) := s.request 3 t.val (trxCharge s t.val) false
  s.modTrx t fun x => { x with powered := given, dacOn := given, calibrated := false, joining := given, coeffLo := none, qualified := false }

/-- A transceiver becomes a sentinel: powered but for its DAC, its scan starting at the first entry (R87, R88). -/
def sentinelTrx (s : State) (t : Trx) : State :=
  let (s, given) := s.request 3 t.val (trxCharge s t.val) false
  beginDwell (s.modTrx t fun x => { x with powered := given, dacOn := false, calibrated := false, joining := false, lnaByp := false }) t 0

/-- A transceiver is OFF: powered down, its FEM lines inactive (R84, R90). -/
def offTrx (s : State) (t : Trx) : State :=
  (s.release 3 t.val).modTrx t fun x =>
    { x with powered := false, dacOn := false, calibrated := false, joining := false, coeffLo := none, lnaByp := false }

/-- Reception on the fallback path without current coefficients sets IMAGE_UNCAL (R75). -/
def imageCheck (s : State) (r : Radio) : State :=
  if (s.fe r).path = .fallback ∧ (chains s r).any (fun t => !coeffCurrent s r t) = true then s.setFlag 0x2040 0 2 else s

/-- The radio a transceiver is assigned to. -/
def radioOf (s : State) (t : Trx) : Option Radio := (List.finRange 3).find? fun r => trxAssign s t == r.val + 1

/-- TRX_JOIN_CAL_DONE: the joining transceiver is calibrated at a recorded temperature, and its radio begins to use it
(R75, R86, R108). -/
def execTrxJoinCalDone (t : Trx) (temp : Int) (s : State) : Out := live s fun s =>
  if (s.trx t).joining then
    let s := s.modTrx t fun x => { x with joining := false, calibrated := true, temp }
    match radioOf s t with
    | some r => if (s.fe r).st = .ready then imageCheck s r else s
    | none => s
  else s

/-! ### The lock gate and returns (R106, R109) -/

/-- The lock gate is open only in READY and DIAG (R106). -/
def gateOpen (f : FrontEnd) : Bool := f.st == .ready || f.st == .diag

/-- A request is returned with a front-end code; SYNTH_BUSY, the regulatory codes and their flags (R109, R114 to
R116). -/
def returnReq (s : State) (r : Radio) (id code : Nat) : State :=
  let s := s.modFe r fun f => { f with returned := f.returned ++ [(id, code)] }
  if code = 0x20 then s.radioFlag 0x2051 r 1
  else if code = 0x21 then s.radioFlag 0x2051 r 5
  else if code = 0x22 then s.radioFlag 0x2051 r 6
  else if code = 0x23 then s.radioFlag 0x2051 r 7
  else s

/-! ### Transmissions on the air and the FEM lines (R90 to R95, R135, R136) -/

/-- Ramp-down of a family (TRACK, R135): 0 OFDM, 1 DSSS/CCK, capped at 2 us, 2 MR-FSK. -/
def rampDown (s : State) (r : Radio) (family : Nat) : Nat :=
  let ofdm := 250 * s.objF 0x2110 (r.val + 1) 2 1
  if family = 2 then 1000 * s.objF 0x2110 (r.val + 1) 3 1 else if family = 1 then min 2000 ofdm else ofdm

/-- Is a transmission of the radio due or on the air? -/
def onAir (s : State) (r : Radio) : Bool := (s.fe r).air.any fun a => decide (s.now < a.e)

/-- Is the radio transmitting, with so much lead before S and lag after E? -/
def sendingAt (s : State) (r : Radio) (lead lag : Nat) : Bool :=
  (s.fe r).air.any fun a => decide (a.s ≤ s.now + lead ∧ s.now < a.e + lag)

/-- Does a diagnostic transmission use the transceiver (R118)? -/
def diagUses (s : State) (t : Trx) : Bool :=
  (List.finRange 3).any fun r => (s.fe r).diag.running && (s.fe r).diag.mask.testBit t.val

/-- Does a transmission use the transceiver now, from so much before its S to so much after its E? Transmissions whose
intervals meet hold a line across the gap between them (R91, R92). -/
def airUses (s : State) (t : Trx) (lead lag : Nat) : Bool :=
  (List.finRange 3).any fun r => (s.fe r).air.any fun a => a.trx.contains t && decide (a.s ≤ s.now + lead ∧ s.now < a.e + lag)

/-- PA_EN is active from S − PA_LEAD to E + PA_LAG (*FEM line events for one transmission*). -/
def paActive (s : State) (t : Trx) : Bool := diagUses s t || airUses s t (femT s t 2) (femT s t 4)

/-- TR_SW is at transmit from S − TR_LEAD to E + TR_LAG. -/
def trActive (s : State) (t : Trx) : Bool := diagUses s t || airUses s t (femT s t 0) (femT s t 6)

/-- LNA_BYP is active while TR_SW is at transmit, and follows the AGC otherwise (R91, R95). -/
def lnaActive (s : State) (t : Trx) : Bool := trActive s t || (s.trx t).lnaByp

/-- The level of a FEM line: low until a Traverse sets FEM_POLARITY, then as the polarity bit says (R90). Lines: 0 PA_EN,
1 LNA_BYP, 2 TR_SW. -/
def lineLevel (s : State) (t : Trx) (line : Nat) : Bool :=
  let active := if line = 0 then paActive s t else if line = 1 then lnaActive s t else trActive s t
  (s.trx t).polaritySet && (active == bit (s.objN 0x2004 (t.val + 1)) line)

/-- Take air time off what a sub-band's current bucket accounts: the transmission did not use it. -/
def refundDuty (s : State) (bands : List Nat) (ns : Nat) : State :=
  bands.foldl (fun s i =>
    s.setRf { s.rf with duty := vset s.rf.duty i (match vget s.rf.duty i [] with | [] => [] | x :: r => (x - ns) :: r) }) s

/-! ### Channel changes (R101 to R104) -/

/-- The receive path a channel and PATH_MODE call for inside a channel change, with its reason (R71, R77, R78). -/
def pathAfterChange (s : State) (r : Radio) (usable : Bool) : PathState × Nat :=
  if !usable then (.fallback, 2)
  else if s.objN 0x2010 (r + 1) = 2 then (.fallback, 0)
  else (.sampling, 0)

/-- NCO words, LO and DAC mode of the radio's channel, plan and path are written (step 2; R72, R74, R82). A new LO frequency
is still to lock. -/
def retune (s : State) (r : Radio) : State :=
  let side := s.objN 0x2011 (r + 1)
  s.modFe r fun f =>
    match f.chan with
    | some c => { f with ddc := some (ddcOf c f.plan f.path side), lo := loOf c side, loLocked := f.loLocked && f.lo == loOf c side,
                         dac := if zoneTwo f.plan c then .mixed else .nrz }
    | none => f

/-- A blocker's switch that waits stays pending on a channel that the RF-sampling path receives; onto one wider than 160 MHz
it cannot be served (R78). -/
def pendingAfter (f : FrontEnd) (c : Chan) (path : PathState) : Option PathState :=
  if f.switchPending = some .fallback ∧ f.switchWhy = 1 ∧ path = .sampling ∧ c.bw ≤ 160000 then f.switchPending else none

/-- A channel change begins (steps 1 and 2): the gate closes, detection is held, the FEM lines are inactive, the plan is
selected, what the new channel needs is written, and the path switch it calls for is made inside the change. -/
def beginChange (s : State) (r : Radio) (c : Chan) : State :=
  let (p, cost, us) := selectPlan (sliceOf c)
  let was := s.fe r
  let lost := was.switchPending = some .fallback ∧ was.switchWhy = 1 ∧ 160000 < c.bw
  let s := if lost then s.setFlag 0x2040 0 1 else s
  let s := (assigned s r).foldl (fun s t => s.modTrx t fun x => { x with lnaByp := false, qualified := false }) s
  let (path, reason) := pathAfterChange s r us
  let s := s.modFe r fun f =>
    { f with st := .changing, chan := some c, pending := none, plan := p, cost, usable := us, attempts := 0,
             loLocked := false, newChan := true, rx := none,
             switches := if f.path ≠ path ∧ ¬ (f.path = .probe ∧ path = .sampling) then f.switches + 1 else f.switches
             path, reason, switching := false, switchPending := pendingAfter f c path }
  let s := retune s r
  if was.plan = p ∧ was.st ≠ .off then s else restartDwells s r

/-- A request for a channel: it begins at the radio's next boundary and replaces any earlier one (R104). -/
def requestChannel (s : State) (r : Radio) (c : Chan) : State := s.modFe r fun f => { f with pending := some c }

/-- The radio's boundary: in 802.11 no PPDU is in transmission or reception; in Chain mode a slot boundary (*Channel change*,
R60). -/
def radioBoundary (s : State) (r : Radio) : Bool :=
  if (s.fe r).st = .off ∨ (s.fe r).st = .diag then true
  else if isChain s r then
    let c := s.chain.radios[r]
    !c.running || c.inSlot.isNone || c.slotAt == s.now
  else !onAir s r && (s.fe r).rx.isNone

/-- An allowed boundary of R79 for what has waited since `asked`: in 802.11 also no response is awaited, unless the wait has
lasted 10 ms. A transmission due within 40 us is on its way in this model, so it is one in transmission. -/
def allowedBoundary (s : State) (r : Radio) (asked : Nat) : Bool :=
  radioBoundary s r && (isChain s r || (s.fe r).tx.isNone || decide (asked + 10000000 ≤ s.now))

/-- A pending change begins in READY at the radio's boundary (R102). -/
def changeAtBoundary (s : State) (r : Radio) : State :=
  match (s.fe r).pending with
  | some c => if (s.fe r).st = .ready ∧ radioBoundary s r = true then beginChange s r c else s
  | none => s

/-- LO_LOCKED: the fallback path is usable (step 7); reception on it resumes at the later of steps 6 and 7 (R103). -/
def execLoLocked (r : Radio) (s : State) : Out := live s fun s =>
  let f := s.fe r
  if f.st = .off then s
  else
    let s := s.modFe r fun f => { f with loLocked := true, rxFrom := if f.path = .fallback ∧ gateOpen f = true then s.now else f.rxFrom }
    if gateOpen f = true ∧ f.loLocked = false then imageCheck s r else s

/-- The recorded die temperatures of a calibration of every assigned transceiver (R108). FE_STATUS has one for the radio: the
lowest-numbered assigned transceiver's (DESIGN CHOICE; log entry 163). -/
def calibrateAll (s : State) (r : Radio) (temps : List Int) : State :=
  let ts := assigned s r
  let s := (ts.zip temps).foldl (fun s p => s.modTrx p.1 fun x => { x with calibrated := x.powered && !x.joining || x.calibrated, temp := p.2 }) s
  s.modFe r fun f => { f with temp := (temps.head?).getD f.temp }

/-- The transceivers of the radio that were assigned and powered are calibrated by a channel change (step 5). -/
def calibrateChange (s : State) (r : Radio) (temps : List Int) : State :=
  let s := (assigned s r).foldl (fun s t => s.modTrx t fun x => { x with calibrated := x.powered, joining := false }) s
  calibrateAll s r temps

/-- A front end goes OFF: synthesizers and converters down (R101). -/
def feOff (s : State) (r : Radio) : State :=
  let s := (assigned s r).foldl (fun s t => s.modTrx t fun x => { x with lnaByp := false, coeffLo := none }) s
  (s.release 4 r.val).modFe r fun f =>
    { f with st := .off, chan := none, pending := none, loLocked := false, rx := none, switchPending := none,
             switching := false, path := .sampling, reason := 0, ddc := none, lo := 0, dac := .off, fresh := true }

/-! ### Path switches (R77 to R81) -/

/-- BLK_PARAMS of a radio. -/
def ovrCount (s : State) (r : Radio) : Nat := s.objF 0x2012 (r + 1) 2 2
def blkMargin (s : State) (r : Radio) : Nat := s.objF 0x2012 (r + 1) 4 1
def blockHold (s : State) (r : Radio) : Nat := s.objF 0x2012 (r + 1) 5 2

/-- A blocker trigger (R78): it asks for a switch once, and doubles the hold once for each probe that it ends. -/
def blockerTrigger (s : State) (r : Radio) : State :=
  let f := s.fe r
  let wide : Bool := match f.chan with | some c => decide (160000 < c.bw) | none => false
  if wide = true ∨ s.objN 0x2010 (r + 1) = 1 then s.setFlag 0x2040 0 1
  else if f.path = .fallback ∨ f.switchPending = some .fallback then s
  else s.modFe r fun f => { f with
    switchPending := some .fallback, switchWhy := 1, switchAsked := s.now
    hold := if f.path = .probe then min (min (2 * f.hold) (64 * blockHold s r)) 60000 else f.hold }

/-- One transceiver's 10 us window: whether it qualifies for R78. -/
def windowQualifies (s : State) (r : Radio) (w : TrxWindow) : Bool :=
  decide (ovrCount s r ≤ w.overs) && decide (w.inChannel + 10 * (blkMargin s r : Int) ≤ w.wideband)

/-- OVERRANGE_WINDOW: every overranged window is flagged; two consecutive qualifying windows of one transceiver
make a blocker trigger (R78). -/
def execOverrangeWindow (r : Radio) (w : List TrxWindow) (s : State) : Out := live s fun s =>
  let step (p : State × Bool) (x : TrxWindow) : State × Bool :=
    let s := p.1
    if trxAssign s x.trx = r.val + 1 ∧ ((s.fe r).path = .sampling ∨ (s.fe r).path = .probe) then
      let q := windowQualifies s r x
      let hit := q && (s.trx x.trx).qualified
      let s := s.modTrx x.trx fun t => { t with overrange := (t.overrange + x.overs) % 2 ^ 32, qualified := q }
      let s := if ovrCount s r ≤ x.overs then s.setFlag 0x2040 0 4 else s
      (s, p.2 || hit)
    else p
  let (s, trig) := w.foldl step (s, false)
  if trig then blockerTrigger s r else s

/-- PATH_SWITCH: the pending switch is made at an allowed boundary (R79): detection is held until it is done. -/
def pathSwitchAt (r : Radio) (s : State) : State :=
  let f := s.fe r
  if f.switchPending ≠ none ∧ f.switching = false ∧ f.st = .ready ∧ allowedBoundary s r f.switchAsked = true then
    s.modFe r fun f => { f with switching := true, switches := (f.switches + 1) % 2 ^ 32, rx := none }
  else s

/-- PATH_SWITCH_DONE: the new path feeds the DDC and AGC is reset (step 3). A switch from SAMPLING for a blocker starts the
hold. -/
def execPathSwitchDone (r : Radio) (s : State) : Out := live s fun s =>
  let f := s.fe r
  match f.switchPending with
  | some p =>
    if f.switching then
      let s := s.modFe r fun f =>
        { f with path := p, switching := false, switchPending := none, rxFrom := s.now
                 reason := if p = .fallback then f.switchWhy else 0
                 hold := if p = .fallback ∧ f.path = .sampling ∧ f.switchWhy = 1 then blockHold s r else f.hold }
      let s := (assigned s r).foldl (fun s t => s.modTrx t fun x => { x with lnaByp := false }) s
      imageCheck (retune s r) r
    else s
  | none => s

/-- BLOCK_HOLD_EXPIRY: a probe of the RF-sampling path becomes pending (R78). -/
def execBlockHoldExpiry (r : Radio) (s : State) : Out := live s fun s =>
  if (s.fe r).path = .fallback ∧ (s.fe r).reason = 1 then
    s.modFe r fun f => { f with switchPending := some .probe, switchWhy := 1, switchAsked := s.now }
  else s

/-- PROBE_EXPIRY: 100 us with no trigger, the radio is back on SAMPLING (R78). -/
def execProbeExpiry (r : Radio) (s : State) : Out := live s fun s =>
  if (s.fe r).path = .probe ∧ (s.fe r).switchPending = none then
    s.modFe r fun f => { f with path := .sampling, reason := 0, hold := blockHold s r }
  else s

/-- A staked PATH_MODE: the switch it calls for becomes pending, one it no longer calls for is dropped (R77, R79). A radio in
PROBE already receives on the RF-sampling path. -/
def pathModeStaked (s : State) (r : Radio) : State :=
  let f := s.fe r
  let ask (f : FrontEnd) (p : PathState) : FrontEnd := { f with switchPending := some p, switchWhy := 0, switchAsked := s.now }
  if f.st = .off ∨ f.usable = false ∨ f.switching = true then s
  else s.modFe r fun f =>
    match s.objN 0x2010 (r + 1) with
    | 1 => if f.path = .fallback then ask f .sampling else { f with path := .sampling, switchPending := none }
    | 2 => if f.path = .fallback then { f with reason := 0, switchPending := none } else ask f .fallback
    | _ => if f.path = .fallback then (if f.reason = 0 then ask f .sampling else f)
           else if f.switchWhy = 0 then { f with switchPending := none } else f

/-- A staked IF_SIDE: the LO retunes (R74). -/
def ifSideStaked (s : State) (r : Radio) : State := if (s.fe r).st = .off then s else retune s r

/-- IMAGE_RECAL_TIMER: on the RF-sampling path the fallback coefficients are measured anew, for the LO frequency in force
(R75). -/
def execImageRecalTimer (r : Radio) (rejectionDb : List Nat) (s : State) : Out := live s fun s =>
  if (s.fe r).path = .fallback ∨ (s.fe r).st = .off then s
  else ((assigned s r).zip rejectionDb).foldl
    (fun s p => s.modTrx p.1 fun x => { x with coeffLo := some (s.fe r).lo, rejection := p.2 }) s

/-! ### RFFE buses (R97) -/

/-- Insert a write in due-time order, Radio A before B before C on equal due times, then as queued. -/
def rffeInsert (w : RffeWrite) : List RffeWrite → List RffeWrite
  | [] => [w]
  | x :: r =>
    if w.due < x.due ∨ (w.due = x.due ∧ w.radio < x.radio) ∨ (w.due = x.due ∧ w.radio = x.radio ∧ w.order < x.order)
    then w :: x :: r else x :: rffeInsert w r

/-- A transmission's writes are queued on the buses of its transceivers. Which registers of a FEM a transmission sets, and
when before step 1 its writes fall due, the spec does not say: one Register Write per transceiver, of free content, due at
step 1 (R91, R97; log entry 149). -/
def queueRffe (s : State) (r : Radio) (req due : Nat) : State :=
  (chains s r).foldl (fun s t =>
    let bus := s.objF 0x2005 (t.val + 1) 1 1
    if bus < 3 then
      let (reg, s) := s.draw
      let (data, s) := s.draw
      let w : RffeWrite := { due, radio := r.val, order := s.rf.rffeOrder, usid := s.objN 0x2005 (t.val + 1) % 16,
                             cmd := .regWrite (reg % 32) (data % 256), req }
      s.setRf { s.rf with rffe := vset s.rf.rffe bus (rffeInsert w (vget s.rf.rffe bus [])), rffeOrder := s.rf.rffeOrder + 1 }
    else s) s

/-- Does a bus of the radio's transceivers hold a write whose due instant has passed (R97)? -/
def rffeOverdue (s : State) (r : Radio) : Bool :=
  (chains s r).any fun t =>
    let bus := s.objF 0x2005 (t.val + 1) 1 1
    decide (bus < 3) && (vget s.rf.rffe bus []).any fun w => decide (w.due < s.now)

/-- The head of a bus's queue is put on the bus (R96, R97). -/
def rffeRun (s : State) (bus : Fin 3) : State × Option RffeWrite :=
  match s.rf.rffe[bus] with
  | [] => (s, none)
  | w :: l => (s.setRf { s.rf with rffe := vmod s.rf.rffe bus fun _ => l, rffeLast := vmod s.rf.rffeLast bus fun _ => some (w.usid, w.cmd) }, some w)

/-- What a transmission that will not take place had queued is taken off the buses. -/
def rffeDrop (s : State) (r req : Nat) : State :=
  s.setRf { s.rf with rffe := s.rf.rffe.map fun l => l.filter fun w => !(w.radio == r && w.req == req) }

/-! ### The regulatory guard (R111 to R117) -/

/-- Entry `i` (from 1) of REG_CHANNEL. -/
structure RegChan where
  lo : Nat
  hi : Nat
  bw : Nat
  tx : Bool
  power : Int
  dwell : Nat
  deriving DecidableEq, Repr

def regChan (s : State) (i : Nat) : RegChan :=
  let b := s.objB 0x7020 i
  { lo := fld b 0 4, hi := fld b 4 4, bw := fld b 8 1, tx := bit (fld b 9 1) 0, power := fldI b 10 2, dwell := fld b 12 2 }

/-- The REG_CHANNEL entry that permits a channel (R113); none while no profile is installed (R112). -/
def permits (s : State) (c : Chan) : Option RegChan :=
  if s.objN 0x7000 0 = 0 then none
  else ((List.range (s.objN 0x7020 0)).map fun i => regChan s (i + 1)).find? fun e =>
    e.tx && decide (e.lo ≤ c.lo ∧ c.hi ≤ e.hi ∧ c.bw ≤ bwKhz e.bw)

/-- t(n) of R114 in 0.01 dB. -/
def chainLoss (n : Nat) : Int := ([0, 0, 301, 477, 602, 699, 778, 845, 903][n]?).getD 903

/-- Round down to 0.25 dB, in 0.01 dB. -/
def floorQuarter (x : Int) : Int := 25 * Int.fdiv x 25

/-- The cap of one transceiver's DAC power in 0.01 dBm (R114). -/
def dacCap (s : State) (e : RegChan) (c : Chan) (n : Nat) (t : Trx) : Int :=
  floorQuarter (10 * e.power - chainLoss n - 10 * s.objI 0x7010 (t + 1) (2 * bandOf c) 2)

/-- DAC power of a transceiver: capped, and at most +6 dBm, a request between two steps rounded down (R82, R114; log entry
150). -/
def dacPower (s : State) (e : RegChan) (c : Chan) (n : Nat) (req : Int) (t : Trx) : Int :=
  min (min (dacCap s e c n t) (floorQuarter req)) 600

/-- The units a transmission draws at the powers R114 allows: a power above a FEM's table draws its highest level. -/
def txUnits (s : State) (ts : List Trx) (p : Trx → Int) : Option Nat :=
  ts.foldl (fun acc t =>
    match acc, txCharge s t.val (p t), ((femEntries s t.val).getLast?).map (·.1) with
    | some a, some u, _ => some (a + u)
    | some a, none, some top => (txCharge s t.val (10 * top)).map (a + ·)
    | _, _, _ => none) (some 0)

/-- The highest FEM_DRAW level, in 0.01 dBm, whose charge on every transceiver fits the grant (R422). -/
def fittingLevel (s : State) (ts : List Trx) (units : Nat) : Option Int :=
  let levels := ts.flatMap fun t => (femEntries s t.val).map fun e => 10 * e.1
  levels.foldl (fun best l =>
    match txUnits s ts fun _ => l with
    | some u => if u ≤ units then (match best with | none => some l | some b => some (max b l)) else best
    | none => best) none

/-- Sub-bands of REG_DUTY a channel overlaps, by number from 0 (R115). -/
def dutyBands (s : State) (c : Chan) : List Nat :=
  (List.range (s.objN 0x7030 0)).filter fun i =>
    let b := s.objB 0x7030 (i + 1)
    decide (fld b 0 4 < c.hi ∧ c.lo < fld b 4 4)

/-- Air time accounted in a sub-band's window, ns. -/
def dutyUsed (s : State) (i : Nat) : Nat := (vget s.rf.duty i []).sum

/-- limit × window of a sub-band in ns. -/
def dutyLimit (s : State) (i : Nat) : Nat :=
  s.objF 0x7030 (i + 1) 8 2 * s.objF 0x7030 (i + 1) 10 4 * 100000

/-- The first sub-band whose limit a transmission of so long would pass (R115). -/
def dutyBlocks (s : State) (c : Chan) (ns : Nat) : Option Nat :=
  (dutyBands s c).find? fun i => decide (dutyLimit s i < dutyUsed s i + ns)

/-- Account on-air time in every sub-band the channel overlaps, once per radio. -/
def accountDuty (s : State) (c : Chan) (ns : Nat) : State :=
  (dutyBands s c).foldl (fun s i =>
    s.setRf { s.rf with duty := vset s.rf.duty i (match vget s.rf.duty i [] with | [] => [ns] | x :: r => (x + ns) :: r) }) s

/-- DUTY_BUCKET_ROLL: the oldest of the 60 past buckets drops out (R115). -/
def execDutyBucketRoll (sub : Fin 16) (s : State) : Out := live s fun s =>
  s.setRf { s.rf with duty := vmod s.rf.duty sub fun l => 0 :: (match l with | [] => [0] | l => l).take 60 }

/-- Does a transmission that starts at `start` and lasts so long end beyond the channel's maximum dwell (R116)? -/
def dwellBlocks (s : State) (r : Radio) (e : RegChan) (start ns : Nat) : Bool :=
  e.dwell != 0 && decide ((s.fe r).dwellFrom + e.dwell * 1000000 < start + ns)

/-- The front-end return code of a transmission on the radio's channel with its S at `start`, or its regulatory entry (R114
to R117). -/
def regJudge (s : State) (r : Radio) (c : Chan) (req : Int) (start ns : Nat) : Except Nat RegChan :=
  match permits s c with
  | none => .error 0x24
  | some e =>
    let ts := chains s r
    if ts.isEmpty ∨ ts.any (fun t => decide (dacPower s e c ts.length req t < -3000)) then .error 0x23
    else if dwellBlocks s r e start ns then .error 0x22
    else match dutyBlocks s c ns with
      | some _ => .error 0x21
      | none => .ok e

/-- A transmission refused for duty counts in DUTY_REFUSED of the sub-band. -/
def countDuty (s : State) (c : Chan) (ns : Nat) : State :=
  match dutyBlocks s c ns with
  | some i => s.addObjF 0x7041 (i + 1) 0 4 1
  | none => s

/-- The least DAC power over a radio's transceivers under a grant: `none` when no FEM_DRAW level fits, or the power
falls below −30 dBm (R114, R422). -/
def grantedPower (s : State) (r : Radio) (e : RegChan) (c : Chan) (req : Int) (units : Nat) : Option Int :=
  let ts := chains s r
  match fittingLevel s ts units with
  | none => none
  | some l =>
    let p := floorQuarter ((ts.map fun t => min l (dacPower s e c ts.length req t)).foldl min 600)
    if p < -3000 then none else some p

/-- What a transmission asks of the arbiter (R422). -/
def askedUnits (s : State) (r : Radio) (e : RegChan) (c : Chan) (req : Int) : Option Nat :=
  let ts := chains s r
  txUnits s ts (dacPower s e c ts.length req)

/-- The earliest S that a radio can give a transmission now: after TR_LEAD and the 2 us of step 1, and SIFS after what it
still has on the air (R91; log entry 151). -/
def sifs (c : Chan) : Nat := if bandOf c = 1 then 10000 else 16000
def startOf (s : State) (r : Radio) (c : Chan) : Nat :=
  ((s.fe r).air.filter fun a => decide (s.now < a.e)).foldl (fun m a => max m (a.nominal + sifs c)) (s.now + femTiming s r 0 + 2000)

/-- A transmission is fixed: its RFFE writes are queued, its air time from S to E is accounted, and its lines follow S and E
(R91, R97, R115, R135). -/
def transmit (s : State) (r : Radio) (id kind start ns ramp : Nat) (c : Chan) (power : Int) : State :=
  let s := accountDuty (queueRffe s r id (start - femTiming s r 0 - 2000)) c (ns + ramp)
  s.modFe r fun f => { f with air := f.air.filter (fun a => decide (s.now ≤ a.e + 100000)) ++
    [{ id, kind, s := start, e := start + ns + ramp, nominal := start + ns, trx := chains s r, chan := c, power }] }

/-- Everything a radio has due or on the air is stopped: what has begun ramps down within the lesser of its ramp-down and
2 us (R136), what has not begun never begins, and neither is accounted beyond that. Answers what was stopped. -/
def cutAir (s : State) (r : Radio) : State × List Air :=
  let (run, old) := (s.fe r).air.partition fun a => decide (s.now < a.e)
  let cut (a : Air) : Air := { a with nominal := min a.nominal s.now, e := min a.e (s.now + min (a.e - a.nominal) 2000) }
  let s := run.foldl (fun s a => refundDuty (rffeDrop s r.val a.id) (dutyBands s a.chan) (if a.s ≤ s.now then a.e - (cut a).e else a.e - a.s)) s
  (s.modFe r fun f => { f with air := old ++ (run.filter fun a => decide (a.s ≤ s.now)).map cut }, run)

/-! ### Diagnostic transmit (R118 to R122) -/

/-- End a diagnostic transmission: ramp down, the front end OFF, the reason recorded (R121). -/
def endDiag (s : State) (r : Radio) (why : Nat) : State :=
  let d := (s.fe r).diag
  (feOff s r).modFe r fun f => { f with diag := { d with running := false, ended := why, remaining := 0 } }

/-- Is the field of a DIAG_TX value outside its range (*DIAG_TX value*)? -/
def diagRange (v : Bytes) : Bool :=
  let fam := fld v 9 1
  let rate := fld v 16 1
  decide (3 < fld v 0 1 ∨ 4 < fld v 8 1 ∨ 2 < fam) || decide ((fam = 0 ∧ 13 < rate) ∨ (fam = 1 ∧ 6 < rate) ∨ (fam = 2 ∧ 7 < rate)) ||
    decide (fld v 12 4 = 0) ||
    (fld v 0 1 == 2 && (decide (fld v 18 2 < 1 ∨ 4095 < fld v 18 2) || decide (fld v 20 2 < 16 ∨ 10000 < fld v 20 2)))

/-- The transceivers of a mask. -/
def maskTrx (m : Nat) : List Trx := (List.finRange 16).filter fun t => m.testBit t.val

/-- A diagnostic transmission has been accepted and has not begun. -/
def diagPending (f : FrontEnd) : Bool := f.diag.mode != 0 && !f.diag.running && f.diag.ended == 0

/-- A write of DIAG_TX: stop, or start when every condition of R118 holds. `k` is the session's manager key slot, 0
for a local one. The applied power of DIAG_STATUS is the least of the transceivers' DAC powers (R119; DESIGN CHOICE, log
entry 164). -/
def diagTx (k : Nat) (v : Bytes) (s : State) : State × Res :=
  let ri := fld v 1 1
  if h : ri < 3 then
    let r : Radio := ⟨ri, h⟩
    let unit := radioUnit ri
    let mode := fld v 0 1
    let f := s.fe r
    if mode = 0 then (if f.diag.running ∨ f.st = .diag then endDiag s r 3 else s, ok)
    else
      let mask := fld v 2 2
      let c := chanOf (fld v 4 4) (bwKhz (fld v 8 1))
      let ts := maskTrx mask
      if ¬ (f.st = .off ∨ f.st = .diag) then (s, abortBy aState unit 0x101)
      else if k ≠ 0 ∧ bit (s.objN 0x7F83 0) (k - 1) = false then (s, abortBy aRefused unit 3)
      else if s.objN 0x7000 0 = 0 then (s, abortBy aRefused unit 2)
      else match permits s c with
        | none => (s, abortBy aRefused unit 1)
        | some e =>
          if mask = 0 ∨ ts.any (fun t => trxAssign s t != ri + 1) ∨ s.objN 0x7F81 0 < fld v 12 4 ∨ diagRange v then
            (s, abortBy aRange unit 0)
          else
            let n := ts.length
            let req (t : Trx) : Int := 10 * fldI v 10 2 - chainLoss n - 10 * s.objI 0x7010 (t + 1) (2 * bandOf c) 2
            let pw (t : Trx) : Int := dacPower s e c n (req t) t
            match txUnits s ts pw with
            | none => (s, abortBy aRefused unit 4)
            | some u =>
              let (s', given) := s.request 4 ri u false
              if given then
                let p := (ts.map pw).foldl min 600
                let s' := beginChange (if f.st = .diag then endDiag s' r 3 else s') r c
                let s' := s'.grant 4 ri u
                (s'.modFe r fun f => { f with diag := { mode, chan := some c, mask, power := p, durMs := fld v 12 4 } }, ok)
              else (s, abortBy aRefused unit 4)
  else (s, dictAbort aRange 0x14)

/-- DIAG_TIMEOUT_EXPIRY: the hard timeout (R120). -/
def execDiagTimeoutExpiry (r : Radio) (s : State) : Out := live s fun s =>
  if (s.fe r).st = .diag ∧ (s.fe r).diag.running = true then (endDiag s r 2).radioFlag 0x2051 r 8 else s

/-- DIAG_DURATION_END: DURATION has elapsed (R121). -/
def execDiagDurationEnd (r : Radio) (s : State) : Out := live s fun s =>
  if (s.fe r).st = .diag ∧ (s.fe r).diag.running = true then endDiag s r 1 else s

end Sys2Proof.Machine
end

