-- ==== Sys2Proof/Machine/Phy.lean ====
section
/-! DEFINITION. The baseband (05_baseband_phy): preamble detection, signal fields, restart and capture, clear
channel assessment, noise floor; and the sentinels' dwells (R88, R89, R147). -/

namespace Sys2Proof.Machine
open Sys2Proof

/-- Has some run of 4 consecutive symbols a pilot phase residual above 30 degrees (R133)? -/
def tracksLost : Nat → List Nat → Bool
  | _, [] => false
  | run, x :: r => if 30 < x then (if 3 ≤ run then true else tracksLost (run + 1) r) else tracksLost 0 r

/-- Track loss of one user (R133). -/
def trackLoss (s : State) (r : Radio) (residuals : List Nat) : State :=
  if tracksLost 0 residuals then (s.radioFlag 0x2150 r 4).stat 0x2140 (r + 1) 6 1 else s

/-- The users' track losses of a reception or TB PPDU. -/
def trackAll (s : State) (r : Radio) (residuals : List (List Nat)) : State := residuals.foldl (fun s u => trackLoss s r u) s

/-! ### Acquisition and tracking (R130, R131, R134) -/

/-- MR-FSK symbol rates, kb/s, of the enabled rate codes (CHAIN_PHY). -/
def fskRates (s : State) (r : Radio) : List Nat :=
  let set := s.objF 0x2103 (r.val + 1) 0 1
  ((List.range 8).filter fun c => bit set c).map fun c => ([50, 50, 100, 100, 150, 150, 200, 200][c]?).getD 50

/-- Is a preamble one that the radio's personality searches for, within the acquisition range: ±320 kHz for 802.11 OFDM,
±60 ppm for the enabled MR-OFDM option, ±50 kHz and at least 4 octets for an enabled MR-FSK rate (R125, R130, R131, R134)? -/
def acquires (s : State) (r : Radio) (p : Preamble) : Bool :=
  match (s.fe r).chan with
  | none => false
  | some c =>
    if isChain s r then
      (p.family == 2 && p.rate != 0 && p.rate == s.objF 0x2103 (r.val + 1) 1 1 && decide (1000 * p.cfo.natAbs ≤ 60 * c.centre)) ||
      (p.family == 3 && (fskRates s r).contains p.rate && decide (4 ≤ p.octets ∧ p.cfo.natAbs ≤ 50000))
    else
      (p.family == 0 && decide (p.cfo.natAbs ≤ 320000)) || (p.family == 1 && decide (2400000 ≤ c.lo ∧ c.hi ≤ 2500000))

/-- The MR-FSK tracker after symbols: each moves it by a 32nd of the difference between the demodulated and the ideal
deviation, but for one whose soft metric is below a quarter of the mean of those before it since the SFD (R134; log entry
152). Arguments: metrics so far, their number, the tracked offset. -/
def fskTrack : Nat → Nat → Int → List (Int × Nat) → Int
  | _, _, hz, [] => hz
  | sum, n, hz, (d, m) :: l =>
    fskTrack (sum + m) (n + 1) (if 4 * m * n < sum then hz else hz + Int.fdiv d 32) l

/-- The reception that a preamble starts: its reference power is the in-channel power once the AGC has settled, its
sampling-clock offset the carrier offset over the carrier frequency (R131, R138). -/
def receptionOf (s : State) (r : Radio) (p : Preamble) : Reception :=
  let khz := match (s.fe r).chan with | some c => c.centre | none => 1
  { refPower := p.power, family := p.family, rate := p.rate, cfo := p.cfo, covers := p.covers
    trackBw := s.objF 0x2110 (r.val + 1) 0 1
    sfo := if p.family = 0 ∨ p.family = 2 then Int.fdiv (p.cfo * 1000000) khz else 0
    fskHz := if p.family = 3 then fskTrack 0 0 p.cfo p.fsk else 0
    estimates := 1 + p.midambles }

/-- A reception starts on a preamble; LNA_BYP follows the AGC (R95, R137). -/
def startReception (s : State) (r : Radio) (p : Preamble) : State :=
  let s := (s.modFe r fun f => { f with rx := some (receptionOf s r p), rxAt := s.datum.t }).stat 0x2140 (r + 1) 0 1
  let s := (chains s r).foldl (fun s t => s.modTrx t fun x => { x with lnaByp := p.byp }) s
  trackAll s r p.residuals

/-- The power step that a new preamble must show: 6 dB until the signal field has decoded correctly, 10 dB afterwards
(R138), in 0.1 dB. -/
def stepLimit (rc : Reception) : Int := if rc.sigOk then 100 else 60

/-- A new correlation during a reception: at the step it abandons the reception and restarts (R138, R139). -/
def newCorrelation (s : State) (r : Radio) (rc : Reception) (p : Preamble) : State :=
  if stepLimit rc ≤ p.power - rc.refPower then
    let s := (s.radioFlag 0x2150 r 0).stat 0x2140 (r + 1) 1 1
    let s := if rc.sigOk then (s.radioFlag 0x2150 r 1).stat 0x2140 (r + 1) 2 1 else s
    startReception s r p
  else s

/-- Does the radio hear its channel: READY, no path switch in progress, not transmitting, the LO locked on the fallback path,
and some transceiver whose receive path is in use and not blinded (R76, R80, R86, R103, R137)? -/
def hears (s : State) (r : Radio) : Bool :=
  let f := s.fe r
  f.st == .ready && !f.switching && !sendingAt s r 0 0 && (f.path != .fallback || f.loLocked) &&
    (chains s r).any fun t => decide ((s.trx t).blindTo ≤ s.now)

/-- PREAMBLE_DETECT: a reception starts while the radio hears the channel, or a new correlation meets the one in progress;
during a path switch the preamble is lost (R80, R137, R138, R143). -/
def preambleDetect (r : Radio) (p : Preamble) (s : State) : State :=
  let f := s.fe r
  if f.st = .ready ∧ f.switching = true then s.setFlag 0x2040 0 0
  else if hears s r = true ∧ acquires s r p = true then
    match f.rx with
    | none => startReception s r p
    | some rc => newCorrelation s r rc p
  else s

/-! ### Signal fields (R125 to R129, R137) -/

/-- The MCS valid for an MR-OFDM option, and their data rates in kb/s (*MR-OFDM options*). -/
def ofdmRates (opt : Nat) : List (Nat × Nat) :=
  match opt with
  | 1 => [(0, 100), (1, 200), (2, 400), (3, 800)]
  | 2 => [(0, 50), (1, 100), (2, 200), (3, 400), (4, 600), (5, 800)]
  | 3 => [(1, 50), (2, 100), (3, 200), (4, 300), (5, 400), (6, 600)]
  | 4 => [(2, 50), (3, 100), (4, 150), (5, 200), (6, 300)]
  | _ => []

/-- The data rate of an MCS of an option. -/
def ofdmKbps (opt mcs : Nat) : Option Nat := ((ofdmRates opt).find? fun p => p.1 == mcs).map (·.2)

/-- Has the signal field of a reception decoded correctly: the one of its family, with its checks passed (R129, R137)? -/
def sigDecoded (rc : Reception) : SigField → Bool
  | .lsig parity rateOk length _ => rc.family == 0 && parity && rateOk && decide (0 < length)
  | .plcp crcOk _ => rc.family == 1 && crcOk
  | .ofdmPhr hcsOk modeSwitch mcs => rc.family == 2 && hcsOk && !modeSwitch && (ofdmKbps rc.rate mcs).isSome
  | .fskPhr sfdOk reservedZero modeSwitch _ length =>
    rc.family == 3 && sfdOk && reservedZero && !modeSwitch && decide (1 ≤ length ∧ length ≤ 2047)

/-- What a signal field tells of the rest of the reception: the duration it signals, the FEC, the MCS (R130, R141). -/
def sigNoted (now : Nat) (rc : Reception) : SigField → Reception
  | .lsig _ _ _ us => { rc with until_ := some (now + 1000 * us) }
  | .plcp _ us => { rc with until_ := some (now + 1000 * us) }
  | .ofdmPhr _ _ mcs => { rc with mcs }
  | .fskPhr _ _ _ fec _ => { rc with fec }

/-- A format is used while its bit of PHY_CAPS is set; DSSS/CCK only inside 2,400 to 2,500 MHz (R125). -/
def formatEnabled (s : State) (r : Radio) (fm : Nat) : Bool :=
  bit (s.objF 0x2102 (r + 1) 0 2) fm &&
    (fm != 0 || (match (s.fe r).chan with | some c => decide (2400000 ≤ c.lo ∧ c.hi ≤ 2500000) | none => false))

/-- Which users are decoded within the BCC capacity, in the order signalled: 3,467 Mb/s summed, 4 streams each (R127,
R128). -/
def bccKeep : Nat → List RxUser → List Bool
  | _, [] => []
  | used, u :: us =>
    if u.bcc = true ∧ (3467 < used + u.rate ∨ 4 < u.nss) then false :: bccKeep used us
    else true :: bccKeep (if u.bcc then used + u.rate else used) us

/-- The users decoded, and how many were dropped. -/
def bccFit (us : List RxUser) : Nat × Nat :=
  let k := bccKeep 0 us
  ((k.filter (· == true)).length, (k.filter (· == false)).length)

/-- Users dropped for BCC capacity, each counted (R128). -/
def bccDrop (s : State) (r : Radio) (n : Nat) : State :=
  (List.range n).foldl (fun s _ => (s.radioFlag 0x2150 r 3).stat 0x2140 (r + 1) 5 1) s

/-- SIGNAL_FIELD_DECODE: a failure ends the reception; a disabled or unsupported format is counted and not
delivered (R125, R126, R137). -/
def signalFieldDecode (r : Radio) (sf : SigField) (format : Option Nat) (users : List RxUser) (s : State) : State :=
  match (s.fe r).rx with
  | none => s
  | some rc =>
    if rc.sigOk then s
    else if sigDecoded rc sf then
      let enabled := match format with | some fm => isChain s r || formatEnabled s r fm | none => isChain s r
      let (k, d) := bccFit users
      let s := s.modFe r fun f => { f with rx := some { sigNoted s.now rc sf with
        sigOk := true, format := if enabled then some (format.getD 0) else none, users := k, kept := bccKeep 0 users } }
      if enabled then bccDrop s r d else s.stat 0x2140 (r + 1) 4 1
    else ((s.modFe r fun f => { f with rx := none }).radioFlag 0x2150 r 2).stat 0x2140 (r + 1) 3 1

/-- Is a frame of user `u` of the reception in progress delivered: its signal field decoded, its format enabled, the user
decoded (R125, R126, R128, R139)? -/
def delivers (s : State) (r : Radio) (u : Nat) : Bool :=
  match (s.fe r).rx with
  | some rc => rc.sigOk && rc.format.isSome && (rc.kept[u]?).getD true
  | none => false

/-- RESTART: a new correlation with a power step at the threshold abandons the reception in progress, which no path switch
and no closed gate leaves (R138 to R140). -/
def restartRx (r : Radio) (p : Preamble) (s : State) : State :=
  match (s.fe r).rx with
  | none => s
  | some rc => if hears s r = true ∧ acquires s r p = true then newCorrelation s r rc p else s

/-! ### Clear channel assessment (R141 to R143) -/

/-- Number of 20 MHz subchannels of the radio's channel. -/
def subchannels (s : State) (r : Radio) : Nat :=
  match (s.fe r).chan with | some c => max 1 (c.bw / 20000) | none => 1

/-- CCA_PARAMS: PD_LEVEL, ED_LEVEL, CHAIN_ED_LEVEL in 0.1 dBm, Chain CCA mode. -/
def pdLevel (s : State) (r : Radio) : Int := s.objI 0x2120 (r.val + 1) 0 2
def edLevel (s : State) (r : Radio) : Int := s.objI 0x2120 (r.val + 1) 2 2
def chainCcaMode (s : State) (r : Radio) : Nat := s.objF 0x2120 (r.val + 1) 4 1
def chainEdLevel (s : State) (r : Radio) : Int := s.objI 0x2120 (r.val + 1) 5 2

/-- CCA reports every subchannel busy: while the radio transmits, S − TR_LEAD to E + TR_LAG, and from the start of a channel
change or path switch until 8 us after detection resumes, and at a closed gate (R143). -/
def ccaAll (s : State) (r : Radio) : Bool :=
  let f := s.fe r
  sendingAt s r (femTiming s r 0) (femTiming s r 6) || f.st == .diag || f.switching || !gateOpen f || decide (s.now < f.rxFrom + 8000)

/-- The primary subchannel of the radio's channel. -/
def primary20 (s : State) (r : Radio) : Nat := if isWlan s r then s.objF 0x2101 (r.val + 1) 5 1 else 0

/-- Does the reception in progress make subchannel `i` busy: the primary at PD_LEVEL for the duration signalled, another that
the PPDU covers at 10 dB above (R141)? -/
def rxBusy (s : State) (r : Radio) (i : Nat) : Bool :=
  match (s.fe r).rx with
  | none => false
  | some x =>
    if i = primary20 s r then decide (pdLevel s r ≤ x.refPower) && (match x.until_ with | some t => decide (s.now < t) | none => true)
    else bit x.covers i && decide (pdLevel s r + 100 ≤ x.refPower)

/-- The mode of CCA_PARAMS applied to energy and to a SUN preamble (R142). -/
def ccaMode (mode : Nat) (energy preamble : Bool) : Bool :=
  if mode = 1 then energy else if mode = 2 then preamble else if mode = 3 then energy && preamble else energy || preamble

/-- The in-channel energy in a subchannel, which is the air's: free, in 0.1 dBm. -/
def airEnergy (s : State) (i : Nat) : Int := -(Config.freeNat (s.free + i) : Int)

/-- CCA_STATUS: the busy subchannels (R141 to R143). -/
def ccaBitmap (s : State) (r : Radio) : Nat :=
  let n := subchannels s r
  let punct := if isWlan s r then s.objF 0x2101 (r.val + 1) 6 2 else 0
  let busy (i : Nat) : Bool :=
    ccaAll s r || (!bit punct i && (if isChain s r then
        ccaMode (chainCcaMode s r) (decide (chainEdLevel s r ≤ airEnergy s i)) (s.fe r).rx.isSome
      else rxBusy s r i || decide (edLevel s r ≤ airEnergy s i)))
  ((List.range n).map fun i => if busy i then 2 ^ i else 0).sum

/-- The window of a Chain CCA in ns: 8 symbol periods of the slowest enabled FSK rate, or 8 MR-OFDM symbols of 120 us
(IEEE 802.15.4; log entry 153) with none enabled (R142). -/
def ccaWindow (s : State) (r : Radio) : Nat :=
  match fskRates s r with
  | [] => 960000
  | k :: ks => 8000000 / ks.foldl min k

/-- Does CCA report a Chain radio's channel idle over the window that has just ended: what was sensed in it, by the mode
(R142, R143)? -/
def chainIdle (s : State) (r : Radio) (obs : List CcaObs) : Bool :=
  let seen := obs.filter fun o => decide (o.ageNs ≤ ccaWindow s r)
  !ccaAll s r && !ccaMode (chainCcaMode s r) (seen.any fun o => decide (chainEdLevel s r ≤ o.power)) (seen.any (·.preamble) || (s.fe r).rx.isSome)

/-! ### Noise floor (R144 to R147) -/

/-- The histogram bin of a power in 0.01 dBm per 20 MHz (R145). -/
def nfBin (p : Int) : Nat := min 255 (Int.fdiv (p + 12800) 25).toNat

/-- The lower edge, in 0.1 dBm, of the bin that holds the lower quartile of the windows; `none` below 64 (R145). -/
def noiseFloor (windows : List Int) : Option Int :=
  if windows.length < 64 then none
  else
    let bins := sortNat (windows.map nfBin)
    let b := (bins[(windows.length - 1) / 4]?).getD 0
    some (Int.fdiv (-12800 + 25 * (b : Int)) 10)

/-- A noise-floor field: 8000h when invalid. -/
def nfEnc (n : Option Int) : Bytes := match n with | some x => leInt 2 x | none => le 2 0x8000

/-- 10 log10(bandwidth / 20 MHz) in 0.01 dB. -/
def bwLoss (bw : Nat) : Int := if bw ≤ 20000 then 0 else if bw ≤ 40000 then 301 else if bw ≤ 80000 then 602 else if bw ≤ 160000 then 903 else 1204

/-- A window's power referred to the antenna port, per 20 MHz of a channel (R144). -/
def normalised (s : State) (t : Trx) (c : Chan) (w : NfWindow) : Int :=
  w.power - bwLoss c.bw - 10 * s.objI 0x2132 (t.val + 1) (2 * bandOf c) 2

/-- Does a window qualify for the noise floor of a transceiver assigned to a radio (R144)? -/
def qualifies (w : NfWindow) : Bool := !w.tx && !w.rx && !w.busy && !w.change && !w.byp

/-- NF_INTERVAL_END: the figure of a transceiver assigned to the radio is written, or 8000h (R144, R145). -/
def execNfIntervalEnd (r : Radio) (t : Trx) (windows : List NfWindow) (s : State) : Out := live s fun s =>
  if trxAssign s t = r.val + 1 then
    let ws := match (s.fe r).chan with
      | some c => (windows.filter qualifies).map (normalised s t (sliceOf c))
      | none => []
    let nf := noiseFloor ws
    let s := s.setObj 0x2131 (t.val + 1) (nfEnc nf ++ le 4 ws.length ++ s.datum.t.enc)
    if nf.isNone then s.radioFlag 0x2150 r 5 else s
  else s

/-- Occupancy: percentage of windows at least 10 dB above the noise floor (R147). -/
def occupancy (windows : List Int) (nf : Option Int) : Nat :=
  match nf with
  | none => 0
  | some n => ((windows.filter fun w => decide (10 * n + 1000 ≤ w)).length * 100) / max 1 windows.length

/-- The maximum of a dwell's windows, and their linear mean, which lies between their extremes (R147). -/
def peakOf : List Int → Int
  | [] => -32768
  | w :: ws => ws.foldl max w
def meanOf : List Int → Int
  | [] => -32768
  | w :: ws => max (ws.foldl min w) (min (ws.foldl max w) (Config.linearMean (w :: ws)))

/-- A dwell's windows: their powers, and which of them a change, switch or calibration step falls in (R147). -/
def dwellWindows (powers : List Int) (moved : List Nat) : List NfWindow :=
  (powers.zip (List.range powers.length)).map fun p => { power := p.1, change := moved.contains p.2 }

/-- SENTINEL_DWELL_END: once the entry's dwell is over its result is written, UNUSABLE without a running clock radio or on a
channel its plan cannot use, and the next entry's begins (R88, R89, R147). -/
def execSentinelDwellEnd (t : Trx) (powers : List Int) (moved : List Nat) (s : State) : Out := live s fun s =>
  let count := scanCount s t
  if trxAssign s t ≠ 0 ∨ count = 0 ∨ (s.trx t).powered = false ∨
      s.now < (s.trx t).dwellFrom + 1000000 * s.objF 0x2030 (t.val + 1) 2 2 then s
  else
    let e := (s.trx t).scanAt % count
    let c := scanChan s t e
    let ws := ((dwellWindows powers moved).filter fun w => !w.change).map (normalised s t c)
    let nf := noiseFloor ws
    let s := if clockDead s t = true ∨ planUsable (clockFe s t).plan c = false then unusableResult s t e
      else s.setObj 0x2031 (16 * t.val + e + 1)
        (le 4 c.centre ++ leInt 2 (Int.fdiv (meanOf ws) 10) ++ leInt 2 (Int.fdiv (peakOf ws) 10) ++ nfEnc nf ++
          le 1 (occupancy ws nf) ++ [0] ++ s.datum.t.enc)
    beginDwell s t ((e + 1) % count)

end Sys2Proof.Machine
end

