-- ==== Sys2Proof/Machine/Sec.lean ====
section
/-! DEFINITION. Cipher lanes, the key store, device identity, attestation, fuses and debug (13_security); the sending
of mirror frames and the counter reservations they carry (18_redundant_pair, R436, R437). -/

namespace Sys2Proof.Machine
open Sys2Proof

def State.setSec (s : State) (x : Sec) : State := { s with sec := x }
def State.setPair (s : State) (x : Pair) : State := { s with pair := x }

/-- The result bytes of a CMD object, before its abort code (R10). -/
def State.cmdOut (s : State) (idx el : Nat) (out : Bytes) : State :=
  { s with dict := { s.dict with cmds := tput s.dict.cmds (okey idx el) { tgetD s.dict.cmds (okey idx el) {} with out } } }

/-! ### Mirroring (R436) -/

/-- The active mirrors to a partner in SYNCING or STANDBY. -/
def mirroring (s : State) : Bool := s.pair.st == .active && (s.pair.partner == 2 || s.pair.partner == 3)

/-- Queue a mirror frame: class and content. It is sent, and resent until acknowledged (R430). -/
def State.mirror (s : State) (cls : Nat) (x : MirrorItem) : State :=
  if mirroring s then
    s.setPair { s.pair with unacked := s.pair.unacked ++ [{ seq := s.pair.outSeq, cls, item := x, at_ := s.now }], outSeq := (s.pair.outSeq + 1) % 2 ^ 32 }
  else s

/-- An object of a mirrored class has changed. -/
def State.mirrorObj (s : State) (cls idx el : Nat) : State := s.mirror cls (.object idx el (s.objB idx el))

/-! ### Key slots (R342, R346) -/

def emptySlot : KeySlot := { st := 0, typ := 0, material := [], salt := [], counter := 0 }
def keyAt (s : State) (n : Nat) : KeySlot := tgetD s.sec.slots n emptySlot
def setKey (s : State) (n : Nat) (k : KeySlot) : State := s.setSec { s.sec with slots := tputD s.sec.slots n k emptySlot }

/-- *Key types*. -/
def keyTypes : List Nat := [1, 2, 3, 4, 5, 6, 7, 0x10, 0x11, 0x12, 0x13, 0x14, 0x15]

/-- Key bytes of a type. -/
def keyLen (typ : Nat) : Nat := if [1, 3, 7, 0x10, 0x12, 0x14].contains typ then 16 else 32

/-- Counter width of a type; none for DMA_CMAC. -/
def keyWidth (typ : Nat) : Option Nat :=
  if typ = 5 ∨ typ = 7 then some 32
  else if typ ≤ 4 then some 48
  else if typ = 0x14 ∨ typ = 0x15 then none
  else some 64

/-- The pair's forward window W (R346, R447: PAIR_CFG as the last reset found it). -/
def pairWindow (s : State) : Nat := 2 ^ s.pair.win

/-- X = 2^b − 1 − W. -/
def keyLimit (s : State) (typ : Nat) : Option Nat := (keyWidth typ).map fun b => 2 ^ b - 1 - pairWindow s

/-- The warning threshold. -/
def keyWarn (s : State) (typ : Nat) : Option Nat := (keyLimit s typ).map fun x => x * s.objN 0x6002 0 / 256

/-- Raise a rekey event (R348): kind 1 WARN, 2 EXHAUSTED. -/
def rekeyEvent (s : State) (kind slot counter : Nat) : State :=
  let s := s.setFlag 0x6020 0 (kind + 1)
  if s.sec.rekeys.length < 64 then
    (s.setSec { s.sec with rekeys := s.sec.rekeys ++ [{ kind, slot, counter, stamp := s.datum.t }] }).postFixed 2
  else s.setFlag 0x6020 0 4

/-- The mirror item of a slot. -/
def keyItem (s : State) (n : Nat) : MirrorItem :=
  let k := keyAt s n
  .key n k.st k.typ k.counter k.material k.salt

/-- WARN once per install, when the counter is at or above its threshold (R348). -/
def judgeWarn (s : State) (n : Nat) : State :=
  let k := keyAt s n
  match keyWarn s k.typ with
  | some w =>
    if k.st = 1 ∧ k.warned = false ∧ w ≤ k.counter then rekeyEvent (setKey s n { k with warned := true }) 1 n k.counter else s
  | none => s

/-- The slot is at its exhaustion threshold: EXHAUSTED, once per install (R347, R348). -/
def exhaust (s : State) (n : Nat) : State :=
  let k := keyAt s n
  let s := setKey s n { k with st := 2, exhausted := true }
  (if k.exhausted then s else rekeyEvent s 2 n k.counter).mirror 1 (keyItem s n)

/-- KEY_WARN_FRAC has been lowered: every ACTIVE slot now beyond its threshold warns (R348). -/
def warnFracStaked (s : State) : State := (s.sec.slots.map (·.1)).foldl judgeWarn s

/-- How an attempt to take a counter value ends. -/
inductive Take where
  | value (n : Nat)
  | stall
  | exhausted
  | noKey
  deriving DecidableEq, Repr

/-- The last value of a counter that has been sent to the standby. -/
def keySent (s : State) (n : Nat) : Nat :=
  s.pair.unacked.foldl (fun a u => match u.item with | .key m _ _ c _ _ => if m = n then c else a | _ => a)
    (tgetD s.pair.keyRes n 0)

/-- A job or MPDU needed a value at or beyond the reservation (R437). -/
def counterStall (s : State) : State := (s.stat 0x1404 0 3 1).setFlag 0x1405 0 2

/-- May the active assign value `c` of a key counter (R437)? A slot the standby has acknowledged nothing of has no
reservation yet. -/
def keyReserved (s : State) (n c : Nat) : Bool :=
  !mirroring s || (match tget s.pair.keyRes n with | some a => decide (c < a + pairWindow s) | none => false)

/-- Assign the next counter value of a slot to one transmit job (R337, R345, R347, R437). -/
def takeCounter (s : State) (n : Nat) : State × Take :=
  let k := keyAt s n
  if k.st = 2 then (s, .exhausted)
  else if k.st ≠ 1 then (s, .noKey)
  else match keyLimit s k.typ with
    | none => (s, .value 0)
    | some x =>
      if x ≤ k.counter then (exhaust s n, .exhausted)
      else if keyReserved s n k.counter = false then (counterStall s, .stall)
      else
        let s := judgeWarn (setKey s n { k with counter := k.counter + 1 }) n
        let s := if keySent s n + pairWindow s / 2 ≤ k.counter + 1 then s.mirror 1 (keyItem s n) else s
        (s, .value k.counter)

/-- Advance a counter at takeover and judge both thresholds at once (R348, R442). -/
def advanceKey (s : State) (n by_ : Nat) : State :=
  let k := keyAt s n
  match keyLimit s k.typ with
  | some x =>
    if k.st = 1 ∨ k.st = 2 then
      let s := judgeWarn (setKey s n { k with counter := k.counter + by_ }) n
      if k.st = 1 ∧ x ≤ k.counter + by_ then exhaust s n else s
    else s
  | none => s

/-- Slots not EMPTY. -/
def keysInUse (s : State) : Nat := (s.sec.slots.filter fun p => decide (p.2.st ≠ 0)).length

def lowestEmpty (s : State) : Option Nat := findLt 8192 fun n => decide ((keyAt s n).st = 0)

/-- Is a counter value at or above the type's exhaustion threshold? -/
def beyondLimit (s : State) (typ c : Nat) : Bool :=
  match keyLimit s typ with | some x => decide (x ≤ c) | none => false

/-- KEY_CMD INSTALL (R343): the refusals in the order listed, then the key in its slot. -/
def keyInstall (v : Bytes) (s : State) : State × Res :=
  let typ := fld v 1 1
  let slot := fld v 2 2
  let init := fld v 4 8
  let mat := sub v 16 (keyLen typ)
  if keyTypes.contains typ = false ∨ ¬ (slot = 0xFFFF ∨ slot < 8192) then (s, dictAbort aRange 0x14)
  else if beyondLimit s typ init = true ∨ (keyLen typ = 16 ∧ fld v 32 16 ≠ 0) then (s, abortBy aRange 0x20 0)
  else match (if slot = 0xFFFF then lowestEmpty s else some slot) with
    | none => (s, abortBy aFull 0x20 0x201)
    | some n =>
      if (keyAt s n).st ≠ 0 then (s, abortBy aState 0x20 0x202)
      else if s.sec.slots.any fun p => p.2.st != 0 && p.2.typ == typ && p.2.material == mat then
        (s, abortBy aState 0x20 0x204)
      else
        let k : KeySlot := { st := 1, typ, material := mat, salt := sub v 12 4, stamp := s.datum.t,
                             counter := if (keyWidth typ).isSome then init else 0 }
        let s := judgeWarn (setKey s n k) n
        let s := (s.mirror 1 (keyItem s n)).watch 10 (keysInUse s) 8192 0x20 0xFF
        (s.cmdOut 0x6001 0 (le 2 n), ok)

/-- Does a lane hold a job of the slot? -/
def laneHolds (s : State) (n : Nat) : Bool :=
  s.sec.lanes.toList.any fun l => match l.job with | some j => j.slot == n | none => false

/-- An erased slot whose jobs have ended is overwritten (R344). -/
def scrubSlot (s : State) (n : Nat) : State :=
  if (keyAt s n).erasing = true ∧ laneHolds s n = false then setKey s n emptySlot else s

/-- KEY_CMD ERASE (R344). -/
def keyErase (v : Bytes) (s : State) : State × Res :=
  let n := fld v 2 2
  if 8192 ≤ n then (s, dictAbort aRange 0x14)
  else if (keyAt s n).st = 0 then (s, abortBy aState 0x20 0x203)
  else
    let k := keyAt s n
    let s := scrubSlot (setKey s n { k with st := 0, erasing := true }) n
    let s := (s.mirror 1 (.key n 0 0 0 [] [])).watch 10 (keysInUse s) 8192 0x20 0xFF
    (s.cmdOut 0x6001 0 (le 2 n), ok)

/-- KEY_CMD (6001h). -/
def keyCmd (v : Bytes) (s : State) : State × Res := if fld v 0 1 = 1 then keyInstall v s else keyErase v s

/-- REKEY_POP: the oldest record is removed and is what a READ returns (R348). -/
def rekeyPop (s : State) : State × Res :=
  match s.sec.rekeys with
  | [] => (s.setSec { s.sec with popped := zeros 24 }, ok)
  | r :: rest =>
    (s.setSec { s.sec with rekeys := rest,
                           popped := [1] ++ le 1 r.kind ++ le 2 r.slot ++ le 8 r.counter ++ r.stamp.enc }, ok)

/-! ### Lanes and jobs (R27, R335 to R341) -/

def State.lane (s : State) (l : Fin 12) : LaneSt := s.sec.lanes[l]
def State.modLane (s : State) (l : Fin 12) (f : LaneSt → LaneSt) : State :=
  s.setSec { s.sec with lanes := vmod s.sec.lanes l f }

/-- Queue a job: class, slot, direction, counter already assigned (802.11), bytes, owner, MLD addresses. -/
def queueJob (s : State) (cls slot : Nat) (tx : Bool) (pn : Option Nat) (bytes : Nat) (owner : JobOwner) (aad : Bytes := []) : State :=
  let j : Job := { id := s.sec.nextJob, cls, slot, tx, counter := pn.getD 0, bytes, retryPn := pn.isSome, owner, aad }
  s.setSec { s.sec with waiting := s.sec.waiting ++ [j], nextJob := s.sec.nextJob + 1 }

/-- Lanes a class holds. -/
def lanesHeld (s : State) (cls : Nat) : Nat :=
  (s.sec.lanes.toList.filter fun l => match l.job with | some j => j.cls == cls | none => false).length

/-- *Cipher lane classes*. -/
def laneLimit (cls : Nat) : Nat := if cls = 3 then 8 else if cls = 4 then 4 else 12

/-- The waiting job a free lane gets: highest class below its limit, oldest first (R27). -/
def nextJob (s : State) : Option Job :=
  [1, 2, 3, 4].findSome? fun c =>
    if lanesHeld s c < laneLimit c then s.sec.waiting.find? fun j => j.cls == c else none

/-- The key types a class's users accept (*Key types*). -/
def acceptsType (cls typ : Nat) : Bool :=
  if cls ≤ 2 then [1, 2, 3, 4, 7].contains typ else if cls = 3 then [5, 6].contains typ else decide (0x10 ≤ typ)

/-- Does a slot serve a receive job of a class (R337, R347)? -/
def servesRx (s : State) (cls slot : Nat) : Bool :=
  decide (slot < 8192) && ((keyAt s slot).st == 1 || (keyAt s slot).st == 2) && acceptsType cls (keyAt s slot).typ

/-- What a command of a lane did to a job: the state, and the job that ended with its result (*Job results*). -/
abbrev JobEnd := State × Option (Job × Nat)

/-- The free, enabled lane takes its job, and the job its key and counter (R27, R337, R340, R347). A job not started ends with
NO_KEY, KEY_POISON or EXHAUSTED; one without a reservation waits (R437). -/
def jobStart (l : Fin 12) (key : EccObs) (s : State) : JobEnd :=
  if (s.lane l).job.isSome ∨ (s.lane l).enabled = false then (s, none)
  else match nextJob s with
    | none => (s, none)
    | some j =>
      let s := if key = .corrected ∧ (keyAt s j.slot).st ≠ 0 then s.corrected 0x20 0xFF j.slot else s
      let k := keyAt s j.slot
      let j := { j with typ := k.typ, material := k.material, salt := k.salt }
      let drop (s : State) := s.setSec { s.sec with waiting := s.sec.waiting.filter (·.id != j.id) }
      if k.st = 0 ∨ acceptsType j.cls k.typ = false then (drop s, some (j, 3))
      else if k.st = 3 then (drop s, some (j, 4))
      else if key = .poisoned then
        let s := (setKey (drop s) j.slot { k with st := 3 }).uncorrected.setFlag 0x6020 0 1
        let s := s.mirror 1 (keyItem s j.slot)
        (s.logEvent 0x20 3 0xF006 0xFF j.slot, some (j, 4))
      else if j.tx = false ∨ j.retryPn = true then
        if j.tx = true ∧ k.st = 2 then (drop s, some (j, 5))
        else ((drop s).modLane l fun x => { x with job := some j, reload := false }, none)
      else match takeCounter s j.slot with
        | (s', .value c) => ((drop s').modLane l fun x => { x with job := some { j with counter := c }, reload := false }, none)
        | (s', .stall) => (s', none)
        | (s', .exhausted) => (drop s', some (j, 5))
        | (s', .noKey) => (drop s', some (j, 3))

/-- The lane is free again; the slot its job held may now be overwritten. -/
def freeLane (s : State) (l : Fin 12) (j : Job) : State :=
  scrubSlot (s.modLane l fun x => { x with job := none }) j.slot

/-- The job of a lane completes, or its tag did not verify (R336, R341). -/
def jobDone (l : Fin 12) (tagOk : Bool) (s : State) : JobEnd :=
  match (s.lane l).job with
  | none => (s, none)
  | some j =>
    let s := freeLane s l j
    if j.tx = true ∨ tagOk = true then (s.modLane l fun x => { x with jobs := (x.jobs + 1) % 2 ^ 64 }, some (j, 0))
    else
      let s := s.modLane l fun x => { x with jobs := (x.jobs + 1) % 2 ^ 64, authFail := (x.authFail + 1) % 2 ^ 32 }
      (s.setFlag 0x6020 0 5, some (j, 1))

/-- A parity error in a lane: the job ends with LANE_PARITY and the key context is reloaded (R338). -/
def laneParity (s : State) (l : Fin 12) (j : Job) : State :=
  ((freeLane s l j).modLane l fun x => { x with parity := (x.parity + 1) % 2 ^ 32, reload := true }).setFlag 0x6020 0 0

/-- An abort takes the job off its lane (R64, R339). -/
def laneAbort (s : State) (l : Fin 12) (j : Job) : State :=
  (freeLane s l j).modLane l fun x => { x with aborts := (x.aborts + 1) % 2 ^ 32 }

/-! ### Identity, measurements, attestation (R349 to R355) -/

/-- The first `n` bytes of SHAKE256 of a message. -/
def shake (n : Nat) (m : Bytes) : Bytes := (List.range n).map (Config.shake256 m)

def ascii (t : String) : Bytes := t.toList.map fun c => BitVec.ofNat 8 c.toNat

/-- Extend MRi by a value (R354). -/
def extendMr (s : State) (i : Nat) (v : Bytes) : State :=
  s.setObj 0x6111 (i + 1) (shake 64 (ascii "MREX" ++ le 1 i ++ s.objB 0x6111 (i + 1) ++ v))

/-- Report byte 86. -/
def debugByte (s : State) : Nat := (if s.sec.unlocked then 1 else 0) + (if s.part.debugOff then 2 else 0)

/-- Report byte 85. -/
def keyState (s : State) : Nat := (List.range 4).foldl (fun a k => a + (vget s.part.fuses k (0, [])).1 * 4 ^ k) 0

/-- Bytes 0 to 599 of the attestation report. -/
def reportBody (s : State) (nonce : Bytes) : Bytes :=
  [0x52, 0x41, 0x54, 0x31] ++ le 2 1 ++ le 2 s.part.compatActive ++ s.part.serial ++ le 2 s.part.siliconRev ++ zeros 2 ++
    le 4 s.part.fwVersion ++ nonce ++ s.datum.t.enc ++ le 4 s.start.boots ++ le 4 s.part.secVersion ++ le 1 s.upd.floor ++
    le 1 (keyState s) ++ le 1 (debugByte s) ++
    le 1 (s.upd.running + (if s.upd.trial.isSome then 2 else 0)) ++ (List.range 8).flatMap fun i => s.objB 0x6111 (i + 1)

/-- A write of a nonce to ATTEST (R351, R353, R355; log entry 172). -/
def attest (v : Bytes) (s : State) : State × Res :=
  if s.sec.idFault then (s, abortBy aRefused 0x21 0x101)
  else if s.sec.entropyOk = false then (s, abortBy aRefused 0x21 0x10B)
  else if s.sec.attesting.isSome then (s, abortBy aBusy 0x21 0x109)
  else (s.setSec { s.sec with attesting := some v }, ok)

/-- ATTEST_DONE: the report is signed over "ATT1" and bytes 0 to 599 (R355). -/
def execAttestDone (s : State) : Out := live s fun s =>
  match s.sec.attesting with
  | some n =>
    let b := reportBody s n
    let sig := (List.range 114).map (Config.identitySign (ascii "ATT1" ++ b))
    s.setSec { s.sec with attesting := none, report := b ++ sig }
  | none => s

/-- EXTEND of MR6 or MR7 from a local transport (R354). -/
def extend (sess : Nat) (v : Bytes) (s : State) : State × Res :=
  if sess < 0xFF00 then (s, abortBy aRefused 0x21 0x10A)
  else (extendMr s (fld v 0 1) (sub v 2 64), ok)

/-- ENTROPY_FAIL (R353). -/
def execEntropyFail (s : State) : Out := live s fun s => s.setSec { s.sec with entropyOk := false }

/-- ENTROPY_RESTORED (R353). -/
def execEntropyRestored (s : State) : Out := live s fun s => s.setSec { s.sec with entropyOk := true }

/-! ### Fuses and debug (R356, R358) -/

def fuseState (s : State) (k : Nat) : Nat := (vget s.part.fuses k (0, [])).1

def setFuse (s : State) (k st : Nat) (digest : Bytes) : State :=
  { s with part := { s.part with fuses := vset s.part.fuses k (st, digest) } }

/-- A fuse command has been carried out: FUSE_SEQ counts it. -/
def fuseDone (s : State) : State :=
  let s := { s with part := { s.part with fuseSeq := (s.part.fuseSeq + 1) % 65536 } }
  s.cmdOut 0x6122 0 (le 2 s.part.fuseSeq)

/-- FUSE_CMD (R356): signer, signature, sequence, target, supply, then the command. -/
def fuseCmd (env : Env) (v : Bytes) (s : State) : State × Res :=
  let op := fld v 0 1
  let tgt := fld v 1 1
  let signer := fld v 2 1
  let s := s.cmdOut 0x6122 0 (le 2 s.part.fuseSeq)
  if fuseState s signer ≠ 1 ∨ env.keyOk = false then (s, abortBy aRefused 0x21 0x103)
  else if env.sigOk = false then (s, abortBy aRefused 0x21 0x102)
  else if fld v 4 2 ≠ s.part.fuseSeq then (s, abortBy aRefused 0x21 0x108)
  else if (op = 1 ∧ ¬ (1 ≤ tgt ∧ tgt ≤ 3 ∧ fuseState s tgt = 0 ∧ tgt ≠ signer)) ∨
      (op = 2 ∧ ¬ (tgt ≤ 3 ∧ fuseState s tgt = 1 ∧ tgt ≠ signer)) then (s, abortBy aRefused 0x21 0x105)
  else if s.power.supplyLow then (s, abortBy aRefused 0x21 0x106)
  else if op = 1 then (fuseDone (setFuse s tgt 1 (sub v 8 64)), ok)
  else if op = 2 then (fuseDone (setFuse s tgt 2 (vget s.part.fuses tgt (0, [])).2), ok)
  else (fuseDone { s with part := { s.part with debugOff := true } }, ok)

/-- The result of DEBUG_UNLOCK: nonce and DEBUG. -/
def debugOut (s : State) (nonce : Bytes) : State := s.cmdOut 0x6130 0 (nonce ++ le 1 (debugByte s))

/-- DEBUG_UNLOCK CHALLENGE: a fresh nonce (R351, R353, R358). -/
def debugChallenge (s : State) : State × Res :=
  if s.sec.idFault then (s, abortBy aRefused 0x21 0x101)
  else if s.sec.entropyOk = false then (s, abortBy aRefused 0x21 0x10B)
  else
    let (n, s) := s.drawBytes 32
    (debugOut (s.setSec { s.sec with challenge := some (n, s.now) }) n, ok)

/-- Is the control cores' debug module open to JTAG (R311, R358)? A part fused against debug never opens it. -/
def debugOpen (s : State) : Bool := s.sec.unlocked && !s.part.debugOff

/-- The instruction the TAP acts on, none while JTAG_TRST_N low holds it in reset: until the module is open the debug
instructions behave as BYPASS (R311). -/
def tapActs (s : State) : Option TapInst :=
  if s.wired.tap.trstN = false then none
  else if s.wired.tap.inst = .debug ∧ debugOpen s = false then some .bypass
  else some s.wired.tap.inst

/-- DEBUG_UNLOCK RESPOND (R358): one response, within 60 s of the challenge. It returns no nonce, and the used one is not read
back. -/
def debugRespond (env : Env) (v : Bytes) (s : State) : State × Res :=
  let signer := fld v 1 1
  match s.sec.challenge with
  | none => (debugOut s (List.replicate 32 0), abortBy aRefused 0x21 0x108)
  | some (n, at_) =>
    let s := debugOut (s.setSec { s.sec with challenge := none }) (List.replicate 32 0)
    if at_ + 60000000000 < s.now then (s, abortBy aRefused 0x21 0x108)
    else if fuseState s signer ≠ 1 ∨ env.keyOk = false then (s, abortBy aRefused 0x21 0x103)
    else if env.sigOk = false then (s, abortBy aRefused 0x21 0x102)
    else if s.part.debugOff then (s, abortBy aRefused 0x21 0x107)
    else
      let s := extendMr s 5 (shake 64 (ascii "DBG1" ++ s.part.serial ++ n ++ sub v 2 1))
      (debugOut (s.setSec { s.sec with unlocked := s.sec.unlocked || bit (fld v 2 1) 0 }) (List.replicate 32 0), ok)

/-- DEBUG_UNLOCK (6130h). -/
def debugUnlock (env : Env) (v : Bytes) (s : State) : State × Res :=
  if fld v 0 1 = 1 then debugChallenge s else debugRespond env v s

end Sys2Proof.Machine
end

