-- ==== Sys2Proof/Machine/Station.lean ====
section
/-! DEFINITION. Station entries, TID-to-link maps, power save and service periods as the traffic manager, the MAC and
the planner read them (06_wlan_mac_multilink, 07_scheduled_access). Entry `n` is element `n` of 3100h (log entry 11). -/

namespace Sys2Proof.Machine
open Sys2Proof

def State.setMac (s : State) (m : Mac) : State := { s with mac := m }

/-! ### *STA_ENTRY header* and link sub-records -/

def staState (s : State) (n : Nat) : Nat := s.objF 0x3100 n 0 1
def staMld (s : State) (n : Nat) : Nat := s.objF 0x3100 n 1 1
def staKind (s : State) (n : Nat) : Nat := s.objF 0x3100 n 2 1
def staFlag (s : State) (n b : Nat) : Bool := bit (s.objF 0x3100 n 3 1) b
def staAid (s : State) (n : Nat) : Nat := s.objF 0x3100 n 4 2
def staPtk (s : State) (n : Nat) : Nat := s.objF 0x3100 n 12 2
def staCipher (s : State) (n : Nat) : Nat := s.objF 0x3100 n 14 1
def staNstr (s : State) (n : Nat) : Nat := s.objF 0x3100 n 15 1
def staGroup (s : State) (n : Nat) : Nat := s.objF 0x3100 n 26 2
def dlTtlm (s : State) (n : Nat) : Nat := s.objF 0x3100 n 16 3
def ulTtlm (s : State) (n : Nat) : Nat := s.objF 0x3100 n 19 3

/-- Is TID `t` mapped to the link of radio `r`: bit 3t + r, bits in the order C, B, A? -/
def mapBit (map t r : Nat) : Bool := map.testBit (3 * t + r)

/-- Offset of a field of a link sub-record. -/
def linkOff (r off : Nat) : Nat := 48 + 32 * r + off
def linkF (s : State) (n r off w : Nat) : Nat := s.objF 0x3100 n (linkOff r off) w
def linkUp (s : State) (n r : Nat) : Bool := linkF s n r 6 1 == 1
def linkPs (s : State) (n r : Nat) : Nat := linkF s n r 7 1
def linkBss (s : State) (n r : Nat) : Nat := linkF s n r 8 1
def linkCaps (s : State) (n r b : Nat) : Bool := bit (linkF s n r 11 1) b

/-- A station entry has changed: STATIONS is mirrored (R436). -/
def staTouched (s : State) (n : Nat) : State := s.mirrorObj 3 0x3100 n

/-- Write a field of a link sub-record by hardware. -/
def setLink (s : State) (n r off w v : Nat) : State := s.setObjF 0x3100 n (linkOff r off) w v

/-- The lowest SET_UP link, or Radio A (*Objects of this chapter*). -/
def lowLink (s : State) (n : Nat) : Nat := ((List.range 3).find? fun r => linkUp s n r).getD 0

/-- AC of a TID or traffic class (R257): 1, 2 BK; 0, 3 BE; 4, 5 VI; 6, 7 VO. -/
def acOf (c : Nat) : Nat := ([0, 1, 1, 0, 2, 2, 3, 3][c]?).getD 0

/-- The TIDs of an AC. -/
def acTids (a : Nat) : List Nat := (List.range 8).filter fun t => acOf t == a

/-! ### TWT agreements (R198) -/

/-- Agreement `a`, from 0, is element `a + 1` of 3600h. -/
def twtF (s : State) (a off w : Nat) : Nat := s.objF 0x3600 (a + 1) off w
def twtActive (s : State) (a : Nat) : Bool := twtF s a 5 1 == 1
def twtSta (s : State) (a : Nat) : Nat := twtF s a 0 2
def twtRadio (s : State) (a : Nat) : Nat := twtF s a 2 1
def twtFlag (s : State) (a b : Nat) : Bool := bit (twtF s a 4 1) b

/-- Is the station awake in an open service period of the agreement: not ended early, and with ANNOUNCED only from
the first frame received in it (R198)? -/
def twtAwake (s : State) (a : Nat) : Bool :=
  s.mac.spOpen.contains a && !s.mac.spEarly.contains a && (!twtFlag s a 1 || s.mac.spHeard.contains a)

/-- The agreements whose record holds anything. -/
def twtSet (s : State) : List Nat := ((setElements s 0x3600).filter (1 ≤ ·)).map (· - 1)

/-- The ACTIVE agreements of a station on a link. -/
def twtOf (s : State) (n r : Nat) : List Nat :=
  (twtSet s).filter fun a => twtActive s a && twtSta s a == n && twtRadio s a == r

/-- The open service periods of a station on a link. -/
def spOf (s : State) (n r : Nat) : List Nat :=
  s.mac.spOpen.filter fun a => twtActive s a && twtSta s a == n && twtRadio s a == r

/-- Is the station asleep on the link (R168)? A PEER never is (R173). -/
def asleep (s : State) (n r : Nat) : Bool :=
  if staKind s n = 2 then false
  else match linkPs s n r with
    | 0 => false
    | 1 => true
    | _ => !(spOf s n r).any (twtAwake s)

/-- The SET_UP links a downlink TID maps to (R159). -/
def dlLinks (s : State) (n tid : Nat) : List Nat :=
  (List.range 3).filter fun r => linkUp s n r && mapBit (dlTtlm s n) tid r

/-- Asleep on every link that the TID maps to (R169). -/
def asleepAll (s : State) (n tid : Nat) : Bool := (dlLinks s n tid).all fun r => asleep s n r

/-- Element of BSS_CONFIG of BSS `b` of radio `r`. -/
def bssEl (r b : Nat) : Nat := 16 * r + b + 1
def bssF (s : State) (r b off w : Nat) : Nat := s.objF 0x3010 (bssEl r b) off w
def bssOn (s : State) (r b : Nat) : Bool := bssF s r b 0 1 == 1

/-- AC_PARAMS: 0 AIFSN, 1 ECWmin, 2 ECWmax, 3 RETRY_LIMIT, 4 TXOP limit U16, 6 lifetime U16. -/
def acParam (s : State) (r a off w : Nat) : Nat := s.objF 0x3020 (r + 1) (8 * a + off) w

/-- A MAC statistic of a radio (MAC_STATS). -/
def macStat (s : State) (r k n : Nat) : State := s.stat 0x3400 (r + 1) k n

/-- A radio's MAC flag. -/
def macFlag (s : State) (r b : Nat) : State := s.setFlag 0x3401 (r + 1) b

end Sys2Proof.Machine
end

