-- ==== Sys2Proof/Machine/Tm.lean ====
section
/-! DEFINITION. The traffic manager (10_traffic_manager): queues and groups, weighted fair queueing, policers and
shapers, admission, time gates, DRAM queues. -/

namespace Sys2Proof.Machine
open Sys2Proof

def State.setTm (s : State) (x : TmUnit) : State := { s with tm := x }
def State.queue (s : State) (q : Nat) : Queue := tgetD s.tm.queues q {}
def State.setQueue (s : State) (q : Nat) (x : Queue) : State := s.setTm { s.tm with queues := tputD s.tm.queues q x {} }

/-- A statistic of TM_STATS and a TM flag. -/
def tmStat (s : State) (k : Nat) : State := s.stat 0x5070 0 k 1
def tmFlag (s : State) (b : Nat) : State := s.setFlag 0x5071 0 b

/-! ### Queue numbers (R256) -/

def qStation (n a : Nat) : Nat := 4 * (n - 1) + a
def qPort (p c : Nat) : Nat := 8192 + 8 * p + c
def qCore (k : Nat) : Nat := 8224 + k
def qGroupAddr (r b : Nat) : Nat := 8240 + 16 * r + b
def qMirror (k : Nat) : Nat := 8288 + k
def qChain (r c m : Nat) : Nat := 8296 + 48 * r + 6 * c + m % 6
def qVelmoti (p : Nat) : Nat := 8440 + p

/-- The station entry of a station queue. -/
def qSta (q : Nat) : Option Nat := if q < 8192 then some (q / 4 + 1) else none
/-- The AC of a station queue. -/
def qAc (q : Nat) : Nat := q % 4

/-- Egresses by root number: 0 ETH0, 1 ETH1, 2 FIELD, 3 HOST, 4 CORES, 5 to 7 Radios A to C. -/
def rootsOf (s : State) (q : Nat) : List Nat :=
  if q < 8192 then [5, 6, 7]
  else if q < 8224 then [(q - 8192) / 8]
  else if q < 8240 then [4]
  else if q < 8288 then [5 + (q - 8240) / 16]
  else if q < 8296 then [s.objF 0x4020 (q - 8288 + 1) 0 1]
  else if q < 8440 then [5 + (q - 8296) / 48]
  else if q < 8443 then [q - 8440]
  else []

/-- The class a queue's frames are gated and paused as (R257, R271, R291). -/
def gateClass (q : Nat) : Nat :=
  if q < 8192 then 0
  else if q < 8224 then (q - 8192) % 8
  else if q < 8296 then 0
  else if q < 8440 then (q - 8296) % 48 / 6
  else 7

/-! ### Groups (R259) -/

/-- The group of a queue. -/
def groupOf (s : State) (q : Nat) : Nat := match qSta q with | some n => staGroup s n | none => s.objF 0x5001 (q - 8191) 0 2
def groupEgress (s : State) (g : Nat) : Nat := s.objF 0x5002 (g + 1) 0 1
def groupWeight (s : State) (g : Nat) : Nat := s.objF 0x5002 (g + 1) 2 2
def groupBurst (s : State) (g : Nat) : Nat := s.objF 0x5002 (g + 1) 4 4
def groupShaper (s : State) (g : Nat) : Nat := s.objF 0x5002 (g + 1) 8 2

/-- Is the queue's group a child of the egress? -/
def groupOn (s : State) (g root : Nat) : Bool :=
  let e := groupEgress s g
  if 5 ≤ root then e == 0xFE else e == root

/-- May a station entry name the group (R259)? -/
def staGroupOk (s : State) (g : Nat) : Bool := decide (g < 512) && groupEgress s g == 0xFE

def qWeight (s : State) (q : Nat) : Nat := if q < 8192 then s.objF 0x5000 (qAc q + 1) 0 2 else s.objF 0x5001 (q - 8191) 2 2
def qBurst (s : State) (q : Nat) : Nat := if q < 8192 then s.objF 0x5000 (qAc q + 1) 2 4 else s.objF 0x5001 (q - 8191) 4 4
def qLimit (s : State) (q : Nat) : Nat := if q < 8192 then s.objF 0x5000 (qAc q + 1) 6 4 else s.objF 0x5001 (q - 8191) 8 4
def qDramLimit (s : State) (q : Nat) : Nat := s.objF 0x5000 (qAc q + 1) 10 4
def qYellow (s : State) (q : Nat) : Nat := if q < 8192 then s.objF 0x5000 (qAc q + 1) 14 1 else s.objF 0x5001 (q - 8191) 14 1
def qShaper (s : State) (q : Nat) : Nat := if q < 8192 then 0xFFFF else s.objF 0x5001 (q - 8191) 12 2

/-- On-chip and DRAM cells of a queue. -/
def chipCells (x : Queue) : Nat := ((x.frames.filter fun f => !f.inDram).map (·.cells)).sum
def dramCellsOf (x : Queue) : Nat := ((x.frames.filter (·.inDram)).map (·.cells)).sum

/-! ### Weighted fair queueing (R262, R263) -/

/-- Node keys: an egress is its root number, a group under an egress comes after them. -/
def groupNode (g root : Nat) : Nat := 16 + 8 * g + root

def nodeAt (s : State) (k : Nat) : Node := tgetD s.tm.nodes k {}
def setNode (s : State) (k : Nat) (n : Node) : State := s.setTm { s.tm with nodes := tputD s.tm.nodes k n {} }
def kidAt (n : Node) (c : Nat) : Tags := tgetD n.kids c {}
def setKid (n : Node) (c : Nat) (t : Tags) : Node := { n with kids := tputD n.kids c t {} }

/-- len / w of R262: ceil(len × 65,536 / w). -/
def perWeight (len w : Nat) : Nat := cdiv (len * 65536) (max 1 w)

/-- A child becomes backlogged with a head of so many bytes; the credit is rounded down (log entry 168). -/
def becomeBacklogged (n : Node) (c len w burst : Nat) : Node :=
  let t := kidAt n c
  let back := min (n.v - t.idleV) (burst * 65536 / max 1 w)
  let st := max t.f (n.v - back)
  setKid n c { t with s := st, f := st + perWeight len w, weight := w, backlogged := true }

/-- A child that is created or reused starts with no credit. -/
def freshKid (n : Node) (c : Nat) : Node := setKid n c { s := 0, f := 0, idleV := n.v }

/-- A child has no frame left. -/
def becomeIdle (n : Node) (c : Nat) : Node := setKid n c { kidAt n c with idleV := n.v, backlogged := false }

def backloggedKids (n : Node) : List (Nat × Tags) := n.kids.filter (·.2.backlogged)

def minStart (l : List (Nat × Tags)) : Option Nat :=
  l.foldl (fun b p => match b with | none => some p.2.s | some x => some (min x p.2.s)) none

/-- The child with least finish tag, ties to the lowest number. -/
def leastFinish (l : List (Nat × Tags)) : Option Nat :=
  (l.foldl (fun (b : Option (Nat × Tags)) p => match b with
    | none => some p
    | some x => if p.2.f < x.2.f then some p else some x) none).map (·.1)

/-- A node is asked for a frame: which child sends, v raised to an eligible start tag if none lies at or below it. -/
def selectKid (n : Node) (ok : Nat → Bool) : Option (Nat × Nat) :=
  let el := (backloggedKids n).filter fun p => ok p.1
  match minStart el with
  | none => none
  | some m =>
    let v := if el.any (fun p => decide (p.2.s ≤ n.v)) then n.v else m
    (leastFinish (el.filter fun p => decide (p.2.s ≤ v))).map (·, v)

/-- A child has sent `len` bytes: v and the tags move; `next` is its next head's length and weight, when it has one. -/
def served (n : Node) (c len : Nat) (next : Option (Nat × Nat)) : Node :=
  let bl := backloggedKids n
  let wsum := (bl.map (·.2.weight)).sum
  let v := max (n.v + perWeight len (max 1 wsum)) ((minStart bl).getD 0)
  let n := { n with v }
  let t := kidAt n c
  match next with
  | some (nl, w) => setKid n c { t with s := t.f, f := t.f + perWeight nl w, weight := w }
  | none => setKid n c { t with idleV := v, backlogged := false }

/-- Does MACsec protect the port's frames? -/
def macsecOn (s : State) (p : Nat) : Bool := s.objF 0x5810 (p + 1) 0 1 == 1

/-- Is an EtherType one of the port's bypass types, or 888Eh (R287, R288)? -/
def macsecBypass (s : State) (p et : Nat) : Bool :=
  et == 0x888E || (et != 0 && (List.range 4).any fun i => s.objF 0x5810 (p + 1) (18 + 2 * i) 2 == et)

/-- What MACsec adds to a frame at an egress: 32 bytes where it protects it (R287). -/
def macsecGrowth (s : State) (root : Nat) (b : Bytes) : Nat :=
  if root < 2 ∧ macsecOn s root = true ∧ macsecBypass s root (beF b 12 2) = false then 32 else 0

/-- The length of a frame's next piece with FCS, before MACsec. -/
def headLen (f : QFrame) : Nat :=
  match f.seg with
  | some d => d.hdr + min d.mss (d.payload - f.sentSegs * d.mss) + 4
  | none => f.len

/-- The length at which it will be sent at an egress (R262). -/
def sendLen (s : State) (root : Nat) (f : QFrame) : Nat := headLen f + macsecGrowth s root f.bytes

/-- Length and weight of a queue's head at an egress. -/
def headOf (s : State) (q root : Nat) : Option (Nat × Nat) :=
  ((s.queue q).frames.head?).map fun f => (sendLen s root f, f.weight)

/-- The head length of a group: of its backlogged child with least finish tag. -/
def groupHead (s : State) (g root : Nat) : Option (Nat × Nat) :=
  match leastFinish (backloggedKids (nodeAt s (groupNode g root))) with
  | some q => (headOf s q root).map fun h => (h.1, (kidAt (nodeAt s root) g).weight)
  | none => none

/-- The queue was empty and has a head: it, and its group where that was empty, become backlogged. -/
def seat (s : State) (q : Nat) : State :=
  match (s.queue q).frames.head? with
  | none => s
  | some f =>
    (rootsOf s q).foldl (fun s root =>
      let g := groupOf s q
      if groupOn s g root then
        let k := groupNode g root
        let was := (backloggedKids (nodeAt s k)).isEmpty
        let s := setNode s k (becomeBacklogged (nodeAt s k) q (sendLen s root f) f.weight f.burst)
        if was then setNode s root (becomeBacklogged (nodeAt s root) g (sendLen s root f) (groupWeight s g) (groupBurst s g)) else s
      else s) s

/-- The queue has been emptied without sending: it, and its group when that is empty, become idle. -/
def unseat (s : State) (q : Nat) : State :=
  (rootsOf s q).foldl (fun s root =>
    let g := groupOf s q
    let k := groupNode g root
    if (kidAt (nodeAt s k) q).backlogged then
      let s := setNode s k (becomeIdle (nodeAt s k) q)
      if (backloggedKids (nodeAt s k)).isEmpty then setNode s root (becomeIdle (nodeAt s root) g) else s
    else s) s

/-- The queue's owner is created or reused (R262). -/
def freshQueue (s : State) (q : Nat) : State :=
  (rootsOf s q).foldl (fun s root =>
    let k := groupNode (groupOf s q) root
    setNode s k (freshKid (nodeAt s k) q)) s

/-- Every byte sent moves the tags of the queue, its group and the egress (R264); an emptied queue is idle on every
egress. -/
def moveTags (s : State) (q root len : Nat) : State :=
  let g := groupOf s q
  let k := groupNode g root
  let s := setNode s k (served (nodeAt s k) q len (headOf s q root))
  let s := setNode s root (served (nodeAt s root) g len (groupHead s g root))
  if (s.queue q).frames.isEmpty then unseat s q else s

/-! ### Policers and shapers (R265, R266, R269) -/

/-- Gain of a rate at a refill, 2^-16 byte. -/
def refillGain (kbps : Nat) : Nat := kbps * 65536 / 500

def shaperTokens (s : State) (e : Nat) : Int := tgetD s.tm.shapers e 0

def conforms (s : State) (e : Nat) : Bool := e == 0xFFFF || decide (0 ≤ shaperTokens s e)

def chargeShaper (s : State) (e len : Nat) : State :=
  if e = 0xFFFF then s
  else s.setTm { s.tm with shapers := tputD s.tm.shapers e (shaperTokens s e - (len * 65536 : Nat)) 0 }

inductive Colour where
  | green | yellow | red
  deriving DecidableEq, Repr

/-- The policer of an ingress and class, 0 none (POLICER_MAP). -/
def policerOf (s : State) (f : TmFrame) : Nat :=
  match f.ingress with
  | some k => s.objN 0x5021 (8 * k + f.cls + 1)
  | none => 0

/-- R265. -/
def police (s : State) (p len : Nat) : State × Colour :=
  if p = 0 then (s, .green)
  else
    let (tp, tc) := tgetD s.tm.policers p (0, 0)
    let n := len * 65536
    if tp < n then (s.stat 0x5022 p 2 1, .red)
    else if tc < n then
      ((s.setTm { s.tm with policers := tputD s.tm.policers p (tp - n, tc) (0, 0) }).stat 0x5022 p 1 1, .yellow)
    else ((s.setTm { s.tm with policers := tputD s.tm.policers p (tp - n, tc - n) (0, 0) }).stat 0x5022 p 0 1, .green)

/-- REFILL: every bucket gains and is capped, under the rates then in force (R266). -/
def execRefill (s : State) : Out := live s fun s =>
  let es := setElements s 0x5010
  let sh := (es ++ (s.tm.shapers.map (·.1)).filter fun e => !es.contains e).foldl (fun t e =>
    let burst : Nat := s.objF 0x5010 e 4 4 * 65536
    let x : Int := tgetD t e 0 + (refillGain (s.objF 0x5010 e 0 4) : Nat)
    tputD t e (min x (burst : Int)) 0) s.tm.shapers
  let ps := setElements s 0x5020
  let po := (ps ++ (s.tm.policers.map (·.1)).filter fun e => !ps.contains e).foldl (fun t e =>
    let x := tgetD t e (0, 0)
    tputD t e (min (x.1 + refillGain (s.objF 0x5020 e 8 4)) (s.objF 0x5020 e 12 4 * 65536),
               min (x.2 + refillGain (s.objF 0x5020 e 0 4)) (s.objF 0x5020 e 4 4 * 65536)) (0, 0)) s.tm.policers
  s.setTm { s.tm with shapers := sh, policers := po, refills := s.tm.refills + 1 }

/-! ### Cells and admission (R258, R267, R276, R277) -/

/-- Watch the use of packet-buffer cells (R458, resource 15). -/
def watchCells (s : State) : State :=
  let lim := 131072 - s.tm.retired.length
  s.watch 15 (lim - s.tm.freeCells) lim 0x32 0xFF

/-- A reference to a stored frame leaves; the last one frees its cells (R258). -/
def freeRef (s : State) (f : QFrame) : State :=
  if f.inDram then s.setTm { s.tm with dramCells := s.tm.dramCells - f.cells }
  else
    let n := tgetD s.tm.cellRefs f.id 0
    if n ≤ 1 then
      watchCells (s.setTm { s.tm with cellRefs := tdel s.tm.cellRefs f.id, freeCells := s.tm.freeCells + f.cells })
    else s.setTm { s.tm with cellRefs := tput s.tm.cellRefs f.id (n - 1) }

/-- A reference to a frame is stored on chip; the first one takes its cells. -/
def takeRef (s : State) (f : QFrame) : State :=
  let n := tgetD s.tm.cellRefs f.id 0
  if n = 0 then
    let fr := s.tm.freeCells - f.cells
    watchCells (s.setTm { s.tm with cellRefs := tput s.tm.cellRefs f.id 1, freeCells := fr, leastFree := min s.tm.leastFree fr })
  else s.setTm { s.tm with cellRefs := tput s.tm.cellRefs f.id (n + 1) }

/-- Are the cells a frame still needs free for this queue (R267, 3)? -/
def cellsFree (s : State) (q : Nat) (f : QFrame) : Bool :=
  let need := if tgetD s.tm.cellRefs f.id 0 = 0 then f.cells else 0
  decide (need = 0) || decide (need + (if q < 8192 then s.objN 0x5041 0 else 0) ≤ s.tm.freeCells)

/-- A queue drops a frame: nothing stays of it (R268). -/
def countDrop (s : State) (q k : Nat) : State :=
  tmStat (s.setQueue q { s.queue q with drops := ((s.queue q).drops + 1) % 2 ^ 32 }) k

/-- Append a frame to a queue. -/
def enqueue (s : State) (q : Nat) (f : QFrame) : State :=
  let x := s.queue q
  let s := tmStat (s.setQueue q { x with frames := x.frames ++ [f] }) 0
  if x.frames.isEmpty then seat s q else s

/-- Cells of the TM_DRAM region: MiB of 256-byte cells. -/
def dramRegion (s : State) : Nat := s.objF 0x5040 0 8 4 * 4096

/-- Place a frame in DRAM, or drop it (R276, R277). -/
def toDram (s : State) (q : Nat) (f : QFrame) : State :=
  if qDramLimit s q < dramCellsOf (s.queue q) + f.cells then tmFlag (countDrop s q 1) 0
  else if dramRegion s < s.tm.dramCells + f.cells then tmFlag (countDrop s q 4) 2
  else tmStat (enqueue (s.setTm { s.tm with dramCells := s.tm.dramCells + f.cells }) q { f with inDram := true }) 3

/-- May a frame the queue limit refuses go to DRAM (R276)? -/
def mayOverflow (s : State) (q : Nat) (f : QFrame) : Bool :=
  match qSta q with
  | some n => asleepAll s n f.tid && decide (0 < dramRegion s) &&
      decide (dramCellsOf (s.queue q) + f.cells ≤ qDramLimit s q)
  | none => false

/-- One destination queue judges a frame on its own (R258, R267). -/
def admitFrame (s : State) (col : Colour) (f : QFrame) (q : Nat) : State :=
  -- the TID of a frame to a station is its traffic class
  let f := { f with weight := qWeight s q, burst := qBurst s q, tid := if q < 8192 then f.cls else f.tid }
  let x := s.queue q
  if col = .yellow ∧ qYellow s q * qLimit s q ≤ 100 * chipCells x then countDrop s q 6
  else if x.frames.any (·.inDram) then toDram s q f
  else if qLimit s q < chipCells x + f.cells then
    if mayOverflow s q f then toDram s q f else tmFlag (countDrop s q 1) 0
  else if cellsFree s q f then enqueue (takeRef s f) q f
  else tmFlag (countDrop s q 2) 1

/-- The frame as the traffic manager holds it. -/
def storedFrame (s : State) (f : TmFrame) : QFrame :=
  { id := f.id, bytes := f.bytes, len := f.bytes.length + 4, cls := f.cls, tid := f.tid, dst := f.dst, entry := f.entry, src := f.src,
    stamp := s.datum.t, cells := cdiv (f.bytes.length + 4) 256, inDram := false, weight := 1, burst := 0, seg := f.seg,
    tstamp := f.tstamp, ingress := f.ingress, truncated := f.truncated }

/-- Hand a frame to the traffic manager: policed once, then judged by each destination queue (R257, R265, R267). -/
def tmHandoff (s : State) (f : TmFrame) : State :=
  -- downlink that arrives for an ABSENT member is discarded and counted (R224)
  let absent (q : Nat) : Bool := decide (8296 ≤ q ∧ q < 8440 ∧ f.dst ≠ 0) && s.objF 0x3810 f.dst 0 1 == 3
  let s := (f.queues.filter absent).foldl (fun s q => s.stat 0x3840 ((q - 8296) / 48 + 1) 13 1) s
  let f := { f with queues := f.queues.filter fun q => !absent q }
  let qf := storedFrame s f
  let (s, col) := police s (policerOf s f) qf.len
  if col = .red then
    tmFlag (f.queues.foldl (fun s q => s.setQueue q { s.queue q with drops := ((s.queue q).drops + 1) % 2 ^ 32 }) (tmStat s 5)) 3
  else (f.queues.filter fun q => decide (q < 8443)).foldl (fun s q => admitFrame s col qf q) s

/-! ### Discards (R157, R280) -/

/-- Discard every frame of a queue. -/
def flushQueue (s : State) (q : Nat) : State :=
  let x := s.queue q
  let s := x.frames.foldl (fun s f => countDrop (freeRef s f) q 11) s
  unseat (s.setQueue q { s.queue q with frames := [] }) q

/-- Discard the frames of a queue for one destination entry. -/
def flushFor (s : State) (q dst : Nat) : State :=
  let x := s.queue q
  let s := (x.frames.filter fun f => f.dst == dst).foldl (fun s f => countDrop (freeRef s f) q 11) s
  let keep := (s.queue q).frames.filter fun f => f.dst != dst
  let s := s.setQueue q { s.queue q with frames := keep }
  if keep.isEmpty ∧ x.frames.isEmpty = false then unseat s q else s

/-- The station entry is freed (R157, R280). -/
def flushStation (s : State) (n : Nat) : State := (List.range 4).foldl (fun s a => flushQueue s (qStation n a)) s

/-- Drop frames that a test names from a queue, keeping the others' order. -/
def dropWhere (s : State) (q k : Nat) (flag : Option Nat) (p : QFrame → Bool) : State :=
  let x := s.queue q
  let bad := x.frames.filter p
  if bad.isEmpty then s
  else
    let s := bad.foldl (fun s f => match flag with
      | some b => tmFlag (countDrop (freeRef s f) q k) b
      | none => countDrop (freeRef s f) q k) s
    let keep := x.frames.filter fun f => !p f
    let s := s.setQueue q { s.queue q with frames := keep }
    if keep.isEmpty then unseat s q else s

/-- Has a station frame's AC lifetime passed (R279)? The radio is the one that asks. -/
def expired (s : State) (r a : Nat) (f : QFrame) : Bool :=
  decide (f.stamp.units + acParam s r a 6 2 * 1000000 * 4294967296 < s.datum.t.units)

/-- Lifetime drops of a station queue at dequeue (R279). -/
def purgeExpired (s : State) (r q : Nat) : State :=
  if q < 8192 then dropWhere s q 10 (some 7) (expired s r (qAc q)) else s

/-! ### Time gates (R270 to R275) -/

/-- The list GATE_CTRL and GATE_LIST set for gated egress `g` (0, 1 ETH; 2 to 4 Chain A to C). -/
def stagedGate (s : State) (g : Nat) : Gate :=
  let n := s.objF 0x5030 (g + 1) 2 1
  { enabled := s.objF 0x5030 (g + 1) 0 1 == 1, fixed := s.objF 0x5030 (g + 1) 1 1 == 1,
    entries := (List.range n).map fun i => (s.objF (0x5031 + g) (i + 1) 0 1, s.objF (0x5031 + g) (i + 1) 2 4),
    base := datumAt (s.objB 0x5030 (g + 1)) 4, cycle := s.objF 0x5030 (g + 1) 16 4, maxFrame := s.objF 0x5030 (g + 1) 20 2 }

/-- Starts of the entries within the cycle, in 2^-32 ns, with their states. -/
def entryStarts : Nat → List (Nat × Nat) → List (Nat × Nat)
  | _, [] => []
  | o, (st, iv) :: r => (o, st) :: entryStarts (o + iv * 4294967296) r

def cycleUnits (g : Gate) : Nat := max 1 (g.cycle * 4294967296)

/-- The states in force at a Datum, 2^-32 ns: every gate open before BASE or without a list (R271). -/
def gateStates (g : Gate) (t : Nat) : Nat :=
  if g.enabled = false ∨ t < g.base.units then 255
  else
    let pos := (t - g.base.units) % cycleUnits g
    ((entryStarts 0 g.entries).foldl (fun acc e => if e.1 ≤ pos then e.2 else acc) 255)

/-- The first instant at or after `t` at which the list's gate of class `c` is closed. -/
def firstClosed (g : Gate) (c t : Nat) : Option Nat :=
  if g.enabled = false then none
  else
    let from_ := max t g.base.units
    if bit (gateStates g from_) c = false then some from_
    else
      let cyc := cycleUnits g
      (entryStarts 0 g.entries).foldl (fun best e =>
        if bit e.2 c then best
        else
          let first := g.base.units + e.1
          let nx := if from_ ≤ first then first else first + cyc * cdiv (from_ - first) cyc
          match best with
          | none => some nx
          | some b => some (min b nx)) none

/-- The list in force at a Datum, and the staked one that will follow it. -/
def gateNow (s : State) (g t : Nat) : Gate × Option Gate :=
  match vget s.tm.nextGate g none with
  | some n => if n.start ≤ t then (n, none) else (vget s.tm.gates g {}, some n)
  | none => (vget s.tm.gates g {}, none)

/-- The close of class `c`'s gate as seen at `t`: through the staked list from its start on (R271, R272). -/
def gateClose (s : State) (g c t : Nat) : Option Nat :=
  match gateNow s g t with
  | (cur, none) => firstClosed cur c t
  | (cur, some n) =>
    match firstClosed cur c t with
    | some x => if x < n.start then some x else firstClosed n c n.start
    | none => firstClosed n c n.start

/-- The first cycle boundary of a list at or after `t`. -/
def nextBoundary (g : Gate) (t : Nat) : Nat :=
  if t ≤ g.base.units then g.base.units else g.base.units + cycleUnits g * cdiv (t - g.base.units) (cycleUnits g)

/-- A staked list: at T when the egress was ungated, else at the old list's next cycle boundary (R272). -/
def gateStaked (s : State) (g t : Nat) : State :=
  let new := stagedGate s g
  let old := vget s.tm.gates g {}
  if old.enabled then s.setTm { s.tm with nextGate := vset s.tm.nextGate g (some { new with start := nextBoundary old t }) }
  else s.setTm { s.tm with gates := vset s.tm.gates g { new with start := t }, nextGate := vset s.tm.nextGate g none,
                           gateEntry := vset s.tm.gateEntry g 0 }

/-- The number of the entry in force. -/
def entryIndex (g : Gate) (t : Nat) : Nat :=
  if g.enabled = false ∨ t < g.base.units then 0
  else
    let pos := (t - g.base.units) % cycleUnits g
    ((entryStarts 0 g.entries).filter fun e => decide (e.1 ≤ pos)).length - 1

/-- Put a staked list in force once Datum has reached its boundary. -/
def adoptGate (s : State) (g : Nat) : State :=
  match vget s.tm.nextGate g none with
  | some n =>
    if n.start ≤ s.datum.t.units then
      s.setTm { s.tm with gates := vset s.tm.gates g n, nextGate := vset s.tm.nextGate g none }
    else s
  | none => s

/-- GATE_ENTRY_CHANGE: the entry that Datum gives comes into force (R271, R272). -/
def execGateEntryChange (g : Fin 5) (s : State) : Out := live s fun s =>
  let s := adoptGate s g.val
  s.setTm { s.tm with gateEntry := vset s.tm.gateEntry g.val (entryIndex (vget s.tm.gates g.val {}) s.datum.t.units) }

/-- Line rate of a mode in Gb/s (*Ethernet modes*); 0 disabled. -/
def lineRate (mode : Nat) : Nat := if mode = 0 then 0 else if mode ≤ 3 then 25 else if mode ≤ 5 then 10 else 1

/-- Transmission time on ETH0 or ETH1 in 2^-32 ns (R273). -/
def ethTime (s : State) (p len : Nat) : Nat :=
  cdiv ((len + 20 + (if macsecOn s p then 32 else 0)) * 8 * 4294967296) (max 1 (lineRate (s.objF 0x5800 (p + 1) 0 1)))

/-- Does a head frame fit its gate: start and duration in 2^-32 ns, and the duration of MAX_FRAME (R273)? -/
def gateFits (s : State) (g c start d dMax : Nat) : Bool :=
  let (cur, _) := gateNow s g start
  if bit (gateStates cur start) c = false then false
  else match gateClose s g c start with
    | none => true
    | some close => if cur.fixed then decide (start + dMax < close) else decide (start + d ≤ close)

/-- A head frame is held at its gate: counted once for the frame (R273). -/
def gateHold (s : State) (q : Nat) : State :=
  match (s.queue q).frames with
  | f :: r =>
    if f.held then s
    else tmFlag (tmStat (s.setQueue q { s.queue q with frames := { f with held := true } :: r }) 7) 4
  | [] => s

/-- The class and the `now` of the end of what a gated egress transmits. -/
def setInTx (s : State) (g c endNow : Nat) : State :=
  s.setTm { s.tm with inTx := vset s.tm.inTx g (some (c, endNow)) }

/-- After a Datum step: a frame in transmission that now ends past its gate's close is an overrun (R275). -/
def gateStepped (s : State) (g : Nat) : State :=
  let s := adoptGate s g
  match vget s.tm.inTx g none with
  | some (c, e) =>
    if s.now < e then
      match gateClose s g c s.datum.t.units with
      | some x => if x < s.datum.t.units + (e - s.now) * 4294967296 then tmFlag (tmStat s 8) 5 else s
      | none => s
    else s
  | none => s

/-! ### DRAM queues (R278) -/

/-- Move a queue's DRAM frames on chip in queue order while cells are free; STA_RESERVE does not apply. -/
def returnFrames : List QFrame → State → List QFrame × State
  | [], s => ([], s)
  | f :: r, s =>
    if f.inDram = false then
      let (r, s) := returnFrames r s
      (f :: r, s)
    else if f.cells ≤ s.tm.freeCells then
      let s := s.setTm { s.tm with dramCells := s.tm.dramCells - f.cells }
      let (r, s) := returnFrames r (takeRef s f)
      ({ f with inDram := false } :: r, s)
    else (f :: r, s)

/-- DRAM_RETURN: the station of the queue is awake on some link its frames map to (R278). -/
def execDramReturn (q : Nat) (s : State) : Out := live s fun s =>
  match qSta q with
  | some n =>
    match (s.queue q).frames.head? with
    | some f =>
      if asleepAll s n f.tid then s
      else
        let (fs, s) := returnFrames (s.queue q).frames s
        s.setQueue q { s.queue q with frames := fs }
    | none => s
  | none => s

end Sys2Proof.Machine
end

