-- ==== Sys2Proof/Machine/Egress.lean ====
section
/-! DEFINITION. Packet rings and egresses (11_wired_ports, R283 to R300; R261, R262): how a frame leaves its queue, on
a port, into a ring or to a radio. -/

namespace Sys2Proof.Machine
open Sys2Proof

def State.setWired (s : State) (w : Wired) : State := { s with wired := w }
def State.eth (s : State) (p : Nat) : EthPort := vget s.wired.eth p {}
def State.modEth (s : State) (p : Nat) (f : EthPort → EthPort) : State :=
  s.setWired { s.wired with eth := vset s.wired.eth p (f (s.eth p)) }

/-- Add to a statistics counter of ETH_STATS or FIELD_STATS: U64, saturating (R290). -/
def portStat (s : State) (idx el k n : Nat) : State := s.setObjF idx el (8 * k) 8 (min (s.objF idx el (8 * k) 8 + n) (2 ^ 64 - 1))
def ethStat (s : State) (p k n : Nat) : State := portStat s 0x5802 (p + 1) k n
def fieldStat (s : State) (k n : Nat) : State := portStat s 0x5822 0 k n

/-- An MSI-X vector is raised (R306): its message goes out, or it is pending while its table entry's mask bit is set (PCI's
own table, log entry 43). -/
def raiseMsix (s : State) (v : Nat) : State :=
  if s.wired.pcieRoot then s
  else
    let s := s.setWired { s.wired with msix := setBit s.wired.msix v true }
    if bit (s.regAt (msixTable + 16 * v + 12)) 0 then s.setReg msixPending (setBit (s.regAt msixPending) v true) else s

/-- A flag of PORT_FLAGS: 0 ETH0, 1 ETH1, 2 FIELD, 3 PCIe; in the endpoint role the PCIe port's raise vector 13, a
LINK_DOWN once the link is up again (R306). -/
def portFlag (s : State) (p b : Nat) : State :=
  let s := s.setFlag 0x5860 (p + 1) b
  if p = 3 then (if b = 0 then s.setWired { s.wired with vector13Owed := !s.wired.pcieRoot } else raiseMsix s 13) else s

def ethMode (s : State) (p : Nat) : Nat := s.objF 0x5800 (p + 1) 0 1
def ethMax (s : State) (p : Nat) : Nat := s.objF 0x5800 (p + 1) 1 2
def fieldMax (s : State) : Nat := s.objF 0x5820 0 6 2

/-- Is the port's link up? -/
def portUp (s : State) (p : Nat) : Bool :=
  if p < 2 then (s.eth p).link else if p = 2 then s.wired.fieldLink else s.wired.pcieLink

/-! ### Pause sending (R294) -/

/-- PCP0 of a frame, 0 untagged. -/
def pcp0 (b : Bytes) : Nat := if beF b 12 2 = 0x8100 ∨ beF b 12 2 = 0x88A8 then beF b 14 1 / 32 else 0

/-- Every frame stored on chip once, whatever queues refer to it. -/
def storedFrames (s : State) : List QFrame :=
  (s.tm.queues.flatMap fun q => q.2.frames.filter fun f => !f.inDram).foldl
    (fun l f => if l.any fun g => g.id == f.id then l else l ++ [f]) []

/-- Cells held by frames that entered through the port, of one class or of all. -/
def occupancyOf (s : State) (p : Nat) (c : Option Nat) : Nat :=
  (((storedFrames s).filter fun f => f.ingress == some p &&
    (match c with | some c => pcp0 f.bytes == c | none => true)).map (·.cells)).sum

/-- PAUSE_CFG mode: 0 NONE, 1 PAUSE, 2 PFC. -/
def pauseMode (s : State) (p : Nat) : Nat := s.objF 0x5803 (p + 1) 0 1

/-- So many pause quanta in ns at the port's line rate: 512 bit times each. -/
def quantaNs (s : State) (p q : Nat) : Nat := cdiv (q * 512) (max 1 (lineRate (ethMode s p)))

/-- The port sends a pause frame for a class, or for all in PAUSE mode: it goes ahead of every queued frame and no gate
holds it (R294). -/
def sendPause (s : State) (p c quanta : Nat) : State :=
  let pfc : Bool := pauseMode s p == 2
  ethStat (s.modEth p fun e => { e with
    pauses := { pfc, classes := if pfc then 2 ^ c else 255, quanta } :: e.pauses, pauseAt := vset e.pauseAt c s.now }) p 9 1

/-- The port judges one occupancy against XOFF and XON: it pauses, or releases. -/
def pauseJudge (s : State) (p bitNo occ : Nat) : State :=
  let xoff := s.objF 0x5803 (p + 1) 4 4
  let xon := s.objF 0x5803 (p + 1) 8 4
  let e := s.eth p
  if bit e.pausing bitNo = false ∧ xoff ≤ occ then
    sendPause (s.modEth p fun e => { e with pausing := setBit e.pausing bitNo true }) p bitNo (s.objF 0x5803 (p + 1) 2 2)
  else if bit e.pausing bitNo = true ∧ occ ≤ xon then
    sendPause (s.modEth p fun e => { e with pausing := setBit e.pausing bitNo false }) p bitNo 0
  else s

/-- The ingress occupancies of a port have changed. -/
def pauseEval (s : State) (p : Nat) : State :=
  match pauseMode s p with
  | 0 => s
  | 1 => pauseJudge s p 0 (occupancyOf s p none)
  | _ => (List.range 8).foldl (fun s c => pauseJudge s p c (occupancyOf s p (some c))) s

def pauseBoth (s : State) : State := pauseEval (pauseEval s 0) 1

/-! ### Rings (R295 to R297) -/

/-- A ring's register block. -/
def ringBase : Ring → Nat
  | .coreRx k => coreRxBase + 0x40 * k.val
  | .coreTx j => coreTxBase + 0x40 * j.val
  | .hostRx c => hostRxBase + 0x40 * c.val
  | .hostTx j => hostTxBase + 0x40 * j.val

def ringIsCore : Ring → Bool
  | .coreRx _ => true
  | .coreTx _ => true
  | .hostRx _ => false
  | .hostTx _ => false

def ringOn (s : State) (b : Nat) : Bool := bit (s.regAt (b + 8)) 31
/-- Number of descriptors: 2^SIZE, SIZE 4 to 12. -/
def ringSize (s : State) (b : Nat) : Nat := 2 ^ min 12 (max 4 (s.regAt (b + 8) % 16))
def ringHead (s : State) (b : Nat) : Nat := s.regAt (b + 0x10) % ringSize s b
def ringTail (s : State) (b : Nat) : Nat := s.regAt (b + 0xC) % ringSize s b
/-- Descriptors the device owns: HEAD to TAIL − 1. -/
def ringAvail (s : State) (b : Nat) : Nat := (ringTail s b + ringSize s b - ringHead s b) % ringSize s b
/-- Bytes of a receive buffer. -/
def ringBuf (s : State) (b : Nat) : Nat := 2 ^ (8 + min 6 (bits (s.regAt (b + 8)) 8 3))

def readWord (s : State) (a : Nat) : Nat := leNat (readMemN s.mem a 8)
/-- Bytes written to memory; a 64-bit word wholly rewritten is no longer poisoned, one that is merged into stays poisoned and its
check sets DP_UNCORR (R24, R25). -/
def storeBytes (s : State) (a : Nat) (v : Bytes) : State :=
  let s := if s.dram.poison.any fun w => decide (w < a + v.length ∧ a < w + 8) && !decide (a ≤ w ∧ w + 8 ≤ a + v.length) then s.uncorrected else s
  { s with mem := writeMemN s.mem a v
           dram := { s.dram with poison := s.dram.poison.filter fun w => !(decide (a ≤ w ∧ w + 8 ≤ a + v.length)) } }
def storeWord (s : State) (a v : Nat) : State := storeBytes s a (le 8 v)

/-- A status bit of a ring and its companion counter. -/
def ringFlag (s : State) (b bitNo : Nat) : State :=
  let c := if bitNo = 0 then b + 0x1C else b + 0x18
  (s.setReg (b + 0x14) (setBit (s.regAt (b + 0x14)) bitNo true)).setReg c ((s.regAt c + 1) % 2 ^ 32)

/-- HEAD advances by one. -/
def ringAdvance (s : State) (b : Nat) : State := s.setReg (b + 0x10) ((ringHead s b + 1) % ringSize s b)

/-- The port code of a policed ingress (*Port codes*). -/
def ingressCode (i : Option Nat) : Nat := match i with | none => 4 | some k => if k < 4 then k else 0x10 + (k - 4)

/-- Words 1 to 3 of a receive descriptor. -/
def rxWords (f : QFrame) (n status sop eop total : Nat) : List Nat :=
  [n * 2 ^ 32 + status * 2 ^ 24 + ingressCode f.ingress * 256 + sop * 4 + eop * 2 + 1,
   f.src.1 * 2 ^ 52 + f.src.2 * 2 ^ 40 + f.tid * 2 ^ 36 + f.cls * 2 ^ 32 + (if eop = 1 then total else 0),
   f.entry.1 % 2 ^ 32 * 2 ^ 32 + f.entry.2]

/-- Fill one receive descriptor: buffer, words 1 to 3 with DONE, DONE flag, HEAD. -/
def fillDesc (s : State) (ring : Ring) (data : Bytes) (ws : List Nat) : State :=
  let b := ringBase ring
  let i := ringHead s b
  let s :=
    match ring with
    | .hostRx c => s.setWired { s.wired with hostOut := s.wired.hostOut ++ [(c.val, i, ws.flatMap (le 8) ++ data)] }
    | _ =>
      let a := s.regAt b + 32 * i
      let s := storeBytes s (readWord s a) data
      storeBytes s (a + 8) (ws.flatMap (le 8))
  ringAdvance (ringFlag s b 0) b

/-- Write a frame into consecutive descriptors (R296, R297): `fuel` bounds the buffers. -/
def fillFrame (ring : Ring) (f : QFrame) (size : Nat) : Nat → Nat → Bytes → State → State
  | 0, _, _, s => s
  | fuel + 1, sent, rest, s =>
    let b := ringBase ring
    let data := rest.take size
    let rest := rest.drop size
    let sop := if sent = 0 then 1 else 0
    let total := sent + data.length
    if rest.isEmpty then fillDesc s ring data (rxWords f data.length (if f.truncated then 2 else 0) sop 1 total)
    else if ringAvail s b ≤ 1 then ringFlag (fillDesc s ring data (rxWords f data.length 1 sop 1 total)) b 1
    else fillFrame ring f size fuel total rest (fillDesc s ring data (rxWords f data.length 0 sop 0 total))

/-- A frame reaches its receive ring: written, or discarded whole with NOBUF; then the ring's event (R295, R306). -/
def ringDeliver (s : State) (ring : Ring) (f : QFrame) : State :=
  let b := ringBase ring
  let s := if ringAvail s b = 0 then ringFlag s b 1
    else fillFrame ring f (ringBuf s b) (f.bytes.length + 1) 0 f.bytes s
  match ring with
  | .coreRx k =>
    let o := s.objF 0x4600 (k.val + 1) 2 2
    if 16 ≤ o then s.postOperand o 0 else s
  | .hostRx c => raiseMsix s (1 + c.val)
  | _ => s

/-- Is the ring open to its queue: enabled, and for a core ring by CORE_RING_CFG, for a host ring in the endpoint
role? -/
def ringReady (s : State) : Ring → Bool
  | .coreRx k => ringOn s (ringBase (.coreRx k)) && s.objF 0x4600 (k.val + 1) 0 1 == 1
  | .hostRx c => ringOn s (ringBase (.hostRx c)) && !s.wired.pcieRoot
  | _ => false

/-- The ring a queue feeds. -/
def ringOf (q : Nat) : Option Ring :=
  if h : 8224 ≤ q ∧ q < 8240 then some (.coreRx ⟨q - 8224, by omega⟩)
  else if h : 8216 ≤ q ∧ q < 8224 then some (.hostRx ⟨q - 8216, by omega⟩)
  else none

/-- The queue that feeds a ring. -/
def queueOf : Ring → Option Nat
  | .coreRx k => some (qCore k.val)
  | .hostRx c => some (qPort 3 c.val)
  | _ => none

/-! ### Sending (R261, R264) -/

/-- Remove a queue's head, freeing its reference. -/
def popHead (s : State) (q : Nat) : State :=
  match (s.queue q).frames with
  | f :: r => freeRef (s.setQueue q { s.queue q with frames := r }) f
  | [] => s

/-- The head has been sent: shapers charged, tags moved. -/
def sentHead (s : State) (q root len : Nat) : State :=
  let s := chargeShaper (chargeShaper s (qShaper s q) len) (groupShaper s (groupOf s q)) len
  moveTags s q root len

/-- Drop a queue's head without sending it. -/
def dropHead (s : State) (q : Nat) : State :=
  let s := popHead (s.setQueue q { s.queue q with drops := ((s.queue q).drops + 1) % 2 ^ 32 }) q
  if (s.queue q).frames.isEmpty then unseat s q else s

/-- A segmentation-offload frame at an egress that does not segment is dropped; SEG_NO_PORT of ETH0's record counts
it (R299; log entry 18). -/
def segNoPort (s : State) (q : Nat) : State := dropHead (ethStat s 0 15 1) q

/-- A cell whose second read is not clean is retired (R450). -/
def retireCell (s : State) (c : Nat) : State :=
  if s.tm.retired.contains c then s
  else
    let s := s.setTm { s.tm with retired := s.tm.retired ++ [c], freeCells := s.tm.freeCells - 1 }
    ((s.addObjF 0x7F11 0 0 4 1).setFlag 0x7F12 0 1).logEvent 0x32 0 0xF005 0xFF c

/-- The head's cells read back poisoned: the whole frame is dropped, and its cells checked on release (R281,
R449, R450). -/
def poisonHead (s : State) (q : Nat) (badCells : List Nat) : State :=
  let (cell, s) := s.draw
  let s := tmFlag (tmStat (s.poisonConsumed 0x32 0xFF ((badCells.head?).getD (cell % 131072))) 9) 6
  badCells.foldl retireCell (dropHead s q)

/-- A cell of the head was corrected on its way (R25). -/
def cellFixed (s : State) (ecc : EccObs) : State :=
  if ecc = .corrected then
    let (cell, s) := s.draw
    s.corrected 0x32 0xFF (cell % 131072)
  else s

/-- The shapers of a queue and of its group conform (R269). -/
def shapersOk (s : State) (q : Nat) : Bool := conforms s (qShaper s q) && conforms s (groupShaper s (groupOf s q))

/-- What the port sends of a frame next: its bytes and length with FCS. -/
def pieceOf (f : QFrame) (k : Nat) : Bytes :=
  match f.seg with
  | some d => segmentOf f.bytes d k
  | none => f.bytes

/-- Pieces of a frame. -/
def pieces (f : QFrame) : Nat := match f.seg with | some d => segCount d | none => 1

/-- Is a port's queue paused (R291)? -/
def portPaused (s : State) (p q : Nat) : Bool := decide (p < 2) && vget (s.eth p).paused (gateClass q) 0 != 0

/-- Does the piece fit the port's gate from `start`, 2^-32 ns? -/
def portFits (s : State) (p q start len : Nat) : Bool :=
  decide (2 ≤ p) || gateFits s p (gateClass q) start (ethTime s p len)
    (cdiv ((s.objF 0x5030 (p + 1) 20 2 + 20 + (if macsecOn s p then 32 else 0)) * 8 * 4294967296)
      (max 1 (lineRate (ethMode s p))))

/-- Do frames leave ports at all? A device in SYNCING or STANDBY sends only Velmoti responses, and one in WAIT, which has
stopped egress, likewise; a FENCED one nothing (R434, R435, R444). -/
def pairSends (s : State) (q : Nat) : Bool :=
  match s.pair.st with
  | .syncing => decide (8440 ≤ q)
  | .wait => decide (8440 ≤ q)
  | .standby => decide (8440 ≤ q)
  | .fenced => false
  | _ => true

/-- Is a port queue eligible but for its gate (R261)? -/
def portReady (s : State) (p q : Nat) : Bool :=
  pairSends s q && shapersOk s q && !portPaused s p q &&
    (match ringOf q with | some ring => ringReady s ring | none => true)

/-- Is a port queue eligible (R261)? -/
def portEligible (s : State) (p q : Nat) : Bool :=
  match (s.queue q).frames.head? with
  | some f => portReady s p q && (decide (3 ≤ p) || portFits s p q s.datum.t.units (headLen f))
  | none => false

/-- The queues of an egress that hold frames. -/
def busyQueues (s : State) (root : Nat) : List Nat :=
  (s.tm.queues.filter fun p => !p.2.frames.isEmpty && (rootsOf s p.1).contains root).map (·.1)

/-- Heads that only their gate holds back are counted (R273). -/
def countHolds (s : State) (p : Nat) : State :=
  if 2 ≤ p then s
  else (busyQueues s p).foldl (fun s q => if portReady s p q ∧ portEligible s p q = false then gateHold s q else s) s

/-- Select a queue at an egress: the egress asks a group, the group a queue (R262). -/
def selectQueue (s : State) (root : Nat) (ok : Nat → Bool) : Option Nat × State :=
  let gok (g : Nat) : Bool := (backloggedKids (nodeAt s (groupNode g root))).any fun p => ok p.1
  match selectKid (nodeAt s root) gok with
  | none => (none, s)
  | some (g, v) =>
    let s := setNode s root { nodeAt s root with v }
    let k := groupNode g root
    match selectKid (nodeAt s k) ok with
    | none => (none, s)
    | some (q, v) => (some q, setNode s k { nodeAt s k with v })

/-! ### Ports (R283, R286, R287, R289, R319, R320) -/

/-- TS_SKIP and the skipped count of a port (R319). -/
def tsSkip (s : State) (p : Nat) : State := (s.addObjF 0x1231 (p + 1) 16 4 1).setFlag 0x1250 0 2

/-- Lead of a mode in ns (*Transmit lead*). -/
def txLead (mode : Nat) : Nat := if mode = 1 then 640 else if mode ≤ 3 then 320 else if mode ≤ 5 then 480 else 1200

/-- The departure instant D, 2^-32 ns (R320): on ETH the first tick at or after the lead, on FIELD 6.4 us after the
preamble's start. -/
def departure (s : State) (p : Nat) : Nat :=
  if p < 2 then s.datum.t.units + s.datum.incr * cdiv (txLead (ethMode s p) * 4294967296) (max 1 s.datum.incr)
  else s.datum.t.units + 6400 * 4294967296

/-- P = D + TX_OFFSET (ps). -/
def stampP (s : State) (p : Nat) : DatumVal :=
  datumOf ((departure s p : Int) + s.objI 0x1230 (p + 1) 0 4 * 4294967296 / 1000).toNat

/-- One-step time-stamping of a marked frame at its egress (R319, R320). -/
def timestamp (s : State) (p : Nat) (b : Bytes) : State × Bytes :=
  if p < 3 ∧ ptpStampable b = true then
    let d := stampP s p
    let n := (s.objF 0x1231 (p + 1) 12 4 + 1) % 2 ^ 32
    let s := s.setObj 0x1231 (p + 1) (d.enc ++ le 4 n ++ le 4 (s.objF 0x1231 (p + 1) 16 4))
    (s, ptpInsert b (d.sec, d.ns, d.frac))
  else (if p < 3 then tsSkip s p else s, b)

/-- The transmit SA in force and its key slot: element 4 × port + AN + 1. -/
def txSlot (s : State) (p : Nat) : Nat := s.objF 0x5811 (4 * p + s.objF 0x5810 (p + 1) 16 1 + 1) 2 2

/-- How a frame leaves a port (R287, R289): in the clear, under a packet number, after a wait for one, or not at all. -/
inductive Protect where
  | clear
  | pn (n : Nat)
  | waits
  | refused

/-- The packet number of a frame that MACsec protects (R287, R289). -/
def macsecTake (s : State) (p : Nat) (b : Bytes) : State × Protect :=
  if 0 < macsecGrowth s p b then
    match takeCounter s (txSlot s p) with
    | (s, .value c) => (s, .pn c)
    | (s, .stall) => (s, .waits)
    | (s, .exhausted) => (portFlag (ethStat s p 14 1) p 4, .refused)
    | (s, .noKey) => (s, .refused)
  else (s, .clear)

/-- A port sends a piece: counted. A truncated mirror copy leaves with its FCS inverted (R285). -/
def portSent (s : State) (x : SentFrame) : State :=
  let s := s.setTm { s.tm with sent := x :: s.tm.sent }
  if x.port < 2 then ethStat (ethStat s x.port 7 1) x.port 8 (x.bytes.length + 4)
  else if x.port = 2 then fieldStat (fieldStat s 4 1) 5 (x.bytes.length + 4)
  else s

/-- A piece leaves: at once, or when its MACSEC job has ended OK (R287, R338, R339). -/
def pieceLeaves (s : State) (p : Nat) (pn : Option Nat) (x : SentFrame) : State :=
  match pn with
  | none => portSent s x
  | some c => queueJob s 3 (txSlot s p) true (some c) x.bytes.length (.port x)

/-- Is a piece longer than the port's MAX_FRAME (R286)? -/
def oversize (s : State) (p : Nat) (b : Bytes) : Bool :=
  if p < 2 then decide (ethMax s p < b.length + 4) else if p = 2 then decide (fieldMax s < b.length + 4) else false

/-- Count an oversize drop. -/
def countOversize (s : State) (p : Nat) : State := portFlag (if p < 2 then ethStat s p 10 1 else fieldStat s 7 1) p 7

/-- What becomes of a piece at the port. -/
inductive Piece where
  | sent (s : State)
  | dropped (s : State)
  | waits

/-- A piece of the head leaves, is dropped at the egress, or waits for a counter reservation. -/
def sendPiece (s : State) (p q : Nat) (f : QFrame) (b : Bytes) : Piece :=
  if oversize s p b then .dropped (countOversize s p)
  else
    let go (s : State) (pn : Option Nat) : Piece :=
      let (s, b) := if f.tstamp then timestamp s p b else (s, b)
      let s := pieceLeaves s p pn { frame := f.id, port := p, fcsBad := f.truncated, bytes := b }
      let s := chargeShaper (chargeShaper s (qShaper s q) (b.length + 4)) (groupShaper s (groupOf s q)) (b.length + 4)
      .sent (if p < 2 then setInTx s p (gateClass q) (s.now + cdiv (ethTime s p (b.length + 4)) 4294967296) else s)
    match macsecTake s p b with
    | (_, .waits) => .waits
    | (s, .refused) => .dropped s
    | (s, .clear) => go s none
    | (s, .pn c) => go s (some c)

/-- The head frame stays in its queue with so many of its pieces gone. -/
def keepHead (s : State) (q k : Nat) (f : QFrame) : State :=
  s.setQueue q { s.queue q with frames := { f with sentSegs := k } :: (s.queue q).frames.tail }

/-- A piece is gone: with the last one the frame leaves its queue. -/
def pieceGone (s : State) (q k : Nat) (f : QFrame) : State := if k + 1 < pieces f then keepHead s q (k + 1) f else popHead s q

/-- The head of a port's queue is sent, segment after segment while each fits (R299, R300); `start` is where the next
piece starts. -/
def sendPieces (p q : Nat) (f : QFrame) : Nat → Nat → Nat → State → State
  | 0, _, _, s => s
  | fuel + 1, k, start, s =>
    let b := pieceOf f k
    let len := b.length + 4
    if p < 2 ∧ portFits s p q start len = false then keepHead s q k f
    else match sendPiece s p q f b with
      | .waits => keepHead (counterStall s) q k f
      | .sent s =>
        let s := moveTags (pieceGone s q k f) q p (len + macsecGrowth s p b)
        sendPieces p q f fuel (k + 1) (start + ethTime s p len) s
      | .dropped s =>
        let s := pieceGone s q k f
        let s := if (s.queue q).frames.isEmpty then unseat s q else s
        sendPieces p q f fuel (k + 1) start s

/-- Frames at the head of a port whose link is down are dropped (R283). -/
def dropLinkDown (s : State) (p : Nat) : State :=
  (busyQueues s p).foldl (fun s q =>
    ((s.queue q).frames).foldl (fun s _ => dropHead (if p < 2 then ethStat s p 11 1 else s) q) s) s

/-- A port is asked for a frame (R262, R273, R283). -/
def portRequest (s : State) (p : Nat) (ecc : EccObs) (badCells : List Nat) : State :=
  if portUp s p = false then dropLinkDown s p
  else
    let s := countHolds s p
    match selectQueue s p (portEligible s p) with
    | (none, s) => s
    | (some q, s) =>
      match (s.queue q).frames.head? with
      | none => s
      | some f =>
        if ecc = .poisoned then poisonHead s q badCells
        else if f.seg.isSome ∧ 2 ≤ p then segNoPort s q
        else sendPieces p q f (pieces f - f.sentSegs) f.sentSegs s.datum.t.units (cellFixed s ecc)

/-- A frame leaves the queue of a ring for the ring, and moves its tags. -/
def ringRequest (s : State) (root q : Nat) (ring : Ring) (ecc : EccObs) (badCells : List Nat) : State :=
  match (s.queue q).frames.head? with
  | none => s
  | some f =>
    if ecc = .poisoned then poisonHead s q badCells
    else if f.seg.isSome then segNoPort s q
    else
      let s := cellFixed s ecc
      sentHead (ringDeliver (popHead s q) ring f) q root f.len

/-- HOST and CORES are asked for a frame: the selected queue's ring takes it. -/
def ringEgress (s : State) (root : Nat) (ecc : EccObs) (badCells : List Nat) : State :=
  match selectQueue s root (portEligible s root) with
  | (none, s) => s
  | (some q, s) =>
    -- a mirror copy to HOST or CORES is of class 0: ring 0
    ringRequest s root q ((ringOf q).getD (if root = 3 then .hostRx 0 else .coreRx 0)) ecc badCells

/-- RING_RX_DELIVER: the head of the ring's queue is written into it (R296, R297). -/
def execRingRxDeliver (take : RingTake) (s : State) : Out := live s fun s =>
  match queueOf take.ring with
  | some q => if ringReady s take.ring ∧ pairSends s q = true then
      pauseBoth (ringRequest s (if ringIsCore take.ring then 4 else 3) q take.ring take.ecc take.badCells) else s
  | none => s

/-! ### Radios (R261, R264, R279) -/

/-- Is any station of a BSS asleep on the radio (R171)? -/
def bssAsleep (s : State) (r b : Nat) : Bool :=
  (setElements s 0x3100).any fun n => decide (1 ≤ n) && decide (2 ≤ staState s n) && linkUp s n r && linkBss s n r == b && asleep s n r

/-- May no transmission to the station start on this link because of a non-STR partner (R160)? Radio pairs: bit 0
A–B, bit 1 A–C, bit 2 B–C. -/
def nstrPartner (s : State) (n r : Nat) : List Nat :=
  (if bit (staNstr s n) 0 then (if r = 0 then [1] else if r = 1 then [0] else []) else []) ++
  (if bit (staNstr s n) 1 then (if r = 0 then [2] else if r = 2 then [0] else []) else []) ++
  (if bit (staNstr s n) 2 then (if r = 1 then [2] else if r = 2 then [1] else []) else [])

/-- Is a station queue eligible on a radio for an AC (R261)? -/
def staEligible (s : State) (r q ac : Nat) : Bool :=
  match qSta q, (s.queue q).frames.head? with
  | some n, some f =>
    qAc q == ac && !f.inDram && conforms s (groupShaper s (groupOf s q)) && linkUp s n r && !asleep s n r &&
      mapBit (dlTtlm s n) f.tid r
  | _, _ => false

/-- Is a radio's queue eligible for an AC: a station's, or a group queue of a BSS with no station asleep (R171)? -/
def radioEligible (s : State) (r ac q : Nat) : Bool :=
  if q < 8192 then staEligible s r q ac
  else if 8240 ≤ q ∧ q < 8288 then
    (match (s.queue q).frames.head? with | some f => acOf f.cls == ac | none => false) &&
      (q - 8240) / 16 == r && shapersOk s q && !bssAsleep s r ((q - 8240) % 16)
  else false

/-- The radio takes a queue's head: every byte moves the tags of the queue, its group and the radio (R264). -/
def radioTake (s : State) (r : Radio) (q : Nat) : State :=
  match (s.queue q).frames.head? with
  | some f =>
    let s := s.setMac { s.mac with fetched := vmod s.mac.fetched r fun l =>
      l ++ [if q < 8192 then f else { f with dst := 0x10000 + (q - 8240) }] }
    sentHead (popHead s q) q (5 + r.val) f.len
  | none => s

/-- Expired frames leave every station queue of the AC before one is chosen (R279). -/
def purgeAc (s : State) (r ac : Nat) : State :=
  (busyQueues s (5 + r)).foldl (fun s q => if q < 8192 ∧ qAc q = ac then purgeExpired s r q else s) s

/-- A radio is asked for a frame of an AC: by R262, or of the queue that is named. -/
def radioRequest (s : State) (r : Radio) (named : Option Nat) (ac : Nat) (ecc : EccObs) (badCells : List Nat) : State :=
  if pairSends s 0 = false then s
  else
    let ac := match named with | some q => if q < 8192 then qAc q else ac | none => ac
    let s := purgeAc s r.val ac
    let pick : Option Nat × State := match named with
      | some q => (if radioEligible s r.val ac q then some q else none, s)
      | none => selectQueue s (5 + r.val) (radioEligible s r.val ac)
    match pick with
    | (none, s) => s
    | (some q, s) =>
      match (s.queue q).frames.head? with
      | some f =>
        if ecc = .poisoned then poisonHead s q badCells
        else if f.seg.isSome then segNoPort s q
        else radioTake (cellFixed s ecc) r q
      | none => s

/-- FRAME_ENQUEUE: a frame is handed to the traffic manager, and its port's occupancy judged (R267, R294). -/
def execFrameEnqueue (f : TmFrame) (s : State) : Out := live s fun s => pauseBoth (tmHandoff s f)

/-- EGRESS_REQUEST: an egress asks for a frame (R261 to R264). -/
def execEgressRequest (e : Egress) (named ac : Option Nat) (ecc : EccObs) (badCells : List Nat) (s : State) : Out :=
  live s fun s => pauseBoth <|
    match e with
    | .eth p => portRequest s p.val ecc badCells
    | .field => portRequest s 2 ecc badCells
    | .host => if s.wired.pcieRoot then s else ringEgress s 3 ecc badCells
    | .cores => ringEgress s 4 ecc badCells
    | .radio r => radioRequest s r named (ac.getD 0) ecc badCells

end Sys2Proof.Machine
end

