-- ==== Sys2Proof/Machine/Wired.lean ====
section
/-! DEFINITION. The wired ports (11_wired_ports): reception and MACsec validation, links, pause, transmit rings, FIELD,
PCIe, I2C, UART and GPIO. -/

namespace Sys2Proof.Machine
open Sys2Proof

/-! ### Reception (R284, R288, R321) -/

/-- RX_OFFSET of a port in ns: the stamp is the pins' instant less it (R321). -/
def rxStamp (s : State) (p : Nat) : DatumVal :=
  datumOf ((s.datum.t.units : Int) - s.objI 0x1230 (p + 1) 4 4 * 4294967296 / 1000).toNat

/-- Element of MACSEC_RXSC for receive SC `k` of a port. -/
def rxscEl (p k : Nat) : Nat := 16 * p + k + 1
/-- Offset of AN's SA in it: in use, reserved, key slot, lowest PN, SSCI, salt. -/
def rxSaOff (an : Nat) : Nat := 10 + 28 * an

/-- May the SA verify at all: SC and SA in use, the slot serving receive? -/
def rxSaUsable (s : State) (p sc an : Nat) : Bool :=
  decide (sc < 16 ∧ an < 4) && s.objF 0x5812 (rxscEl p sc) 0 1 == 1 &&
    s.objF 0x5812 (rxscEl p sc) (rxSaOff an) 1 == 1 &&
    (let k := keyAt s (s.objF 0x5812 (rxscEl p sc) (rxSaOff an + 2) 2)
     (k.st == 1 || k.st == 2) && acceptsType 3 k.typ)

/-- A frame that fails MACsec: dropped and counted (R288, R341). -/
def macsecBad (s : State) (p : Nat) : State := portFlag (ethStat s p 12 1) p 3

/-- The SecY judges a frame: delivered or dropped. VALIDATE: 0 DISABLED, 1 CHECK, 2 STRICT (R288). -/
def secyReceive (s : State) (p : Nat) (f : RxFrame) : State × Bool :=
  let validate := s.objF 0x5810 (p + 1) 2 1
  if macsecOn s p = false ∨ validate = 0 then (s, true)
  else match f.secTag with
    | none =>
      if validate = 2 ∧ macsecBypass s p f.etherType = false then (ethStat s p 12 1, false) else (s, true)
    | some (sc, an, pn, tagOk) =>
      let el := rxscEl p sc
      let low := s.objF 0x5812 el (rxSaOff an + 4) 8
      let window := s.objF 0x5810 (p + 1) 4 4
      if rxSaUsable s p sc an = false then (macsecBad s p, false)
      else
        let slot := s.objF 0x5812 el (rxSaOff an + 2) 2
        let s := queueJob s 3 slot false none f.bytes.length .reception
        if s.objF 0x5810 (p + 1) 3 1 = 1 ∧ pn < low - window then (ethStat s p 13 1, false)
        else if tagOk = false then (macsecBad s p, false)
        else (if low ≤ pn then s.setObjF 0x5812 el (rxSaOff an + 4) 8 (pn + 1) else s, true)

/-- A received frame goes on to the packet processor with its entry stamp. -/
def receivedFrame (s : State) (p : Nat) (truncated : Bool) (b : Bytes) : State :=
  s.setWired { s.wired with rx := s.wired.rx ++ [{ ingress := p, stamp := rxStamp s p, truncated, bytes := b }] }

/-- Reception on ETH0 or ETH1. -/
def ethReceive (s : State) (p : Nat) (f : RxFrame) : State :=
  let s := (List.range f.fecUncorr).foldl (fun s _ => portFlag (ethStat s p 17 1) p 1) s
  let tooLong : Bool := decide (ethMax s p < f.len)
  if f.len < 64 then ethStat s p 3 1
  else if tooLong = false ∧ f.fcsOk = false then ethStat s p 2 1
  else
    let s := ethStat (ethStat s p 0 1) p 1 f.len
    let s := if tooLong then portFlag (ethStat s p 4 1) p 2 else s
    match secyReceive s p f with
    | (s, true) => receivedFrame s p tooLong (if tooLong then f.bytes.take (ethMax s p) else f.bytes)
    | (s, false) => s

/-- Reception on FIELD: neither MACsec nor FEC (R301). -/
def fieldReceive (s : State) (f : RxFrame) : State :=
  let tooLong : Bool := decide (fieldMax s < f.len)
  if f.len < 64 then fieldStat s 2 1
  else if tooLong = false ∧ f.fcsOk = false then fieldStat s 2 1
  else
    let s := fieldStat (fieldStat s 0 1) 1 f.len
    let s := if tooLong then portFlag (fieldStat s 3 1) 2 2 else s
    receivedFrame s 2 tooLong (if tooLong then f.bytes.take (fieldMax s) else f.bytes)

/-- ETH_FRAME_RECEIVE. -/
def execEthFrameReceive (p : Fin 3) (f : RxFrame) (s : State) : Out := live s fun s =>
  if portUp s p.val = false then s
  else if p.val < 2 then ethReceive s p.val f
  else fieldReceive s f

/-! ### Links (R282, R283, R303, R306) -/

/-- A link goes down: the transition is flagged, the port's frames drop at the head, its pause state is cleared. -/
def linkDown (p : Fin 4) (s : State) : State :=
  if portUp s p.val = false then s
  else if p.val < 2 then
    let s := portFlag (s.modEth p.val fun e => { e with link := false, fecLock := false, paused := Vector.replicate 8 0, pausing := 0 }) p.val 0
    dropLinkDown s p.val
  else if p.val = 2 then dropLinkDown (portFlag (s.setWired { s.wired with fieldLink := false, plcaOk := false }) 2 0) 2
  else portFlag (s.setWired { s.wired with pcieLink := false, pcieSpeed := 0, pcieWidth := 0 }) 3 0

/-- LINK_DOWN. -/
def execLinkDown (p : Fin 4) (s : State) : Out := live s (linkDown p)

/-- A port's or the PCIe lanes' grant, asked for when it is not held; a refused enable leaves the port or lane down (R420). -/
def portPowered (s : State) (kind inst units : Nat) : State × Bool :=
  if grantUnits s kind inst = units then (s, true) else unitRequest s kind inst units

/-- LINK_UP: recorded when the port's charge is held or granted (log entry 171); an owed vector 13 is raised (R306). In the limp state only FIELD is powered (R484). -/
def execLinkUp (p : Fin 4) (fecLock : Bool) (an speed width : Nat) (s : State) : Out := live s fun s =>
  if s.start.limp = true ∧ p.val ≠ 2 then s
  else if p.val < 2 then
    if ethMode s p.val = 0 then s
    else
      let (s, given) := portPowered s 6 p.val (portCharge (ethMode s p.val))
      if given = false then s
      else s.modEth p.val fun e => { e with link := true, fecLock, an, upStamp := s.datum.t }
  else if p.val = 2 then s.setWired { s.wired with fieldLink := true }
  else
    let (s, given) := portPowered s 7 0 (6 * width)
    if given = false then s
    else
      let s := s.setWired { s.wired with pcieLink := true, pcieSpeed := speed, pcieWidth := width }
      if s.wired.vector13Owed then raiseMsix (s.setWired { s.wired with vector13Owed := false }) 13 else s

/-! ### Pause reception (R291 to R294) -/

/-- PAUSE_RECEIVE: in PAUSE mode all classes, in PFC mode those of the vector; the other kind is ignored and counted.
A zero cancels, a later pause restarts its timer (R293). -/
def execPauseReceive (p : Fin 2) (pfc : Bool) (vector : Nat) (quanta : List Nat) (s : State) : Out := live s fun s =>
  let mode := pauseMode s p.val
  let s := ethStat s p.val 5 1
  if ¬ ((mode = 1 ∧ pfc = false) ∨ (mode = 2 ∧ pfc = true)) then ethStat s p.val 6 1
  else
    let q (c : Nat) : Nat := if pfc then (quanta[c]?).getD 0 else (quanta.head?).getD 0
    let named := (List.range 8).filter fun c => !pfc || bit vector c
    let s := named.foldl (fun s c => s.modEth p.val fun e =>
      { e with paused := vset e.paused c (q c), pauseEnd := vset e.pauseEnd c (s.now + quantaNs s p.val (q c)) }) s
    if named.any fun c => q c != 0 then portFlag s p.val 5 else s

/-- PAUSE_EXPIRY: once its quanta have passed the class is eligible again (R292). -/
def execPauseExpiry (p : Fin 2) (c : Fin 8) (s : State) : Out := live s fun s =>
  if s.now < vget (s.eth p.val).pauseEnd c.val 0 then s
  else s.modEth p.val fun e => { e with paused := vset e.paused c.val 0 }

/-- PAUSE_REFRESH: while the occupancy stays above XON the pause is sent again every Q/2 quanta (R294). -/
def execPauseRefresh (p : Fin 2) (c : Fin 8) (s : State) : Out := live s fun s =>
  let mode := pauseMode s p.val
  let b := if mode = 1 then 0 else c.val
  let occ := occupancyOf s p.val (if mode = 1 then none else some c.val)
  let q := s.objF 0x5803 (p.val + 1) 2 2
  if mode ≠ 0 ∧ bit (s.eth p.val).pausing b = true ∧ s.objF 0x5803 (p.val + 1) 8 4 < occ ∧
      vget (s.eth p.val).pauseAt b 0 + quantaNs s p.val q / 2 ≤ s.now then sendPause s p.val b q else s

/-! ### Transmit rings (R298, R299) -/

/-- A transmit descriptor as read: its index, word 0, word 1, and its data. -/
structure TxDesc where
  idx : Nat
  w0 : Nat
  w1 : Nat
  data : Bytes
  bad : Bool
  deriving DecidableEq, Repr

def TxDesc.isSeg (d : TxDesc) : Bool := bit d.w1 3
def TxDesc.sop (d : TxDesc) : Bool := bit d.w1 2
def TxDesc.eop (d : TxDesc) : Bool := bit d.w1 1
def TxDesc.bytes (d : TxDesc) : Nat := bits d.w1 32 16

/-- *Segmentation-offload descriptor* word 0. -/
def segOfWord (w : Nat) : SegDesc :=
  { payload := bits w 46 18, mss := bits w 32 14, hdr := bits w 23 9, l4Off := bits w 14 9, l3Off := bits w 6 8,
    l3 := bits w 4 2, l4 := bits w 2 2 }

/-- Are a segmentation descriptor's fields in their ranges? -/
def segOk (d : SegDesc) : Bool :=
  decide (1 ≤ d.payload ∧ 64 ≤ d.mss ∧ d.mss ≤ 9000 ∧ 42 ≤ d.hdr ∧ d.hdr ≤ 384 ∧ 1 ≤ d.l3 ∧ d.l3 ≤ 2 ∧ 1 ≤ d.l4 ∧ d.l4 ≤ 2)

/-- Split off the next frame: its descriptors, whether they are SOP … EOP, and the rest; `none` when the ring ends
inside a frame, whose descriptors wait for the next doorbell. -/
def nextFrame : List TxDesc → List TxDesc → Option (List TxDesc × Bool × List TxDesc)
  | _, [] => none
  | acc, d :: r =>
    let open_ := acc.any fun a => !a.isSeg
    if d.isSeg then (if acc.isEmpty then nextFrame [d] r else some (acc, false, d :: r))
    else if d.sop && open_ then some (acc, false, d :: r)
    else if !d.sop && !open_ then some (acc ++ [d], false, r)
    else if d.eop then some (acc ++ [d], true, r)
    else nextFrame (acc ++ [d]) r

/-- Complete descriptors in ring order with a status, DONE set on each. -/
def completeTx (s : State) (ring : Ring) (ds : List TxDesc) (status : Nat) : State :=
  ds.foldl (fun s d =>
    let b := ringBase ring
    let w := if d.isSeg then setBit d.w1 0 true else d.w1 - bits d.w1 24 8 * 2 ^ 24 + status * 2 ^ 24 + (1 - d.w1 % 2)
    let s := if ringIsCore ring then storeWord s (s.regAt b + 32 * d.idx + 8) w
      else s.setWired { s.wired with hostOut := s.wired.hostOut ++ [(8 + (match ring with | .hostTx j => j.val | _ => 0), d.idx, le 8 w)] }
    ringAdvance (ringFlag s b 0) b) s

/-- Does a segmentation descriptor spoil its frame (R299)? -/
def segBad (seg : Option SegDesc) (total : Nat) (tstamp : Bool) : Bool :=
  match seg with | some g => !segOk g || g.hdr + g.payload != total || tstamp | none => false

/-- The frame's status: 0 OK, 1 BAD_DESC, 2 POISON, 3 NO_PORT. -/
def txStatus (s : State) (ds : List TxDesc) (whole : Bool) : Nat :=
  let data := ds.filter fun d => !d.isSeg
  let total := (data.map (·.bytes)).sum
  let first := data.head?
  let dest := (first.map fun d => bits d.w1 8 8).getD 0xFF
  let seg := (ds.find? (·.isSeg)).map fun d => segOfWord d.w0
  let tstamp := data.any fun d => bit d.w1 4
  if whole = false ∨ data.any (fun d => d.bytes == 0) = true ∨ 262144 < total ∨ ¬ (dest = 0xFF ∨ dest ≤ 3) then 1
  else if segBad seg total tstamp then 1
  else if data.any (·.bad) then 2
  else if dest = 3 ∧ s.wired.pcieRoot = true then 3
  else 0

/-- A frame of a transmit ring enters the datapath: into the packet processor, or straight to a port's queue. -/
def submitTx (s : State) (ring : Ring) (ds : List TxDesc) : State :=
  let data := ds.filter fun d => !d.isSeg
  let w := (data.head?.map (·.w1)).getD 0
  let seg := (ds.find? (·.isSeg)).map fun d => segOfWord d.w0
  let b := data.flatMap (·.data)
  let dest := bits w 8 8
  let core := ringIsCore ring
  let s := s.setWired { s.wired with txFrames := s.wired.txFrames + 1 }
  if dest = 0xFF then
    let x : RxStored :=
      { ingress := (if core then 4 else 3), stamp := s.datum.t, truncated := false,
        cls := (if bit w 19 then some (bits w 16 3) else none), tstamp := bit w 4, seg, bytes := b }
    s.setWired { s.wired with rx := s.wired.rx ++ [x] }
  else
    tmHandoff s { id := 2 ^ 40 + s.wired.txFrames, ingress := if core then none else some 3, cls := bits w 16 3, tid := 0,
                  dst := 0, entry := (s.datum.t.sec, s.datum.t.ns), src := (if core then 4 else 5, 0),
                  queues := [qPort dest (bits w 16 3)], tstamp := bit w 4, seg, truncated := false, bytes := b }

/-- The device reads transmit descriptors in ring order, frame after frame. -/
def runTx (ring : Ring) : Nat → List TxDesc → State → State
  | 0, _, s => s
  | fuel + 1, ds, s =>
    match nextFrame [] ds with
    | none => s
    | some (fr, whole, rest) =>
      let st := txStatus s fr whole
      let s := if st = 0 then submitTx s ring fr else s
      let s := if st = 2 then s.poisonConsumed (if ringIsCore ring then 0x10 else 0x15) 0xFF ((fr.head?.map (·.idx)).getD 0) else s
      runTx ring fuel rest (completeTx s ring fr st)

/-- Does a range of memory hold a poisoned word? -/
def memPoisoned (s : State) (a n : Nat) : Bool := s.dram.poison.any fun w => decide (w < a + n ∧ a < w + 8)

/-- The descriptors between HEAD and TAIL: a core ring's from memory, a host ring's as the bus reads returned them. -/
def txDescs (s : State) (ring : Ring) (words : List Nat) (bufs : List Bytes) (bad : List Nat) : List TxDesc :=
  let b := ringBase ring
  (List.range (ringAvail s b)).map fun k =>
    let idx := (ringHead s b + k) % ringSize s b
    if ringIsCore ring then
      let a := s.regAt b + 32 * idx
      let w0 := readWord s a
      let w1 := readWord s (a + 8)
      let n := if bit w1 3 then 0 else bits w1 32 16
      { idx, w0, w1, data := readMemN s.mem w0 n, bad := bad.contains k || memPoisoned s w0 n }
    else
      { idx, w0 := (words[4 * k]?).getD 0, w1 := (words[4 * k + 1]?).getD 0, data := (bufs[k]?).getD [], bad := bad.contains k }

/-- TX_RING_DOORBELL: RING_TAIL is written, and an enabled ring's descriptors are read and completed. -/
def execTxRingDoorbell (ring : Ring) (tail : Nat) (words : List Nat) (bufs : List Bytes) (bad : List Nat) (s : State) : Out :=
  live s fun s =>
    let b := ringBase ring
    let role := ringIsCore ring || !s.wired.pcieRoot
    if role = false then s
    else
      let s := s.setReg (b + 0xC) (tail % 4096)
      let isTx := match ring with | .coreTx _ => true | .hostTx _ => true | _ => false
      if ringOn s b ∧ isTx = true then
        let ds := txDescs s ring words bufs bad
        let s := runTx ring (ds.length + 1) ds s
        match ring with
        | .hostTx j => if ds.isEmpty then s else raiseMsix s (9 + j.val)
        | _ => s
      else s

/-! ### FIELD (R302) -/

def plcaFollower (s : State) : Bool := s.objF 0x5820 0 0 1 == 1 && s.objF 0x5820 0 1 1 != 0

/-- PLCA_LOST: a node other than 0 falls back to CSMA/CD. -/
def execPlcaLost (s : State) : Out := live s fun s =>
  if plcaFollower s = true ∧ s.wired.plcaOk = true then
    portFlag (s.setWired { s.wired with plcaOk := false, beaconsLost := (s.wired.beaconsLost + 1) % 2 ^ 32 }) 2 6
  else s

/-- PLCA_RESTORED: BEACONs return. -/
def execPlcaRestored (s : State) : Out := live s fun s =>
  if s.objF 0x5820 0 0 1 = 1 then s.setWired { s.wired with plcaOk := true } else s

/-! ### PCIe, I2C, UART, GPIO (R303 to R312) -/

/-- PCIE_CFG: an access to the endpoint's configuration space, in the root role with its link up (R305, R312). -/
def pcieCfg (env : Env) (_v : Bytes) (s : State) : State × Res :=
  if s.wired.pcieRoot = false then (s, abortBy aState 0x15 2)
  else if s.wired.pcieLink = false then (s, abortBy aState 0x15 3)
  else match env.pcie with
    | some x => (s.cmdOut 0x5832 0 (le 4 x), ok)
    | none => (s, abortBy aAborted 0x15 4)

/-- I2C_XFER: write, then repeated start and read (R309). A value shorter or longer than its write length says is
aborted with RANGE. -/
def i2cXfer (env : Env) (v : Bytes) (s : State) : State × Res :=
  if v.length ≠ 4 + fld v 2 1 then (s, abortBy aRange 0x40 0)
  else match env.i2c with
    | .acked rd => (s.cmdOut 0x5851 0 (rd.take (fld v 3 1)), ok)
    | .nak => (s, abortBy aAborted 0x40 1)
    | .stuck => (s, abortBy aTimeout 0x40 0)

/-- Bytes the console line has taken since the transmit FIFO last began, 10 bit times each. -/
def uartDrained (s : State) : Nat := min s.wired.uartTx.length ((s.now - s.wired.uartAt) * s.objN 0x5852 0 / 10000000000)

/-- The transmit FIFO as it stands now. -/
def uartDrain (s : State) : State :=
  let n := uartDrained s
  let w := s.wired
  if n = 0 then s
  else s.setWired { w with uartTx := w.uartTx.drop n, uartSent := w.uartSent ++ w.uartTx.take n,
                           uartAt := w.uartAt + n * 10000000000 / max 1 (s.objN 0x5852 0) }

/-- UART_DATA_WRITE: a byte into the 64-byte transmit FIFO, ignored when full (R308). -/
def execUartDataWrite (_c : CoreId) (v : Nat) (s : State) : Out := live s fun s =>
  let s := uartDrain s
  if s.wired.uartTx.length < 64 then
    s.setWired { s.wired with uartTx := s.wired.uartTx ++ [BitVec.ofNat 8 v],
                              uartAt := if s.wired.uartTx.isEmpty then s.now else s.wired.uartAt }
  else s

/-- UART_DATA_READ: VALID and the oldest byte received (R308). -/
def execUartDataRead (c : CoreId) (s : State) : Out := live s fun s =>
  match s.wired.uartRx with
  | x :: r => (s.setWired { s.wired with uartRx := r }).modCore c fun k => { k with readData := 256 + x.toNat }
  | [] => s.modCore c fun k => { k with readData := 0 }

/-- UART_STATUS. -/
def uartStatusAt : Nat := 0x10040004

/-- UART_RX_BYTE: into the 64-byte receive FIFO, or lost with OVERRUN (R308). -/
def execUartRxByte (b : Byte) (s : State) : Out := live s fun s =>
  if s.wired.uartRx.length < 64 then
    let was := s.wired.uartRx.isEmpty
    let s := s.setWired { s.wired with uartRx := s.wired.uartRx ++ [b] }
    if was then s.postFixed 11 else s
  else s.setReg uartStatusAt (setBit (s.regAt uartStatusAt) 2 true)

def gpioDir (s : State) (n : Nat) : Nat := s.objF 0x5840 (n + 1) 0 1

/-- A staked GPIO_CFG: a pin that becomes an output drives its initial level (R310). -/
def gpioStaked (s : State) (n : Nat) (was : Nat) : State :=
  if was = 0 ∧ gpioDir s n ≠ 0 then
    s.setObj 0x5842 0 (le 4 (setBit (s.objN 0x5842 0) n (s.objF 0x5840 (n + 1) 2 1 == 1)))
  else s

/-- A write of GPIO_OUT: output pins take it, inputs ignore it (R310). -/
def gpioWritten (s : State) (old v : Nat) : State :=
  s.setObj 0x5842 0 (le 4 ((List.range 32).foldl (fun a n => setBit a n (if gpioDir s n = 0 then bit old n else bit v n)) 0))

/-- GPIO_IN: every pin's level: an output's as driven, an open-drain one low when driven low, else the board's. -/
def gpioIn (s : State) : Nat :=
  (List.range 32).foldl (fun a n =>
    let d := bit (s.objN 0x5842 0) n
    let ext := bit s.wired.gpioLevel n
    setBit a n (match gpioDir s n with | 0 => ext | 1 => d | _ => d && ext)) 0

/-- AER_UNCORRECTABLE (R303, R306). -/
def execAerUncorrectable (s : State) : Out := live s fun s =>
  portFlag (s.setWired { s.wired with aerUncorr := (s.wired.aerUncorr + 1) % 2 ^ 32 }) 3 8

end Sys2Proof.Machine
end

