-- ==== Sys2Proof/Machine/Mac.lean ====
section
/-! DEFINITION. The 802.11 lower MAC (06_wlan_mac_multilink): the station table, sequence and packet numbers, block
acknowledgement contexts, reception and reordering, management rings. -/

namespace Sys2Proof.Machine
open Sys2Proof

/-! ### Sequence numbers (R158, R437) -/

/-- Comparison of SNs modulo 4,096 over a half-space of 2,048 (R164). -/
def snLess (a b : Nat) : Bool := a != b && decide ((b + 4096 - a) % 4096 < 2048)
def snAdd (a n : Nat) : Nat := (a + n) % 4096

/-- The next SN of a station and TID. -/
def snAt (s : State) (n t : Nat) : Nat := tgetD s.mac.snCtr (16 * n + t) 0

/-- May the active assign the next SN of a station and TID: it lies below the value acknowledged plus 512 (R437)? -/
def snReserved (s : State) (n t : Nat) : Bool :=
  !mirroring s || (match tget s.pair.snRes (16 * n + t) with
    | some a => decide ((snAt s n t + 4096 - a) % 4096 < 512)
    | none => false)

/-- The value of a station's SN counter last sent to the standby. -/
def snSent (s : State) (n t : Nat) : Option Nat :=
  s.pair.unacked.foldl (fun a u => match u.item with
    | .seqCounter n' t' sn => if n' = n ∧ t' = t then some sn else a
    | _ => a) (tget s.pair.snRes (16 * n + t))

def mirrorSn (s : State) (n t : Nat) : State := s.mirror 2 (.seqCounter n t (snAt s n t))

/-- Advance a station's SN counter, sending its value when it has moved by half the window (R437). -/
def bumpSn (s : State) (n t : Nat) : State :=
  let s := s.setMac { s.mac with snCtr := tputD s.mac.snCtr (16 * n + t) (snAdd (snAt s n t) 1) 0 }
  match snSent s n t with
  | some a => if 256 ≤ (snAt s n t + 4096 - a) % 4096 then mirrorSn s n t else s
  | none => mirrorSn s n t

/-- The counter of a BSS for management, non-QoS and group-addressed frames. -/
def bssSn (s : State) (el : Nat) : Nat := tgetD s.mac.bssSn el 0
def bumpBssSn (s : State) (el : Nat) : State :=
  s.setMac { s.mac with bssSn := tputD s.mac.bssSn el (snAdd (bssSn s el) 1) 0 }

/-- How placing a frame in a PPDU ends (R158, R180, R437). -/
inductive Place where
  | ready (m : TxMpdu)
  | stall
  | exhausted
  | noKey

/-- The station of a frame or MPDU; a group-addressed one has 10000h + 16 × radio + BSS. -/
def isGroup (n : Nat) : Bool := decide (0x10000 ≤ n)
/-- Element of BSS_CONFIG of a group-addressed frame. -/
def groupEl (n : Nat) : Nat := n - 0x10000 + 1

/-- Assign a PN under a slot, when the slot names a key at all: `none` with FFFFh (R179, R180). -/
def takePn (s : State) (slot : Nat) : State × Take :=
  if 8192 ≤ slot then (s, .value 0) else takeCounter s slot

/-- The addresses that the nonce and the additional authenticated data of a station's frames use: an MLD station's entry holds
its MLD address, beside its MLD's own; none for the addresses of the frame itself (R179). -/
def mldAad (s : State) (n : Nat) : Bytes :=
  if n < 0x10000 ∧ staKind s n = 1 then sub (s.objB 0x3100 n) 6 6 ++ sub (s.objB 0x3000 (staMld s n + 1)) 1 6 else []

/-- A MAC cipher job of a transmit MPDU (R27, R179). -/
def txJob (s : State) (slot pn bytes n : Nat) : State :=
  if 8192 ≤ slot then s else queueJob s 1 slot true (some pn) bytes .mpdu (mldAad s n)

/-- The cipher job of a received frame: its tag's result comes with MPDU_RECEIVE (R27, R179). -/
def rxJob (s : State) (slot bytes n : Nat) : State :=
  if servesRx s 2 slot then queueJob s 2 slot false none bytes .reception (mldAad s n) else s

/-- The pairwise slot of a station: FFFFh with CIPHER none. -/
def pairSlot (s : State) (n : Nat) : Nat := if staCipher s n = 0 then 0xFFFF else staPtk s n

/-- Place a frame of a station or group in a PPDU of radio `r` for the first time: SN and PN are assigned together
(R158). -/
def placeFrame (s : State) (r : Nat) (f : QFrame) : State × Place :=
  let n := f.dst
  let group := isGroup n
  let slot := if group then s.objF 0x3010 (groupEl n) 16 2 else pairSlot s n
  let qos := !group && staFlag s n 0
  if qos = true ∧ snReserved s n f.tid = false then
    (counterStall (if (snSent s n f.tid).isNone then mirrorSn s n f.tid else s), .stall)
  else match takePn s slot with
    | (s, .stall) => (s, .stall)
    | (s, .exhausted) => (s, .exhausted)
    | (s, .noKey) => (s, .noKey)
    | (s, .value pn) =>
      let el := if group then groupEl n else bssEl r (linkBss s n r)
      let sn := if qos then snAt s n f.tid else bssSn s el
      let s := if qos then bumpSn s n f.tid else bumpBssSn s el
      (txJob s slot pn f.len n, .ready { sta := n, tid := f.tid, sn, pn, frame := f, slot })

/-- PN_EXHAUSTED: an MPDU or descriptor meets a key at its threshold (R180). -/
def pnExhausted (s : State) (r : Nat) : State := macFlag (macStat s r 12 1) r 4

/-! ### Block acknowledgement contexts (R162, R164) -/

def rxCtx (s : State) (n t : Nat) : Option (Nat × RxCtx) := s.mac.rxBa.find? fun p => p.2.sta == n && p.2.tid == t
def txCtx (s : State) (n t : Nat) : Option (Nat × TxCtx) := s.mac.txBa.find? fun p => p.2.sta == n && p.2.tid == t

def inWindow (wstart win sn : Nat) : Bool := decide ((sn + 4096 - wstart) % 4096 < win)

/-- A receive context changes; its window start is mirrored (R436). -/
def setRx (s : State) (i : Nat) (c : RxCtx) : State :=
  (s.setMac { s.mac with rxBa := tput s.mac.rxBa i c }).mirror 3 (.agreement true i c.sta c.tid c.win c.wstart)

def setTx (s : State) (i : Nat) (c : TxCtx) : State :=
  (s.setMac { s.mac with txBa := tput s.mac.txBa i c }).mirror 3 (.agreement false i c.sta c.tid c.win c.wstart)

/-! ### Delivery (R166, R174, R233) -/

/-- Add to the uplink record of a station and AC, or replace it (R183). -/
def ulBytes (s : State) (n a : Nat) : Nat := s.objF 0x3510 n (16 * a) 4

/-- The latest report replaces the record and stamps it; age counts from zero to nonzero (R183, R184). -/
def setReport (s : State) (n a b : Nat) : State :=
  let s := if ulBytes s n a = 0 ∧ b ≠ 0 then s.setMac { s.mac with ulSince := tput s.mac.ulSince (4 * n + a) s.now } else s
  s.patchObj 0x3510 n (16 * a) (le 4 b ++ s.datum.t.enc)

/-- A received MSDU takes its bytes off the record, down to zero (R183). -/
def takeReport (s : State) (n a b : Nat) : State := s.setObjF 0x3510 n (16 * a) 4 (ulBytes s n a - b)

/-- The translated frame of an MSDU (R233). -/
def translate (vlan tid et : Nat) (body : Bytes) : Bytes :=
  let tagged := et == 0x8100 || et == 0x88A8
  body.take 12 ++ (if vlan = 0 ∨ tagged = true then [] else be 2 0x8100 ++ be 2 (tid % 8 * 8192 + vlan)) ++ be 2 et ++ body.drop 12

/-- An MPDU is judged once, against its entry as it stands when it arrives on radio `r` (R156). -/
def judgeRx (s : State) (r : Nat) (m : RxMpdu) : HeldMpdu :=
  { sn := m.sn, pn := m.pn, m, radio := r, bss := linkBss s m.sta r, kind := if staKind s m.sta = 2 then 2 else 1
    vlan := s.objF 0x3100 m.sta 24 2, since := s.now }

/-- Deliver one MSDU to the packet processor, as its MPDU was judged (R156, R174, R233). -/
def deliverMsdu (s : State) (h : HeldMpdu) (x : Bool × Nat × Bytes) : State :=
  if x.1 = false then s.stat 0x4700 0 13 1
  else
    let s := takeReport s h.m.sta (acOf h.m.tid) x.2.2.length
    s.setMac { s.mac with toPp := s.mac.toPp ++
      [{ radio := h.radio, bss := h.bss, kind := h.kind, source := h.m.sta,
         tid := h.m.tid, vlan := h.vlan, sn := h.sn, etherType := x.2.1, body := translate h.vlan h.m.tid x.2.1 x.2.2 }] }

/-- Deliver an MPDU: the replay check on a protected one, then its MSDUs as one unit (R164, R166). -/
def deliverMpdu (s : State) (h : HeldMpdu) : State :=
  let r := h.radio
  let m := h.m
  let key := 16 * m.sta + m.tid
  let replay : Bool := m.protect && (match tget s.mac.lastPn key with | some p => decide (m.pn ≤ p) | none => false)
  if replay then macFlag (macStat s r 5 1) r 2
  else
    let s := if m.protect then
        (s.setMac { s.mac with lastPn := tput s.mac.lastPn key m.pn }).mirror 3 (.replay m.sta m.tid m.pn) else s
    ((m.snap, m.etherType, m.body) :: m.more).foldl (fun s x => deliverMsdu s h x) s

/-! ### Receive reordering (R164, R165) -/

def heldSn (c : RxCtx) (sn : Nat) : Option HeldMpdu := c.held.find? fun h => h.sn == sn
def dropHeld (c : RxCtx) (sn : Nat) : RxCtx := { c with held := c.held.filter fun h => h.sn != sn }

/-- The held MPDU nearest above wstart. -/
def firstHeld (c : RxCtx) : Option HeldMpdu :=
  c.held.foldl (fun b h => match b with
    | none => some h
    | some x => if (h.sn + 4096 - c.wstart) % 4096 < (x.sn + 4096 - c.wstart) % 4096 then some h else some x) none

/-- `while c.held(c.wstart): deliver`. -/
def drain : Nat → State → RxCtx → State × RxCtx
  | 0, s, c => (s, c)
  | k + 1, s, c =>
    match heldSn c c.wstart with
    | some h => drain k (deliverMpdu s h) { dropHeld c c.wstart with wstart := snAdd c.wstart 1 }
    | none => (s, c)

/-- `release_held_below`: in SN order, gaps skipped. -/
def releaseBelow (x : Nat) : Nat → State → RxCtx → State × RxCtx
  | 0, s, c => (s, c)
  | k + 1, s, c =>
    match firstHeld c with
    | some h => if snLess h.sn x then releaseBelow x k (deliverMpdu s h) (dropHeld c h.sn) else (s, c)
    | none => (s, c)

/-- R164's reordering of one MPDU; a duplicate or late one is counted. -/
def reorder (s : State) (r i : Nat) (c : RxCtx) (m : RxMpdu) : State :=
  let hold (c : RxCtx) : RxCtx := { c with held := c.held ++ [judgeRx s r m] }
  if snLess m.sn c.wstart then macStat s r 4 1
  else if inWindow c.wstart c.win m.sn then
    if (heldSn c m.sn).isSome then macStat s r 4 1
    else
      let c := hold c
      let (s, c) := drain c.held.length s c
      setRx s i c
  else
    let x := (m.sn + 1 + 4096 - c.win) % 4096
    let (s, c) := releaseBelow x c.held.length s c
    let c := hold { c with wstart := x }
    let (s, c) := drain c.held.length s c
    setRx s i c

/-- Move wstart forward to an SN, releasing what lies below it, and deliver on from there (R164). -/
def moveStart (s : State) (i : Nat) (c : RxCtx) (x : Nat) : State :=
  if snLess c.wstart x then
    let (s, c) := releaseBelow x c.held.length s c
    let (s, c) := drain c.held.length s { c with wstart := x }
    setRx s i c
  else s

/-- Deliver what a context holds up to its first gap and discard the rest (R157). -/
def flushCtx (s : State) (c : RxCtx) : State := (drain c.held.length s c).1

/-- Has a context held an MPDU behind its gap for REORDER_TIMEOUT (R165)? -/
def gapOld (s : State) (c : RxCtx) : Bool := c.held.any fun h => decide (h.since + s.objN 0x3021 0 * 1000000 ≤ s.now)

/-- REORDER_TIMEOUT: a context that has held an MPDU so long skips its gap (R165). -/
def execReorderTimeout (ctx : Nat) (s : State) : Out := live s fun s =>
  match tget s.mac.rxBa ctx with
  | some c =>
    match (if gapOld s c then firstHeld c else none) with
    | some h =>
      let r := lowLink s c.sta
      let s := macFlag (macStat s r 11 1) r 1
      let (s, c) := drain c.held.length s { c with wstart := h.sn }
      setRx s ctx c
    | none => s
  | none => s

/-! ### BA_CMD (R162) -/

def freeCtx {α : Type} (t : Tab α) : Option Nat := findLt 4096 fun i => (tget t i).isNone

/-- The result of BA_CMD: the context's element number. -/
def baOut (s : State) (i : Nat) : State := s.cmdOut 0x3202 0 (le 2 (i + 1))

/-- Delete a receive agreement: what it holds is delivered to its first gap. -/
def deleteRxCtx (s : State) (i : Nat) (c : RxCtx) : State :=
  let s := flushCtx s c
  let s := (s.setMac { s.mac with rxBa := tdel s.mac.rxBa i }).mirror 3 (.agreement true i c.sta c.tid 0 0)
  s.watch 13 s.mac.rxBa.length 4096 (radioUnit (lowLink s c.sta)) 0xFF

def deleteTxCtx (s : State) (i : Nat) (c : TxCtx) : State :=
  let s := (s.setMac { s.mac with txBa := tdel s.mac.txBa i }).mirror 3 (.agreement false i c.sta c.tid 0 0)
  s.watch 14 s.mac.txBa.length 4096 (radioUnit (lowLink s c.sta)) 0xFF

/-- BA_CMD (3202h): refusals, then the agreement is installed or deleted. -/
def baCmd (v : Bytes) (s : State) : State × Res :=
  let op := fld v 0 1
  let n := fld v 2 2
  let t := fld v 4 1
  let win := fld v 6 2
  let sn := fld v 8 2
  let unit := radioUnit (lowLink s n)
  if op ≤ 2 ∧ (win < 1 ∨ 1024 < win ∨ 4095 < sn) then (s, dictAbort aRange 0x14)
  else if op = 1 then
    if (rxCtx s n t).isSome then (s, abortBy aState unit 0x307)
    else match freeCtx s.mac.rxBa with
      | none => (s, abortBy aFull unit 0x303)
      | some i =>
        let s := setRx s i { sta := n, tid := t, win, wstart := sn }
        (baOut (s.watch 13 s.mac.rxBa.length 4096 unit 0xFF) i, ok)
  else if op = 2 then
    if (txCtx s n t).isSome then (s, abortBy aState unit 0x307)
    else match freeCtx s.mac.txBa with
      | none => (s, abortBy aFull unit 0x303)
      | some i =>
        let s := setTx s i { sta := n, tid := t, win, wstart := sn }
        (baOut (s.watch 14 s.mac.txBa.length 4096 unit 0xFF) i, ok)
  else if op = 3 then
    match rxCtx s n t with
    | some (i, c) => (baOut (deleteRxCtx s i c) i, ok)
    | none => (s, ok)
  else
    match txCtx s n t with
    | some (i, c) => (baOut (deleteTxCtx s i c) i, ok)
    | none => (s, ok)

/-! ### Management receive ring (R176) -/

/-- A status bit of a management ring's block, its companion counter after it. -/
def mgmtFlag (s : State) (b bitNo : Nat) : State :=
  let c := b + 0x18 + 4 * bitNo
  (s.setReg (b + 0x14) (setBit (s.regAt (b + 0x14)) bitNo true)).setReg c ((s.regAt c + 1) % 2 ^ 32)

/-- Word 3 of a management descriptor. -/
def stampWord (d : DatumVal) : Nat := d.sec % 2 ^ 32 * 2 ^ 32 + d.ns

/-- Datum at an instant that is not past. -/
def datumAt_ (s : State) (now : Nat) : DatumVal := datumOf (s.datum.t.units + (now - s.now) * 4294967296)

/-- Datum at the start of the PPDU that a radio received last. -/
def rxStartOf (s : State) (r : Nat) : DatumVal := (vget s.rf.fe r {}).rxAt

/-- Deliver a frame to the MRX ring of a radio: entry index, BSS, type, status, RSSI and rate (*MRX descriptor*). -/
def mrxDeliver (s : State) (r sta bss typ status rssi rate : Nat) (b : Bytes) : State :=
  let base := radioWindow r
  if 4096 < b.length then mgmtFlag s base 1
  else if ringOn s base = false ∨ ringAvail s base = 0 then mgmtFlag s base 0
  else
    let a := s.regAt base / 64 * 64 + 32 * ringHead s base
    let s := storeBytes s (readWord s a) b
    let s := storeWord s (a + 8) (b.length * 65536 + status * 256 + 1)
    let s := storeWord s (a + 16) (sta * 2 ^ 48 + bss * 2 ^ 44 + typ * 2 ^ 32 + rssi % 65536 * 65536 + rate % 65536)
    let s := storeWord s (a + 24) (stampWord (rxStartOf s r))
    (ringAdvance s base).postFixed (4 + r)

/-! ### Reception (R161 to R175) -/

/-- The standing booking of a radio's response frames (R423). -/
def responseBooked (s : State) (r : Nat) : Bool := decide (0 < grantUnits s 10 (bookKey r 0 0))

/-- Which format a control response is sent in: non-HT OFDM, or DSSS/CCK where that is what may be used (R125; log entry 154). -/
def ctlFamily (s : State) (r : Radio) : Option Nat :=
  if formatEnabled s r 1 then some 0 else if formatEnabled s r 0 then some 1 else none

/-- A response frame, or one sent like it under a booking, so long on the air, to entry `n`: only through an open gate,
permitted by the regulatory guard, at the power its booking allows; S is SIFS after what solicits it (R109, R114, R161,
R423). Answers the return code, 0 when it is sent. -/
def sendBooked (s : State) (r : Radio) (n key ns : Nat) : State × Nat :=
  if gateOpen (s.fe r) = false then (returnReq s r n 0x20, 0x20)
  else match (s.fe r).chan, ctlFamily s r with
    | some c, some fam =>
      let start := max (startOf s r c) (s.now + sifs c)
      let ramp := rampDown s r fam
      match regJudge s r c 600 start (ns + ramp) with
      | .error code => (returnReq (if code = 0x21 then countDuty s c (ns + ramp) else s) r n code, code)
      | .ok e =>
        match grantedPower s r e c 600 (grantUnits s 10 key) with
        | some x => (transmit s r n 0 start ns ramp c x, 0)
        | none => (returnReq s r n 0x23, 0x23)
    | _, _ => (s, 0x24)

/-- A response frame under the standing booking (R161, R423). Its air time is the spec's no number: free. -/
def respond (s : State) (r : Radio) (n : Nat) : State :=
  if gateOpen (s.fe r) = false then returnReq s r n 0x20
  else if responseBooked s r.val = false then s
  else
    let (ns, s) := s.draw
    match sendBooked s r n (bookKey r.val 0 0) ns with
    | (s, 0) => s.setMac { s.mac with responses := tput s.mac.responses r.val (tgetD s.mac.responses r.val 0 + 1) }
    | (s, _) => s

/-- BLOCKACKREQ: wstart moves to the starting SN, and a BlockAck answers it (R161, R164). -/
def execBlockAckReq (r : Radio) (sta tid sn : Nat) (s : State) : Out := live s fun s =>
  if isWlan s r = false ∨ delivers s r 0 = false then s
  else match rxCtx s sta tid with
    | some (i, c) => respond (moveStart s i c sn) r sta
    | none => s

/-- A frame from a station has been received on a link: its RSSI and rate, its missing responses forgotten, its
announced service periods opened (R192, R198). -/
def heardFrom (s : State) (r : Nat) (n rssi rate : Nat) : State :=
  let s := setLink s n r 12 2 (rssi % 65536)
  let k := 4 * n + r
  s.setMac { s.mac with
    rxRate := tput s.mac.rxRate k rate, heard := tput s.mac.heard k s.now
    missRun := tdel s.mac.missRun n, excluded := s.mac.excluded.filter (· != n)
    spHeard := (spOf s n r).filter (fun a => !s.mac.spHeard.contains a) ++ s.mac.spHeard }

/-- The power management bit of a frame that ends an exchange, once it is acknowledged (R168, R198): with PS TWT it
ends the present period early, a PEER's is ignored (R173). -/
def powerBit (s : State) (r n : Nat) (pm : Bool) : State :=
  if staKind s n = 2 then s
  else if linkPs s n r = 2 then
    if pm then s.setMac { s.mac with spEarly := (spOf s n r).filter (fun a => !s.mac.spEarly.contains a) ++ s.mac.spEarly } else s
  else
    let v := if pm then 1 else 0
    let s := s.setMac { s.mac with pm := tput s.mac.pm (4 * n + r) v }
    if linkPs s n r = v then s else staTouched (setLink s n r 7 1 v) n

/-- CLASS3: counted; at most one record for an address each second (*Division of frame handling*). -/
def class3 (s : State) (r : Nat) (m : RxMpdu) : State :=
  let s := macStat s r 7 1
  let recent := s.mac.class3.any fun p => p.1 == m.addr && decide (s.now < p.2 + 1000000000)
  if recent then s
  else
    let s := s.setMac { s.mac with class3 := (m.addr, s.now) :: s.mac.class3.filter fun p => decide (s.now < p.2 + 1000000000) }
    macFlag (mrxDeliver s r 0xFFFF m.bss 2 2 m.rssi m.rate (m.body.take 24)) r 0

/-- RX_MPDU of the radio and of the link: FCS and decryption have passed. -/
def countRx (s : State) (r n : Nat) : State :=
  (macStat s r 3 1).addObjF 0x3100 n (linkOff r 24) 4 1

/-- A discarded frame of an entry that is not open for it. -/
def notOpen (s : State) (r : Nat) : State := macStat s r 8 1

/-- A frame that failed authentication (R175, R181). -/
def micFail (s : State) (r : Nat) : State := macFlag (macStat s r 6 1) r 3

/-- Does a protected frame verify: its key's slot serves receive, and its tag is right (R175, R179, R181, R337)? -/
def verified (s : State) (m : RxMpdu) : Bool := m.micOk && servesRx s 2 (pairSlot s m.sta)

/-- A management frame (R167, R175). -/
def receiveMgmt (s : State) (r : Nat) (m : RxMpdu) : State :=
  let known := m.sta ≠ 0 ∧ staState s m.sta ≠ 0
  let s := if m.protect then rxJob s (pairSlot s m.sta) m.body.length m.sta else s
  if m.robust = true ∧ m.protect = true ∧ verified s m = false then micFail s r
  else if m.robust = true ∧ m.protect = false ∧ known ∧ staFlag s m.sta 1 = true then notOpen s r
  else
    let key := 4 * m.sta + r
    if known ∧ m.retry = true ∧ tget s.mac.lastMgmt key = some m.sn then macStat s r 4 1
    else
      let s := if known then s.setMac { s.mac with lastMgmt := tput s.mac.lastMgmt key m.sn } else s
      let s := if known then countRx s r m.sta else macStat s r 3 1
      mrxDeliver s r (if known then m.sta else 0xFFFF) m.bss 0 (if m.protect then 1 else 0) m.rssi m.rate m.body

/-- Duplicates without an agreement are discarded and counted (R167); another frame goes on. -/
def unlessRepeat (s : State) (r : Nat) (m : RxMpdu) (go : State → State) : State :=
  let key := if m.kind = 0 then 16 * m.sta + m.tid else 4 * m.sta + r
  let tab := if m.kind = 0 then s.mac.lastSn else s.mac.lastMgmt
  if m.retry = true ∧ tget tab key = some m.sn then macStat s r 4 1
  else go (s.setMac (if m.kind = 0 then { s.mac with lastSn := tput tab key m.sn } else { s.mac with lastMgmt := tput tab key m.sn }))

/-- Without an agreement an MPDU is delivered as it arrives (R166, R167). -/
def receivePlain (s : State) (r : Nat) (m : RxMpdu) : State := unlessRepeat s r m fun s => deliverMpdu s (judgeRx s r m)

/-- A data frame of an entry (R159, R164, R173, R174). -/
def receiveData (s : State) (r : Nat) (m : RxMpdu) : State :=
  let n := m.sta
  if m.fourAddr = true ∧ ¬ (staState s n = 3 ∧ (staKind s n = 2 ∨ staFlag s n 2 = true)) then notOpen s r
  else
  let s := if m.protect then rxJob s (pairSlot s n) m.body.length n else s
  if m.protect = true ∧ verified s m = false then micFail s r
  else if staState s n < 3 then
    if m.etherType = 0x888E then
      unlessRepeat (countRx s r n) r m fun s => mrxDeliver s r n (linkBss s n r) 1 (if m.protect then 1 else 0) m.rssi m.rate m.body
    else notOpen s r
  else
    let s := countRx s r n
    let s := if m.kind = 0 ∧ mapBit (ulTtlm s n) m.tid r = false then macFlag (macStat s r 9 1) r 5 else s
    match (if m.kind = 0 then rxCtx s n m.tid else none) with
    | some (i, c) => reorder s r i c m
    | none => receivePlain s r m

/-- The reception comes from a station (R160); the frame that ends the exchange ends it. -/
def noteRx (s : State) (r : Radio) (m : RxMpdu) : State :=
  s.modFe r fun f => { f with rx := if m.endsExchange then none else f.rx.map fun x =>
    { x with passed := x.passed + 1, from_ := if m.sta = 0 then x.from_ else some m.sta } }

/-- MPDU_RECEIVE: only a frame that passes its FCS, of a reception whose signal field decoded and a user that is decoded,
acts; it is answered when it solicits an answer, a duplicate and one that fails decryption too, an RTS by a CTS (R125, R128,
R139, R161, R164 to R175). -/
def mpduReceive (r : Radio) (m : RxMpdu) (s : State) : State :=
  if m.fcsOk = false ∨ isWlan s r = false ∨ delivers s r m.user = false then s
  else
    let s := noteRx s r m
    let s := if m.ackReq = true ∨ m.kind = 4 then respond s r m.sta else s
    let known := 1 ≤ m.sta ∧ m.sta ≤ 2048 ∧ staState s m.sta ≠ 0
    if m.kind = 4 then s
    else if m.kind = 2 then
      let s := if known then heardFrom s r.val m.sta m.rssi m.rate else s
      let s := if known ∧ m.endsExchange = true then powerBit s r.val m.sta m.pmBit else s
      receiveMgmt s r.val m
    else if m.kind = 3 ∨ ¬ known ∨ linkUp s m.sta r.val = false then class3 s r.val m
    else
      let s := heardFrom s r.val m.sta m.rssi m.rate
      let s := if m.endsExchange then powerBit s r.val m.sta m.pmBit else s
      let s := match m.report with | some (a, b) => if a < 4 then setReport s m.sta a b else s | none => s
      receiveData s r.val m

/-! ### The station table (R154 to R157) -/

def staInUse (s : State) : Nat := ((setElements s 0x3100).filter fun n => decide (1 ≤ n ∧ staState s n ≠ 0)).length

def aidTaken (s : State) (pool aid : Nat) : Bool :=
  s.mac.aids.contains (2048 * pool + aid) || s.mac.quar.any fun q => q.pool == pool && q.aid == aid

def aidsUsed (s : State) (pool : Nat) : Nat :=
  ((s.mac.aids.filter fun k => k / 2048 == pool).length) + (s.mac.quar.filter fun q => q.pool == pool).length

def mirrorAids (s : State) : State := s.mirror 3 (.aids s.mac.aids)

def watchStations (s : State) (pool unit : Nat) : State :=
  (s.watch 1 (staInUse s) 2048 unit 0xFF).watch (2 + pool) (aidsUsed s pool) 2007 unit 0xFF

/-- AID pool of a BSS: its MLD's when it is affiliated (R148). -/
def bssPool (s : State) (r b : Nat) : Nat := if bssF s r b 7 1 = 0xFF then bssF s r b 8 1 else bssF s r b 7 1

/-- STA_ALLOC (R154): the refusals in the order listed, then the lowest free entry and AID. -/
def staAlloc (v : Bytes) (s : State) : State × Res :=
  let r := fld v 0 1
  let b := fld v 1 1
  let kind := fld v 2 1
  let addr := sub v 4 6
  let unit := radioUnit r
  let pool := bssPool s r b
  match findLt 2048 fun n => staState s (n + 1) == 0 with
  | none => (s, abortBy aFull unit 0x301)
  | some n =>
    match (if kind = 2 then some 0 else (findLt 2007 fun a => !aidTaken s pool (a + 1)).map (· + 1)) with
    | none => (s, abortBy aFull unit 0x302)
    | some aid =>
      if bssOn s r b = false then (s, abortBy aState unit 0x305)
      else if (setElements s 0x3100).any fun m => decide (1 ≤ m) && staState s m != 0 && sub (s.objB 0x3100 m) 6 6 == addr then
        (s, abortBy aState unit 0x306)
      else
        let e : Bytes := [1] ++ le 1 pool ++ le 1 kind ++ [0] ++ le 2 aid ++ addr ++ le 2 0xFFFF ++ zeros 130
        let s := s.setObj 0x3100 (n + 1) e
        let s := if kind = 2 then s else mirrorAids (s.setMac { s.mac with aids := s.mac.aids ++ [2048 * pool + aid] })
        let s := (List.range 4).foldl (fun s a => freshQueue s (qStation (n + 1) a)) s
        let s := watchStations (staTouched s (n + 1)) pool unit
        (s.cmdOut 0x3102 0 (le 2 (n + 1) ++ le 2 aid), ok)

/-- Every TID of a map has a SET_UP link in the value (R156)? -/
def mapsServed (v : Bytes) (map : Nat) : Bool :=
  (List.range 8).all fun t => (List.range 3).any fun r => mapBit map t r && fld v (linkOff r 6) 1 == 1

/-- TWT_IN_USE has changed (R197, R201, R458). -/
def dropTwt (s : State) (a : Nat) : State :=
  let n := twtSta s a
  let r := twtRadio s a
  let s := s.setObj 0x3600 (a + 1) (zeros 24)
  let s := s.setMac { s.mac with
    spOpen := s.mac.spOpen.filter (· != a), spEarly := s.mac.spEarly.filter (· != a)
    spHeard := s.mac.spHeard.filter (· != a), spTrig := s.mac.spTrig.filter (· != a) }
  let s := (s.mirrorObj 3 0x3600 (a + 1)).watch 12 ((setElements s 0x3600).filter (1 ≤ ·)).length 1024 (radioUnit r) 0xFF
  if (twtOf s n r).isEmpty ∧ linkPs s n r = 2 then
    staTouched (setLink s n r 7 1 (tgetD s.mac.pm (4 * n + r) 0)) n
  else s

/-- A write of STA_ENTRY (R156): one unit, PS kept; a link that leaves SET_UP loses its TWT agreements (R201). -/
def staEntry (el : Nat) (v : Bytes) (s : State) : State × Res :=
  let unit := radioUnit (lowLink s el)
  let old := s.objB 0x3100 el
  if staState s el = 0 then (s, abortBy aState unit 0x304)
  else if sub v 1 2 ≠ sub old 1 2 ∨ sub v 4 8 ≠ sub old 4 8 ∨ fld v 0 1 = 0 ∨ staGroupOk s (fld v 26 2) = false ∨
      mapsServed v (fld v 16 3) = false ∨ mapsServed v (fld v 19 3) = false then (s, abortBy aRange unit 0)
  else
    let v := (List.range 3).foldl (fun v r => patch v (linkOff r 7) (sub old (linkOff r 7) 1)) v
    let gone := (List.range 3).filter fun r => linkUp s el r && fld v (linkOff r 6) 1 == 0
    let was := staGroup s el
    let moves := decide (fld v 26 2 ≠ was)
    let s := if moves then (List.range 4).foldl (fun s a => unseat s (qStation el a)) s else s
    let s := s.setObj 0x3100 el v
    let s := gone.foldl (fun s r => (twtOf s el r).foldl dropTwt s) s
    let s := if moves then (List.range 4).foldl (fun s a => seat (freshQueue s (qStation el a)) (qStation el a)) s else s
    (staTouched s el, ok)

/-- A management descriptor completes: status, DONE and the stamp of S, the present where it was not sent, are written, HEAD passes every contiguous completed
descriptor (R177). -/
def advanceHead (b : Nat) : Nat → State → List Nat → State × List Nat
  | 0, s, l => (s, l)
  | k + 1, s, l =>
    if l.contains (ringHead s b) then advanceHead b k (ringAdvance s b) (l.filter (· != ringHead s b)) else (s, l)

def completeMtx (s : State) (r : Radio) (i status : Nat) (start : Nat := 0) : State :=
  let b := radioWindow r.val + 0x20
  let a := s.regAt b / 64 * 64 + 32 * i
  let w := readWord s (a + 8)
  let s := storeWord s (a + 8) (w / 65536 * 65536 + status * 256 + 1)
  let s := storeWord s (a + 24) (stampWord (datumAt_ s start))
  let s := s.setMac { s.mac with mtx := vmod s.mac.mtx r fun l => l.filter fun d => d.idx != i }
  let (s, l) := advanceHead b (ringSize s b) s (s.mac.mtxDone[r] ++ [i])
  ((mgmtFlag (s.setMac { s.mac with mtxDone := vmod s.mac.mtxDone r fun _ => l }) b 0)).postFixed (7 + r.val)

/-- Descriptors of an entry complete with NO_STA. -/
def mtxNoSta (s : State) (n : Nat) : State :=
  (List.finRange 3).foldl (fun s r =>
    ((s.mac.mtx[r]).filter fun d => d.sta == n).foldl (fun s d => completeMtx s r d.idx 3) s) s

/-- Enabled BSSs that draw on a pool, by number from 0. -/
def poolBss (s : State) (pool : Nat) : List Nat :=
  (List.range 48).filter fun e => bssOn s (e / 16) (e % 16) && bssPool s (e / 16) (e % 16) == pool

/-- The station's frames that the MAC has taken from its queues: fetched, in a PPDU, awaiting a retransmission. -/
def staFrames (s : State) (n : Nat) : List QFrame :=
  ((s.mac.fetched.toList.flatten.filter fun f => f.dst == n) ++
    ((s.mac.inFlight.toList.flatten ++ s.mac.retry).filter fun x => x.sta == n).map (·.frame))

/-- Everything the device keeps of an entry goes with it; its frames count as discarded (R157, R201). -/
def forgetSta (s : State) (n : Nat) : State :=
  let keys (t : Tab Nat) (k : Nat) : Tab Nat := t.filter fun p => p.1 / k != n
  let s := (staFrames s n).foldl (fun s f => countDrop s (qStation n (acOf f.tid)) 11) s
  let m := s.mac
  s.setMac { m with
    snCtr := keys m.snCtr 16, lastSn := keys m.lastSn 16, lastPn := keys m.lastPn 16, lastMgmt := keys m.lastMgmt 4
    rxRate := keys m.rxRate 4, heard := keys m.heard 4, pm := keys m.pm 4, ulSince := keys m.ulSince 4
    missRun := tdel m.missRun n, excluded := m.excluded.filter (· != n), soundAt := tdel m.soundAt n
    retry := m.retry.filter fun x => x.sta != n, barOwed := m.barOwed.filter fun x => x.1 != n
    fetched := m.fetched.map fun l => l.filter fun f => f.dst != n
    inFlight := m.inFlight.map fun l => l.filter fun x => x.sta != n
    uapsd := m.uapsd.filter fun x => x.1 != n }

/-- STA_FREE (R157). -/
def staFree (v : Bytes) (s : State) : State × Res :=
  let n := fld v 0 2
  if n = 0 ∨ 2048 < n then (s, dictAbort aRange 0x14)
  else if staState s n = 0 then (s, ok)
  else
    let unit := radioUnit (lowLink s n)
    let pool := staMld s n
    let aid := staAid s n
    let s := flushStation s n
    let s := s.mac.rxBa.foldl (fun s p => if p.2.sta = n then deleteRxCtx s p.1 p.2 else s) s
    let s := s.mac.txBa.foldl (fun s p => if p.2.sta = n then deleteTxCtx s p.1 p.2 else s) s
    let s := ((twtSet s).filter fun a => twtActive s a && twtSta s a == n).foldl dropTwt s
    let s := forgetSta (mtxNoSta s n) n
    let s := (s.setObj 0x3100 n (zeros 144)).setObj 0x3510 n (zeros 64)
    let left := poolBss s pool
    let s := if aid = 0 then s else mirrorAids <| s.setMac { s.mac with
        aids := s.mac.aids.filter (· != 2048 * pool + aid)
        quar := if left.isEmpty then s.mac.quar else s.mac.quar ++ [{ pool, aid, left }] }
    (watchStations (staTouched s n) pool unit, ok)

/-- AID_RELEASE: after every DTIM beacon it waited for, or 10 s (R157). -/
def execAidRelease (pool : Fin 3) (aid : Nat) (tenSeconds : Bool) (s : State) : Out := live s fun s =>
  let s := s.setMac { s.mac with quar := s.mac.quar.filter fun q =>
    !(q.pool == pool.val && q.aid == aid && (q.left.isEmpty || tenSeconds)) }
  s.watch (2 + pool.val) (aidsUsed s pool.val) 2007 2 0xFF

/-! ### Management transmit ring (R177, R178) -/

/-- The key slot of a descriptor: the station's pairwise key, the BSS's IGTK, none. -/
def mtxSlot (s : State) (r : Nat) (d : MtxDesc) : Nat :=
  if d.protect = 1 then (if d.sta = 0xFFFF then 0xFFFF else staPtk s d.sta)
  else if d.protect = 2 then bssF s r d.bss 18 2 else 0xFFFF

/-- A submitted descriptor is judged, and placed in AC_VO in ring order (R177). -/
def submitMtx (s : State) (r : Radio) (i : Nat) : State :=
  let b := radioWindow r.val + 0x20
  let a := s.regAt b / 64 * 64 + 32 * i
  let w := readWord s (a + 8)
  let n := bits w 48 16
  -- EAPOL goes as a data frame of TID 7 (R178): the frame control type is data
  let data := decide (n ≠ 0xFFFF ∧ bits (readMem s.mem (readWord s a)).toNat 2 2 = 2)
  let d : MtxDesc := { idx := i, sta := n, bss := bits w 28 4, protect := bits w 26 2, noAck := bit w 25,
                       len := bits w 32 16, life := readWord s (a + 16) % 2 ^ 32, anyLink := bit w 24, data, since := s.now }
  if d.len < 24 ∨ 4096 < d.len ∨ d.protect = 3 ∨ (d.protect = 1 ∧ 8192 ≤ mtxSlot s r.val d) then completeMtx s r i 4
  else if n ≠ 0xFFFF ∧ staState s n = 0 then completeMtx s r i 3
  else s.setMac { s.mac with mtx := vmod s.mac.mtx r fun l => l ++ [d] }

/-- The descriptors from the old TAIL to the new. -/
def submitRange (r : Radio) (size : Nat) : Nat → Nat → State → State
  | 0, _, s => s
  | k + 1, i, s => submitRange r size k ((i + 1) % size) (submitMtx s r i)

/-- A write of MTX_TAIL: the doorbell (R177). -/
def mtxTail (s : State) (r : Radio) (tail : Nat) : State :=
  let b := radioWindow r.val + 0x20
  let old := ringTail s b
  let size := ringSize s b
  let s := s.setReg (b + 0xC) (tail % 4096)
  if ringOn s b then submitRange r size ((tail % size + size - old) % size) old s else s

/-- MTX_DOORBELL: a core writes MTX_TAIL. -/
def execMtxDoorbell (_core : CoreId) (r : Radio) (tail : Nat) (s : State) : Out := live s fun s => mtxTail s r tail

/-- The radio that sends a descriptor's frame: its ring's, or for a frame that may take any link another SET_UP one whose gate
is open when the ring's own cannot (*MTX descriptor*; log entry 155). -/
def mtxRadio (s : State) (r : Radio) (d : MtxDesc) : Radio :=
  let can (q : Radio) : Bool := linkUp s d.sta q.val && gateOpen (s.fe q)
  if d.anyLink = true ∧ d.sta ≠ 0xFFFF ∧ staKind s d.sta = 1 ∧ can r = false then ((List.finRange 3).find? can).getD r else r

/-- Is a descriptor's frame held: for a sleeping station outside a service period, or behind an earlier one to its station
(R177)? -/
def mtxHeld (s : State) (r q : Radio) (d : MtxDesc) : Bool :=
  (d.sta != 0xFFFF && asleep s d.sta q.val && !s.mac.uapsd.contains (d.sta, q.val)) ||
    match (s.mac.mtx[r]).find? fun x => x.sta == d.sta with
    | some x => x.idx != d.idx
    | none => true

/-- SN, PN and cipher job of a descriptor's frame, when it is placed (R158, R177, R178, R180). -/
def mtxPlace (s : State) (r q : Radio) (d : MtxDesc) : State × Take :=
  let slot := mtxSlot s r.val d
  match takePn s slot with
  | (s, .value pn) =>
    (txJob (if d.data then bumpSn s d.sta 7 else bumpBssSn s (bssEl q.val d.bss)) slot pn d.len (if d.sta = 0xFFFF then 0x10000 else d.sta), .value pn)
  | (s, t) => (s, t)

/-- A descriptor's frame goes on the air by the rules of every transmission: the gate, the regulatory guard, the duty account,
the power granted (R106, R111, R114 to R117, R422). Its air time is the spec's no number: free. Answers the front-end return
code, or S. -/
def mtxAir (s : State) (q : Radio) (d : MtxDesc) : State × Except Nat Nat :=
  match (s.fe q).chan, ctlFamily s q with
  | some c, some fam =>
    let (ns, s) := s.draw
    let start := startOf s q c
    let ramp := rampDown s q fam
    match regJudge s q c 600 start (ns + ramp) with
    | .error code => (returnReq (if code = 0x21 then countDuty s c (ns + ramp) else s) q d.idx code, .error code)
    | .ok e =>
      let (s, given) := match askedUnits s q e c 600 with
        | some u => s.requestUpTo 4 q.val u
        | none => (s, 0)
      match grantedPower s q e c 600 given with
      | some x => ((transmit s q d.idx 1 start ns ramp c x).release 4 q.val, .ok start)
      | none => (returnReq (s.release 4 q.val) q d.idx 0x23, .error 0x23)
  | _, _ => (s, .error 0x20)

/-- MTX_COMPLETE: what became of a descriptor's frame. 0 acknowledged or sent once, 1 the retry limit: it has been on the air, as
far as the gate, the guard and its key let it; 2 its lifetime has passed (R177, R180). -/
def execMtxComplete (r : Radio) (desc status : Nat) (s : State) : Out := live s fun s =>
  match (s.mac.mtx[r]).find? fun d => d.idx == desc with
  | none => s
  | some d =>
    let q := mtxRadio s r d
    let expired := d.since + 1000 * (if d.life = 0 then 1000000 else d.life) ≤ s.now
    if d.sta ≠ 0xFFFF ∧ staState s d.sta = 0 then completeMtx s r desc 3
    else if expired then completeMtx s r desc 2
    else if 1 < status then s
    else if (s.fe q).st = .fault then completeMtx (returnReq s q desc 0x20) r desc 0x20
    else if gateOpen (s.fe q) = false ∨ (ctlFamily s q).isNone = true ∨ mtxHeld s r q d = true then s
    else match mtxAir s q d with
      | (s', .error code) => completeMtx s' r desc code
      | (s', .ok start) =>
        match mtxPlace s' r q d with
        | (s', .value _) => completeMtx s' r desc (if d.noAck then 0 else status) start
        | (_, .exhausted) => completeMtx (pnExhausted s r.val) r desc 0x30
        | (_, .noKey) => completeMtx s r desc 4
        | (_, .stall) => counterStall s

end Sys2Proof.Machine
end

