-- ==== Sys2Proof/Machine/Plan.lean ====
section
/-! DEFINITION. Scheduled access (07_scheduled_access): uplink buffer records, snapshots and plans, target wake time;
the standing bookings of R196 and R423. -/

namespace Sys2Proof.Machine
open Sys2Proof

/-! ### PLAN_PARAMS, statistics and flags -/

def planF (s : State) (r off w : Nat) : Nat := s.objF 0x3500 (r + 1) off w
def planFlagOn (s : State) (r b : Nat) : Bool := bit (planF s r 0 1) b
def planStat (s : State) (r k n : Nat) : State := s.stat 0x3502 (r + 1) k n
def planFlag (s : State) (r b : Nat) : State := s.setFlag 0x3503 (r + 1) b

/-! ### RATE_INFO (*MRX descriptor*) and RU sizes -/

/-- Bits per subcarrier of an MCS, in sixths of a bit (log entry 28). -/
def mcsSixths (mcs : Nat) : Nat := ([3, 6, 9, 12, 18, 24, 27, 30, 36, 40, 45, 50, 54, 60, 3, 3][mcs]?).getD 3

def rateSixths (rate : Nat) : Nat := mcsSixths (rate % 16) * (bits rate 4 4 % 8 + 1)

/-- Data subcarriers and 26-tone units of RU size `k`, 0 to 7 (*RU sizes*). -/
def ruData (k : Nat) : Nat := ([24, 48, 102, 234, 468, 980, 1960, 3920][k]?).getD 3920
def ruUnits (k : Nat) : Nat := ([1, 2, 4, 9, 18, 37, 74, 148][k]?).getD 148

/-- Capacity in bytes (R185). -/
def capacity (k rate nsym : Nat) : Nat := ruData k * rateSixths rate * nsym / 48

/-- Rate of a user in Mb/s over 13.6 us symbols. -/
def ruRate (k rate : Nat) : Nat := ruData k * rateSixths rate * 10 / 816

/-! ### The tone plan (R185, R186; log entry 28) -/

/-- Number of 20 MHz subchannels of a bandwidth code. -/
def subOf (bw : Nat) : Nat := 2 ^ bw

/-- The subchannels that 26-tone position `p` of a channel overlaps. -/
def unitSubs (bw p : Nat) : List Nat :=
  if bw < 2 then [p / 9]
  else
    let seg := 4 * (p / 37)
    let q := p % 37
    if q < 9 then [seg] else if q < 18 then [seg + 1] else if q = 18 then [seg + 1, seg + 2]
    else if q < 28 then [seg + 2] else [seg + 3]

/-- 26-tone positions of a channel. -/
def unitCount (bw : Nat) : Nat := ([9, 18, 37, 74, 148][bw]?).getD 9

/-- Positions that no subchannel of a mask overlaps. -/
def freeUnits (bw mask : Nat) : List Nat :=
  (List.range (unitCount bw)).filter fun p => (unitSubs bw p).all fun i => !bit mask i

/-- First positions at which an RU of size `k` may lie. -/
def ruStarts (bw k : Nat) : List Nat :=
  let n := unitCount bw
  let bases := if bw < 2 then (List.range (subOf bw)).map (9 * ·)
    else (List.range (n / 37)).flatMap fun g => [37 * g, 37 * g + 9, 37 * g + 19, 37 * g + 28]
  match k with
  | 0 => List.range n
  | 1 => bases.flatMap fun b => [b, b + 2, b + 5, b + 7]
  | 2 => bases.flatMap fun b => [b, b + 5]
  | 3 => bases
  | 4 => if bw = 0 then [] else if bw = 1 then [0] else (List.range (n / 37)).flatMap fun g => [37 * g, 37 * g + 19]
  | 5 => if bw < 2 then [] else (List.range (n / 37)).map (37 * ·)
  | 6 => if bw < 3 then [] else (List.range (n / 74)).map (74 * ·)
  | _ => if bw < 4 then [] else [0]

/-- The subchannels within a station's bandwidth around the primary. -/
def bandSubs (bw prim : Nat) : List Nat := (List.range (subOf bw)).map (prim / subOf bw * subOf bw + ·)

/-- The positions of an RU. -/
def ruSpan (k p : Nat) : List Nat := (List.range (ruUnits k)).map (p + ·)

/-- Place RUs, largest first, each at the lowest free position its station's bandwidth allows. -/
def placeRus (bw : Nat) (within : Nat → List Nat) : List PlanUser → List Nat → Bool
  | [], _ => true
  | u :: us, free =>
    match (ruStarts bw u.ru).find? fun p => (ruSpan u.ru p).all fun x =>
        free.contains x && (unitSubs bw x).all fun i => (within u.sta).contains i with
    | some p => placeRus bw within us (free.filter fun x => !(ruSpan u.ru p).contains x)
    | none => false

/-- A static puncture pattern that rule 0131h permits (log entry 29). -/
def punctureOk (bw m : Nat) : Bool :=
  if m = 0 then true
  else
    let pairs := (List.range 8).map fun k => 3 * 4 ^ k
    let quads := (List.range 4).map fun k => 15 * 16 ^ k
    if bw < 2 then false
    else if m / 2 ^ subOf bw ≠ 0 then false
    else if bw = 2 then popcount 4 m == 1
    else if bw = 3 then popcount 8 m == 1 || pairs.contains m
    else pairs.contains m || quads.contains m ||
      ([15, 15 * 16 ^ 3].any fun q => pairs.any fun p => p &&& q == 0 && m == p + q)

/-- The channel of a TXOP: bandwidth code and punctured subchannels once the busy secondaries are punctured, or the
channel narrows to what avoids them (R186). -/
def txopChannel (s : State) (r busy : Nat) : Nat × Nat :=
  let bw := s.objF 0x2101 (r + 1) 4 1
  let prim := s.objF 0x2101 (r + 1) 5 1
  let stat := s.objF 0x2101 (r + 1) 6 2
  let all := (stat ||| busy) % 2 ^ subOf bw
  if all = stat then (bw, stat)
  else if punctureOk bw all = true ∧ bit all prim = false then (bw, all)
  else
    -- narrower channels keep the positions they have in the wide one: everything outside is masked
    let w := ((List.range bw).reverse.find? fun w => (bandSubs w prim).all fun i => !bit all i).getD 0
    let keep := bandSubs w prim
    (bw, ((List.range (subOf bw)).filter fun i => !keep.contains i).foldl (fun m i => setBit m i true) 0)

/-! ### Candidates (R182 to R184) -/

/-- Age of a station's record in ms; none when it never reported. -/
def reportAge (s : State) (n a : Nat) : Option Nat :=
  let st := datumAt (s.objB 0x3510 n) (16 * a + 4)
  if st.units = 0 then none else some ((s.datum.t.nanos - st.nanos) / 1000000)

def reportFresh (s : State) (r n a : Nat) : Bool :=
  match reportAge s n a with | some x => decide (x ≤ planF s r 12 2) | none => false

def reportStale (s : State) (r n a : Nat) : Bool :=
  match reportAge s n a with | some x => decide (planF s r 12 2 < x) | none => false

/-- Is an exchange with the station in progress on a non-STR partner link (R160, R182)? -/
def partnerBusy (s : State) (r n : Nat) : Bool :=
  (nstrPartner s n r).any fun q =>
    let f := vget s.rf.fe q {}
    (match f.rx with | some x => x.from_ == some n | none => false) ||
    (match f.tx with | some x => x.mpdus.any fun m => m.1 == n | none => false)

/-- What R182 requires of a station whatever the direction. -/
def reachable (s : State) (r n : Nat) : Bool :=
  staState s n == 3 && linkUp s n r && (linkCaps s n r 2 || linkCaps s n r 3) && !asleep s n r && !partnerBusy s r n

/-- Bytes a station has queued for an AC, of TIDs mapped to the link. -/
def queuedBytes (s : State) (r n a : Nat) : Nat :=
  (((s.queue (qStation n a)).frames.filter fun f => mapBit (dlTtlm s n) f.tid r).map (·.len)).sum

def dlCandidate (s : State) (r a n : Nat) : Bool := reachable s r n && decide (0 < queuedBytes s r n a)

def ulOpen (s : State) (r a n : Nat) : Bool :=
  reachable s r n && !s.mac.excluded.contains n && (acTids a).any fun t => mapBit (ulTtlm s n) t r

def ulCandidate (s : State) (r a n : Nat) : Bool :=
  ulOpen s r a n && decide (0 < ulBytes s n a) && reportFresh s r n a

/-- Is the station in a trigger-enabled service period that has had no trigger yet (R200)? -/
def spUntriggered (s : State) (r n : Nat) : Bool :=
  (spOf s n r).any fun a => twtAwake s a && twtFlag s a 0 && !s.mac.spTrig.contains a

/-- A candidate of a BSRP poll: its record is stale, or its service period still owes it a trigger (R193, R200; log entry
161). -/
def pollCandidate (s : State) (r a n : Nat) : Bool := ulOpen s r a n && (reportStale s r n a || spUntriggered s r n)

/-- Weight × min(age, 1,000,000 us) (R184). -/
def planScore (s : State) (r a age : Nat) : Nat := planF s r (8 + a) 1 * min age 1000000

/-- Age in us of the head of a station's queue, and of its uplink record. -/
def dlAge (s : State) (n a : Nat) : Nat :=
  match (s.queue (qStation n a)).frames.head? with | some f => (s.datum.t.nanos - f.stamp.nanos) / 1000 | none => 0
def ulAge (s : State) (n a : Nat) : Nat :=
  match tget s.mac.ulSince (4 * n + a) with | some t => (s.now - t) / 1000 | none => 0

/-- End of the period in progress of an agreement, in TSF us. -/
def spEnd (s : State) (a : Nat) : Nat :=
  let i := max 1 (twtF s a 16 4)
  let t := twtF s a 8 8
  t + (s.mac.tsf - t) / i * i + twtF s a 6 2 * 256

/-- The soonest end of the trigger-enabled periods a station is in. -/
def triggerEnd (s : State) (r n : Nat) : Option Nat :=
  ((spOf s n r).filter fun a => twtAwake s a && twtFlag s a 0).foldl
    (fun b a => match b with | none => some (spEnd s a) | some x => some (min x (spEnd s a))) none

/-- R184's order of candidates. -/
def planBefore (s : State) (r : Nat) (x y : PlanUser) : Bool :=
  match triggerEnd s r x.sta, triggerEnd s r y.sta with
  | some _, none => true
  | none, some _ => false
  | ex, ey =>
    let ex := ex.getD 0
    let ey := ey.getD 0
    decide (ex < ey ∨ (ex = ey ∧ (y.score < x.score ∨ (y.score = x.score ∧ x.sta < y.sta))))

def planInsert (s : State) (r : Nat) (x : PlanUser) : List PlanUser → List PlanUser
  | [] => [x]
  | y :: l => if planBefore s r x y then x :: y :: l else y :: planInsert s r x l

/-- HE or EHT of a station (*RATE_INFO* format 4 or 5). -/
def planFormat (s : State) (r n : Nat) : Nat := if linkCaps s n r 3 then 5 else 4

/-- Every entry that holds anything is evaluated; the rest are FREE. -/
def candidates (s : State) (r : Nat) (ul : Bool) (a : Nat) (p : Nat → Bool) : List PlanUser :=
  ((setElements s 0x3100).filter fun n => decide (1 ≤ n) && p n).foldl (fun l n =>
    planInsert s r { sta := n, ru := 0, demand := if ul then ulBytes s n a else queuedBytes s r n a,
                     score := planScore s r a (if ul then ulAge s n a else dlAge s n a),
                     rate := if ul then tgetD s.mac.rxRate (4 * n + r) 0 else linkF s n r 14 2,
                     bw := linkF s n r 10 1, bcc := !linkCaps s n r 4 } l) []

/-! ### Building the plan (R185, R187) -/

/-- Symbols: DATA_SYMBOLS, reduced until the data portion fits the PPDU's 5,484 us and the TXOP limit (log entry 28). -/
def planSymbols (s : State) (r a : Nat) : Nat :=
  let txop := acParam s r a 4 2 * 32
  let us := if txop = 0 then 5484 else min 5484 txop
  min (planF s r 4 2) (us * 10 / 136)

/-- The smallest RU that carries a demand; the largest when none does. -/
def smallestRu (rate nsym demand : Nat) : Nat := ((List.range 8).find? fun k => decide (demand ≤ capacity k rate nsym)).getD 7

def usedUnits (us : List PlanUser) : Nat := (us.map fun u => ruUnits u.ru).sum

/-- The user with the largest RU, ties to the lowest score. -/
def largestRu (us : List PlanUser) : Option PlanUser :=
  us.foldl (fun b u => match b with
    | none => some u
    | some x => if x.ru < u.ru ∨ (x.ru = u.ru ∧ u.score ≤ x.score) then some u else some x) none

def lowestScore (us : List PlanUser) : Option PlanUser :=
  us.foldl (fun b u => match b with | none => some u | some x => if u.score ≤ x.score then some u else some x) none

/-- Sort by RU, largest first, for placement. -/
def ruInsert (u : PlanUser) : List PlanUser → List PlanUser
  | [] => [u]
  | x :: l => if x.ru < u.ru then u :: x :: l else x :: ruInsert u l

/-- The while loop of R185. -/
def shrinkPlan (fits : List PlanUser → Bool) (free : Nat) (ul : Bool) (minRu : Nat → Nat) :
    Nat → List PlanUser → List PlanUser
  | 0, us => us
  | k + 1, us =>
    let bccOver := ul && decide (3467 < ((us.filter (·.bcc)).map fun u => ruRate u.ru u.rate).sum)
    if usedUnits us ≤ free ∧ fits us = true ∧ bccOver = false then us
    else
      let drop (x : Option PlanUser) := match x with | some x => us.filter fun u => u.sta != x.sta | none => us
      if bccOver then shrinkPlan fits free ul minRu k (drop (lowestScore (us.filter (·.bcc))))
      else match largestRu us with
        | none => us
        | some x =>
          if minRu x.sta < x.ru then
            shrinkPlan fits free ul minRu k (us.map fun u => if u.sta = x.sta then { u with ru := u.ru - 1 } else u)
          else shrinkPlan fits free ul minRu k (drop (lowestScore us))

/-- A MU-MIMO group from the candidates, in order: fresh feedback, at most 4 streams each, correlation (a measurement
no rule defines: free) at most MU_CORR_MAX with each member, streams within the radio's transceivers (R187). -/
def muGroup (s : State) (r : Radio) (snap : List PlanUser) : List Nat :=
  let nss (n : Nat) := linkF s n r.val 9 1
  let fresh (n : Nat) : Bool := match tget s.mac.soundAt n with
    | some t => decide (s.now ≤ t + planF s r.val 14 2 * 1000000) | none => false
  snap.foldl (fun g u =>
    let n := u.sta
    if g.length < 8 ∧ fresh n = true ∧ nss n ≤ 4 ∧ (g.map nss).sum + nss n ≤ (assigned s r).length ∧
        (g.all fun m => decide (Config.freeNat (s.free + 4096 * n + m) % 101 ≤ planF s r.val 16 1)) = true
    then g ++ [n] else g) []

/-- Does the first candidate that could head a group lack fresh feedback (R187)? -/
def needsSounding (s : State) (r : Nat) (snap : List PlanUser) : Bool :=
  match snap.find? fun u => decide (linkF s u.sta r 9 1 ≤ 4) with
  | some u => (match tget s.mac.soundAt u.sta with
    | some t => decide (t + planF s r 14 2 * 1000000 < s.now) | none => true)
  | none => false

/-- Size and fit the users of a snapshot, from the snapshot alone, into a channel's free units (R185 to R187). -/
def fitPlan (s : State) (r : Radio) (p : Plan) (busy : Nat) : Plan :=
  let (bw, mask) := txopChannel s r.val busy
  let prim := s.objF 0x2101 (r.val + 1) 5 1
  let free := freeUnits bw mask
  let group := p.group
  let heads := p.snap.filter fun u => !(group.drop 1).contains u.sta
  let users := heads.take (min p.maxUsers free.length)
  let groupDemand := ((p.snap.filter fun u => group.contains u.sta).map (·.demand)).foldl max 0
  let minRu (n : Nat) : Nat := if group.head? = some n then 3 else 0
  let sized := users.map fun u =>
    let d := if group.head? = some u.sta then groupDemand else u.demand
    let k := if p.form = 1 then 0 else max (minRu u.sta) (smallestRu u.rate p.nsym d)
    { u with ru := if u.bcc = true ∧ group.head? ≠ some u.sta then min k 3 else k, demand := d }
  let within (n : Nat) : List Nat := bandSubs (min bw (((p.snap.find? fun u => u.sta == n).map (·.bw)).getD 0)) prim
  let fits (us : List PlanUser) : Bool := placeRus bw within (us.foldr ruInsert []) free
  let us := shrinkPlan fits free.length p.ul minRu (9 * sized.length) sized
  { p with users := us, units := usedUnits us }

/-- The snapshot and its plan (R182 to R187, R193). -/
def takeSnapshot (s : State) (r : Radio) (ul : Bool) (a : Nat) : Plan :=
  let cs := candidates s r.val ul a (if ul then ulCandidate s r.val a else dlCandidate s r.val a)
  let poll := ul && cs.isEmpty
  let cs := if poll then candidates s r.val ul a (pollCandidate s r.val a) else cs
  let snap := match cs with
    | [] => []
    | c :: _ => cs.filter fun u => planFormat s r.val u.sta == planFormat s r.val c.sta
  let mu := !ul && planFlagOn s r.val 2
  let group := if mu then muGroup s r snap else []
  let p : Plan := { at_ := s.now, ul, ac := a, form := if poll then 1 else if mu && needsSounding s r.val snap then 2 else 0,
                    users := [], units := 0, snap, cands := cs.length, stamp := s.datum.t, nsym := planSymbols s r.val a,
                    maxUsers := planF s r.val 1 1, fmt := match snap with | u :: _ => planFormat s r.val u.sta | [] => 4,
                    group := if 2 ≤ group.length then group else [] }
  fitPlan s r p 0

/-- PLAN_SNAPSHOT: a snapshot is taken and a plan built from it alone (R182, R189). -/
def execPlanSnapshot (r : Radio) (dirUl : Bool) (ac : Nat) (s : State) : Out := live s fun s =>
  if isWlan s r = true ∧ planFlagOn s r.val (if dirUl then 1 else 0) = true ∧ ac < 4 ∧ (s.fe r).st ≠ .off then
    let p := takeSnapshot s r dirUl ac
    s.setMac { s.mac with planning := vmod s.mac.planning r fun _ => some p }
  else s

/-- PLAN_DONE: the plan is complete, within 40 us; PLAN_STATUS describes it (R189). -/
def execPlanDone (r : Radio) (ns : Nat) (s : State) : Out := live s fun s =>
  match s.mac.planning[r] with
  | some p =>
    let s := s.setMac { s.mac with planning := vmod s.mac.planning r fun _ => none, plan := vmod s.mac.plan r fun _ => some p }
    s.setObj 0x3501 (r.val + 1) (p.stamp.enc ++ le 2 p.cands ++ le 2 p.users.length ++ le 2 0 ++ le 1 (min 255 p.units) ++ le 2 (min ns 40000))
  | none => s

/-- A stake that changes PLAN_PARAMS discards every plan of an earlier snapshot (R190). -/
def planStaked (s : State) (r : Radio) : State :=
  s.setMac { s.mac with planning := vmod s.mac.planning r fun _ => none, plan := vmod s.mac.plan r fun _ => none }

/-! ### Standing bookings (R196, R423) -/

/-- The draw of a radio's transceivers at the highest permitted power. -/
def highestUnits (s : State) (r : Radio) : Option Nat :=
  match (s.fe r).chan with
  | some c => match permits s c with | some e => askedUnits s r e c 600 | none => none
  | none => none

def peerBooked (s : State) (r : Nat) : Bool := decide (0 < grantUnits s 10 (bookKey r 0 1))

/-- Request a standing booking that is not held: for a response (0), or for a TB PPDU to a peer (1). -/
def bookStanding (s : State) (r : Radio) (id : Nat) : State :=
  if 0 < grantUnits s 10 (bookKey r.val 0 id) then s
  else match highestUnits s r with
    | some u => (s.book (bookKey r.val 0 id) u).1
    | none => s

/-- BOOKING_RETRY: every 10 ms an enabled radio requests again what it does not hold (R196, R423). -/
def execBookingRetry (r : Radio) (s : State) : Out := live s fun s =>
  if (s.fe r).st = .off then s
  else
    let s := bookStanding s r 0
    if isWlan s r = true ∧ planFlagOn s r.val 3 = true then bookStanding s r 1 else s

/-! ### Target wake time (R197 to R201) -/

/-- TWT_CMD ADD. -/
def twtAdd (v : Bytes) (s : State) : State × Res :=
  let n := fld v 2 2
  let r := fld v 4 1
  let flow := fld v 5 1
  let dur := fld v 8 2
  let intv := fld v 18 4
  let unit := radioUnit r
  let mine := (twtSet s).filter fun a => twtActive s a && twtSta s a == n
  if n = 0 ∨ 2048 < n ∨ 2 < r ∨ 7 < flow ∨ dur = 0 ∨ 255 < dur ∨ intv < 1024 ∨ intv < dur * 256 then
    (s, dictAbort aRange 0x14)
  else match findLt 1024 fun a => !twtActive s a with
    | none => (s, abortBy aFull unit 0x310)
    | some a =>
      if 8 ≤ mine.length then (s, abortBy aFull unit 0x311)
      else if mine.any fun x => twtF s x 3 1 == flow then (s, abortBy aState unit 0x312)
      else if staState s n ≠ 3 ∨ linkUp s n r = false then (s, abortBy aState unit 0x313)
      else
        let s := s.setObj 0x3600 (a + 1) (sub v 2 4 ++ le 1 (fld v 6 1 % 4) ++ [1] ++ sub v 8 14 ++ zeros 4)
        let s := if staKind s n = 2 then s else staTouched (setLink s n r 7 1 2) n
        let s := (s.mirrorObj 3 0x3600 (a + 1)).watch 12 ((setElements s 0x3600).filter (1 ≤ ·)).length 1024 unit 0xFF
        (s.cmdOut 0x3601 0 (le 2 (a + 1)), ok)

/-- TWT_CMD DELETE. -/
def twtDelete (v : Bytes) (s : State) : State × Res :=
  let n := fld v 2 2
  let flow := fld v 4 1
  match findLt 1024 fun a => twtActive s a && twtSta s a == n && twtF s a 3 1 == flow with
  | some a => ((dropTwt s a).cmdOut 0x3601 0 (le 2 (a + 1)), ok)
  | none => (s, abortBy aState (radioUnit (lowLink s n)) 0x314)

/-- TWT_CMD (3601h). -/
def twtCmd (v : Bytes) (s : State) : State × Res := if fld v 0 1 = 1 then twtAdd v s else twtDelete v s

/-- TSF microseconds since the last start of the agreement's periods, TWT + k × INTERVAL; none before the first (R198). -/
def spPhase (s : State) (a : Nat) : Option Nat :=
  if twtF s a 8 8 ≤ s.mac.tsf then some ((s.mac.tsf - twtF s a 8 8) % max 1 (twtF s a 16 4)) else none

/-- TWT_SP_START: at a start of a period, recognised within 4 us, the station becomes awake on the link (R198, R201). -/
def execTwtSpStart (a : Fin 1024) (s : State) : Out := live s fun s =>
  if twtActive s a.val = true ∧ s.mac.spOpen.contains a.val = false ∧ (match spPhase s a.val with | some x => decide (x ≤ 4) | none => false) = true then
    s.setMac { s.mac with spOpen := s.mac.spOpen ++ [a.val], spEarly := s.mac.spEarly.filter (· != a.val)
                          spHeard := s.mac.spHeard.filter (· != a.val), spTrig := s.mac.spTrig.filter (· != a.val) }
  else s

/-- TWT_SP_END: the period has lasted WAKE_DUR; a trigger-enabled one without a trigger is missed (R200). -/
def execTwtSpEnd (a : Fin 1024) (s : State) : Out := live s fun s =>
  let dur := twtF s a.val 6 2 * 256
  let past : Bool := match spPhase s a.val with | some x => decide (dur ≤ x ∨ twtF s a.val 16 4 ≤ dur) | none => true
  if s.mac.spOpen.contains a.val ∧ past = true then
    let missed := twtActive s a.val && twtFlag s a.val 0 && !s.mac.spTrig.contains a.val
    let r := twtRadio s a.val
    let s := s.setMac { s.mac with spOpen := s.mac.spOpen.filter (· != a.val), spEarly := s.mac.spEarly.filter (· != a.val)
                                   spHeard := s.mac.spHeard.filter (· != a.val), spTrig := s.mac.spTrig.filter (· != a.val) }
    if missed then planFlag (planStat (s.addObjF 0x3600 (a.val + 1) 20 4 1) r 8 1) r 3 else s
  else s

end Sys2Proof.Machine
end

