-- ==== Sys2Proof/Machine/Ppdu.lean ====
section
/-! DEFINITION. Transmission in the WLAN personality: beacons and Probe Responses, PPDU assembly, acknowledgement and
retries, triggers and TB PPDUs (R151 to R172, R186 to R196); what a lost cipher job does to its MPDU (R181). -/

namespace Sys2Proof.Machine
open Sys2Proof

/-! ### Judging a transmission -/

/-- A request held at a closed gate (R109). -/
def holdReq (s : State) (r : Radio) (p : PpduReq) : State :=
  (s.modFe r fun f => { f with held := f.held ++ [p] }).radioFlag 0x2051 r 0

/-- A request the device itself makes: its kind, identifier, AC and air time; power at the permitted limit. -/
def ownReq (kind id ac form ns : Nat) (deadline : Option Nat) : PpduReq :=
  { kind, id, ac, sta := none, mpdus := 1, durNs := ns, dsss := false, deadline, power := 600, rffeDone := true,
    partnerIdle := true, busy := 0, form, late := 0 }

/-- The booked units of a request's kind: response or beacon. -/
def bookedUnits (s : State) (r : Nat) (p : PpduReq) : Nat :=
  if p.kind = 0 then grantUnits s 10 (bookKey r 0 0) else grantUnits s 10 (bookKey r 1 p.id)

/-- The ramp-down of a request's PPDU (R135). -/
def reqRamp (s : State) (r : Radio) (p : PpduReq) : Nat := rampDown s r (if p.dsss then 1 else 0)

/-- Transmissions to a station that a non-STR partner of the link has fixed and not begun: their S (R160). -/
def partnerStarts (s : State) (r n : Nat) : List Nat :=
  (nstrPartner s n r).filterMap fun q =>
    match (vget s.rf.fe q {}).tx with
    | some x => if s.now < x.s ∧ (x.mpdus.any fun m => m.1 == n) = true then some x.s else none
    | none => none

/-- S of a request: a response's SIFS-fixed start; the S of the transmission it accompanies on a non-STR pair (R160); else as
soon as the lines allow (R91). -/
def reqStart (s : State) (r : Radio) (c : Chan) (p : PpduReq) : Nat :=
  let m := startOf s r c
  match p.kind, p.deadline, p.sta with
  | 0, some d, _ => max m (s.now + (d - s.datum.t.nanos))
  | _, _, some n => (partnerStarts s r.val n).foldl max m
  | _, _, _ => m

/-- May a PPDU be sent in a format: DSSS/CCK, or some OFDM format, enabled in PHY_CAPS (R125)? -/
def formatAllowed (s : State) (r : Radio) (dsss : Bool) : Bool :=
  if dsss then formatEnabled s r 0 else (List.range 5).any fun k => formatEnabled s r (k + 1)

/-- May the transmission start: RFFE writes done, in an enabled format, permitted by the guard, powered; with its DAC power.
A contention grant is asked for here and held until the exchange ends (R97, R114 to R117, R125, R422; log entry 27). The gate
is open. -/
def powered (s : State) (r : Radio) (p : PpduReq) : State × Option (Chan × Int) :=
  if p.rffeDone = false ∨ rffeOverdue s r = true then (returnReq (s.setFlag 0x2040 0 3) r p.id 0xFF, none)
  else match (s.fe r).chan with
    | none => (s, none)
    | some c =>
      let ns := p.durNs + reqRamp s r p
      if formatAllowed s r p.dsss = false then (s, none)
      else match regJudge s r c p.power (reqStart s r c p) ns with
      | .error code => (returnReq (if code = 0x21 then countDuty s c ns else s) r p.id code, none)
      | .ok e =>
        let (s, given) :=
          if p.kind = 0 ∨ p.kind = 2 then (s, bookedUnits s r.val p)
          else match askedUnits s r e c p.power with
            | some u => s.requestUpTo 4 r.val u
            | none => (s, 0)
        match grantedPower s r e c p.power given with
        | some x => (s, some (c, x))
        | none => (returnReq (s.release 4 r.val) r p.id 0x23, none)

/-- The shorter of two PPDUs that begin together on a non-STR pair is padded to the other's nominal end (R160): the padded
duration, and the partner's transmission padded where it is the shorter. -/
def padPair (s : State) (r n start dur : Nat) : State × Nat :=
  (nstrPartner s n r).foldl (fun (a : State × Nat) q =>
    let (s, dur) := a
    if h : q < 3 then
      let q : Radio := ⟨q, h⟩
      match (s.fe q).tx with
      | some x =>
        if x.s = start ∧ (x.mpdus.any fun m => m.1 == n) = true then
          match (s.fe q).air.find? fun y => y.id == x.req.id && y.s == start with
          | some y =>
            if start + dur ≤ y.nominal then (s, y.nominal - start)
            else
              let d := start + dur - y.nominal
              let s := accountDuty s y.chan d
              (s.modFe q fun f => { f with air := f.air.map fun z => if z = y then { z with nominal := z.nominal + d, e := z.e + d } else z }, dur)
          | none => (s, dur)
        else (s, dur)
      | none => (s, dur)
    else (s, dur)) (s, dur)

/-- The transmission leaves: its S and E are fixed, its air time is accounted; it stays in progress while an answer to it is
awaited, and so does its grant (log entry 27). -/
def launch (s : State) (r : Radio) (p : PpduReq) (c : Chan) (power : Int) (ms : List TxMpdu) (awaiting : Bool) : State :=
  let start := reqStart s r c p
  let (s, dur) := match p.sta with | some n => padPair s r.val n start p.durNs | none => (s, p.durNs)
  let s := transmit s r p.id p.kind start dur (reqRamp s r p) c power
  if awaiting then
    let s := s.setMac { s.mac with inFlight := vmod s.mac.inFlight r fun _ => ms }
    s.modFe r fun f => { f with tx := some { req := p, s := start, power, mpdus := ms.map fun m => (m.sta, m.tid, m.sn), awaiting := true } }
  else s.release 4 r.val

/-! ### Retries (R163) -/

def outstanding (s : State) (n t : Nat) : List Nat :=
  ((s.mac.retry ++ s.mac.inFlight.toList.flatten).filter fun m => m.sta == n && m.tid == t).map (·.sn)

/-- The transmit window starts at the oldest outstanding SN, or the next one to assign. -/
def advanceTx (s : State) (n t : Nat) : State :=
  match txCtx s n t with
  | some (i, c) =>
    let w := (outstanding s n t).foldl (fun b x => if (x + 4096 - c.wstart) % 4096 < (b + 4096 - c.wstart) % 4096 then x else b) (snAt s n t)
    if w = c.wstart then s else setTx s i { c with wstart := w }
  | none => s

/-- An MPDU is acknowledged. -/
def mpduAcked (s : State) (r : Nat) (m : TxMpdu) : State :=
  advanceTx ((macStat s r 0 1).addObjF 0x3100 m.sta (linkOff r 20) 4 1) m.sta m.tid

/-- An MPDU is dropped: counted, and under an agreement a BlockAckReq will move the receiver past it (R163). -/
def mpduDropped (s : State) (r : Nat) (m : TxMpdu) : State :=
  let s := (macStat s r 2 1).addObjF 0x3100 m.sta (linkOff r 28) 4 1
  let s := if (txCtx s m.sta m.tid).isSome then s.setMac { s.mac with barOwed := s.mac.barOwed ++ [(m.sta, m.tid, snAdd m.sn 1)] } else s
  advanceTx s m.sta m.tid

/-- Has an MPDU been sent RETRY_LIMIT times, or its AC lifetime passed? -/
def mpduSpent (s : State) (r : Nat) (m : TxMpdu) : Bool :=
  let a := acOf m.tid
  decide (acParam s r a 3 1 ≤ m.tries) ||
    decide (m.frame.stamp.nanos + acParam s r a 6 2 * 1000000 ≤ s.datum.t.nanos)

/-- An MPDU was not acknowledged: it waits for its retransmission, or is dropped. -/
def mpduUnacked (s : State) (r : Nat) (m : TxMpdu) : State :=
  if mpduSpent s r m then mpduDropped s r m else s.setMac { s.mac with retry := s.mac.retry ++ [m] }

/-- An MPDU goes back to the head of its queue with its SN, PN and retry count (R163, R181). -/
def toHead (s : State) (m : TxMpdu) : State := s.setMac { s.mac with retry := { m with tries := m.tries - 1 } :: s.mac.retry }

/-- The exchange of a radio has ended: what was in flight, with the transmission and its grant taken away. The service periods
whose last frame it carried are over (R170). -/
def endExchange (s : State) (r : Radio) : State × List TxMpdu :=
  let ms := s.mac.inFlight[r]
  let s := s.setMac { s.mac with inFlight := vmod s.mac.inFlight r fun _ => []
                                 uapsd := s.mac.uapsd.filter fun u => !(u.2 == r.val && ms.any fun m => m.eosp && m.sta == u.1) }
  ((s.release 4 r.val).modFe r fun f => { f with tx := none }, ms)

/-- The acknowledged MPDUs complete, the others are retried or dropped (R163). -/
def ackDone (r : Radio) (acked : List (Nat × Nat × Nat)) (s : State) : State :=
  let (s, ms) := endExchange s r
  ms.foldl (fun s m => if acked.contains (m.sta, m.tid, m.sn) then mpduAcked s r.val m else mpduUnacked s r.val m) s

/-- Nothing came; the booking of a trigger exchange is released (R195). A station whose PS changed during the PPDU, so was awake when it was assembled, keeps its MPDU's retry count (R163). -/
def ackMissed (r : Radio) (s : State) : State :=
  let s := s.release 10 (bookKey r.val 3 0)
  let awake := match (s.fe r).tx with | some x => x.req.form != 5 | none => true
  let (s, ms) := endExchange s r
  let (slept, others) := ms.partition fun m => awake && asleep s m.sta r.val
  let s := slept.foldr (fun m s => toHead s m) s
  others.foldl (fun s m => mpduUnacked s r.val m) s

/-! ### Gathering a station's MPDUs (R158, R159, R163, R180) -/

/-- May a fetched frame be sent on a link: a group's, or one whose TID the entry maps to the link at assembly (R156, R159)? -/
def onLink (s : State) (r : Nat) (f : QFrame) : Bool := isGroup f.dst || mapBit (dlTtlm s f.dst) f.tid r

/-- The fetched frames a radio may send: its own, and those of a radio whose link their TID no longer maps to (R159). -/
def fetchedFor (s : State) (r : Radio) : List (Radio × QFrame) :=
  (List.finRange 3).flatMap fun q =>
    ((s.mac.fetched[q]).filter fun f => onLink s r.val f && (q == r || !onLink s q.val f)).map fun f => (q, f)

/-- Take the first fetched frame of a station and AC. -/
def takeFetched (s : State) (r : Radio) (n a : Nat) : State × Option QFrame :=
  match (fetchedFor s r).find? fun x => x.2.dst == n && (isGroup n || acOf x.2.tid == a) with
  | some (q, f) => (s.setMac { s.mac with fetched := vmod s.mac.fetched q fun l => l.erase f }, some f)
  | none => (s, none)

/-- The next frame of a station: one already fetched, or its queue's head. -/
def nextToSend (s : State) (r : Radio) (n a : Nat) : State × Option QFrame :=
  match takeFetched s r n a with
  | (s, some f) => (s, some f)
  | (s, none) => if isGroup n then (s, none) else takeFetched (radioRequest s r (some (qStation n a)) a .clean []) r n a

/-- A frame goes back to the front of what the radio has fetched. -/
def putBack (s : State) (r : Radio) (f : QFrame) : State := s.setMac { s.mac with fetched := vmod s.mac.fetched r fun l => f :: l }

/-- May another MPDU join the PPDU: within the bytes that its RU carries, within the window of an agreement and the station's
A-MPDU limits, or alone (R163, R185)? -/
def mayJoin (s : State) (n tid sn len room : Nat) (acc : List TxMpdu) : Bool :=
  decide ((acc.map (·.frame.len)).sum + len ≤ room) && match txCtx s n tid with
  | some (_, c) => inWindow c.wstart c.win sn &&
      (acc.isEmpty || (decide (acc.length < s.objF 0x3100 n 28 2) &&
        decide ((acc.map (·.frame.len)).sum + len ≤ s.objF 0x3100 n 30 4)))
  | none => acc.isEmpty && (outstanding s n tid).all (· == sn)

/-- Is a key slot at its exhaustion threshold (R180)? -/
def slotExhausted (s : State) (slot : Nat) : Bool := decide (slot < 8192) && (keyAt s slot).st == 2

/-- Retransmissions first, on any link the TID maps to, under the key, SN and PN they had; one whose lifetime has passed is
dropped, and none is sent under a key at its threshold (R158, R163, R180). -/
def gatherRetries (s : State) (r : Radio) (n a count room : Nat) : State × List TxMpdu :=
  s.mac.retry.foldl (fun (p : State × List TxMpdu) m =>
    let (s, acc) := p
    let taken := s.setMac { s.mac with retry := s.mac.retry.erase m }
    if m.sta = n ∧ acOf m.tid = a ∧ mpduSpent s r.val m = true then (mpduDropped taken r.val m, acc)
    else if m.sta = n ∧ acOf m.tid = a ∧ slotExhausted s m.slot = true then (mpduDropped (pnExhausted taken r.val) r.val m, acc)
    else if m.sta = n ∧ acOf m.tid = a ∧ acc.length < count ∧ mapBit (dlTtlm s n) m.tid r.val = true ∧
        mayJoin s n m.tid m.sn m.frame.len room acc = true then
      (txJob (macStat taken r.val 1 1) m.slot m.pn m.frame.len n, acc ++ [{ m with tries := m.tries + 1 }])
    else p) (s, [])

/-- New MPDUs, in queue order, up to `k` attempts. -/
def gatherNew (r : Radio) (n a room : Nat) : Nat → State → List TxMpdu → State × List TxMpdu
  | 0, s, acc => (s, acc)
  | k + 1, s, acc =>
    match nextToSend s r n a with
    | (s, none) => (s, acc)
    | (s, some f) =>
      if isGroup n = false ∧ mayJoin s n f.tid (snAt s n f.tid) f.len room acc = false then (putBack s r f, acc)
      else match placeFrame s r.val f with
        | (s, .ready m) => gatherNew r n a room k s (acc ++ [{ m with tries := 1 }])
        | (s, .stall) => (putBack s r f, acc)
        | (s, .exhausted) => gatherNew r n a room k (pnExhausted s r.val) acc
        | (s, .noKey) => gatherNew r n a room k s acc

/-- The MPDUs of a station for a PPDU, in an RU that carries so many bytes. -/
def gather (s : State) (r : Radio) (n a count : Nat) (room : Nat := 2 ^ 32) : State × List TxMpdu :=
  let (s, acc) := if isGroup n then (s, []) else gatherRetries s r n a count room
  gatherNew r n a room (count - acc.length) s acc

/-- The ACs of higher priority than one: VO, VI, BE, BK in falling order. -/
def higherAcs (a : Nat) : List Nat := ([3, 2, 0, 1].takeWhile (· != a)).reverse

/-- A DL user's A-MPDU: MSDUs of the primary AC, and where its RU has room left those of ACs of higher priority (R185), from
the next higher one on (log entry 167). -/
def gatherRu (s : State) (r : Radio) (n a count room : Nat) : State × List TxMpdu :=
  (higherAcs a).foldl (fun (x : State × List TxMpdu) b =>
    let left := room - (x.2.map (·.frame.len)).sum
    if x.2.length < count ∧ 0 < left then
      let (s, ms) := gather x.1 r n b (count - x.2.length) left
      (s, x.2 ++ ms)
    else x) (gather s r n a count room)

/-- Does a non-STR partner link forbid a transmission to the station now (R160)? It does while a PPDU comes from the station
there, while the response to it is on the air, and while an exchange with it lasts, unless that exchange has not begun, this
link's medium was idle for PIFS and both can share one S. -/
def nstrBlocked (s : State) (r n : Nat) (p : PpduReq) : Bool :=
  (nstrPartner s n r).any fun q =>
    let f := vget s.rf.fe q {}
    (match f.rx with | some x => x.from_ == some n | none => false) ||
    (f.air.any fun a => a.kind == 0 && a.id == n && decide (s.now < a.e)) ||
    (match f.tx with
      | some x => (x.mpdus.any fun m => m.1 == n) && !(p.partnerIdle && decide (s.now < x.s) &&
          (if h : r < 3 then (match f.chan with | some c => decide (startOf s ⟨r, h⟩ c ≤ x.s) | none => false) else false))
      | none => false)

/-- A user is judged once, when assembly begins (R156, R159, R172, R188). -/
def userOk (s : State) (r n : Nat) (p : PpduReq) : Bool :=
  isGroup n || (staState s n == 3 && linkUp s n r && !asleep s n r && !nstrBlocked s r n p)

/-- The station a contention PPDU serves: the one named, one with a retransmission, the traffic manager's choice, or one that is
owed a BlockAckReq alone. -/
def chooseStation (s : State) (r : Radio) (p : PpduReq) : State × Option Nat :=
  match p.sta with
  | some n => (s, some n)
  | none =>
    match s.mac.retry.find? fun m => acOf m.tid == p.ac && userOk s r.val m.sta p && mapBit (dlTtlm s m.sta) m.tid r.val with
    | some m => (s, some m.sta)
    | none =>
      let pick (s : State) : Option Nat :=
        ((fetchedFor s r).find? fun x => acOf (if isGroup x.2.dst then x.2.cls else x.2.tid) == p.ac && userOk s r.val x.2.dst p).map (·.2.dst)
      match pick s with
      | some n => (s, some n)
      | none =>
        let s := radioRequest s r none p.ac .clean []
        (s, (pick s).orElse fun _ => (s.mac.barOwed.find? fun b => acOf b.2.1 == p.ac && userOk s r.val b.1 p).map (·.1))

/-- The transmit rate of a link is what rate control chose: free (log entry 30). -/
def noteRate (s : State) (r n : Nat) : State :=
  if isGroup n then s
  else
    let (x, s) := s.draw
    setLink s n r 14 2 (x % 65536)

/-- The BlockAckReqs owed to stations go with their PPDU (R163). -/
def sendBars (s : State) (us : List Nat) : State :=
  let (out, left) := s.mac.barOwed.partition fun b => us.contains b.1
  s.setMac { s.mac with barOwed := left, barSent := out.foldl (fun t b => tput t (16 * b.1 + b.2.1) b.2.2) s.mac.barSent }

/-- A single-user PPDU (R163, R172). -/
def sendSingle (s : State) (r : Radio) (p : PpduReq) (c : Chan) (power : Int) : State :=
  match chooseStation s r p with
  | (s, none) => s.release 4 r.val
  | (s, some n) =>
    if userOk s r.val n p = false then s.release 4 r.val
    else
      let (s, ms) := gather s r n p.ac (max 1 p.mpdus)
      let bars := s.mac.barOwed.any fun b => b.1 == n
      if ms.isEmpty ∧ bars = false then s.release 4 r.val
      else
        let s := sendBars s [n]
        launch (noteRate s r.val n) r { p with sta := if isGroup n then none else some n } c power ms (!isGroup n)

/-! ### Planned PPDUs (R186 to R195) -/

/-- A plan user still stands at assembly (R188). -/
def planUserOk (s : State) (r : Nat) (pl : Plan) (p : PpduReq) (n : Nat) : Bool :=
  userOk s r n p && (acTids pl.ac).any (fun t => mapBit (if pl.ul then ulTtlm s n else dlTtlm s n) t r) &&
    (pl.ul || decide (0 < queuedBytes s r n pl.ac) || s.mac.retry.any fun m => m.sta == n)

def addStatus (s : State) (r sent : Nat) : State := s.setObjF 0x3501 (r + 1) 16 2 sent

/-- The bytes that a user's RU carries: a group's members share the RU of its first (R185, R187). -/
def ruRoom (pl : Plan) (n : Nat) : Nat :=
  let head := if pl.group.contains n then (pl.group.head?).getD n else n
  match pl.users.find? fun u => u.sta == head, pl.snap.find? fun u => u.sta == n with
  | some u, some x => capacity u.ru x.rate pl.nsym
  | _, _ => 0

/-- A DL MU PPDU: each user's A-MPDU, padding for those left without (R188, R189, R191). -/
def sendMu (s : State) (r : Radio) (p : PpduReq) (pl : Plan) (us ids : List Nat) (c : Chan) (power : Int) : State :=
  let onTime := us.length - min p.late us.length
  let (s, ms, under) := us.foldl (fun (a : State × List TxMpdu × Nat) n =>
    let (s, acc, i) := a
    let (s, ms) := if (us.idxOf n) < onTime then gatherRu s r n pl.ac (max 1 p.mpdus) (ruRoom pl n) else (s, [])
    (s, acc ++ ms, if ms.isEmpty then i + 1 else i)) (s, [], 0)
  let s := (List.range under).foldl (fun s _ => planFlag (planStat s r.val 6 1) r.val 0) s
  let s := sendBars s us
  let s := us.foldl (fun s n => noteRate s r.val n) s
  let s := (launch s r p c power ms true).modFe r fun f => { f with tx := f.tx.map fun t => { t with staIds := ids } }
  addStatus (planStat s r.val 0 1) r.val us.length

/-- The trigger exchange's power is booked before the trigger (R195). -/
def bookTrigger (s : State) (r : Radio) : State × Bool :=
  match highestUnits s r with
  | some u => s.book (bookKey r.val 3 0) u
  | none => (s, false)

/-- A Basic or BSRP trigger: its users' trigger-enabled periods have had their trigger (R192, R193, R200). -/
def sendTrigger (s : State) (r : Radio) (p : PpduReq) (pl : Plan) (us ids : List Nat) (c : Chan) (power : Int) : State :=
  let sps := us.flatMap fun n => spOf s n r.val
  let s := s.setMac { s.mac with spTrig := sps.filter (fun a => !s.mac.spTrig.contains a) ++ s.mac.spTrig }
  let s := launch s r p c power [] true
  let rus := us.map fun n => (n, ((pl.users.find? fun u => u.sta == n).map (·.ru)).getD 0)
  let trig : Trig := { fmt := pl.fmt, nsym := pl.nsym, rssi := s.objI 0x3500 (r.val + 1) 18 2, rus }
  let s := s.modFe r fun f => { f with tx := f.tx.map fun t => { t with mpdus := us.map fun n => (n, 0, 0), trig := some trig, staIds := ids } }
  addStatus (planStat s r.val (if pl.form = 1 then 2 else 1) 1) r.val us.length

/-- An NDP sounding sequence (R187). -/
def sendSounding (s : State) (r : Radio) (p : PpduReq) (us : List Nat) (c : Chan) (power : Int) : State :=
  let s := launch s r { p with form := 3 } c power [] true
  let s := s.modFe r fun f => { f with tx := f.tx.map fun t => { t with mpdus := us.map fun n => (n, 0, 0) } }
  planStat s r.val 3 1

/-- PREBOOK_REFUSED (R195, R196). -/
def prebookRefused (s : State) (r : Nat) : State := planFlag (planStat s r 7 1) r 2

/-- A TXOP with a plan: the newest completed one, unless it is too old or too few users are left (R186, R188). -/
def sendPlanned (s : State) (r : Radio) (p : PpduReq) (c : Chan) (power : Int) : State :=
  let single (s : State) := sendSingle s r { p with kind := 1, sta := none } c power
  match s.mac.plan[r] with
  | none => single s
  | some pl =>
    if pl.at_ + 2 * planF s r.val 6 2 * 1000 < s.now ∨ pl.ac ≠ p.ac then single s
    else
      let pl := if p.busy = 0 then pl else fitPlan s r pl p.busy
      let all := (pl.users.map (·.sta)).flatMap fun n => if pl.group.head? = some n then pl.group else [n]
      let us := all.filter fun n => planUserOk s r.val pl p n
      let ids := all.map fun n => if us.contains n then staAid s n else 2046
      let s := planStat s r.val 5 (all.length - us.length)
      if us.length < planF s r.val 2 1 then single s
      else if pl.form = 2 then sendSounding s r p us c power
      else if pl.ul then
        match bookTrigger s r with
        | (s, true) => sendTrigger s r p pl us ids c power
        | (s, false) => single (prebookRefused s r.val)
      else sendMu s r p pl us ids c power

/-! ### Beacons and Probe Responses (R151 to R153, R169, R171) -/

/-- Has a station on this link frames held for it (R169)? -/
def trafficHeld (s : State) (r n : Nat) : Bool :=
  let held (f : QFrame) : Bool := asleepAll s n f.tid && mapBit (dlTtlm s n) f.tid r
  ((List.range 4).any fun a => (s.queue (qStation n a)).frames.any held) ||
    (s.mac.retry.any fun m => m.sta == n && held m.frame) || s.mac.fetched.toList.any fun l => l.any fun f => f.dst == n && held f

/-- AIDs whose TIM bit a BSS sets. -/
def timAids (s : State) (r b : Nat) : List Nat :=
  (((setElements s 0x3100).filter fun n => decide (1 ≤ n) && decide (2 ≤ staState s n) && linkUp s n r && linkBss s n r == b &&
    trafficHeld s r n).map (staAid s)).filter (0 < ·)

/-- The TIM element: DTIM count and period, group bit, and the octets from the first to the last that hold a bit. -/
def timElement (count period : Nat) (group : Bool) (aids : List Nat) : Bytes :=
  let octet (i : Nat) : Byte := BitVec.ofNat 8 (((List.range 8).filter fun j => aids.contains (8 * i + j)).map (2 ^ ·)).sum
  let lo := (aids.foldl min 2047) / 16 * 2
  let hi := (aids.foldl max 0) / 8
  let map : Bytes := if aids.isEmpty then [0] else (List.range (hi + 1 - lo)).map fun i => octet (lo + i)
  let ctl := (if group then 1 else 0) + (if aids.isEmpty then 0 else lo)
  [5] ++ le 1 (3 + map.length) ++ le 1 count ++ le 1 period ++ le 1 ctl ++ map

/-- The TSF at an instant S (R150, R151). -/
def tsfAt (s : State) (start : Nat) : Nat := s.mac.tsf + (start - s.now) / 1000

/-- The beacon's bytes: Timestamp, the TSF at S, after the 24-byte MAC header, TIM at the template's offset (R151). -/
def beaconBytes (s : State) (r b count start : Nat) : Bytes :=
  let t := s.objB 0x3011 (bssEl r b)
  let f := patch (sub t 4 (fld t 2 2)) 24 (le 8 (tsfAt s start))
  let at_ := fld t 0 2
  f.take at_ ++ timElement count (bssF s r b 9 1) (count == 0 && !(s.queue (qGroupAddr r b)).frames.isEmpty) (timAids s r b) ++ f.drop at_

/-- The MME of a beacon protected under a slot: element 76, Key ID, IPN, and the MIC, 8 bytes of BIP-CMAC-128 or 16 of
BIP-GMAC-256 (R152, R179; IEEE 802.11; log entry 156). Key ID and MIC are the spec's no numbers: free. -/
def mmeBytes (s : State) (slot pn : Nat) : State × Bytes :=
  let mic := if keyLen (keyAt s slot).typ = 16 then 8 else 16
  let (id, s) := s.drawBytes 2
  let (tag, s) := s.drawBytes mic
  (s, [76] ++ le 1 (8 + mic) ++ id ++ le 6 pn ++ tag)

/-- A beacon is skipped (R151). -/
def beaconSkip (s : State) (r : Radio) (b : Nat) : State :=
  macFlag (macStat (s.release 10 (bookKey r.val 1 b)) r.val 10 1) r.val 6

/-- Group-addressed frames of a BSS after its DTIM beacon, More Data set on all but the last (R171): `k` bounds the frames. -/
def sendGroup (r : Radio) (b : Nat) : Nat → State → State
  | 0, s => s
  | k + 1, s =>
    let q := qGroupAddr r.val b
    if (s.queue q).frames.isEmpty then s
    else
      let (ns, s) := s.draw
      let p := ownReq 1 0 0 6 ns none
      match powered s r p with
      | (s, none) => s
      | (s, some (c, x)) =>
        match gather (radioTake s r q) r (0x10000 + 16 * r.val + b) 0 1 with
        | (s, []) => s.release 4 r.val
        | (s, ms) =>
          let ms := ms.map fun m => { m with more := !(s.queue q).frames.isEmpty }
          let s := s.setMac { s.mac with groupSent := s.mac.groupSent ++ ms }
          sendGroup r b k (launch s r p c x ms false)

/-- The BSS has sent a DTIM beacon: its quarantined AIDs wait for it no longer, and its group frames follow. -/
def afterDtim (s : State) (r : Radio) (b : Nat) : State :=
  let s := s.setMac { s.mac with quar := s.mac.quar.map fun q => { q with left := q.left.filter (· != 16 * r.val + b) }, groupSent := [] }
  sendGroup r b (s.queue (qGroupAddr r.val b)).frames.length s

/-- Send the beacon of a BSS, so long on the air, through an open gate (R151, R152, R423). -/
def sendBeacon (s : State) (r : Radio) (b ns : Nat) : State :=
  if grantUnits s 10 (bookKey r.val 1 b) = 0 then beaconSkip s r b
  else match powered s r (ownReq 2 b 3 0 ns none) with
    | (s, none) => beaconSkip s r b
    | (s, some (c, x)) =>
      let el := bssEl r.val b
      let prot := bit (bssF s r.val b 14 1) 0
      match (if prot then takePn s (bssF s r.val b 20 2) else (s, .value 0)) with
      | (s, .value pn) =>
        let count := tgetD s.mac.dtimCount el 0
        let p := ownReq 2 b 3 0 ns none
        let f := beaconBytes s r.val b count (reqStart s r c p)
        let s := if prot then txJob s (bssF s r.val b 20 2) pn f.length 0x10000 else s
        let (s, mme) := if prot then mmeBytes s (bssF s r.val b 20 2) pn else (s, [])
        let s := bumpBssSn s el
        let s := s.setMac { s.mac with
          beacons := tput s.mac.beacons el (tgetD s.mac.beacons el 0 + 1), lastBeacon := tput s.mac.lastBeacon el (f ++ mme)
          dtimCount := tput s.mac.dtimCount el (if count = 0 then bssF s r.val b 9 1 - 1 else count - 1) }
        let s := (launch s r p c x [] false).release 10 (bookKey r.val 1 b)
        if count = 0 then afterDtim s r b else s
      | (s, _) => beaconSkip s r b

/-- A Probe Response from the template, a contention frame in AC_VO, its Timestamp the TSF at S (R153). The gate is open. -/
def sendProbe (s : State) (r : Radio) (p : PpduReq) : State :=
  match powered s r p with
  | (s, none) => s
  | (s, some (c, x)) =>
    let el := bssEl r.val p.id
    let t := s.objB 0x3012 el
    let body := sub t 36 (fld t 34 2)
    let start := reqStart s r c p
    let s := s.setMac { (bumpBssSn s el).mac with lastProbe := tput s.mac.lastProbe el (le 8 (tsfAt s start) ++ body.drop 8) }
    launch s r p c x [] false

/-! ### Power-save delivery (R170) -/

/-- The ACs with a frame for the station on the link, highest first. -/
def heldAcs (s : State) (r n : Nat) (acs : List Nat) : List Nat :=
  ([3, 2, 0, 1].filter fun a => acs.contains a).filter fun a =>
    decide (0 < queuedBytes s r n a) || s.mac.retry.any fun m => m.sta == n && acOf m.tid == a

/-- Take so many frames from the head of a station's queue, whatever its PS. -/
def takeAsleep (s : State) (r : Radio) (n a k : Nat) : State :=
  (List.range k).foldl (fun s _ =>
    match (s.queue (qStation n a)).frames.head? with
    | some f => if mapBit (dlTtlm s n) f.tid r.val = true ∧ f.inDram = false then radioTake s r (qStation n a) else s
    | none => s) s

/-- MPDUs of several ACs for a station, highest first, at most `k`. -/
def gatherAcs (r : Radio) (n : Nat) : List Nat → Nat → State → List TxMpdu → State × List TxMpdu
  | [], _, s, acc => (s, acc)
  | a :: as, k, s, acc =>
    if k ≤ acc.length then (s, acc)
    else
      let (s, ms) := gather (takeAsleep s r n a (k - acc.length)) r n a (k - acc.length)
      gatherAcs r n as k s (acc ++ ms)

/-- More Data while more remain, EOSP in the last frame of a U-APSD service period (R170). -/
def markLast (more eosp : Bool) : List TxMpdu → List TxMpdu
  | [] => []
  | [m] => [{ m with more, eosp }]
  | m :: ms => { m with more := true } :: markLast more eosp ms

/-- Deliver frames of a sleeping station that asked for them: the request names the station and how many at most; those of a
service period come from every trigger-enabled AC, which `busy` lists as a bitmap. The gate is open. -/
def sendAwake (s : State) (r : Radio) (p : PpduReq) : State :=
  match p.sta with
  | none => s
  | some n =>
    if nstrBlocked s r.val n p then s
    else match powered s r p with
      | (s, none) => s
      | (s, some (c, x)) =>
        let sp := s.mac.uapsd.contains (n, r.val)
        let acs := (List.range 4).filter fun a => bit p.busy a
        match gatherAcs r n (heldAcs s r.val n acs) p.mpdus s [] with
        | (s, []) => s.release 4 r.val
        | (s, ms) => launch (noteRate s r.val n) r p c x (markLast (!(heldAcs s r.val n acs).isEmpty) sp ms) true

/-! ### PPDU assembly (R109, R172) -/

/-- One request of a WLAN radio through an open gate. -/
def assemble (s : State) (r : Radio) (p : PpduReq) : State :=
  if p.kind = 2 then sendBeacon s r p.id p.durNs
  else if p.form = 4 then sendProbe s r p
  else if p.form = 5 then sendAwake s r p
  else if p.kind = 0 ∧ responseBooked s r.val = false then s
  else match powered s r p with
    | (s, none) => s
    | (s, some (c, x)) =>
      if p.kind = 0 then launch s r p c x [] false
      else if p.kind = 3 then sendPlanned s r p c x
      else sendSingle s r p c x

/-- A request that meets a closed gate is held, but for a response and for every request in FAULT, which are returned with
SYNTH_BUSY; a beacon is then skipped (R107, R109). -/
def meetGate (s : State) (r : Radio) (p : PpduReq) : State :=
  if p.kind ≠ 0 ∧ (s.fe r).st ≠ .fault then holdReq s r p
  else
    let s := returnReq s r p.id 0x20
    if p.kind = 2 then beaconSkip s r p.id else s

/-- A transmit request meets the gate (R109). One of the device's own that finds an exchange in progress waits for its end. -/
def requestTx (s : State) (r : Radio) (p : PpduReq) : State :=
  if gateOpen (s.fe r) = false then meetGate s r p
  else if (s.fe r).tx.isSome ∧ p.kind ≠ 0 ∧ p.kind ≠ 2 then s.modFe r fun f => { f with held := f.held ++ [p] }
  else assemble s r p

/-- A held request is judged once, at the instant the gate opens (R109): S0 is that instant plus TR_LEAD plus 2 µs, and the
request fits when S0 plus its air time, the response it requires included, is at or before its deadline. One that fits and
finds an exchange in progress waits for its end. -/
def judgeHeld (s : State) (r : Radio) (p : PpduReq) : State :=
  let resp := match (s.fe r).chan with | some c => if p.respNs = 0 then 0 else sifs c + p.respNs | none => 0
  let fits : Bool := match p.deadline with
    | none => true
    | some d => decide (s.datum.t.nanos + femTiming s r 0 + 2000 + p.durNs + reqRamp s r p + resp ≤ d)
  if fits = false then
    let s := returnReq s r p.id 0x20
    if p.kind = 2 then beaconSkip s r p.id else s
  else requestTx s r p

/-- An exchange has ended: the requests that waited for it go on. -/
def resumeHeld (s : State) (r : Radio) : State :=
  if gateOpen (s.fe r) then (s.fe r).held.foldl (fun s p => requestTx s r p) (s.modFe r fun f => { f with held := [] }) else s

/-- TBTT, every instant at which TSF mod (interval × 1,024) is 16 times the BSS's offset: the radio contends and sends its
BSS's beacon, holds it at a closed gate until the next TBTT, or skips it (R109, R151). -/
def tbttAt (r : Radio) (b : Nat) (mediumFree : Bool) (s : State) : State :=
  let period := bssF s r.val b 10 2 * 1024
  if isWlan s r = false ∨ bssOn s r.val b = false ∨ pairSends s 0 = false ∨ s.mac.tsf % period ≠ 16 * bssF s r.val b 12 2 then s
  else if mediumFree = false then beaconSkip s r b
  else
    let (ns, s) := s.draw
    requestTx s r (ownReq 2 b 3 0 ns (some (s.datum.t.nanos + period * 1000)))

/-- PROBE_REQUEST: answered when it asks for this BSS or any, and delivered with PROBE_TO_FW (R153). -/
def execProbeRequest (r : Radio) (b : Fin 16) (p : ProbeReq) (s : State) : Out := live s fun s =>
  if isWlan s r = false ∨ bssOn s r.val b.val = false ∨ delivers s r 0 = false then s
  else
    let t := s.objB 0x3012 (bssEl r.val b.val)
    let ssid := sub t 1 (fld t 0 1)
    let wild : Bytes := List.replicate 6 0xFF
    let mine := (p.ssid = [] ∨ p.ssid = ssid) ∧ (p.bssid = wild ∨ p.bssid = sub (s.objB 0x3010 (bssEl r.val b.val)) 1 6)
    if mine then
      let (ns, s) := s.draw
      let s := if pairSends s 0 = true ∧ t ≠ [] then requestTx s r (ownReq 1 b.val 3 4 ns none) else s
      if bit (bssF s r.val b.val 14 1) 2 then
        let (rssi, s) := s.draw
        let (rate, s) := s.draw
        mrxDeliver s r.val 0xFFFF (if p.bssid = wild then 0 else b.val) 0 0 rssi rate p.body
      else s
    else s

/-- PPDU_ASSEMBLY: a WLAN radio that transmits nothing begins a PPDU (R172). -/
def ppduAssembly (r : Radio) (p : PpduReq) (s : State) : State :=
  if isWlan s r = false ∨ (s.fe r).tx.isSome ∨ onAir s r = true ∨ (s.fe r).st = .diag ∨ pairSends s 0 = false ∨ p.kind = 4 then s
  else requestTx s r p

/-- ACK_RECEIVE: the exchange in progress ends, acknowledged (R163). -/
def ackReceive (r : Radio) (acked : List (Nat × Nat × Nat)) (s : State) : State :=
  match (s.fe r).tx with
  | none => s
  | some _ => resumeHeld (ackDone r acked s) r

/-- ACK_TIMEOUT: the exchange in progress ends without an answer (R163). -/
def ackTimeout (r : Radio) (s : State) : State :=
  match (s.fe r).tx with
  | none => s
  | some _ => resumeHeld (ackMissed r s) r

/-- PS_POLL: one held MPDU is delivered on the link of the poll (R170), or an Ack where none is held. -/
def execPsPoll (r : Radio) (sta : Nat) (s : State) : Out := live s fun s =>
  if isWlan s r = true ∧ delivers s r 0 = true ∧ staState s sta = 3 ∧ linkUp s sta r.val = true then
    match heldAcs s r.val sta [0, 1, 2, 3] with
    | a :: _ =>
      let (ns, s) := s.draw
      requestTx s r { ownReq 1 0 a 5 ns none with sta := some sta, busy := 15 }
    | [] => respond s r sta
  else s

/-- UAPSD_TRIGGER: a service period on that link; up to the station's maximum from its trigger-enabled ACs (R170). -/
def execUapsdTrigger (r : Radio) (sta : Nat) (sp : ApsdTrigger) (s : State) : Out := live s fun s =>
  if isWlan s r = true ∧ delivers s r 0 = true ∧ staState s sta = 3 ∧ linkUp s sta r.val = true ∧ linkCaps s sta r.val 5 = true then
    match heldAcs s r.val sta sp.acs with
    | a :: _ =>
      let s := s.setMac { s.mac with uapsd := (s.mac.uapsd.filter (· != (sta, r.val))) ++ [(sta, r.val)] }
      let (ns, s) := s.draw
      requestTx s r { ownReq 1 0 a 5 ns none with sta := some sta, mpdus := sp.maxSp, busy := sp.acs.foldl (fun m a => setBit m a true) 0 }
    | [] => s
  else s

/-! ### Trigger-based uplink (R192 to R196) -/

/-- One user of a TB PPDU. -/
def tbUser (s : State) (r : Radio) (sounding : Bool) (u : TbUser) : State :=
  let n := u.sta
  if u.valid then
    let s := s.setMac { s.mac with missRun := tdel s.mac.missRun n, excluded := s.mac.excluded.filter (· != n)
                                   heard := tput s.mac.heard (4 * n + r.val) s.now
                                   soundAt := if sounding then tput s.mac.soundAt n s.now else s.mac.soundAt }
    trackLoss (if u.ac < 4 ∧ sounding = false then setReport s n u.ac u.bytes else s) r u.lossSymbols
  else
    let k := tgetD s.mac.missRun n 0 + 1
    let s := planFlag (planStat s r.val 4 1) r.val 1
    s.setMac { s.mac with missRun := tput s.mac.missRun n k
                          excluded := if 3 ≤ k ∧ s.mac.excluded.contains n = false then s.mac.excluded ++ [n] else s.mac.excluded }

/-- The Multi-STA BlockAck at the booked power, then the booking is released (R195, R196). -/
def multiBlockAck (s : State) (r : Radio) : State :=
  let key := bookKey r.val 3 0
  let (ns, s) := s.draw
  if gateOpen (s.fe r) = true ∧ grantUnits s 10 key = 0 then prebookRefused s r.val
  else
    let (s, code) := sendBooked s r 0 key ns
    (if code = 0x23 then prebookRefused s r.val else s).release 10 key

/-- A TB PPDU's user as the decoder sees it (R127, R128). -/
def tbRx (u : TbUser) : RxUser := { bcc := u.bcc, rate := u.rate, nss := u.nss }

/-- A TB PPDU is received that starts within 0.8 us of SIFS after the trigger's nominal end (*Trigger-based uplink events*). -/
def tbInTime (s : State) (r : Radio) (startNs : Nat) : Bool :=
  match (s.fe r).chan with | some c => decide (sifs c ≤ startNs + 800 ∧ startNs ≤ sifs c + 800) | none => false

/-- TB_PPDU_RECEIVE: the users within the BCC capacity, each on its own RU with its own loops; then the BlockAck, or nothing
when no user answered (R127, R128, R132, R192, R195; log entry 165). -/
def tbPpduReceive (r : Radio) (startNs : Nat) (users : List TbUser) (s : State) : State :=
  match (s.fe r).tx with
  | none => s
  | some t =>
    let users := if tbInTime s r startNs then users else users.map fun u => { u with valid := false }
    let (s, _) := endExchange s r
    let got := (users.zip (bccKeep 0 (users.map tbRx))).filterMap fun x => if x.2 || !x.1.valid then some x.1 else none
    let s := bccDrop s r (users.length - got.length)
    let s := s.modFe r fun f => { f with tbLoops := (got.filter (·.valid)).map fun u => (u.ru, u.freq, u.sfo) }
    let s := got.foldl (fun s u => tbUser s r (t.req.form == 3) u) s
    let s := if (got.any (·.valid)) = true ∧ t.req.form ≠ 3 then multiBlockAck s r else s.release 10 (bookKey r.val 3 0)
    resumeHeld s r

/-- PEER_TRIGGER: with PEER_TRIGGER set and its booking held, the trigger of a PEER is answered unless it requires
carrier sense and a subchannel is busy (R194, R196). What it carries is free (log entry 166). -/
def execPeerTrigger (r : Radio) (sta : Nat) (csRequired busy : Bool) (durNs : Nat) (s : State) : Out := live s fun s =>
  if isWlan s r = false ∨ delivers s r 0 = false ∨ planFlagOn s r.val 3 = false ∨ staKind s sta ≠ 2 ∨ staState s sta ≠ 3 ∨
      (csRequired = true ∧ busy = true) then s
  else if gateOpen (s.fe r) = true ∧ peerBooked s r.val = false then prebookRefused s r.val
  else
    let (s, code) := sendBooked s r sta (bookKey r.val 0 1) durNs
    if code = 0x23 then prebookRefused s r.val else s

/-! ### Cipher jobs that are lost (R64, R181, R338, R339) -/

/-- The MPDU in flight that a transmit job was for, with its radio. -/
def jobMpdu (s : State) (j : Job) : Option (Radio × TxMpdu) :=
  (List.finRange 3).findSome? fun r => ((s.mac.inFlight[r]).find? fun m => m.pn == j.counter && m.slot == j.slot).map fun m => (r, m)

/-- An 802.11 transmit job ended without output: lost to a lane it goes back to the head of its queue, otherwise it is dropped
(R180, R181, R337). -/
def mpduJobEnded (s : State) (j : Job) (code : Nat) : State :=
  match jobMpdu s j with
  | some (r, m) =>
    let s := s.setMac { s.mac with inFlight := vmod s.mac.inFlight r fun l => l.erase m }
    if code = 2 ∨ code = 6 then toHead s m
    else mpduDropped (if code = 5 then pnExhausted s r.val else s) r.val m
  | none => s

/-- A Chain frame whose job ended without output does not leave; its counter value is spent (R339). -/
def chainJobEnded (s : State) (r : Nat) (j : Job) (code : Nat) : State :=
  if h : r < 3 then
    let keep (x : ChainRadio) : ChainRadio := { x with sent := x.sent.filter fun f => f.counter != j.counter }
    returnReq { s with chain := { s.chain with radios := vmod s.chain.radios ⟨r, h⟩ keep } } ⟨r, h⟩ 0 code
  else s

/-- The owner of a job turns its result into its own (*Job results*, R339): a frame of a port leaves when its job ends OK and is
dropped otherwise; the DMA engine reads its result later; a reception had it with its frame. -/
def jobEnded (e : JobEnd) : State :=
  match e with
  | (s, none) => s
  | (s, some (j, code)) =>
    match j.owner with
    | .mpdu => if code = 0 then s else mpduJobEnded s j code
    | .chain r => if code = 0 then s else chainJobEnded s r j code
    | .port f => if code = 0 then portSent s f else if code = 5 then portFlag (ethStat s f.port 14 1) f.port 4 else s
    | .reception => s
    | .dma => s.setSec { s.sec with results := tput s.sec.results j.id (code, j) }

/-- CIPHER_JOB_START: the free lane takes a job, or the job ends unstarted (R27, R337, R340, R347). -/
def execCipherJobStart (l : Fin 12) (key : EccObs) (s : State) : Out := live s fun s => jobEnded (jobStart l key s)

/-- CIPHER_JOB_DONE: the lane's job completes, or its tag did not verify (R336, R341). -/
def execCipherJobDone (l : Fin 12) (tagOk : Bool) (s : State) : Out := live s fun s => jobEnded (jobDone l tagOk s)

/-- LANE_PARITY: the job is lost and its MPDU is sent again under the same PN (R181, R338). -/
def execLaneParity (l : Fin 12) (s : State) : Out := live s fun s =>
  match (s.lane l).job with
  | some j => jobEnded (laneParity s l j, some (j, 2))
  | none => s

/-- ABORT_CIPHER_LANE: the lane's job is taken off (R64, R339). Answers whether one ran. -/
def abortLane (l : Fin 12) (s : State) : State × Bool :=
  match (s.lane l).job with
  | some j => (jobEnded (laneAbort s l j, some (j, 6)), true)
  | none => (s, false)

/-- ABORT_CIPHER_LANE. -/
def execAbortCipherLane (l : Fin 12) (s : State) : Out := live s fun s =>
  let (s, ran) := abortLane l s
  s.abortDone 3 l.val 0 ran 2000

end Sys2Proof.Machine
end

