-- ==== Sys2Proof/Machine/Chain.lean ====
section
/-! DEFINITION. Chain mode (08_chain_mode): schedules and hopping, the coordinator's beacons, downlink, acknowledgements
and member table, the member role. -/

namespace Sys2Proof.Machine
open Sys2Proof

def State.setChain (s : State) (x : ChainUnit) : State := { s with chain := x }
def State.cr (s : State) (r : Radio) : ChainRadio := s.chain.radios[r]
def State.modCr (s : State) (r : Radio) (f : ChainRadio → ChainRadio) : State :=
  s.setChain { s.chain with radios := vmod s.chain.radios r f }

def chainStat (s : State) (r k : Nat) : State := s.stat 0x3840 (r + 1) k 1
def chainFlag (s : State) (r b : Nat) : State := s.setFlag 0x3841 (r + 1) b
def isCoordinator (s : State) (r : Radio) : Bool := isChain s r && s.objN 0x3800 (r.val + 1) == 0
def isMember (s : State) (r : Radio) : Bool := isChain s r && s.objN 0x3800 (r.val + 1) == 1

/-! ### CHAIN_CONFIG, HOP_CONFIG, SLOT_RUNS -/

def cfgPan (c : Bytes) : Nat := fld c 0 2
def cfgExt (c : Bytes) : Bytes := sub c 2 8
def cfgLen (c : Bytes) : Nat := fld c 10 2
def cfgWindow (c : Bytes) : Nat := fld c 12 1
def cfgBeaconRate (c : Bytes) : Nat := fld c 13 1
def cfgAbsent (c : Bytes) : Nat := fld c 14 1
def cfgDrift (c : Bytes) : Nat := fld c 15 1
def cfgPersist (c : Bytes) : Nat := fld c 16 1
def cfgRetry (c : Bytes) : Nat := fld c 17 1
def cfgStep (c : Bytes) : Nat := fld c 18 1
def cfgJoinOpen (c : Bytes) : Bool := bit (fld c 19 1) 0
def cfgNetKey (c : Bytes) : Nat := fld c 20 2
def cfgJoinKey (c : Bytes) : Nat := fld c 22 2
def cfgKey (c : Bytes) : Nat := fld c 24 2

/-- Runs as the beacon and SLOT_RUNS list them: count U16, kind U8, length U8 in units minus one. -/
def runsAt (b : Bytes) (off n : Nat) : List (Nat × Nat × Nat) :=
  (List.range n).map fun i => (fld b (off + 4 * i) 2, fld b (off + 4 * i + 2) 1, fld b (off + 4 * i + 3) 1 + 1)

/-- The hop list (R207). -/
def hopList (ch0 spacing m : Nat) : List Nat := (List.range m).map fun k => ch0 + k * spacing

/-- D: the least maximum dwell among the entries that hold the hop channels, 0 none (R207). -/
def dwellOf (s : State) (hops : List Nat) : Nat :=
  (((List.range (s.objN 0x7020 0)).map fun i => regChan s (i + 1)).filter fun e =>
    e.tx && e.dwell != 0 && hops.any fun h => decide (e.lo ≤ h ∧ h ≤ e.hi)).foldl
    (fun b e => if b = 0 then e.dwell else min b e.dwell) 0

/-- The schedule the dictionary gives a radio. -/
def latchSched (s : State) (r : Radio) : Sched :=
  let el := r.val + 1
  let c := s.objB 0x3801 el
  let h := s.objB 0x3802 el
  let t := s.objB 0x3803 el
  { len := cfgLen c, window := cfgWindow c, runs := runsAt t 2 (min 32 (fld t 0 1)), ch0 := fld h 0 4, spacing := fld h 4 2,
    m := fld h 6 1, seed := fld h 8 2, dwell := dwellOf s (hopList (fld h 0 4) (fld h 4 2) (fld h 6 1)),
    persist := cfgPersist c, step := cfgStep c, cfg := c }

/-! ### Slots, groups, hops (R205, R208, R209) -/

/-- Slots in order: kind and length in 250 us units. -/
def slotList (runs : List (Nat × Nat × Nat)) : List (Nat × Nat) := runs.flatMap fun x => List.replicate (min x.1 1024) (x.2.1, x.2.2)

def slotKind (d : Sched) (i : Nat) : Option Nat := ((slotList d.runs)[i]?).map (·.1)
/-- Length of a slot in ns. -/
def slotNs (d : Sched) (i : Nat) : Nat := ((((slotList d.runs)[i]?).map (·.2)).getD 0) * 250000

/-- 250 us units of a chain before slot `i` (R205). -/
def slotBegin (d : Sched) (i : Nat) : Nat := (((slotList d.runs).take i).map (·.2)).sum

/-- First slots of the hop groups: a slot joins while the group's duration does not exceed D (R208). -/
def groupStarts (units : Nat) : Nat → Nat → List (Nat × Nat) → List Nat
  | _, _, [] => []
  | i, acc, x :: l =>
    if i = 0 then 0 :: groupStarts units 1 x.2 l
    else if units ≠ 0 ∧ units < acc + x.2 then i :: groupStarts units (i + 1) x.2 l
    else groupStarts units (i + 1) (acc + x.2) l

def groupsOf (d : Sched) : List Nat := groupStarts (4 * d.dwell) 0 0 (slotList d.runs)

/-- The group of a slot. -/
def slotGroup (d : Sched) (i : Nat) : Nat := ((groupsOf d).filter fun g => decide (g ≤ i)).length - 1

def swapAt (p : List Nat) (i j : Nat) : List Nat := (p.set i ((p[j]?).getD 0)).set j ((p[i]?).getD 0)

/-- R209's permutation: from i = k down to 1. -/
def permSteps : Nat → Nat → List Nat → List Nat
  | 0, _, p => p
  | i + 1, x, p =>
    let x := (x * 1664525 + 1013904223) % 2 ^ 32
    permSteps i x (swapAt p (i + 1) (x / 65536 % (i + 2)))

def permutation (seed m : Nat) : List Nat := permSteps (m - 1) seed (List.range m)

/-- The channel of group g of chain N, in kHz (R209). -/
def groupChannel (d : Sched) (n g : Nat) : Nat :=
  let m := max 1 d.m
  let gs := (groupsOf d).length
  let perm := permutation d.seed m
  let at_ (k : Nat) : Nat := (perm[k % m]?).getD 0
  let c := if g + 1 = gs ∧ (n + g) % m = (n + 1) % m then at_ (n + gs) else at_ (n + g)
  d.ch0 + c * d.spacing

/-- Occupied bandwidth of a Chain channel in kHz: the widest of the enabled FSK rates and the MR-OFDM option
(log entry 31). -/
def chainBw (s : State) (r : Radio) : Nat :=
  let p := s.objB 0x2103 (r.val + 1)
  let fsk := (List.range 8).map fun c => if bit (fld p 0 1) c then ([100, 100, 200, 200, 225, 225, 300, 300][c]?).getD 0 else 0
  max (fsk.foldl max 0) (([0, 1094, 552, 281, 156][fld p 1 1]?).getD 0)

/-- The radio is to be on a channel from a slot boundary on (R105, R210): a reception in progress is abandoned, an older
request for a channel is replaced (R104). -/
def hopTo (s : State) (r : Radio) (khz : Nat) : State :=
  let c := chanOf khz (chainBw s r)
  let f := s.fe r
  if f.chan = some c then s.modFe r fun f => { f with pending := none }
  else
    let s := if f.rx.isSome then chainStat s r.val 8 else s
    if f.st = .ready then beginChange s r c else if f.st = .off then s else requestChannel s r c

/-- The first channel of a Chain radio: the coordinator's of chain 0, a member's first hop channel (R204, R223). -/
def firstChannel (s : State) (r : Radio) : Chan :=
  let d := latchSched s r
  chanOf (if isCoordinator s r then groupChannel d (s.cr r).number 0 else d.ch0) (chainBw s r)

/-! ### Frames and air time (R206, R212; *MR-FSK rate codes*) -/

def fskKbps (code : Nat) : Nat := ([50, 50, 100, 100, 150, 150, 200, 200][code]?).getD 50

/-- Air time in ns of an MPDU of so many octets at a RATE (log entry 32). -/
def chainAir (s : State) (r : Radio) (rate n : Nat) : Nat :=
  let p := s.objB 0x2103 (r.val + 1)
  let pre := fld p 4 1
  if bit rate 7 then
    (match ofdmKbps (fld p 1 1) (rate % 8) with | some k => 8 * n * 1000000 / k | none => 0) + Config.ofdmOverhead (fld p 1 1) (rate % 8) n
  else if rate % 2 = 1 then (8 * (pre + 2) + 16 * (n + 3)) * 1000000 / fskKbps (rate % 8)
  else 8 * (pre + 4 + n) * 1000000 / fskKbps (rate % 8)

/-- FCS octets (CHAIN_PHY flags bit 3). -/
def chainFcs (s : State) (r : Radio) : Nat := if bit (s.objF 0x2103 (r.val + 1) 3 1) 3 then 4 else 2

/-- Octets of an MPDU: MHR with two short addresses or one of them extended, Chain header, body, MIC, FCS (R212). -/
def frameOctets (s : State) (r : Radio) (ext : Bool) (body : Nat) : Nat :=
  (if ext then 21 else 15) + 2 + body + 4 + chainFcs s r

/-- Octets of an MPDU by its kind. -/
def chainOctets (s : State) (r : Radio) (kind body : Nat) : Nat :=
  frameOctets s r (kind == 0 || kind == 4 || kind == 5) body

/-- The ramp-down after a Chain frame: MR-OFDM's or MR-FSK's (R135). -/
def chainRamp (s : State) (r : Radio) (rate : Nat) : Nat := rampDown s r (if bit rate 7 then 0 else 2)

/-- The security level of a frame: 1 for beacons and acknowledgements, 5 otherwise (*Key indices*; an acknowledgement under
the join key as one under a pairwise key, log entry 157). -/
def chainLevel (kind : Nat) : Nat := if kind = 0 ∨ kind = 3 then 1 else 5

/-- *Chain MHR*. The bit places of Frame Control and Security Control are IEEE 802.15.4's (log entry 157). -/
def chainMhr (pan : Nat) (f : ChainSent) : Bytes :=
  let typ := if f.kind = 0 then 0 else if f.kind = 1 ∨ f.kind = 2 then 1 else if f.kind = 3 then 2 else 3
  let mode (a : Bytes) : Nat := if a.length = 8 then 3 else 2
  let fc := typ + 8 + (if f.pending then 16 else 0) + (if f.ar then 32 else 0) + 64 + 1024 * mode f.dst + 8192 + 16384 * mode f.src
  le 2 fc ++ le 1 f.seq ++ le 2 pan ++ f.dst ++ f.src ++ le 1 (chainLevel f.kind + 8) ++ le 4 f.counter ++ le 1 f.keyIndex

/-- *Chain header*. -/
def chainHdr (f : ChainSent) : Bytes :=
  le 1 (16 * f.kind + (if f.retry then 8 else 0) + (if f.more then 4 else 0)) ++ le 1 (16 * min 15 f.missed)

/-- The short address of a destination or source: the coordinator's 0000h, broadcast FFFFh, a member's own. -/
def shortBytes (n : Nat) : Bytes := le 2 n

/-- A DATA payload from an Ethernet frame: EtherType little-endian, then the packet, a tag discarded (R234). -/
def chainPayload (b : Bytes) : Bytes :=
  let tagged := beF b 12 2 = 0x8100 ∨ beF b 12 2 = 0x88A8
  let o := if tagged then 16 else 12
  le 2 (beF b o 2) ++ b.drop (o + 2)

/-- The Ethernet frame of a DATA payload from a member (R234). -/
def memberFrame (s : State) (r short : Nat) (p : Bytes) : Bytes :=
  s.objB 0x4004 0 ++ [0x02, 0x00, 0x5A] ++ le 1 r ++ be 2 short ++ be 2 (fld p 0 2) ++ p.drop 2

/-! ### The member table -/

def mF (s : State) (n off w : Nat) : Nat := s.objF 0x3810 n off w
def mState (s : State) (n : Nat) : Nat := mF s n 0 1
def mRadio (s : State) (n : Nat) : Nat := mF s n 1 1
def mShort (s : State) (n : Nat) : Nat := mF s n 2 2
def mExt (s : State) (n : Nat) : Bytes := sub (s.objB 0x3810 n) 4 8
def mKey (s : State) (n : Nat) : Nat := mF s n 12 2
def mRate (s : State) (n : Nat) : Nat := mF s n 16 1
def setM (s : State) (n off w v : Nat) : State := s.setObjF 0x3810 n off w v

/-- A member entry has changed: it is mirrored (R436). -/
def memberTouched (s : State) (n : Nat) : State := s.mirrorObj 4 0x3810 n

/-- Members of a radio. -/
def membersOf (s : State) (r : Nat) : List Nat :=
  (setElements s 0x3810).filter fun n => decide (1 ≤ n) && mState s n != 0 && mRadio s n == r

def memberCount (s : State) : Nat := ((setElements s 0x3810).filter fun n => decide (1 ≤ n) && mState s n != 0).length

def memberByShort (s : State) (r short : Nat) : Option Nat := (membersOf s r).find? fun n => mShort s n == short

def mirrorChain (s : State) (r : Radio) : State :=
  let c := s.cr r
  s.mirror 4 (.chain r c.number c.bStamp.sec c.bStamp.ns c.schedVer)

/-- The downlink frames of a member in the radio's Chain queues are discarded and counted (R224, R226). -/
def dropDownlink (s : State) (r : Radio) (n : Nat) : State :=
  (List.range 8).foldl (fun s c =>
    let q := qChain r.val c (n - 1)
    let k := ((s.queue q).frames.filter fun f => f.dst == n).length
    (List.range k).foldl (fun s _ => chainStat s r.val 13) (flushFor s q n)) s

/-- The CHAIN_CONFIG in force: a running coordinator's as latched at its last head (R228). -/
def chainCfg (s : State) (r : Radio) : Bytes :=
  if isCoordinator s r = true ∧ (s.cr r).running = true then (s.cr r).sched.cfg else s.objB 0x3801 (r.val + 1)

/-! ### Sending (R109, R114, R206, R211, R213, R423) -/

/-- A Chain transmission that is to be: S, air time, RATE. -/
structure ChainAir where
  start : Nat
  ns : Nat
  rate : Nat
  deriving DecidableEq, Repr

/-- May a Chain transmission be made under a booking, at its S: through a gate that is open TR_LEAD plus 2 us before it, or the
slot is skipped (R109); its RFFE writes done, or it is skipped (R97); permitted by the guard, duty refusals skipping the slot
(R114 to R116); powered. Answers its channel and DAC power. -/
def chainMay (s : State) (r : Radio) (key : Nat) (a : ChainAir) : State × Option (Chan × Int) :=
  let ns := a.ns + chainRamp s r a.rate
  if gateOpen (s.fe r) = false ∨ a.start < s.now + femTiming s r 0 + 2000 then (chainStat (s.radioFlag 0x2051 r.val 4) r.val 2, none)
  else if (s.cr r).rffeDone = false ∨ rffeOverdue s r = true then (chainStat (returnReq (s.setFlag 0x2040 0 3) r 0 0xFF) r.val 2, none)
  else match (s.fe r).chan with
    | none => (s, none)
    | some c =>
      match regJudge s r c 600 a.start ns with
      | .error code =>
        let s := if code = 0x21 then chainStat (countDuty s c ns) r.val 2 else s
        (returnReq s r 0 code, none)
      | .ok e =>
        if grantUnits s 10 key = 0 then (s, none)
        else match grantedPower s r e c 600 (grantUnits s 10 key) with
          | some p => (s, some (c, p))
          | none => (returnReq s r 0 0x23, none)

/-- The key, its counter, and the frame on its way (R91, R212, R213): `false` when it could not be protected. -/
def chainSend (s : State) (r : Radio) (slot : Nat) (a : ChainAir) (cp : Chan × Int) (f : ChainSent) : State × Bool :=
  match takeCounter s slot with
  | (s, .value c) =>
    let s := queueJob s 1 slot true (some c) f.body.length (.chain r.val)
    let s := transmit s r 0 4 a.start a.ns (chainRamp s r a.rate) cp.1 cp.2
    let p := s.objB 0x2103 (r.val + 1)
    let cfg := chainCfg s r
    let f := { f with counter := c, missed := if isMember s r then (s.cr r).missed else 0, rate := a.rate,
                      preamble := fld p 4 1, flags := fld p 3 1, nonce := cfgExt cfg ++ le 4 c ++ le 1 (chainLevel f.kind) }
    let f := { f with mhr := chainMhr (cfgPan cfg) f, header := chainHdr f }
    (s.modCr r fun x => { x with sent := f :: x.sent }, true)
  | (s, .exhausted) => (returnReq s r 0 0x30, false)
  | (s, _) => (s, false)

/-- The next sequence number to a destination (entry, 0 the coordinator, 10000h broadcast, 20000h + entry a response). -/
def seqAt (s : State) (r : Radio) (dst : Nat) : Nat := tgetD (s.cr r).txSeq dst 0

/-- A frame to a destination has taken its sequence number. -/
def bumpSeq (s : State) (r : Radio) (dst : Nat) : State :=
  s.modCr r fun x => { x with txSeq := tputD x.txSeq dst ((tgetD x.txSeq dst 0 + 1) % 256) 0 }

/-- CCM* authentication of a received frame under the slot its Key Index names: one cipher job, and no frame verifies under a
slot that does not serve receive (R27, R216, R337). -/
def chainVerified (s : State) (slot : Nat) (f : ChainFrame) : State × Bool :=
  if servesRx s 2 slot then (queueJob s 2 slot false none f.body.length .reception, f.micOk) else (s, false)

/-- The air time of an acknowledgement: extended-addressed when it answers a join frame (R212). -/
def ackAir (s : State) (r : Radio) (rate : Nat) (ext : Bool := false) : Nat := chainAir s r rate (frameOctets s r ext 4)

/-- An acknowledgement, 300 us after the frame's nominal end: a response frame under the standing booking (R109, R206, R216,
R423). `f` gives its sequence number, correction and addresses. -/
def chainAck (s : State) (r : Radio) (slot rate : Nat) (f : ChainSent) : State :=
  let a : ChainAir := { start := s.now + 300000, ns := ackAir s r rate (f.dst.length == 8 || f.src.length == 8), rate }
  if gateOpen (s.fe r) = false then returnReq s r 0 0x20
  else if responseBooked s r.val = false then s
  else match chainMay s r (bookKey r.val 0 0) a with
    | (s, none) => s
    | (s, some cp) => (chainSend s r slot a cp f).1

/-- An acknowledgement's frame. -/
def ackFrame (entry seq keyIndex : Nat) (corr : Int) (pending : Bool) (dst src : Bytes) : ChainSent :=
  { kind := 3, entry, seq, retry := false, counter := 0, body := le 1 seq ++ [0] ++ leInt 2 corr, keyIndex, pending, dst, src }

/-! ### Beacons (R211, R214, R221, R228) -/

def beaconSkipped (s : State) (r : Radio) : State := chainFlag (chainStat s r.val 1) r.val 6

/-- The radio's Chain queues that hold frames. -/
def chainQueues (s : State) (r : Radio) : List Nat := (busyQueues s (5 + r.val)).filter fun q => decide (8296 ≤ q ∧ q < 8440)

/-- Short addresses with held downlink, what awaits its sending or retransmission before what is queued, at most 16; FFFFh for
broadcast (R221). -/
def announcements (s : State) (r : Radio) : List Nat :=
  let c := s.cr r
  let first := ((c.resps.filter (·.kind == 6)).map (·.entry) ++ (c.retry.filter fun t => t.kind == 1 && t.entry != 0).map (·.entry)).map (mShort s)
  let dsts := first ++ (chainQueues s r).flatMap fun q => (s.queue q).frames.map fun f => if f.dst = 0 then 0xFFFF else mShort s f.dst
  (dsts.foldl (fun l d => if l.contains d then l else l ++ [d]) []).take 16

/-- The beacon's body (*Chain frame bodies*). -/
def beaconBody (s : State) (r : Radio) (t : DatumVal) (synced : Bool) : Bytes :=
  let c := s.cr r
  let d := c.sched
  let ds := c.deltas.filter (0 < ·.2.2)
  le 4 c.number ++ t.enc ++ le 2 d.len ++ le 1 d.window ++
    le 1 ((if cfgJoinOpen d.cfg then 1 else 0) + (if synced then 2 else 0) + (if c.stepped then 4 else 0)) ++
    le 4 d.ch0 ++ le 2 d.spacing ++ le 1 d.m ++ le 1 d.persist ++ le 2 d.seed ++ le 2 d.dwell ++ le 2 c.schedVer ++
    le 1 d.step ++ le 1 d.runs.length ++ le 1 ds.length ++ le 1 c.announce.length ++
    (d.runs.flatMap fun x => le 2 x.1 ++ le 1 x.2.1 ++ le 1 (x.2.2 - 1)) ++
    (ds.flatMap fun x => le 2 x.1 ++ le 2 x.2.1) ++ c.announce.flatMap (le 2)

/-- BEACON_FORM: 40 us before S the DATUM field and the MIC are formed, and the beacon is on its way (R214); without its
booking, through a closed gate or over its duty limit it is skipped (R109, R211, R423). -/
def execBeaconForm (r : Radio) (s : State) : Out := live s fun s =>
  let c := s.cr r
  let start := c.slotAt + 400000
  if isCoordinator s r = false ∨ c.running = false ∨ c.inSlot ≠ some 0 ∨ c.formed.isSome = true ∨ s.now + 40000 < start then s
  else
    let t := s.datum.t.addNs (start - s.now)
    let synced := s.objN 0x1203 0 = 1
    let body := beaconBody s r t synced
    let rate := cfgBeaconRate c.sched.cfg
    let a : ChainAir := { start, ns := chainAir s r rate (chainOctets s r 0 body.length), rate }
    let key := bookKey r.val 2 0
    if grantUnits s 10 key = 0 then beaconSkipped s r
    else match chainMay s r key a with
      | (s, none) => beaconSkipped s r
      | (s, some cp) =>
        match chainSend s r (cfgNetKey c.sched.cfg) a cp
            { kind := 0, entry := 0, seq := seqAt s r 0x10000, retry := false, counter := 0, body, keyIndex := 2, dst := shortBytes 0xFFFF, src := cfgExt c.sched.cfg } with
        | (s, true) =>
          (chainStat (bumpSeq s r 0x10000) r.val 0).modCr r fun x => { x with formed := some (t, synced, start), stepped := false }
        | (s, false) => beaconSkipped s r

/-- A Datum step within the 40 us of a formed beacon: it carries the former value, the next one carries STEPPED
(R214). -/
def chainStepped (s : State) : State :=
  (List.finRange 3).foldl (fun s r =>
    match (s.cr r).formed with
    | some (_, _, at_) => if s.now < at_ then chainFlag (s.modCr r fun x => { x with stepped := true }) r.val 7 else s
    | none => s) s

/-! ### Heads and chains (R204, R224, R227 to R229) -/

/-- MEMBER_SLOT changes of a radio's members since the last latch: entry and new slot. -/
def slotChanges (s : State) (r : Radio) : List (Nat × Nat) :=
  ((membersOf s r.val).map fun n => (n, s.objN 0x3811 n)).filter fun p => tgetD (s.cr r).slots p.1 0xFFFF != p.2

/-- DATUM ticks of so many 250 us units. -/
def unitTicks (n : Nat) : Nat := 62500 * n

/-- Has the chain timer reached so many 250 us units after B(N) (R204)? -/
def chainPast (s : State) (r : Radio) (units : Nat) : Bool := decide ((s.cr r).bTick + unitTicks units ≤ s.chain.ticks)

/-- `now` at which it did. -/
def chainNow (s : State) (r : Radio) (units : Nat) : Nat := s.now - 4 * (s.chain.ticks - ((s.cr r).bTick + unitTicks units))

/-- CHAIN_HEAD: at H(N + 1), W before the chain's end, the beacon's content is fixed, staked objects are latched, the chain's frames are booked (R228, R229,
R423). -/
def execChainHead (r : Radio) (s : State) : Out := live s fun s =>
  let c := s.cr r
  if isCoordinator s r = false ∨ c.running = false ∨ chainPast s r (c.sched.len - c.sched.window) = false then s
  else
    let ch := slotChanges s r
    let lost := (ch.map fun p => tgetD c.slots p.1 0xFFFF).filter (· != 0xFFFF)
    let s := s.modCr r fun x => { x with
      nextSched := some (latchSched s r)
      nextSlots := some (ch.foldl (fun t p => tputD t p.1 p.2 0xFFFF) x.slots)
      schedVer := if ch.isEmpty then x.schedVer else (x.schedVer + 1) % 65536
      deltas := x.deltas ++ ch.map fun p => (mShort s p.1, p.2, 5)
      quarantine := x.quarantine ++ lost.map fun k => (k, 5)
      announce := announcements s r }
    match highestUnits s r with
    | some u => (s.book (bookKey r.val 2 0) u).1
    | none => s

/-- Contact accounting at a chain's close (R224). -/
def closeContacts (s : State) (r : Radio) : State :=
  let c := s.cr r
  (membersOf s r.val).foldl (fun s n =>
    if c.contact.contains n then memberTouched (setM s n 18 1 0) n
    else if mState s n = 2 then
      let k := min 255 (mF s n 18 1 + 1)
      let s := setM s n 18 1 k
      let s := if cfgAbsent c.sched.cfg ≤ k then
          chainFlag (chainStat (dropDownlink (setM s n 0 1 3) r n) r.val 11) r.val 0 else s
      memberTouched s n
    else s) s

/-- One chain fewer to last for every delta and quarantine. -/
def ageChanges (x : ChainRadio) : ChainRadio :=
  { x with deltas := (x.deltas.map fun d => (d.1, d.2.1, d.2.2 - 1)).filter fun d => decide (0 < d.2.2)
           quarantine := (x.quarantine.map fun d => (d.1, d.2 - 1)).filter fun d => decide (0 < d.2) }

/-- The dedicated slots that come into force are what the member entries report (R229; *MEMBER_ENTRY record*). -/
def showSlots (s : State) (r : Radio) : State :=
  match (s.cr r).nextSlots with
  | none => s
  | some t => (membersOf s r.val).foldl (fun s n =>
      let k := tgetD t n 0xFFFF
      if mF s n 14 2 = k then s else memberTouched (setM s n 14 2 k) n) s

/-- B(0): 2 ms or more after the stake that enabled the radio, the Datum value in ns reaches a multiple of the chain length
(R204). -/
def firstBegin (s : State) (r : Radio) (len : Nat) : Bool :=
  decide ((s.cr r).upAt + 2000000 ≤ s.datum.t.nanos ∧ s.datum.t.nanos % (250000 * max 1 len) ≤ s.datum.incr / 4294967296)

/-- CHAIN_START: at B(N + 1) = B(N) + L(N) the old chain closes and the next begins with the latched schedule; group 0's hop
begins (R204, R210, R224, R228). -/
def chainStartAt (r : Radio) (s : State) : State :=
  let begin_ (s : State) (number : Nat) (tick at_ : Nat) : State :=
    let s := (showSlots s r).modCr r fun x => { ageChanges x with
      running := true, number, bTick := tick, bStamp := datumOf (s.datum.t.units - (s.now - at_) * 4294967296), slot := 0, inSlot := none, group := 0, contact := []
      slotAt := at_, due := false
      formed := none
      sched := x.nextSched.getD x.sched, nextSched := none, slots := x.nextSlots.getD x.slots, nextSlots := none }
    hopTo s r (groupChannel (s.cr r).sched number 0)
  let c := s.cr r
  let next := c.bTick + unitTicks c.sched.len
  let past := chainPast s r c.sched.len
  if (s.fe r).st = .off then s
  else if isCoordinator s r then
    if c.running then
      if past = false then s
      else mirrorChain (begin_ (closeContacts s r) ((c.number + 1) % 2 ^ 32) next (chainNow s r c.sched.len)) r
    else if firstBegin s r (latchSched s r).len = false then s
    else
      -- the first chain: its head has latched nothing yet
      let s := s.modCr r fun x => { x with nextSched := some (latchSched s r), announce := announcements s r
                                           slots := (slotChanges s r).foldl (fun t p => tputD t p.1 p.2 0xFFFF) x.slots }
      let s := match highestUnits s r with | some u => (s.book (bookKey r.val 2 0) u).1 | none => s
      mirrorChain (begin_ s c.number s.chain.ticks s.now) r
  else if isMember s r = true ∧ (c.mst = .synced ∨ c.mst = .holdover ∨ c.mst = .joining) ∧ c.running = true ∧ past = true then
    begin_ s ((c.number + 1) % 2 ^ 32) next (chainNow s r c.sched.len)
  else s

/-! ### Downlink (R206, R217 to R221, R225, R226, R274) -/

/-- ns into the slot at which the next frame of it would start. -/
def nextStart (x : ChainRadio) : Nat := if x.used = 0 then 400000 else x.used + 300000

/-- Do the E of a frame and of its response fall 100 us before the slot's end (R206)? `at_` is its S in the slot. -/
def fitsAt (x : ChainRadio) (at_ ns resp ramp : Nat) : Bool :=
  match x.inSlot with
  | some i => decide (at_ + ns + (if resp = 0 then 0 else 300000 + resp) + ramp + 100000 ≤ slotNs x.sched i)
  | none => false

def fitsSlot (x : ChainRadio) (ns resp ramp : Nat) : Bool := fitsAt x (nextStart x) ns resp ramp

/-- What of a queue may go in this slot: the first frame whose member has nothing outstanding, whose data is there in time,
that fits the slot and its gate; frames to one member keep their order (R17, R218, R221, R274). -/
def pickFrame (s : State) (r : Radio) (q : Nat) : Option QFrame :=
  let x := s.cr r
  (s.queue q).frames.find? fun f =>
    let rate := if f.dst = 0 then cfgBeaconRate x.sched.cfg else mRate s f.dst
    let ns := chainAir s r rate (chainOctets s r 1 (chainPayload f.bytes).length)
    let resp := if f.dst = 0 then 0 else ackAir s r rate
    let ramp := chainRamp s r rate
    let d := (ns + (if resp = 0 then 0 else 300000 + resp) + ramp) * 4294967296
    (s.queue q).frames.find? (fun g => g.dst == f.dst) == some f && !f.inDram && !x.late.contains f.id && fitsSlot x ns resp ramp && (x.retry.all fun t => t.entry != f.dst || f.dst == 0) &&
      (f.dst == 0 || mState s f.dst == 2 || mState s f.dst == 1) &&
      gateFits s (2 + r.val) (gateClass q) s.datum.t.units d d

/-- A frame leaves its queue, wherever in it it stands; its bytes move the tags (R264). -/
def takeFrom (s : State) (r : Radio) (q : Nat) (f : QFrame) : State :=
  let s := freeRef (s.setQueue q { s.queue q with frames := (s.queue q).frames.erase f }) f
  sentHead s q (5 + r.val) f.len

/-- The frame a coordinator sends: its key index and its addresses (R212). -/
def downFrame (s : State) (t : ChainTx) : ChainSent :=
  { kind := t.kind, entry := t.entry, seq := t.seq, retry := decide (0 < t.tries), counter := 0, body := t.body
    keyIndex := if t.kind = 5 then 3 else if t.entry = 0 then 2 else 1
    ar := t.kind == 5 || (t.kind == 1 && t.entry != 0)
    dst := if t.kind = 5 then t.ext else shortBytes (if t.entry = 0 then 0xFFFF else mShort s t.entry), src := shortBytes 0 }

/-- Send one unicast or broadcast frame in the slot, a new one under the next sequence number to its destination; a unicast one
then awaits its acknowledgement. -/
def sendNow (s : State) (r : Radio) (t : ChainTx) (slot rate dst : Nat) (ack : Bool) : State × Bool :=
  let ns := chainAir s r rate (chainOctets s r t.kind t.body.length)
  let x := s.cr r
  let a : ChainAir := { start := x.slotAt + nextStart x, ns, rate }
  match chainMay s r (bookKey r.val 2 0) a with
  | (s, none) => (s, false)
  | (s, some cp) =>
    let t := if t.tries = 0 then { t with seq := seqAt s r dst } else t
    match chainSend s r slot a cp (downFrame s t) with
    | (s, false) => (s, false)
    | (s, true) =>
      let s := if t.tries = 0 then bumpSeq s r dst else s
      let used := nextStart x + ns + (if ack then 300000 + ackAir s r rate (t.kind == 5) else 0) + chainRamp s r rate
      (s.modCr r fun x => { x with used, await := if ack then some { t with tries := t.tries + 1 } else x.await }, true)

/-- The next response or LEAVE of a downlink slot. -/
def sendResp (s : State) (r : Radio) (p : ChainResp) : State × Bool :=
  let x := s.cr r
  let rate := cfgBeaconRate x.sched.cfg
  let body := if p.kind = 5 then le 1 p.status ++ le 1 p.rate ++ le 2 p.short ++ le 2 p.slot else le 1 1
  let ns := chainAir s r rate (chainOctets s r p.kind body.length)
  if fitsSlot x ns (if p.kind = 5 then ackAir s r rate true else 0) (chainRamp s r rate) = false then (s, false)
  else
    let slot := if p.kind = 5 then cfgJoinKey x.sched.cfg else mKey s p.entry
    match sendNow s r { entry := p.entry, kind := p.kind, seq := 0, tries := 0, ext := p.ext, body } slot rate (0x20000 + p.entry) (p.kind = 5) with
    | (s', true) => (s'.modCr r fun y => { y with resps := y.resps.erase p }, true)
    | (s', false) => (s', false)

/-- A member entry is freed: its slot has no owner (R226). -/
def freeMember (s : State) (r : Radio) (n : Nat) : State :=
  let s := dropDownlink s r n
  let s := s.modCr r fun x => { x with slots := tdel x.slots n, nextSlots := x.nextSlots.map fun t => tdel t n
                                       retry := x.retry.filter fun t => t.entry != n, txSeq := tdel x.txSeq n }
  let s := memberTouched ((s.setObj 0x3810 n (zeros 48)).setObj 0x3811 n [255, 255]) n
  s.watch 5 (memberCount s) 1024 (radioUnit r.val) 0xFF

/-- Serve a downlink slot until a frame awaits its acknowledgement or nothing more fits. -/
def serveDownlink (r : Radio) : Nat → State → State
  | 0, s => s
  | k + 1, s =>
    let x := s.cr r
    if x.await.isSome then s
    else match x.resps with
      | p :: _ =>
        (match sendResp s r p with
         | (s, true) => serveDownlink r k (if p.kind = 6 then freeMember s r p.entry else s)
         | (s, false) => s)
      | [] =>
        match x.retry with
        | t :: rest =>
          let rate := if t.kind = 5 then cfgBeaconRate x.sched.cfg else mRate s t.entry
          let slot := if t.kind = 5 then cfgJoinKey x.sched.cfg else mKey s t.entry
          let ns := chainAir s r rate (chainOctets s r t.kind t.body.length)
          if fitsSlot x ns (ackAir s r rate (t.kind == 5)) (chainRamp s r rate) = false then s
          else (match sendNow s r t slot rate t.entry true with
            | (s, true) => s.modCr r fun y => { y with retry := rest }
            | (s, false) => s)
        | [] =>
          match selectQueue s (5 + r.val) (fun q => decide (8296 ≤ q ∧ q < 8440) && (pickFrame s r q).isSome) with
          | (none, s) => s
          | (some q, s) =>
            match pickFrame s r q with
            | none => s
            | some f =>
              let bcast := f.dst = 0
              let slot := if bcast then cfgNetKey x.sched.cfg else mKey s f.dst
              let rate := if bcast then cfgBeaconRate x.sched.cfg else mRate s f.dst
              match sendNow s r { entry := f.dst, kind := 1, seq := 0, tries := 0, frame := some f, body := chainPayload f.bytes } slot rate
                  (if bcast then 0x10000 else f.dst) (!bcast) with
              | (s, true) => serveDownlink r k (takeFrom s r q f)
              | (s, false) => s

/-- Enough steps for every frame the radio could send in a slot. -/
def downlinkFuel (s : State) (r : Radio) : Nat :=
  (s.cr r).resps.length + (s.cr r).retry.length + ((chainQueues s r).map fun q => (s.queue q).frames.length).sum + 1

/-- The next frame for one member in its dedicated-slot exchange (R218, R219). -/
def sendToMember (s : State) (r : Radio) (n : Nat) : State :=
  let x := s.cr r
  if x.await.isSome then s
  else
    let ns (t : Bytes) := chainAir s r (mRate s n) (chainOctets s r 1 t.length)
    match x.retry.find? fun t => t.entry == n with
    | some t =>
      if fitsSlot x (ns t.body) (ackAir s r (mRate s n)) (chainRamp s r (mRate s n)) then
        (match sendNow s r t (mKey s n) (mRate s n) n true with
         | (s, true) => s.modCr r fun y => { y with retry := y.retry.erase t }
         | (s, false) => s)
      else s
    | none =>
      match (chainQueues s r).findSome? fun q => ((pickFrame s r q).filter fun f => f.dst == n).map fun f => (q, f) with
      | some (q, f) =>
        (match sendNow s r { entry := n, kind := 1, seq := 0, tries := 0, frame := some f, body := chainPayload f.bytes } (mKey s n) (mRate s n) n true with
         | (s, true) => takeFrom s r q f
         | (s, false) => s)
      | none => s

/-- After an exchange in a slot: the downlink slot goes on. -/
def continueSlot (s : State) (r : Radio) : State :=
  match (s.cr r).inSlot with
  | some i => if slotKind (s.cr r).sched i = some 3 then serveDownlink r (downlinkFuel s r) s else s
  | none => s

/-! ### The member role (R219, R220, R222, R223) -/

/-- The head of a member-role radio's uplink: a retransmission, else its Chain queues' first frame, once its data is there
(R17, R219). -/
def uplinkNext (s : State) (r : Radio) : Option (ChainTx × Option (Nat × QFrame)) :=
  match (s.cr r).retry with
  | t :: _ => some (t, none)
  | [] =>
    (((chainQueues s r).findSome? fun q => ((s.queue q).frames.head?).map fun f => (q, f)).filter fun p =>
      !(s.cr r).late.contains p.2.id && !p.2.inDram).map fun p =>
      ({ entry := 0, kind := 1, seq := 0, tries := 0, frame := some p.2, body := chainPayload p.2.bytes }, some p)

/-- Has a member more uplink than the frame it sends: a frame waiting, or one left in its Chain queues (*Chain header*)? -/
def moreUplink (s : State) (r : Radio) (t : ChainTx) (src : Option (Nat × QFrame)) : Bool :=
  ((s.cr r).retry.any (· != t)) || (chainQueues s r).any fun q => (s.queue q).frames.any fun f => match src with | some (_, g) => f != g | none => true

/-- A member sends a frame to its coordinator, `at_` ns into the slot, under its booking or grant. -/
def memberSend (s : State) (r : Radio) (t : ChainTx) (src : Option (Nat × QFrame)) (at_ key slot rate : Nat) : State :=
  let a : ChainAir := { start := (s.cr r).slotAt + at_, ns := chainAir s r rate (chainOctets s r t.kind t.body.length), rate }
  match chainMay s r key a with
  | (s, none) => s
  | (s, some cp) =>
    let seq := if t.tries = 0 then seqAt s r 0 else t.seq
    let f : ChainSent :=
      { kind := t.kind, entry := 0, seq, retry := decide (0 < t.tries), counter := 0, body := t.body
        keyIndex := if t.kind = 4 then 3 else 1, ar := true, more := moreUplink s r t src, dst := shortBytes 0
        src := if t.kind = 4 then cfgExt (s.objB 0x3801 (r.val + 1)) else shortBytes (s.cr r).short }
    match chainSend s r slot a cp f with
    | (s, false) => s
    | (s, true) =>
      let s := if t.tries = 0 then bumpSeq s r 0 else s
      let s := match src with | some (q, f) => takeFrom s r q f | none => s
      s.modCr r fun x => { x with await := some { t with seq, tries := t.tries + 1 }, retry := x.retry.erase t }

/-- A dedicated slot of the member itself: DATA that fits, or KEEPALIVE without it (R206, R219); nothing in HOLDOVER
(R223). -/
def memberSlot (s : State) (r : Radio) : State :=
  let c := s.cr r
  if c.mst = .synced ∧ 0 < grantUnits s 10 (bookKey r.val 4 0) then
    let key := bookKey r.val 4 0
    let slot := cfgKey (s.objB 0x3801 (r.val + 1))
    let fits (t : ChainTx) : Bool :=
      fitsSlot c (chainAir s r c.mRate (chainOctets s r t.kind t.body.length)) (ackAir s r c.mRate) (chainRamp s r c.mRate)
    let alive : ChainTx := { entry := 0, kind := 2, seq := 0, tries := 0, body := [] }
    match (uplinkNext s r).filter fun p => fits p.1 with
    | some (t, src) => memberSend s r t src 400000 key slot c.mRate
    | none => if fits alive then memberSend s r alive none 400000 key slot c.mRate else s
  else s

/-- What a slot sends at its transmit instant: a coordinator's downlink, a member's own dedicated slot, whose booking then
ends (R219, R221). -/
def serveSlot (s : State) (r : Radio) : State :=
  let c := s.cr r
  match c.inSlot with
  | none => s
  | some i =>
    if isCoordinator s r then if slotKind c.sched i = some 3 then serveDownlink r (downlinkFuel s r) s else s
    else if slotKind c.sched i = some 1 ∧ c.mSlot = i then (memberSlot s r).release 10 (bookKey r.val 4 0)
    else s

/-- A slot whose sending waited for the gate goes on; where the gate is closed at S minus TR_LEAD minus 2 us, what it would
send is skipped (R105, R109). -/
def serveDue (s : State) (r : Radio) : State :=
  if (s.cr r).due then serveSlot (s.modCr r fun x => { x with due := false }) r else s

/-- A slot boundary: what still waited for the gate in the slot before is skipped. -/
def slotEdge (s : State) (r : Radio) : State :=
  let begins := slotBegin (s.cr r).sched (s.cr r).slot
  if isChain s r = true ∧ (s.cr r).running = true ∧ chainPast s r begins = true then
    (serveDue s r).modCr r fun x => { x with slotAt := chainNow s r begins }
  else s

/-- SLOT_START: the next slot begins at B(N) plus the lengths of those before it, hopping at a group's first slot; the coordinator serves a downlink slot, a member
its own dedicated slot, which it books one slot ahead; through a gate that is closed now, later in the slot (R105, R205, R210,
R219, R221, R423). `rffeDone` says whether the slot's RFFE writes are done, `late` which frames' data come too late (R17, R97). -/
def slotStartAt (r : Radio) (rffeDone : Bool) (late : List Nat) (s : State) : State :=
  let n := (slotList (s.cr r).sched.runs).length
  let begins := slotBegin (s.cr r).sched (s.cr r).slot
  if isChain s r = false ∨ (s.cr r).running = false ∨ n ≤ (s.cr r).slot ∨ (s.fe r).st = .off ∨ chainPast s r begins = false then s
  else
    let c := s.cr r
    let i := c.slot
    let g := slotGroup c.sched i
    let s := s.modCr r fun x => { x with inSlot := some i, slot := i + 1, used := 0, group := g, slotAt := chainNow s r begins, rffeDone, late }
    let s := if i ≠ 0 ∧ g ≠ slotGroup c.sched (i - 1) then hopTo s r (groupChannel c.sched c.number g) else s
    let s := if isMember s r = true ∧ c.mst = .synced ∧ c.mSlot = i + 1 then
        (match highestUnits s r with | some u => (s.book (bookKey r.val 4 0) u).1 | none => s) else s
    if gateOpen (s.fe r) then serveSlot s r else s.modCr r fun x => { x with due := true }

/-- The JOIN_REQUEST of a member (R222). -/
def joinBody (s : State) (r : Radio) : Bytes :=
  let p := s.objB 0x2103 (r.val + 1)
  sub p 0 1 ++ sub p 2 1 ++ [0, 0]

/-- The join request that waits: its retransmission, or a new one that is due (R218, R222). -/
def joinTx (s : State) (r : Radio) : Option ChainTx :=
  match (s.cr r).retry.find? fun t => t.kind == 4 with
  | some t => some t
  | none => if (s.cr r).joinDue then some { entry := 0, kind := 4, seq := 0, tries := 0, body := joinBody s r } else none

/-- SHARED_POSITION: a member with a pending frame draws whether to transmit, draws r, and transmits at position + r × u when
CCA over the period that ends there is idle (R220). -/
def execSharedPosition (r : Radio) (k : Nat) (cca : List CcaObs) (s : State) : Out := live s fun s =>
  let c := s.cr r
  let shared := match c.inSlot with | some i => slotKind c.sched i == some 2 | none => false
  if isMember s r = false ∨ c.running = false ∨ shared = false ∨ c.await.isSome ∨ c.mst = .scan then s
  else
    let cfg := s.objB 0x3801 (r.val + 1)
    let want : Option (ChainTx × Option (Nat × QFrame) × Nat × Nat) :=
      if c.mst = .joining then
        (joinTx s r).map fun t => (t, none, cfgJoinKey cfg, cfgBeaconRate cfg)
      else if c.mSlot = 0xFFFF ∨ c.mst = .holdover ∨ c.retry.isEmpty = false then
        (uplinkNext s r).map fun p => (p.1, p.2, cfgKey cfg, c.mRate)
      else none
    match want with
    | none => s
    | some (t, src, slot, rate) =>
      let ns := chainAir s r rate (chainOctets s r t.kind t.body.length)
      let fits (o : Nat) : Bool := fitsAt c o ns (ackAir s r rate (t.kind == 4)) (chainRamp s r rate)
      let at_ := 400000 + k * c.sched.step * 1000000
      let (x, s) := s.draw
      let (y, s) := s.draw
      let o := at_ + y % 8 * ccaWindow s r
      if fits at_ = false ∨ x % 2 ^ c.sched.persist ≠ 0 ∨ fits o = false ∨ chainIdle s r cca = false then s
      else match highestUnits s r with
        | none => s
        | some u =>
          let (s, given) := s.requestUpTo 4 r.val u
          let s := s.grant 10 (bookKey r.val 5 0) given
          let s := memberSend s r t src o (bookKey r.val 5 0) slot rate
          let s := (s.release 10 (bookKey r.val 5 0)).release 4 r.val
          if t.kind = 4 ∧ (s.cr r).await.isSome then s.modCr r fun y => { y with joinDue := false, joinChain := if t.tries = 0 then y.number else y.joinChain } else s

/-- The member waits a random 1 to 2^k chains and doubles its bound (R222). -/
def joinWait (s : State) (r : Radio) : State :=
  let c := s.cr r
  let (n, s) := s.drawIn 1 (2 ^ c.backoffK)
  s.modCr r fun x => { x with joinDue := false, backoff := n, backoffK := min (x.backoffK + 1) 10, joinChain := x.number
                              retry := x.retry.filter fun t => t.kind != 4 }

/-- Chains since the last JOIN_REQUEST was sent or its wait drawn. -/
def joinChains (s : State) (r : Radio) : Nat := ((s.cr r).number + 2 ^ 32 - (s.cr r).joinChain) % 2 ^ 32

/-- JOIN_TIMEOUT: 4 chains without a response (R222). -/
def execJoinTimeout (r : Radio) (s : State) : Out := live s fun s =>
  if isMember s r = true ∧ (s.cr r).mst = .joining ∧ (s.cr r).backoff = 0 ∧ (s.cr r).joinDue = false ∧ 4 ≤ joinChains s r then
    joinWait (s.modCr r fun x => { x with await := none }) r
  else s

/-- JOIN_BACKOFF_EXPIRY: the chains drawn have passed, and the JOIN_REQUEST is sent again (R222). -/
def execJoinBackoffExpiry (r : Radio) (s : State) : Out := live s fun s =>
  if isMember s r = true ∧ (s.cr r).mst = .joining ∧ (s.cr r).backoff ≠ 0 ∧ (s.cr r).backoff ≤ joinChains s r then
    s.modCr r fun x => { x with backoff := 0, joinDue := true }
  else s

/-- SCAN_ADVANCE: after M + 1 chains without a beacon a scanning member listens on the next hop channel (R222). -/
def execScanAdvance (r : Radio) (s : State) : Out := live s fun s =>
  let c := s.cr r
  let d := latchSched s r
  if isMember s r = true ∧ c.mst = .scan ∧ c.scanAt + (d.m + 1) * d.len * 250000 ≤ s.now then
    let k := (c.scanChan + 1) % max 1 d.m
    hopTo (s.modCr r fun x => { x with scanChan := k, scanAt := s.now }) r (d.ch0 + k * d.spacing)
  else s

/-- SCAN: the slot timing is forgotten and the radio listens on the first hop channel (R223). -/
def enterScan (s : State) (r : Radio) : State :=
  let s := s.modCr r fun x => { x with mst := .scan, running := false, inSlot := none, timing := 0, scanChan := 0, scanAt := s.now, await := none, joinDue := false, backoff := 0 }
  hopTo s r (latchSched s r).ch0

/-- BEACON_MISSED (*Member states*, R223). -/
def execBeaconMissed (r : Radio) (s : State) : Out := live s fun s =>
  let c := s.cr r
  if isMember s r = false ∨ ¬ (c.mst = .synced ∨ c.mst = .holdover) then s
  else
    let s := (chainStat s r.val 12).modCr r fun x => { x with missed := x.missed + 1 }
    if c.mst = .synced ∧ 3 ≤ c.missed + 1 then chainFlag (s.modCr r fun x => { x with mst := .holdover }) r.val 2
    else if c.mst = .holdover ∧ 8 ≤ c.missed + 1 then chainFlag (enterScan s r) r.val 3
    else s

/-- The schedule a beacon carries. -/
def schedOf (b cfg : Bytes) : Sched :=
  { len := fld b 16 2, window := fld b 18 1, ch0 := fld b 20 4, spacing := fld b 24 2, m := fld b 26 1, persist := fld b 27 1,
    seed := fld b 28 2, dwell := fld b 30 2, step := fld b 34 1, runs := runsAt b 38 (min 32 (fld b 35 1)), cfg }

/-- The slot a beacon's deltas give a short address. -/
def deltaFor (b : Bytes) (short : Nat) : Option Nat :=
  let off := 38 + 4 * fld b 35 1
  ((List.range (fld b 36 1)).find? fun i => fld b (off + 4 * i) 2 == short).map fun i => fld b (off + 4 * i + 2) 2

/-- The member's slot timing moves by so many microseconds (R222). -/
def resync (s : State) (r : Radio) (us : Int) : State :=
  s.modCr r fun x => { x with timing := x.timing + us, syncAt := s.now, bTick := ((x.bTick : Int) + 250 * us).toNat
                              slotAt := ((x.slotAt : Int) + 1000 * us).toNat }

/-- A member accepts a beacon: it resynchronises, records CHAIN_SYNC, and follows the schedule (R222). -/
def memberBeacon (s : State) (r : Radio) (f : ChainFrame) : State :=
  let b := f.body
  -- the beacon's S stood at the transmit instant of slot 0
  let ago := 400000 + chainAir s r (cfgBeaconRate (s.objB 0x3801 (r.val + 1))) (chainOctets s r 0 b.length)
  let s := s.setObj 0x3831 (r.val + 1) (sub b 4 12 ++ (datumOf (s.datum.t.units - (ago - 400000) * 4294967296)).enc ++ le 1 (if bit (fld b 19 1) 1 then 1 else 0))
  s.modCr r fun x => { x with
    mst := match x.mst with | .scan => .joining | .holdover => .synced | m => m
    joinDue := x.joinDue || x.mst == .scan
    running := true, number := fld b 0 4, schedVer := fld b 32 2, sched := schedOf b x.sched.cfg, missed := 0
    mSlot := (deltaFor b x.short).getD x.mSlot
    bTick := s.chain.ticks - ago / 4, bStamp := datumOf (s.datum.t.units - ago * 4294967296), slotAt := s.now - ago
    inSlot := some 0, slot := 1, group := 0, timing := x.timing + f.errUs, syncAt := s.now }

/-! ### Reception (R216 to R219, R224, R225) -/

/-- A JOIN_PENDING record is posted, or JOIN_PENDING_FULL set (R225). -/
def postJoin (s : State) (r : Radio) (rejoin : Bool) (f : ChainFrame) : State :=
  match (List.finRange 16).find? fun i => (s.chain.pending[i]).isNone with
  | some i =>
    let rec_ : JoinRec := { radio := r.val, rejoin, ext := f.srcExt, fsk := fld f.body 0 1, ofdm := fld f.body 1 1,
                            rssi := f.rssi, stamp := s.datum.t }
    (s.setChain { s.chain with pending := vmod s.chain.pending i fun _ => some rec_ }).postFixed 10
  | none => chainFlag s r.val 8

/-- Queue a response; one other than ACCEPTED is a refused join. -/
def queueResp (s : State) (r : Radio) (p : ChainResp) : State :=
  let s := s.modCr r fun x => { x with resps := x.resps ++ [p] }
  if p.kind ≠ 5 then s
  else if p.status = 0 then chainStat s r.val 9
  else chainFlag (chainStat s r.val 10) r.val 1

/-- A JOIN_REQUEST that passed R216 (R225). -/
def joinRequest (s : State) (r : Radio) (f : ChainFrame) : State :=
  let known := (setElements s 0x3810).find? fun n => decide (1 ≤ n) && mState s n != 0 && mExt s n == f.srcExt
  let answer (st : Nat) := queueResp s r { kind := 5, ext := f.srcExt, entry := 0, status := st }
  if cfgJoinOpen (s.cr r).sched.cfg = false then answer 3
  else match known with
    | some n =>
      let s := memberTouched (setM s n 0 1 2) n
      let s := queueResp s r { kind := 5, ext := f.srcExt, entry := n, rate := mRate s n, short := mShort s n, slot := mF s n 14 2 }
      postJoin s r true f
    | none => if memberCount s = 1024 then answer 1 else postJoin s r false f

/-- The coordinator accepts a frame of a member (R216, R219, R224). -/
def memberFrameIn (s : State) (r : Radio) (n : Nat) (f : ChainFrame) : State :=
  let s := setM (setM (setM (setM s n 17 1 f.seq) n 19 1 f.missed) n 28 2 (f.rssi % 65536)) n 24 4 (s.cr r).number
  let s := s.addObjF 0x3810 n 32 4 1
  let s := if mState s n = 1 ∨ mState s n = 3 then setM s n 0 1 2 else s
  let s := (chainStat s r.val 3).modCr r fun x => { x with contact := if x.contact.contains n then x.contact else x.contact ++ [n] }
  let s := memberTouched s n
  if f.kind = 1 then
    let b := memberFrame s r.val (mShort s n) f.body
    s.setMac { s.mac with toPp := s.mac.toPp ++ [{ radio := r.val, bss := 48 + r.val, kind := 3, source := n, tid := 0, vlan := 0,
                                                   sn := f.seq, etherType := fld f.body 0 2, body := b }] }
  else if f.kind = 6 then freeMember s r n
  else s

/-- An acknowledgement of the frame that awaits one (R218, R222). -/
def ackIn (s : State) (r : Radio) (f : ChainFrame) (from_ : Nat) : State :=
  match (s.cr r).await with
  | some t =>
    if t.entry = from_ ∧ fld f.body 0 1 = t.seq then
      let s := s.modCr r fun x => { x with await := none }
      if isCoordinator s r then
        let s := if from_ ≠ 0 then s.addObjF 0x3810 from_ 36 4 1 else s
        continueSlot s r
      else resync s r (fldI f.body 2 2)
    else s
  | none => s

/-- ACK at the coordinator: CORRECTION = −e, saturated, and LAST_CORR (R215). -/
def correction (e : Int) : Int := max (-32767) (min 32767 (-e))

/-- Has the coordinator any downlink for a member (R219)? -/
def hasDownlink (s : State) (r : Radio) (n : Nat) : Bool :=
  (s.cr r).retry.any (fun t => t.entry == n) || (chainQueues s r).any fun q => (s.queue q).frames.any fun f => f.dst == n

/-- A coordinator judges a frame (R216). -/
def coordinatorIn (s : State) (r : Radio) (f : ChainFrame) : State :=
  let slot := if f.keyIndex = 3 then cfgJoinKey (chainCfg s r) else if f.keyIndex = 2 then cfgNetKey (chainCfg s r)
    else match memberByShort s r.val f.srcShort with | some n => mKey s n | none => 0xFFFF
  let (s, good) := chainVerified s slot f
  if good = false then chainFlag (chainStat s r.val 6) r.val 5
  else if f.keyIndex = 3 then
    let last := ((s.cr r).joinCtr.find? fun p => p.1 == f.srcExt).map (·.2)
    if f.kind ≠ 4 then
      -- the acknowledgement of a JOIN_RESPONSE, from the member's extended address
      (match (s.cr r).await with
       | some t => if f.kind = 3 ∧ t.kind = 5 ∧ t.ext = f.srcExt ∧ fld f.body 0 1 = t.seq then
           continueSlot (s.modCr r fun x => { x with await := none }) r else s
       | none => s)
    else if (match last with | some c => decide (f.counter ≤ c) | none => false) = true then chainFlag (chainStat s r.val 5) r.val 4
    else
      let s := s.modCr r fun x => { x with joinCtr := (f.srcExt, f.counter) :: x.joinCtr.filter fun p => p.1 != f.srcExt }
      let s := if f.ar then chainAck s r (cfgJoinKey (s.cr r).sched.cfg) (cfgBeaconRate (s.cr r).sched.cfg)
        (ackFrame 0 f.seq 3 (correction f.errUs) false f.srcExt (shortBytes 0)) else s
      joinRequest (chainStat s r.val 3) r f
  else match memberByShort s r.val f.srcShort with
    | none => s
    | some n =>
      let fresh := mF s n 32 4 = 0 ∨ mF s n 20 4 < f.counter
      if ¬ fresh then chainFlag (chainStat s r.val 5) r.val 4
      else
        let dup := f.retry = true ∧ mF s n 32 4 ≠ 0 ∧ mF s n 17 1 = f.seq
        let s := setM s n 20 4 f.counter
        let s := if f.ar then
            chainAck (s.patchObj 0x3810 n 30 (leInt 2 (correction f.errUs))) r (mKey s n) (mRate s n)
              (ackFrame n f.seq 1 (correction f.errUs) (hasDownlink s r n) (shortBytes (mShort s n)) (shortBytes 0)) else s
        if f.kind = 3 then ackIn s r f n
        else if dup then chainStat s r.val 4
        else
          let s := memberFrameIn s r n f
          let own := match (s.cr r).inSlot with
            | some i => slotKind (s.cr r).sched i == some 1 && tgetD (s.cr r).slots n 0xFFFF == i
            | none => false
          if own = true ∧ hasDownlink s r n = true then
            let used := 400000 + chainAir s r (mRate s n) (chainOctets s r f.kind f.body.length) + 300000 + ackAir s r (mRate s n) + chainRamp s r (mRate s n)
            sendToMember (s.modCr r fun x => { x with used }) r n
          else s

/-- A JOIN_RESPONSE at the member (*Member states*). -/
def joinResponse (s : State) (r : Radio) (f : ChainFrame) : State :=
  let c := s.cr r
  if c.mst ≠ .joining then s
  else if fld f.body 0 1 = 0 then
    s.modCr r fun x => { x with mst := .synced, short := fld f.body 2 2, mSlot := fld f.body 4 2, mRate := fld f.body 1 1
                                joinDue := false, backoff := 0, backoffK := 0, await := none }
  else joinWait s r

/-- Half a member's receive window in ns, G: 100 us and DRIFT_PPM of the time since it last resynchronised (R222). -/
def rxWindow (s : State) (r : Radio) : Nat :=
  100000 + cfgDrift (s.objB 0x3801 (r.val + 1)) * (s.now - (s.cr r).syncAt) / 1000000

/-- The first frame a member accepts of a downlink slot places its slot timing (R222). -/
def downlinkSync (s : State) (r : Radio) (f : ChainFrame) : State :=
  let x := s.cr r
  match x.inSlot with
  | some i =>
    if slotKind x.sched i = some 3 ∧ x.used = 0 ∧ f.kind ≠ 3 then
      (resync s r f.errUs).modCr r fun x => { x with used := 1 }
    else s
  | none => s

/-- A member judges a frame of its coordinator; one outside its receive window it does not receive (R216, R222). -/
def memberIn (s : State) (r : Radio) (f : ChainFrame) : State :=
  let cfg := s.objB 0x3801 (r.val + 1)
  let kslot := if f.keyIndex = 3 then cfgJoinKey cfg else if f.keyIndex = 2 then cfgNetKey cfg else cfgKey cfg
  if (s.cr r).mst ≠ .scan ∧ rxWindow s r < 1000 * f.errUs.natAbs then s
  else
  let (s, good) := chainVerified s kslot f
  if good = false then chainFlag (chainStat s r.val 6) r.val 5
  else if (match tget (s.cr r).ctrs f.keyIndex with | some c => decide (f.counter ≤ c) | none => false) = true then
    chainFlag (chainStat s r.val 5) r.val 4
  else
    let s := s.modCr r fun x => { x with ctrs := tput x.ctrs f.keyIndex f.counter }
    let dup := f.kind ≠ 0 ∧ f.kind ≠ 3 ∧ f.retry = true ∧ (s.cr r).lastSeq = some f.seq
    let slot := if f.keyIndex = 3 then cfgJoinKey cfg else cfgKey cfg
    let s := downlinkSync s r f
    let s := if f.ar then chainAck s r slot (if f.keyIndex = 3 then cfgBeaconRate cfg else (s.cr r).mRate)
      (ackFrame 0 f.seq f.keyIndex 0 false (shortBytes 0) (if f.kind = 5 then cfgExt cfg else shortBytes (s.cr r).short)) else s
    if f.kind = 3 then ackIn s r f 0
    else if dup then chainStat s r.val 4
    else
      let s := (chainStat s r.val 3).modCr r fun x => { x with lastSeq := if f.kind = 0 then x.lastSeq else some f.seq }
      if f.kind = 0 then memberBeacon s r f
      else if f.kind = 5 then joinResponse s r f
      else if f.kind = 6 then enterScan s r
      else if f.kind = 1 then
        let b := memberFrame s r.val 0 f.body
        s.setMac { s.mac with toPp := s.mac.toPp ++ [{ radio := r.val, bss := 48 + r.val, kind := 3, source := 0, tid := 0, vlan := 0,
                                                       sn := f.seq, etherType := fld f.body 0 2, body := b }] }
      else s

/-- CHAIN_FRAME_RECEIVE: the frame of the reception in progress; FCS first; one of another PAN is not for this chain (R212,
R216). -/
def chainFrameAt (r : Radio) (f : ChainFrame) (s : State) : State :=
  let s' := s.modFe r fun x => { x with rx := none }
  if isChain s r = false ∨ delivers s r 0 = false ∨ f.fcsOk = false ∨ f.pan ≠ cfgPan (chainCfg s r) then s'
  else if isCoordinator s r then coordinatorIn s' r f
  else memberIn s' r f

/-- CHAIN_ACK_TIMEOUT: the frame waits for its next opportunity, or is dropped at the retry limit; a downlink slot
goes on (R218). -/
def execChainAckTimeout (r : Radio) (s : State) : Out := live s fun s =>
  match (s.cr r).await with
  | none => s
  | some t =>
    let limit := cfgRetry (chainCfg s r)
    let s := s.modCr r fun x => { x with await := none }
    if limit < t.tries then
      let s := chainStat s r.val 7
      let s := if isCoordinator s r = true ∧ t.entry ≠ 0 then s.addObjF 0x3810 t.entry 40 4 1 else s
      continueSlot s r
    else s.modCr r fun x => { x with retry := x.retry ++ [t] }

/-! ### Joining by firmware (R225, R226, R229) -/

/-- JOIN_PENDING_EXPIRY: a record not taken in 10 s (R225). -/
def execJoinPendingExpiry (rec : Fin 16) (s : State) : Out := live s fun s =>
  s.setChain { s.chain with pending := vmod s.chain.pending rec fun _ => none }

def pendingAt (s : State) (i : Nat) : Option JoinRec := if i = 0 then none else vget s.chain.pending (i - 1) none
def takePending (s : State) (i : Nat) : State := s.setChain { s.chain with pending := vset s.chain.pending (i - 1) none }

/-- Is a slot not to be given: owned, quarantined or not DEDICATED? -/
def slotTaken (s : State) (r : Radio) (k : Nat) : Bool :=
  let c := s.cr r
  k != 0xFFFF && (slotKind (latchSched s r) k != some 1 || (c.quarantine.any fun q => q.1 == k) ||
    (membersOf s r.val).any fun n => s.objN 0x3811 n == k || tgetD c.slots n 0xFFFF == k)

/-- MEMBER_CMD JOIN. -/
def memberJoin (v : Bytes) (s : State) : State × Res :=
  let i := fld v 2 2
  let short := fld v 4 2
  let slot := fld v 8 2
  let rate := fld v 10 1 % 8 + (if bit (fld v 10 1) 7 then 128 else 0)
  let p := if 16 < i then none else pendingAt s i
  let ri := (p.map (·.radio)).getD 0
  let unit := radioUnit ri
  if (bit rate 7 = true ∧ rate % 8 = 7) ∨ short = 0 ∨ 0xFFFD < short then (s, dictAbort aRange 0x14)
  else match findLt 1024 fun n => mState s (n + 1) == 0 with
    | none =>
      (match p with
       | some j => if h : j.radio < 3 then
           queueResp (takePending s i) ⟨j.radio, h⟩ { kind := 5, ext := j.ext, entry := 0, status := 1 } else s
       | none => s, abortBy aFull unit 0x380)
    | some n =>
      match p with
      | none => (s, abortBy aState unit 0x381)
      | some j =>
        if h : j.radio < 3 then
          let r : Radio := ⟨j.radio, h⟩
          if slotTaken s r slot then (s, abortBy aState unit 0x382)
          else if isCoordinator s r = false then (s, abortBy aState unit 0x383)
          else if (memberByShort s r.val short).isSome then (s, abortBy aState unit 0x384)
          else
            let e : Bytes := [1] ++ le 1 j.radio ++ le 2 short ++ j.ext ++ sub v 6 2 ++ le 2 slot ++ le 1 rate ++ zeros 31
            let s := (takePending s i).setObj 0x3810 (n + 1) e
            let s := s.setObj 0x3811 (n + 1) (le 2 slot)
            let s := s.modCr r fun x => { x with slots := tputD x.slots (n + 1) slot 0xFFFF }
            let s := memberTouched (queueResp s r { kind := 5, ext := j.ext, entry := n + 1, rate, short, slot }) (n + 1)
            let s := s.watch 5 (memberCount s) 1024 unit 0xFF
            (s.cmdOut 0x3812 0 (le 2 (n + 1)), ok)
        else (s, abortBy aState unit 0x383)

/-- MEMBER_CMD REJECT: a response with the given status. -/
def memberReject (v : Bytes) (s : State) : State × Res :=
  let i := fld v 2 2
  if 4 < fld v 1 1 then (s, dictAbort aRange 0x14)
  else match (if 16 < i then none else pendingAt s i) with
  | none => (s, abortBy aState (radioUnit 0) 0x381)
  | some j =>
    if h : j.radio < 3 then
      let s := queueResp (takePending s i) ⟨j.radio, h⟩ { kind := 5, ext := j.ext, entry := 0, status := fld v 1 1 }
      (s.cmdOut 0x3812 0 (le 2 0), ok)
    else (s, abortBy aState (radioUnit 0) 0x383)

/-- MEMBER_CMD REMOVE: LEAVE is sent, then the entry is freed. -/
def memberRemove (v : Bytes) (s : State) : State × Res :=
  let n := fld v 2 2
  if n = 0 ∨ 1024 < n then (s, dictAbort aRange 0x14)
  else if mState s n = 0 then (s, ok)
  else if h : mRadio s n < 3 then
    let s := queueResp s ⟨mRadio s n, h⟩ { kind := 6, ext := mExt s n, entry := n }
    (s.cmdOut 0x3812 0 (le 2 n), ok)
  else (s, ok)

/-- MEMBER_CMD (3812h). -/
def memberCmd (v : Bytes) (s : State) : State × Res :=
  if fld v 0 1 = 1 then memberJoin v s else if fld v 0 1 = 2 then memberReject v s else memberRemove v s

end Sys2Proof.Machine
end

