-- ==== Sys2Proof/Machine/Parse.lean ====
section
/-! DEFINITION. The parser and the classifier key (09_packet_processor, R233 to R238), CRC-32C. -/

namespace Sys2Proof.Machine
open Sys2Proof

/-- The classifier key (*Classifier key layout*), field by field. -/
structure PKey where
  ingress : Nat := 0
  sourceId : Nat := 0
  tid : Nat := 0
  srcKind : Nat := 0
  bss : Nat := 0xFF
  vlanCount : Nat := 0
  vlan0 : Nat := 0
  pcp0 : Nat := 0
  vlan1 : Nat := 0
  dmac : Nat := 0
  smac : Nat := 0
  etype : Nat := 0
  sip : Nat := 0
  dip : Nat := 0
  proto : Nat := 0
  dscp : Nat := 0
  ecn : Nat := 0
  hop : Nat := 0
  frag : Nat := 0
  sport : Nat := 0
  dport : Nat := 0
  tcpFlags : Nat := 0
  tunType : Nat := 0
  tunId : Nat := 0
  outerDip : Nat := 0
  user : Nat := 0
  flags : Nat := 0
  deriving DecidableEq, Repr

/-- The key as 640 bits. -/
def PKey.word (k : PKey) : Nat :=
  [(k.ingress, 632), (k.sourceId, 620), (k.tid, 616), (k.srcKind, 612), (k.bss, 604), (k.vlanCount, 601), (k.vlan0, 589),
   (k.pcp0, 586), (k.vlan1, 574), (k.dmac, 526), (k.smac, 478), (k.etype, 462), (k.sip, 334), (k.dip, 206), (k.proto, 198),
   (k.dscp, 192), (k.ecn, 190), (k.hop, 182), (k.frag, 180), (k.sport, 164), (k.dport, 148), (k.tcpFlags, 140),
   (k.tunType, 136), (k.tunId, 112), (k.outerDip, 80), (k.user, 16), (k.flags, 0)].foldl (fun a p => a + p.1 * 2 ^ p.2) 0

def PKey.flag (k : PKey) (b : Nat) : PKey := { k with flags := setBit k.flags b true }

/-- What the parser found besides the key: the L3 header the key describes, and where the inner packet of a tunnel
starts, with whether it is Ethernet. -/
structure Parsed where
  key : PKey
  l3 : Option Nat := none
  inner : Option (Nat × Bool) := none
  /-- the limits on tags and extension headers, and the EtherType field that precedes the L3 header. -/
  tags : Nat := 0
  exts : Nat := 0
  deriving DecidableEq, Repr

/-- IPv4 as ::FFFF:a.b.c.d. -/
def mapped4 (a : Nat) : Nat := 0xFFFF * 2 ^ 32 + a

/-- The XOR of the four words of an IPv6 address. -/
def xor4 (a : Nat) : Nat := bits a 96 32 ^^^ bits a 64 32 ^^^ bits a 32 32 ^^^ bits a 0 32

/-- The next node by EtherType. -/
def etherNext (et : Nat) : Nat :=
  if et = 0x8100 ∨ et = 0x88A8 then 1 else if et = 0x0800 then 2 else if et = 0x86DD then 3 else if et = 0x0806 then 11 else 0xFF

/-- The next node by protocol. -/
def protoNext (v6 : Bool) (p : Nat) : Nat :=
  if p = 6 then 5 else if p = 17 then 6 else if p = 47 then 9 else if p = 4 then 2 else if p = 41 then 3
  else if p = 1 ∧ v6 = false ∨ p = 58 ∧ v6 = true then 10
  else if v6 = true ∧ (p = 0 ∨ p = 43 ∨ p = 44 ∨ p = 60) then 4 else 0xFF

/-- The target of a PARSE_HOOK of a fixed node and value (R238). -/
def hookOf (s : State) (node value : Nat) : Option Nat :=
  ((List.range 16).find? fun i => s.objF 0x4011 (i + 1) 0 1 == node && s.objF 0x4011 (i + 1) 1 2 == value &&
    s.objF 0x4011 (i + 1) 3 1 != 0).map fun i => s.objF 0x4011 (i + 1) 3 1

/-- The next node: a hook's target, else the fixed one. -/
def nextNode (s : State) (node value fixed : Nat) : Nat := (hookOf s node value).getD fixed

/-- One step of the parse: where it goes on, or that it ends. -/
inductive PStep where
  | go (node off : Nat) (p : Parsed)
  | stop (p : Parsed)

/-- Ends because a header does not lie within the depth, or a limit of tags or headers is met (R236). -/
def depthStop (p : Parsed) : PStep := .stop { p with key := p.key.flag 15 }

def dmacFlags (s : State) (dmac : Nat) (k : PKey) : PKey :=
  let k := { k with flags := setBit (setBit (setBit k.flags 7 false) 6 false) 5 false }
  let k := if dmac = 2 ^ 48 - 1 then k.flag 7 else if bit dmac 40 then k.flag 6 else k
  if (s.objB 0x4004 0).length = 6 ∧ dmac = beNat (s.objB 0x4004 0) then k.flag 5 else k

/-- A tunnel has been recognised: the key's L3 and L4 fields will describe the inner packet. -/
def enterTunnel (p : Parsed) (typ id off : Nat) (eth : Bool) : Parsed :=
  let k := p.key
  let outer := if bit k.flags 13 then xor4 k.dip else k.dip % 2 ^ 32
  let fl := setBit (setBit (setBit (setBit k.flags 13 false) 12 false) 11 false) 8 false
  { p with inner := some (off, eth), exts := 0, tags := if eth then 0 else p.tags
           key := { k with tunType := typ, tunId := id, outerDip := outer, sip := 0, dip := 0, proto := 0, dscp := 0, ecn := 0,
                           hop := 0, frag := 0, sport := 0, dport := 0, tcpFlags := 0, flags := setBit fl 10 true } }

/-- Enter a tunnel, or with one already parsed only note it (R235). -/
def tunnelTo (p : Parsed) (typ id node off : Nat) : PStep :=
  if p.inner.isSome then .stop { p with key := p.key.flag 9 }
  else if node = 0xFF then .stop (enterTunnel p typ id off false)
  else .go node off (enterTunnel p typ id off (node == 0))

/-- Parse IPv4 (R237). -/
def parse4 (s : State) (b : Bytes) (lim off : Nat) (p : Parsed) : PStep :=
  if lim < off + 20 then depthStop p
  else
    let ihl := beF b off 1 % 16
    let total := beF b (off + 2) 2
    let fr := beF b (off + 6) 2
    let proto := beF b (off + 9) 1
    let k := { p.key with sip := mapped4 (beF b (off + 12) 4), dip := mapped4 (beF b (off + 16) 4), proto
                          dscp := beF b (off + 1) 1 / 4, ecn := beF b (off + 1) 1 % 4, hop := beF b (off + 8) 1
                          frag := if fr % 8192 ≠ 0 then 2 else if bit fr 13 then 1 else 0 }
    let p := { p with key := if 5 < ihl then (k.flag 12).flag 11 else k.flag 12, l3 := some off }
    let bad : Bool := beF b off 1 / 16 != 4 || decide (ihl < 5 ∨ total < ihl * 4 ∨ b.length < off + total) ||
      fold16 (fold16 (sum16 (sub b off (4 * ihl)))) != 65535
    if bad then .stop { p with key := p.key.flag 14 }
    else if lim < off + 4 * ihl then depthStop p
    else if fr % 8192 ≠ 0 then .stop p
    else
      let n := nextNode s 2 proto (protoNext false proto)
      if n = 2 ∨ n = 3 then tunnelTo p 4 0 n (off + 4 * ihl) else .go n (off + 4 * ihl) p

/-- Parse IPv6's fixed header (R237). -/
def parse6 (s : State) (b : Bytes) (lim off : Nat) (p : Parsed) : PStep :=
  if lim < off + 40 then depthStop p
  else
    let nh := beF b (off + 6) 1
    let k := { p.key with sip := beF b (off + 8) 16, dip := beF b (off + 24) 16, proto := nh
                          dscp := beF b off 2 / 64 % 64, ecn := beF b off 2 / 16 % 4, hop := beF b (off + 7) 1, frag := 0 }
    let p := { p with key := k.flag 13, l3 := some off }
    if b.length < off + 40 + beF b (off + 4) 2 then .stop { p with key := p.key.flag 14 }
    else
      let n := nextNode s 3 nh (protoNext true nh)
      if n = 2 ∨ n = 3 then tunnelTo p 4 0 n (off + 40) else .go n (off + 40) p

/-- An IPv6 extension header: the ninth ends parsing (R236). -/
def parseExt (s : State) (b : Bytes) (lim off : Nat) (p : Parsed) : PStep :=
  if 8 ≤ p.exts ∨ lim < off + 8 then depthStop p
  else
    let was := p.key.proto
    let nh := beF b off 1
    let len := if was = 44 then 8 else 8 * (beF b (off + 1) 1 + 1)
    let fo := beF b (off + 2) 2
    let frag := if was = 44 then (if fo / 8 ≠ 0 then 2 else if bit fo 0 then 1 else 0) else p.key.frag
    if lim < off + len then depthStop p
    else
      let p := { p with exts := p.exts + 1, key := ({ p.key with proto := nh, frag }).flag 11 }
      if frag = 2 then .stop p
      else
        let n := nextNode s 3 nh (protoNext true nh)
        if n = 2 ∨ n = 3 then tunnelTo p 4 0 n (off + len) else .go n (off + len) p

/-- A programmable node (R238). -/
def parseNode (s : State) (b : Bytes) (lim node off : Nat) (p : Parsed) : PStep :=
  let n := s.objB 0x4010 (node - 0x1F)
  if fld n 0 1 = 0 then .stop p
  else
    let len := if fld n 1 1 = 1 then (beF b (off + fld n 3 1) 1 &&& fld n 4 1) * fld n 5 1 + fld n 6 1 else fld n 2 1
    if lim < off + len then depthStop p
    else
      let user := (List.range 4).foldl (fun u i =>
        if bit (fld n (35 + 2 * i) 1) 0 ∧ off + fld n (34 + 2 * i) 1 + 2 ≤ lim then
          let w := beF b (off + fld n (34 + 2 * i) 1) 2
          u - bits u (48 - 16 * i) 16 * 2 ^ (48 - 16 * i) + w * 2 ^ (48 - 16 * i)
        else u) p.key.user
      let sel := beF b (off + fld n 7 1) (fld n 8 1)
      let next := ((List.range 8).find? fun i => fld n (12 + 3 * i) 1 != 0xFF && fld n (10 + 3 * i) 2 == sel).map fun i => fld n (12 + 3 * i) 1
      .go (next.getD (fld n 9 1)) (off + len) { p with key := { p.key with user } }

/-- One node. -/
def parseOne (s : State) (b : Bytes) (lim node off : Nat) (p : Parsed) : PStep :=
  if 0x20 ≤ node ∧ node ≤ 0x3F then parseNode s b lim node off p
  else match node with
    | 0 =>
      if lim < off + 14 then depthStop p
      else
        let et := beF b (off + 12) 2
        let k := { p.key with dmac := beF b off 6, smac := beF b (off + 6) 6, etype := et, vlanCount := 0, vlan0 := 0, pcp0 := 0, vlan1 := 0 }
        .go (nextNode s 0 et (etherNext et)) (off + 14) { p with key := dmacFlags s (beF b off 6) k }
    | 1 =>
      if 4 ≤ p.tags ∨ lim < off + 4 then depthStop p
      else
        let tci := beF b off 2
        let et := beF b (off + 2) 2
        let k := p.key
        let k := { k with vlanCount := k.vlanCount + 1, etype := et
                          vlan0 := if k.vlanCount = 0 then tci % 4096 else k.vlan0
                          pcp0 := if k.vlanCount = 0 then tci / 8192 else k.pcp0
                          vlan1 := if k.vlanCount = 1 then tci % 4096 else k.vlan1 }
        .go (nextNode s 0 et (etherNext et)) (off + 4) { p with key := k, tags := p.tags + 1 }
    | 2 => parse4 s b lim off p
    | 3 => parse6 s b lim off p
    | 4 => parseExt s b lim off p
    | 5 =>
      if lim < off + 20 then depthStop p
      else .stop { p with key := ({ p.key with sport := beF b off 2, dport := beF b (off + 2) 2, tcpFlags := beF b (off + 13) 1 }).flag 8 }
    | 6 =>
      if lim < off + 8 then depthStop p
      else
        let dp := beF b (off + 2) 2
        let p := { p with key := ({ p.key with sport := beF b off 2, dport := dp }).flag 8 }
        let n := nextNode s 6 dp (if dp = 4789 then 7 else if dp = 6081 then 8 else 0xFF)
        if n = 7 ∨ n = 8 then (if p.inner.isSome then .stop { p with key := p.key.flag 9 } else .go n (off + 8) p)
        else .go n (off + 8) p
    | 7 => if lim < off + 8 then depthStop p else tunnelTo p 1 (beF b (off + 4) 3) 0 (off + 8)
    | 8 =>
      let len := 8 + 4 * (beF b off 1 % 64)
      if lim < off + 8 ∨ lim < off + len then depthStop p
      else
        let pt := beF b (off + 2) 2
        tunnelTo p 2 (beF b (off + 4) 3) (if pt = 0x6558 then 0 else if pt = 0x0800 then 2 else if pt = 0x86DD then 3 else 0xFF) (off + len)
    | 9 =>
      if lim < off + 4 then depthStop p
      else
        let fl := beF b off 2
        let pt := beF b (off + 2) 2
        let ck := if bit fl 15 then 4 else 0
        let key := if bit fl 13 then 4 else 0
        let len := 4 + ck + key + (if bit fl 12 then 4 else 0)
        if lim < off + len then depthStop p
        else tunnelTo p 3 (if bit fl 13 then beF b (off + 4 + ck) 4 % 2 ^ 24 else 0)
          (if pt = 0x6558 then 0 else if pt = 0x0800 then 2 else if pt = 0x86DD then 3 else 0xFF) (off + len)
    | 10 =>
      if lim < off + 4 then depthStop p
      else .stop { p with key := ({ p.key with sport := beF b off 2 }).flag 8 }
    | _ => .stop p

/-- The parse from a node; `fuel` bounds the nodes visited. -/
def parseFrom (s : State) (b : Bytes) (lim : Nat) : Nat → Nat → Nat → Parsed → Parsed
  | 0, _, _, p => p
  | k + 1, node, off, p =>
    match parseOne s b lim node off p with
    | .go n o p => parseFrom s b lim k n o p
    | .stop p => p

/-- Parse a packet from ETHERNET, up to PARSE_DEPTH bytes (R236): every node of the graph advances, so the depth
bounds the nodes; a programmable node of length 0 ends it too. -/
def parsePacket (s : State) (p : Packet) : Parsed :=
  let lim := min (s.objN 0x4003 0) p.bytes.length
  let k : PKey := { ingress := p.ingress, sourceId := p.source, tid := p.tid, srcKind := p.kind, bss := p.bss }
  let r := parseFrom s p.bytes lim 256 0 0 { key := k }
  -- a header cut off by the end of the frame, not by the depth, is no DEPTH_LIMIT
  if p.bytes.length ≤ s.objN 0x4003 0 ∧ r.tags < 4 ∧ r.exts < 8 then { r with key := { r.key with flags := setBit r.key.flags 15 false } } else r

/-! ### CRC-32C (R243) -/

def crcBit (c : Nat) : Nat := if c % 2 = 1 then (c / 2) ^^^ 0x82F63B78 else c / 2

def crcByte (c : Nat) (b : Byte) : Nat := (List.range 8).foldl (fun c _ => crcBit c) (c ^^^ b.toNat)

/-- CRC-32C (Castagnoli) of a sequence of bytes. -/
def crc32c (b : Bytes) : Nat := (b.foldl crcByte 0xFFFFFFFF) ^^^ 0xFFFFFFFF

/-- The flow key: bytes 0 to 43 of a FLOW_ENTRY (R243). -/
def flowKey (k : PKey) : Bytes :=
  le 1 k.ingress ++ le 1 k.proto ++ le 2 k.vlan0 ++ be 16 k.sip ++ be 16 k.dip ++ le 2 k.sport ++ le 2 k.dport ++ le 4 k.tunId

def isIp (k : PKey) : Bool := bit k.flags 12 || bit k.flags 13

/-- The order queue of a packet (R248). -/
def orderOf (k : PKey) : Nat :=
  crc32c (if isIp k then flowKey k else be 6 k.dmac ++ be 6 k.smac ++ le 2 k.vlan0) % 4096

end Sys2Proof.Machine
end

