-- ==== Sys2Proof/Machine/Pp.lean ====
section
/-! DEFINITION. The packet processor (09_packet_processor): rules, lookup, flow table, learning, rewrites, contexts and
their hand-off order. -/

namespace Sys2Proof.Machine
open Sys2Proof

def State.setPp (s : State) (x : PpUnit) : State := { s with pp := x }

/-- A statistic of PP_STATS and a PP flag. -/
def ppStat (s : State) (k : Nat) : State := s.stat 0x4700 0 k 1
def ppFlag (s : State) (b : Nat) : State := s.setFlag 0x4701 0 b

/-! ### Tables -/

/-- Is the record of a table's entry VALID? -/
def recValid (idx : Nat) (b : Bytes) : Bool :=
  if idx = 0x4100 then bit (fld b 0 1) 0
  else if idx = 0x4200 then bit (fld b 8 1) 0
  else if idx = 0x4300 ∨ idx = 0x4301 then bit (fld b 17 1) 0
  else if 0x4400 ≤ idx ∧ idx ≤ 0x4403 then bit (fld b 44 1) 0
  else false

/-- The table an index belongs to, by its first index, and the indices and size of a table. -/
def tableOf (idx : Nat) : Option Nat :=
  if idx = 0x4100 ∨ idx = 0x4200 then some idx
  else if idx = 0x4300 ∨ idx = 0x4301 then some 0x4300
  else if 0x4400 ≤ idx ∧ idx ≤ 0x4403 then some 0x4400
  else none

def tableIdxs (t : Nat) : List Nat :=
  if t = 0x4300 then [0x4300, 0x4301] else if t = 0x4400 then [0x4400, 0x4401, 0x4402, 0x4403] else [t]

def tableSize (t : Nat) : Nat :=
  if t = 0x4100 then 4096 else if t = 0x4200 then 32768 else if t = 0x4300 then 65536 else 131072

/-- The entries an index holds that are valid: element and record. -/
def validEls (s : State) (idx : Nat) : List (Nat × Bytes) :=
  ((setElements s idx).filter fun el => decide (1 ≤ el) && recValid idx (s.objB idx el)).map fun el => (el, s.objB idx el)

/-- Count of valid entries: element 0 of the index. -/
def validCount (s : State) (idx : Nat) : Nat := (validEls s idx).length
def tableCount (s : State) (t : Nat) : Nat := ((tableIdxs t).map (validCount s)).sum

/-- Entry `e` of the route or flow table: index and element. -/
def entryAt (base e : Nat) : Nat × Nat := (base + e / 32768, e % 32768 + 1)

/-- The watch of a table's use (R458). -/
def watchTable (s : State) (t : Nat) : State :=
  let res := if t = 0x4100 then 6 else if t = 0x4200 then 7 else if t = 0x4300 then 8 else 9
  s.watch res (tableCount s t) (tableSize t) 0x10 0xFF

/-- Write a table entry in place: the pair mirrors it, and a change of the routes raises the generation (R245, R250,
R436). -/
def putEntry (s : State) (idx el : Nat) (v : Bytes) : State :=
  let s := (s.setObj idx el v).mirrorObj 5 idx el
  let s := if idx = 0x4300 ∨ idx = 0x4301 then s.setPp { s.pp with routeGen := (s.pp.routeGen + 1) % 2 ^ 32 } else s
  match tableOf idx with
  | some t => watchTable s t
  | none => s

/-- A poisoned table word: the entry is invalidated (R249, R451). An object without a valid bit returns to 0. -/
def invalidate (s : State) (idx el : Nat) : State :=
  let b := s.objB idx el
  let v : Bytes :=
    if idx = 0x4100 then setFld b 0 1 (setBit (fld b 0 1) 0 false)
    else if idx = 0x4200 then setFld b 8 1 (setBit (fld b 8 1) 0 false)
    else if idx = 0x4300 ∨ idx = 0x4301 then setFld b 17 1 (setBit (fld b 17 1) 0 false)
    else if 0x4400 ≤ idx ∧ idx ≤ 0x4403 then setFld b 44 1 (setBit (fld b 44 1) 0 false)
    else zeros b.length
  ((putEntry s idx el v).setFlag 0x7F12 0 2).logEvent 0x10 2 0xF004 0xFF (idx * 65536 + el)

/-! ### Rules (R239) -/

/-- Does a rule match a key? VALUE and MASK are written from bit 639 down. -/
def ruleMatches (b : Bytes) (k : Nat) : Bool := (k ^^^ beNat (sub b 16 80)) &&& beNat (sub b 96 80) == 0

/-- The winning rule: highest PRIORITY, then lowest element. -/
def winner (s : State) (k : Nat) : Option (Nat × Bytes) :=
  ((validEls s 0x4100).filter fun p => ruleMatches p.2 k).foldl (fun b p => match b with
    | none => some p
    | some x => if fld x.2 2 2 < fld p.2 2 2 then some p else some x) none

/-- The action word of R239's default: FORWARD, LOOKUP. -/
def defaultAction : Nat := 2 ^ 62

/-! ### Lookup (R241) -/

/-- What a lookup gives: where the packet goes (none: dropped), a routed packet's next hop and VLAN, class, tunnel. -/
structure Look where
  dest : Option Dest
  hop : Option (Bytes × Nat) := none
  cls : Nat := 0xFF
  tunnel : Option Nat := none
  deriving DecidableEq, Repr

def cores0 : Dest := { kind := 3, index := 0 }

/-- Does a prefix of a length hold an address? -/
def inPrefix (pre len a : Nat) : Bool := pre / 2 ^ (128 - min len 128) == a / 2 ^ (128 - min len 128)

/-- Longest-prefix match over the routes. -/
def routeOf (s : State) (dip : Nat) : Option Bytes :=
  (((validEls s 0x4300 ++ validEls s 0x4301).map (·.2)).filter fun b => inPrefix (beNat (sub b 0 16)) (fld b 16 1) dip).foldl
    (fun best b => match best with
      | none => some b
      | some x => if fld x 16 1 < fld b 16 1 then some b else some x) none

/-- The bridge entry of a MAC and VLAN. -/
def bridgeOf (s : State) (mac vlan : Nat) : Option (Nat × Bytes) :=
  (validEls s 0x4200).find? fun p => beNat (sub p.2 0 6) == mac && fld p.2 6 2 == vlan

/-- The two candidate buckets of a flow (R243), as first entries. -/
def flowBuckets (h : Nat) : Nat × Nat := (8 * (h % 16384), 8 * (h / 16384 % 16384))

def flowRec (s : State) (e : Nat) : Bytes := s.objB (entryAt 0x4400 e).1 (entryAt 0x4400 e).2
def flowValid (s : State) (e : Nat) : Bool := bit (fld (flowRec s e) 44 1) 0

/-- The ways of both candidate buckets. -/
def flowWays (h : Nat) : List Nat :=
  let (a, b) := flowBuckets h
  (List.range 8).map (a + ·) ++ (List.range 8).map (b + ·)

/-- The entry that holds a flow. -/
def flowFind (s : State) (key : Bytes) : Option Nat :=
  (flowWays (crc32c key)).find? fun e => flowValid s e && sub (flowRec s e) 0 44 == key

/-- The free way an insert takes: in the bucket with more, the first on a tie (R244). -/
def flowSlot (s : State) (key : Bytes) : Option Nat :=
  let (a, b) := flowBuckets (crc32c key)
  let free (x : Nat) : List Nat := ((List.range 8).map (x + ·)).filter fun e => !flowValid s e
  let w := if (free a).length < (free b).length then free b else free a
  w.head?

/-- The fast cache is filled on a table hit; the set's least recently used entry leaves it (R243). -/
def cacheFill (s : State) (h e : Nat) : State :=
  let set := h % 4096
  let old := tgetD s.pp.cache set []
  let l := e :: old.filter (· != e)
  let mark (s : State) (e : Nat) (b : Bool) : State :=
    let (i, el) := entryAt 0x4400 e
    s.setObjF i el 44 1 (setBit (s.objF i el 44 1) 1 b)
  let s := (l.drop 4).foldl (fun s x => mark s x false) (mark s e true)
  s.setPp { s.pp with cache := tput s.pp.cache set (l.take 4) }

def finOrRst (k : PKey) : Bool := bit k.tcpFlags 0 || bit k.tcpFlags 2

/-- Note a hit of a flow: the idle time restarts; FIN or RST shortens it (R246). -/
def flowTouched (s : State) (k : PKey) (e : Nat) : State :=
  let (i, el) := entryAt 0x4400 e
  s.setPp { s.pp with
    hitAt := tput s.pp.hitAt (okey i el) s.now
    finSeen := if finOrRst k ∧ s.pp.finSeen.contains e = false then s.pp.finSeen ++ [e] else s.pp.finSeen }

/-- A hit of the flow table. -/
def flowHit (s : State) (k : PKey) (e : Nat) : State :=
  let h := crc32c (flowKey k)
  let (i, el) := entryAt 0x4400 e
  let s := ppStat s 4
  let s := if (tgetD s.pp.cache (h % 4096) []).contains e then ppStat s 5 else s
  cacheFill (flowTouched (s.addObjF i el 64 8 1) k e) h e

/-- A FLOW_ENTRY learned from a route (R244, R245). -/
def learnedFlow (s : State) (key r : Bytes) : Bytes :=
  key ++ le 1 1 ++ sub r 30 1 ++ sub r 18 1 ++ le 1 0 ++ sub r 20 2 ++ sub r 22 6 ++ sub r 28 2 ++ le 2 0xFFFF ++
    le 4 s.pp.routeGen ++ le 8 0

/-- Learn a flow of a routed packet (R244): a stale entry of the flow is rewritten (R245). -/
def learnFlow (s : State) (k : PKey) (r : Bytes) : State :=
  let key := flowKey k
  match (match flowFind s key with | some e => some e | none => flowSlot s key) with
  | some e =>
    let (i, el) := entryAt 0x4400 e
    let s := s.setPp { s.pp with finSeen := s.pp.finSeen.filter (· != e) }
    flowTouched (putEntry s i el (learnedFlow s key r)) k e
  | none => ppFlag (ppStat s 6) 0

/-- The routed branch of R241. -/
def routeLook (s : State) (k : PKey) (noLearn : Bool) : State × Look :=
  if bit k.flags 14 then (ppStat s 9, { dest := none })
  else match routeOf s k.dip with
    | none => (ppStat s 11, { dest := none })
    | some r =>
      if bit (fld r 17 1) 1 then (s, { dest := some cores0 })
      else if bit (fld r 17 1) 2 then (s, { dest := none })
      else if k.hop ≤ 1 then (ppFlag (ppStat s 10) 5, { dest := some cores0 })
      else
        let learn : Bool := s.objF 0x4006 0 0 1 == 1 && bit k.flags 8 && !noLearn
        (if learn then learnFlow s k r else s,
          { dest := some { kind := fld r 18 1, index := fld r 20 2 }, hop := some (sub r 22 6, fld r 28 2), cls := fld r 30 1 })

/-- The bridged branch of R241. -/
def bridgeLook (s : State) (k : PKey) : State × Look :=
  let flood : Dest := { kind := 4, index := k.vlan0 }
  if bit k.flags 7 ∨ bit k.flags 6 then (s, { dest := some flood })
  else match bridgeOf s k.dmac k.vlan0 with
    | none => (s, { dest := some flood })
    | some (el, b) =>
      let s := s.setObjF 0x4200 el 8 1 (setBit (fld b 8 1) 2 true)
      (s.setPp { s.pp with hitAt := tput s.pp.hitAt (okey 0x4200 el) s.now },
        { dest := some { kind := fld b 9 1, index := fld b 10 2 } })

/-- R241: the flow table, then the routes or the bridge. A flow hit at its last hop goes to core ring 0 (log entry 71). -/
def lookup (s : State) (k : PKey) (noLearn : Bool) : State × Look :=
  let hit := if bit k.flags 14 then none else
    (flowFind s (flowKey k)).filter fun e => fld (flowRec s e) 60 4 == s.pp.routeGen || fld (flowRec s e) 60 4 == 0xFFFFFFFF
  match hit with
  | some e =>
    let f := flowRec s e
    let s := flowHit s k e
    if k.hop ≤ 1 then (ppFlag (ppStat s 10) 5, { dest := some cores0 })
    else (s, { dest := some { kind := fld f 46 1, index := fld f 48 2 }, hop := some (sub f 50 6, fld f 56 2), cls := fld f 45 1,
               tunnel := if fld f 58 2 = 0xFFFF then none else some (fld f 58 2) })
  | none => if bit k.flags 5 = true ∧ isIp k = true then routeLook s k noLearn else bridgeLook s k

/-! ### Bridge learning (R242) -/

/-- Slots of a table in use: valid entries, new copies of the open version and superseded copies (R251). -/
def slotsUsed (s : State) (t : Nat) : Nat :=
  let mine (p : Nat × Nat × Bytes) : Bool := tableOf p.1 == some t && recValid p.1 p.2.2
  tableCount s t + (s.pp.openCh.filter mine).length + (s.pp.olds.flatMap fun o => o.vals.filter mine).length

/-- The first element of an index, of `n`, that is neither valid nor held by the open version. -/
def freeEl (s : State) (idx n : Nat) : Option Nat :=
  (findLt n fun i => !recValid idx (s.objB idx (i + 1)) && !(s.pp.openCh.any fun p => p.1 == idx && p.2.1 == i + 1)).map (· + 1)

/-- Learn a source: an existing dynamic entry moves to the new egress and its age restarts. -/
def learnBridge (s : State) (p : Packet) (k : PKey) : State :=
  let kind := if p.kind = 1 ∨ p.kind = 2 then 1 else if p.kind = 3 then 2 else 0
  let index := if kind = 0 then p.ingress else p.source
  let body (flags : Nat) : Bytes := be 6 k.smac ++ le 2 k.vlan0 ++ le 1 flags ++ le 1 kind ++ le 2 index ++ le 2 0
  let hit (s : State) (el : Nat) : State := s.setPp { s.pp with hitAt := tput s.pp.hitAt (okey 0x4200 el) s.now }
  match bridgeOf s k.smac k.vlan0 with
  | some (el, b) =>
    if bit (fld b 8 1) 1 then s
    else
      let v := body (fld b 8 1)
      hit (if v = b then s else putEntry s 0x4200 el v) el
  | none =>
    match (if slotsUsed s 0x4200 < 32768 then freeEl s 0x4200 32768 else none) with
    | some el => hit (putEntry s 0x4200 el (body 1)) el
    | none => ppFlag (ppStat s 7) 1

/-- When a bridge entry or a flow was last hit. -/
def lastHit (s : State) (idx el : Nat) : Nat := tgetD s.pp.hitAt (okey idx el) 0

/-- BRIDGE_AGE_EXPIRY: a dynamic entry not hit for BRIDGE_AGE seconds is removed (R242). -/
def execBridgeAgeExpiry (el : Nat) (s : State) : Out := live s fun s =>
  let b := s.objB 0x4200 el
  if recValid 0x4200 b = true ∧ bit (fld b 8 1) 1 = false ∧ 1 ≤ el ∧
      lastHit s 0x4200 el + s.objN 0x4007 0 * 1000000000 ≤ s.now then
    let s := s.setPp { s.pp with hitAt := tdel s.pp.hitAt (okey 0x4200 el) }
    putEntry s 0x4200 el (zeros 14)
  else s

/-- A flow entry is removed: it leaves the fast cache too. -/
def dropFlow (s : State) (e : Nat) : State :=
  let (i, el) := entryAt 0x4400 e
  let s := s.setPp { s.pp with
    hitAt := tdel s.pp.hitAt (okey i el), finSeen := s.pp.finSeen.filter (· != e)
    cache := s.pp.cache.map fun p => (p.1, p.2.filter (· != e)) }
  putEntry s i el (zeros 72)

/-- The seconds without a hit after which a learned flow goes: FIN_IDLE once FIN or RST has passed (R246). -/
def flowIdle (s : State) (e : Nat) : Nat := s.objF 0x4006 0 (if s.pp.finSeen.contains e then 3 else 1) 2

/-- FLOW_IDLE_EXPIRY: a learned entry not hit for its idle time is removed (R246). -/
def execFlowIdleExpiry (entry : Nat) (s : State) : Out := live s fun s =>
  if entry < 131072 ∧ flowValid s entry = true ∧ bit (fld (flowRec s entry) 44 1) 2 = false ∧
      lastHit s (entryAt 0x4400 entry).1 (entryAt 0x4400 entry).2 + flowIdle s entry * 1000000000 ≤ s.now then dropFlow s entry else s

/-! ### Rewrites (R230, R241, R255) -/

/-- A packet under rewriting: its bytes, where the Ethernet header the key describes and the L3 header begin. -/
structure Rw where
  b : Bytes
  l2 : Nat := 0
  l3 : Option Nat := none

/-- Tags of the Ethernet header at an offset, at most 4. -/
def tagsAt (b : Bytes) (o : Nat) : Nat → Nat
  | 0 => 0
  | k + 1 => if beF b (o + 12) 2 = 0x8100 ∨ beF b (o + 12) 2 = 0x88A8 then 1 + tagsAt b (o + 4) k else 0

/-- Replace `n` bytes at an offset by others; headers behind them shift. -/
def Rw.splice (x : Rw) (o n : Nat) (new : Bytes) : Rw :=
  let at_ (h : Nat) : Nat := if o + n ≤ h then h + new.length - n else h
  { b := x.b.take o ++ new ++ x.b.drop (o + n), l2 := at_ x.l2, l3 := x.l3.map at_ }

/-- SET_VLAN: 0 replace the outer VID, 1 push an 802.1Q tag with the packet's PCP, 2 pop the outer tag. -/
def vlanRewrite (x : Rw) (k : PKey) (op vid : Nat) : Rw :=
  let tagged : Bool := tagsAt x.b 0 1 == 1
  if op = 1 then x.splice 12 0 (be 2 0x8100 ++ be 2 (k.pcp0 * 8192 + vid))
  else if tagged = false then x
  else if op = 0 then { x with b := setBe x.b 14 2 (beF x.b 14 2 / 4096 * 4096 + vid) }
  else if op = 2 then x.splice 12 4 []
  else x

/-- Routing: MACs, the egress VLAN, and the hop limit with IPv4's checksum updated incrementally (R241). -/
def routeRewrite (s : State) (x : Rw) (k : PKey) (mac : Bytes) (vlan : Nat) : Rw :=
  let x := x.splice x.l2 12 (mac ++ s.objB 0x4004 0)
  let tag : Bytes := if vlan = 0 then [] else be 2 0x8100 ++ be 2 (k.pcp0 * 8192 + vlan)
  let x := x.splice (x.l2 + 12) (4 * tagsAt x.b x.l2 4) tag
  match x.l3 with
  | none => x
  | some o =>
    if bit k.flags 12 then
      let m := beF x.b (o + 8) 2
      let b := setBe x.b (o + 8) 1 (beF x.b (o + 8) 1 - 1)
      { x with b := setBe b (o + 10) 2 (65535 - fold16 (fold16 ((65535 - beF x.b (o + 10) 2) + (65535 - m) + beF b (o + 8) 2))) }
    else { x with b := setBe x.b (o + 7) 1 (beF x.b (o + 7) 1 - 1) }

/-- DECAP: the headers up to the inner Ethernet header go, or, for IP without Ethernet, those up to the inner IP header,
the frame's own L2 header staying with the inner EtherType. -/
def decap (x : Rw) (inner : Option (Nat × Bool)) (shift : Int) : Rw :=
  match inner with
  | none => x
  | some (o, true) => x.splice 0 ((o : Int) + shift).toNat []
  | some (o, false) =>
    let o := ((o : Int) + shift).toNat
    let l := 12 + 4 * tagsAt x.b 0 4
    let et := if beF x.b o 1 / 16 = 6 then 0x86DD else 0x0800
    { (x.splice l (o - l) (be 2 et)) with l2 := 0 }

/-- The headers an ENCAP prepends in front of the inner bytes, and the route of OUTER_DIP. Fields the spec does not
state (the IPv4 identification, a flow label, the UDP checksum) are free values. -/
def encap (s : State) (x : Rw) (k : PKey) (t : Bytes) : State × Option (Rw × Dest) :=
  match routeOf s (beNat (sub t 24 16)) with
  | none => (ppStat s 11, none)
  | some r =>
    let typ := fld t 1 1
    let v4 : Bool := beNat (sub t 24 16) / 2 ^ 32 == 0xFFFF
    let l := 12 + 4 * tagsAt x.b 0 4
    let inner := if typ = 4 then x.b.drop (l + 2) else x.b
    let (d1, s) := s.draw
    let (d2, s) := s.draw
    let h := crc32c (flowKey k)
    let shim : Bytes :=
      if typ = 1 then [8, 0, 0, 0] ++ be 3 (fld t 4 3) ++ [0]
      else if typ = 2 then [0, 0] ++ be 2 0x6558 ++ be 3 (fld t 4 3) ++ [0]
      else if typ = 3 then be 2 0x2000 ++ be 2 0x6558 ++ be 4 (fld t 4 4)
      else []
    let l4 : Bytes := if typ = 1 ∨ typ = 2 then
        be 2 (49152 + h % 16384) ++ be 2 (fld t 42 2) ++ be 2 (8 + shim.length + inner.length) ++ be 2 (d2 % 65536) else []
    let load := l4.length + shim.length + inner.length
    let proto := if typ = 3 then 47 else if typ = 4 then (if beF inner 0 1 / 16 = 6 then 41 else 4) else 17
    let ip : Bytes := if v4 then
        let h0 := [0x45] ++ le 1 (fld t 40 1 * 4) ++ be 2 (20 + load) ++ be 2 (d1 % 65536) ++ [0, 0] ++ sub t 41 1 ++ le 1 proto ++
          [0, 0] ++ sub t 20 4 ++ sub t 36 4
        setBe h0 10 2 (csum (sum16 h0))
      else be 4 (6 * 2 ^ 28 + fld t 40 1 * 2 ^ 22 + d1 % 2 ^ 20) ++ be 2 load ++ le 1 proto ++ sub t 41 1 ++ sub t 8 16 ++ sub t 24 16
    let tag : Bytes := if fld r 28 2 = 0 then [] else be 2 0x8100 ++ be 2 (k.pcp0 * 8192 + fld r 28 2)
    let eth := sub r 22 6 ++ s.objB 0x4004 0 ++ tag ++ be 2 (if v4 then 0x0800 else 0x86DD)
    let dest : Dest := if bit (fld r 17 1) 1 then cores0 else { kind := fld r 18 1, index := fld r 20 2 }
    if bit (fld r 17 1) 2 then (s, none)
    else (s, some ({ b := eth ++ ip ++ l4 ++ shim ++ inner }, dest))

/-! ### Queues of a destination (R241, R256, R257) -/

/-- The flood set of a VLAN without the ingress, the ports whose link is down (R283) and, in the root role, the host
port, which does not exist there (R305; log entry 169). -/
def floodSet (s : State) (vlan ingress bss : Nat) : Nat :=
  let v := s.objN 0x4030 (vlan % 4096 + 1) % 2 ^ 56
  let v := [0, 1, 2].foldl (fun v p => if portUp s p then v else setBit v (48 + p) false) v
  let v := if s.wired.pcieRoot then setBit v 51 false else v
  let drop (b : Nat) : Nat := setBit v b false
  if ingress ≤ 4 then drop (48 + ingress)
  else if bss < 48 then drop bss
  else if bss ≤ 50 then drop (53 + (bss - 48))
  else v

/-- The queue of one flood bit. -/
def floodQueue (cls b : Nat) : Nat :=
  if b < 48 then qGroupAddr (b / 16) (b % 16)
  else if b ≤ 51 then qPort (b - 48) cls
  else if b = 52 then qCore 0
  else qChain (b - 53) cls 0

/-- The radio of a member destination; index 0 is the coordinator of a radio in the member role. -/
def memberRadio (s : State) (n : Nat) : Option Nat :=
  if n = 0 then findLt 3 fun r => s.objN 0x3800 (r + 1) == 1
  else if n ≤ 1024 ∧ mRadio s n < 3 then some (mRadio s n)
  else none

/-- Queues and destination entry of an egress; no queue where none exists. -/
def queuesFor (s : State) (p : Packet) (cls : Nat) (d : Dest) : List Nat × Nat :=
  match d.kind with
  | 0 => (if d.index ≤ 3 then [qPort d.index cls] else if d.index = 4 then [qCore 0] else [], 0)
  | 1 => (if 1 ≤ d.index ∧ d.index ≤ 2048 then [qStation d.index (acOf cls)] else [], d.index)
  | 2 => match memberRadio s d.index with
    | some r => ([qChain r cls (d.index - 1)], d.index)
    | none => ([], 0)
  | 3 => ([qCore (d.index % 16)], 0)
  | _ =>
    let v := floodSet s d.index p.ingress p.bss
    (((List.range 56).filter (bit v)).map (floodQueue cls), 0)

/-- May the packet go to the entry a rule names (R240)? -/
def destOpen (s : State) (d : Dest) : Bool :=
  match d.kind with
  | 1 => decide (1 ≤ d.index ∧ d.index ≤ 2048) && staState s d.index == 3
  | 2 => decide (1 ≤ d.index ∧ d.index ≤ 1024) && mState s d.index == 2
  | _ => true

/-! ### Judging a packet -/

/-- A segmentation descriptor whose frame has grown or shrunk in front of its headers. -/
def segMoved (d : SegDesc) (was is_ : Nat) : SegDesc :=
  { d with hdr := d.hdr + is_ - was, l4Off := d.l4Off + is_ - was, l3Off := d.l3Off + is_ - was }

/-- What has entered with a packet: its stamp, a descriptor's class, time-stamp request and segmentation (R298). -/
structure Entered where
  stamp : DatumVal
  cls : Option Nat := none
  tstamp : Bool := false
  seg : Option SegDesc := none
  deriving DecidableEq, Repr

/-- The class a packet takes (R240, R241, R298): a descriptor's, else SET_CLASS, else the route's, else by the TID of a
wireless ingress or PCP0. -/
def classOf (x : Entered) (p : Packet) (k : PKey) (act look : Nat) : Nat :=
  match x.cls with
  | some c => c
  | none =>
    if bit act 35 then bits act 32 3
    else if look ≤ 7 then look
    else if 0x10 ≤ p.ingress then p.tid % 8
    else k.pcp0

/-- Copies of one content are one stored frame in several queues (R258). -/
def mergeOut (l : List PpOut) (o : PpOut) : List PpOut :=
  if o.queues.isEmpty then l
  else if l.any (fun x => x.bytes == o.bytes && x.cls == o.cls && x.seg == o.seg) then
    l.map fun x => if x.bytes == o.bytes && x.cls == o.cls && x.seg == o.seg then
      { x with queues := x.queues ++ o.queues.filter (fun q => !x.queues.contains q), dst := if x.dst = 0 then o.dst else x.dst } else x
  else l ++ [o]

/-- The mirror copy of R240. -/
def mirrorOut (s : State) (p : Packet) (x : Entered) (act cls : Nat) : PpOut :=
  let e := bits act 56 4 % 8 + 1
  let vid := s.objF 0x4020 e 2 2
  let b := if vid = 0 then p.bytes else (Rw.splice { b := p.bytes } 12 0 (be 2 0x8100 ++ be 2 vid)).b
  { queues := [qMirror (e - 1)], dst := 0, cls, seg := x.seg.map fun d => segMoved d p.bytes.length b.length, bytes := b }

/-- The forwarding of a packet with its rewrites: where it goes and its bytes; none when it is dropped. -/
def forward (s : State) (p : Packet) (r : Parsed) (act : Nat) : State × Option (Dest × Nat × Bytes) :=
  let k := r.key
  let mode := bits act 52 4
  let (s, lk) : State × Look :=
    if mode = 0 then lookup s k (bit act 3)
    else (s, { dest := some { kind := mode - 1, index := bits act 36 16 } })
  match lk.dest with
  | none => (s, none)
  | some d =>
    if mode ≠ 0 ∧ destOpen s d = false then (ppStat s 12, none)
    else
      let l2 := match r.inner with | some (o, true) => o | _ => 0
      let x : Rw := { b := p.bytes, l2, l3 := r.l3 }
      let x := if bit act 31 then vlanRewrite x k (bits act 29 2) (bits act 17 12) else x
      let x := match lk.hop with | some (mac, vlan) => routeRewrite s x k mac vlan | none => x
      let tun := if bit act 16 then some (bits act 8 8) else lk.tunnel
      match tun.map fun i => s.objB 0x4500 (i % 256 + 1) with
      | none => (s, some (d, lk.cls, x.b))
      | some t =>
        if fld t 0 1 = 2 then
          let x := decap x r.inner ((x.b.length : Int) - p.bytes.length)
          (s, some (d, lk.cls, x.b))
        else if fld t 0 1 = 1 then
          match encap s x k t with
          | (s, none) => (s, none)
          | (s, some (x, od)) => (s, some (if mode = 0 then od else d, lk.cls, x.b))
        else (s, some (d, lk.cls, x.b))

/-- Classification, lookup and rewrites of a parsed packet (R230, R239 to R242): the frames it hands off. -/
def judge (s : State) (p : Packet) (x : Entered) (r : Parsed) : State × List PpOut :=
  let k := r.key
  let w := winner s k.word
  let s := match w with | some (el, _) => s.stat64 0x4102 el 0 1 | none => s
  let act := match w with | some (_, b) => fld b 8 8 | none => defaultAction
  let disp := bits act 62 2
  let core := [qCore (bits act 4 4)]
  let asEntered (q : List Nat) (c : Nat) : PpOut := { queues := q, dst := 0, cls := c, seg := x.seg, tstamp := x.tstamp, bytes := p.bytes }
  let (s, fwd) := if disp = 1 then forward s p r act else (s, none)
  let cls := classOf x p k act (match fwd with | some f => f.2.1 | none => 0xFF)
  let s := if disp = 0 ∨ disp = 3 then ppStat s 1 else s
  let (s, outs) : State × List PpOut :=
    match fwd with
    | some (d, _, b) =>
      let (qs, dst) := queuesFor s p cls d
      if p.truncated then (s.setPp { s.pp with truncDrops := s.pp.truncDrops + qs.length }, [])
      else if qs.isEmpty ∧ d.kind ≠ 4 then (ppStat s 12, [])
      else (s, mergeOut [] { queues := qs, dst, cls, seg := x.seg.map fun g => segMoved g p.bytes.length b.length, tstamp := x.tstamp, bytes := b })
    | none => (s, if disp = 2 then [asEntered core cls] else [])
  let (s, outs) := if bit act 61 then
      let b := match fwd with | some f => f.2.2 | none => p.bytes
      let seg := x.seg.map fun g => segMoved g p.bytes.length b.length
      (ppStat s 2, mergeOut outs { asEntered core cls with seg, bytes := b })
    else (s, outs)
  let (s, outs) := if bit act 60 then (ppStat s 3, mergeOut outs (mirrorOut s p x act cls)) else (s, outs)
  let s := if bit act 3 = false ∧ bit k.flags 14 = false then learnBridge s p k else s
  (s, outs)

/-! ### Entry and hand-off (R231, R232, R247, R248) -/

/-- Is the packet steered to the dictionary engine (R231)? -/
def steered (s : State) (p : Packet) : Bool :=
  let eo := etherOff p.bytes
  let et := beF p.bytes eo 2
  let o := eo + 2
  let udp (v4 : Bool) : Bool :=
    let l4 := if v4 then o + 4 * (beF p.bytes o 1 % 16) else o + 40
    let dip := if v4 then mapped4 (beF p.bytes (o + 16) 4) else beF p.bytes (o + 24) 16
    beF p.bytes (o + (if v4 then 9 else 6)) 1 == 17 && beF p.bytes (l4 + 2) 2 == s.objN 0x0102 0 &&
      (List.range 8).any fun i => (s.objB 0x4005 (i + 1)).length == 16 && beNat (s.objB 0x4005 (i + 1)) == dip
  (p.ingress == 2 && et == 0x88B5) ||
    (et == 0x0800 && beF p.bytes o 1 / 16 == 4 && beF p.bytes (o + 6) 2 % 8192 == 0 && udp true) || (et == 0x86DD && udp false)

/-- Drop the first item of a list that a test names. -/
def removeFirst {α : Type} (p : α → Bool) : List α → List α
  | [] => []
  | a :: r => if p a then r else a :: removeFirst p r

/-- The packet leaves what it waited in: a port's or ring's store, or the radios' delivery. -/
def takeEntered (s : State) (p : Packet) : State × Entered :=
  let isRx (x : RxStored) : Bool := x.ingress == p.ingress && x.bytes == p.bytes
  let isMac (m : Msdu) : Bool := m.radio + 0x10 == p.ingress && m.source == p.source && m.body == p.bytes
  match s.wired.rx.find? isRx with
  | some x => ({ s with wired := { s.wired with rx := removeFirst isRx s.wired.rx } },
      { stamp := x.stamp, cls := x.cls, tstamp := x.tstamp, seg := x.seg })
  | none => (s.setMac { s.mac with toPp := removeFirst isMac s.mac.toPp }, { stamp := s.datum.t })

/-- A packet stamped before a stake is judged under the values it superseded (R61, R252): the stakes after its stamp,
newest first. -/
def olderThan (s : State) (stamp : DatumVal) : List PpOld := s.pp.olds.takeWhile fun o => decide (stamp.units < o.t)

/-- Put values in place of others, answering what stood there. -/
def swapVals (s : State) (vals : List (Nat × Nat × Bytes)) : State × List (Nat × Nat × Bytes) :=
  vals.foldl (fun (acc : State × List (Nat × Nat × Bytes)) p =>
    (acc.1.setObj p.1 p.2.1 p.2.2, (p.1, p.2.1, acc.1.objB p.1 p.2.1) :: acc.2)) (s, [])

/-- Parse and judge a packet under the version its stamp gives, and take a context. -/
def enterContext (s : State) (p : Packet) (x : Entered) : State :=
  let older := olderThan s x.stamp
  let ver := (older.getLast?.map (·.version)).getD s.pp.committed
  let gen := s.pp.routeGen
  let (s, back) := swapVals s (older.flatMap (·.vals))
  let s := s.setPp { s.pp with routeGen := (older.getLast?.map (·.gen)).getD gen }
  let r := parsePacket s p
  let s := ppStat s 0
  let s := if bit r.key.flags 15 then ppFlag s 6 else s
  let (s, outs) := judge s p x r
  let s := (swapVals s back).1
  let ctx : PpCtx :=
    { version := ver, order := orderOf r.key, ingress := p.ingress, src := (p.kind, p.source), tid := p.tid,
      entry := (x.stamp.sec, x.stamp.ns), truncated := p.truncated, outs }
  s.setPp { s.pp with routeGen := gen, ctxs := tput s.pp.ctxs s.pp.ctxNext ctx, ctxNext := s.pp.ctxNext + 1 }

/-- A pair device in SYNCING or STANDBY forwards nothing (R435). -/
def standsBy (s : State) : Bool := s.pair.st == .syncing || s.pair.st == .standby

/-- PACKET_INGRESS (R230): while no context is free the parser accepts no packet (R247). -/
def execPacketIngress (p : Packet) (s : State) : Out := live s fun s =>
  if 1024 ≤ s.pp.ctxs.length then ppFlag s 2
  else
    let (s, x) := takeEntered s p
    if p.poisonHeader then (ppFlag (ppStat s 14) 4).poisonConsumed 0x10 0xFF 0
    else if steered s p then s.setPp { s.pp with toDict := s.pp.toDict ++ [p.bytes] }
    else if standsBy s then s.stat 0x1404 0 4 1
    else if s.objN 0x4000 0 = 1 ∧ s.pp.committed = 0 then ppFlag (ppStat s 8) 3
    else
      let s := match p.corrEntry with | some (idx, el) => s.corrected 0x10 0xFF (65536 * idx + el) | none => s
      let s := match p.poisonEntry with | some (idx, el) => invalidate s idx el | none => s
      enterContext s p x

/-- The policed ingress of a port code (POLICER_MAP): none from the cores. -/
def policedIngress (code : Nat) : Option Nat := if code < 4 then some code else if code = 4 then none else some (4 + (code - 0x10))

/-- PACKET_HANDOFF: the oldest context of its order queue hands its frames to the traffic manager (R248). -/
def execPacketHandoff (ctx : Nat) (s : State) : Out := live s fun s =>
  match tget s.pp.ctxs ctx with
  | none => s
  | some c =>
    if s.pp.ctxs.any fun e => decide (e.1 < ctx) && e.2.order == c.order then s
    else
      let s := s.setPp { s.pp with ctxs := tdel s.pp.ctxs ctx }
      pauseBoth <| c.outs.foldl (fun s o =>
        let f : TmFrame :=
          { id := s.pp.frames, ingress := policedIngress c.ingress, cls := o.cls, tid := c.tid, dst := o.dst, entry := c.entry,
            src := c.src, queues := o.queues, tstamp := o.tstamp, seg := o.seg, truncated := c.truncated, bytes := o.bytes }
        tmHandoff (s.setPp { s.pp with frames := s.pp.frames + 1 }) f) s

end Sys2Proof.Machine
end

