-- ==== Sys2Proof/Machine/PpTables.lean ====
section
/-! DEFINITION. Changes of the packet-processor tables (09_packet_processor, R250 to R254): the open version, commits,
reclaims, and the table commands as unit actions. -/

namespace Sys2Proof.Machine
open Sys2Proof

/-- A refusal of the packet processor (unit 10h). -/
def ppRefuse (code reason : Nat) : Res := abortBy code 0x10 reason

/-- Is PP_MODE SERVICE? -/
def inService (s : State) : Bool := s.objN 0x4000 0 == 0

/-- An entry as the open version has it. -/
def openView (s : State) (idx el : Nat) : Bytes :=
  ((s.pp.openCh.find? fun p => p.1 == idx && p.2.1 == el).map (·.2.2)).getD (s.objB idx el)

/-- The view a table command or a direct write acts on: the table in place in SERVICE, else the open version. -/
def tableView (s : State) (idx el : Nat) : Bytes := if inService s then s.objB idx el else openView s idx el

/-- The valid entries of a table in that view. -/
def viewEls (s : State) (t : Nat) : List (Nat × Nat × Bytes) :=
  let live := (tableIdxs t).flatMap fun i => (validEls s i).map fun p => (i, p.1, p.2)
  if inService s then live
  else
    let mine := s.pp.openCh.filter fun p => tableOf p.1 == some t
    (live.filter fun p => !(mine.any fun q => q.1 == p.1 && q.2.1 == p.2.1)) ++ mine.filter fun q => recValid q.1 q.2.2

/-- The key of a bridge entry or a route; every rule has its own. -/
def entryKey (idx : Nat) (b : Bytes) : Option Bytes :=
  if idx = 0x4200 then some (sub b 0 8)
  else if idx = 0x4300 ∨ idx = 0x4301 then some (sub b 0 17)
  else if 0x4400 ≤ idx ∧ idx ≤ 0x4403 then some (sub b 0 44)
  else none

/-- The valid entry that holds a key. -/
def findKey (s : State) (t : Nat) (key : Bytes) : Option (Nat × Nat × Bytes) :=
  (viewEls s t).find? fun p => entryKey p.1 p.2.2 == some key

/-- Would the record duplicate another valid entry's key (R254)? -/
def duplicates (s : State) (idx el : Nat) (v : Bytes) : Bool :=
  recValid idx v && match tableOf idx, entryKey idx v with
    | some t, some k => (viewEls s t).any fun p => entryKey p.1 p.2.2 == some k && !(p.1 == idx && p.2.1 == el)
    | _, _ => false

/-- A bridge entry ages from its write; a flow that goes leaves the fast cache. -/
def ageFromNow (s : State) (idx el : Nat) : State :=
  if idx = 0x4200 ∧ recValid idx (s.objB idx el) = true then
    s.setPp { s.pp with hitAt := tput s.pp.hitAt (okey idx el) s.now }
  else if idx = 0x4200 then s.setPp { s.pp with hitAt := tdel s.pp.hitAt (okey idx el) }
  else if tableOf idx = some 0x4400 ∧ recValid idx (s.objB idx el) = false then dropFlow s ((idx - 0x4400) * 32768 + (el - 1))
  else s

/-- Put one entry: in place in SERVICE (R250), else into the open version, which needs a slot for a new copy (R251). -/
def putTable (s : State) (idx el : Nat) (v : Bytes) : State × Res :=
  if inService s then (ageFromNow (putEntry s idx el v) idx el, ok)
  else
    let rest := s.pp.openCh.filter fun p => !(p.1 == idx && p.2.1 == el)
    let full : Bool := match tableOf idx with
      | some t => recValid idx v && decide (tableSize t ≤ slotsUsed (s.setPp { s.pp with openCh := rest }) t)
      | none => false
    if full then (s, ppRefuse aFull 0x1006)
    else (s.setPp { s.pp with openCh := rest ++ [(idx, el, v)] }, ok)

/-- A direct write of a table entry (R250, R251, R254). -/
def tableWrite (idx el : Nat) (v : Bytes) (s : State) : State × Res :=
  if duplicates s idx el v then (s, ppRefuse aState 0x1009) else putTable s idx el v

/-- A write of PP_MODE: refused while the open version holds changes (R251). -/
def ppModeCmd (v : Bytes) (s : State) : State × Res :=
  if s.pp.openCh ≠ [] then (s, ppRefuse aState 0x1007) else (s.setObj 0x4000 0 v, ok)

/-! ### Versions (R251 to R253) -/

/-- May another version become live? -/
def canCommit (s : State) : Bool := decide (s.pp.live.length < 4)

/-- A new version is committed over values already in force; `olds` are the copies it superseded, `t` its stake instant. -/
def newVersion (s : State) (t : Nat) (olds : List (Nat × Nat × Bytes)) : State :=
  let v := s.pp.committed + 1
  let routes : Bool := olds.any fun p => p.1 == 0x4300 || p.1 == 0x4301
  s.setPp { s.pp with
    committed := v, live := s.pp.live ++ [v]
    olds := { version := s.pp.committed, t, gen := s.pp.routeGen, vals := olds } :: s.pp.olds
    routeGen := if routes then (s.pp.routeGen + 1) % 2 ^ 32 else s.pp.routeGen }

/-- The open version becomes live (R251). -/
def commitNow (s : State) : State :=
  let olds := s.pp.openCh.map fun p => (p.1, p.2.1, s.objB p.1 p.2.1)
  let ch := s.pp.openCh
  let s := newVersion (s.setPp { s.pp with openCh := [] }) 0 olds
  let s := ch.foldl (fun s p => ageFromNow ((s.setObj p.1 p.2.1 p.2.2).mirrorObj 5 p.1 p.2.1) p.1 p.2.1) s
  [0x4100, 0x4200, 0x4300, 0x4400].foldl watchTable s

/-- VERSION_CMD: COMMIT, which waits for a reclaim while four versions are live (no answer yet), and DISCARD. -/
def versionCmd (v : Bytes) (s : State) : State × Option Res :=
  if fld v 0 1 = 1 then
    if canCommit s then (commitNow s, some ok) else (s, none)
  else (s.setPp { s.pp with openCh := [] }, some ok)

/-- May a version be reclaimed: superseded, no context judged under it, and none waiting that its stamp places there? -/
def reclaimable (s : State) (n : Nat) : Bool :=
  n != s.pp.committed && (s.pp.live.contains n || n == 0) && !(s.pp.ctxs.any fun c => c.2.version == n) &&
    !(s.wired.rx.any fun x => s.pp.olds.any fun o => o.version == n && decide (x.stamp.units < o.t))

/-- A version is reclaimed and its superseded copies are freed (R253). -/
def reclaim (n : Nat) (s : State) : State :=
  if reclaimable s n then
    s.setPp { s.pp with live := s.pp.live.filter (· != n), olds := s.pp.olds.filter fun o => o.version != n }
  else s

/-! ### Table commands (R244, R254) -/

/-- The first free element of an index in the view written. -/
def freeView (s : State) (idx n : Nat) : Option Nat := (findLt n fun i => !recValid idx (tableView s idx (i + 1))).map (· + 1)

/-- The record that an INSERT carries, held to its table's checks and its reserved fields zero (R5, R6, R9). -/
def tableRec (idx : Nat) (b : Bytes) : Option Bytes :=
  match objRow? idx 1 with
  | some r => if valueRes r b = ok then some (scrub r b) else none
  | none => none

/-- RULE_CMD. -/
def ruleCmd (v : Bytes) (s : State) : State × Res :=
  let answer (x : State × Res) (el : Nat) : State × Res := (x.1.cmdOut 0x4101 0 (le 2 el), x.2)
  if fld v 0 1 = 1 then
    match tableRec 0x4100 (v.drop 4) with
    | none => (s, dictAbort aRange 0x14)
    | some rec_ =>
      if v.length ≠ 180 ∨ recValid 0x4100 rec_ = false then (s, dictAbort aRange 0x14)
      else match freeView s 0x4100 4096 with
        | none => (s, ppRefuse aFull 0x1001)
        | some el => answer (putTable s 0x4100 el rec_) el
  else
    let el := fld v 2 2
    if el = 0 ∨ 4096 < el then (s, dictAbort aRange 0x14)
    else if recValid 0x4100 (tableView s 0x4100 el) = false then (s, ppRefuse aState 0x1008)
    else answer (putTable s 0x4100 el (zeros 176)) el

/-- BRIDGE_CMD FLUSH: every dynamic entry. -/
def bridgeFlush (s : State) : State :=
  ((viewEls s 0x4200).filter fun p => bit (fld p.2.2 8 1) 1 == false).foldl (fun s p =>
    (putTable s 0x4200 p.2.1 (zeros 14)).1) s

/-- BRIDGE_CMD. An INSERT is static: it makes the entry VALID and STATIC. -/
def bridgeCmd (v : Bytes) (s : State) : State × Res :=
  let answer (x : State × Res) (el : Nat) : State × Res := (x.1.cmdOut 0x4201 0 (le 2 el), x.2)
  let rec_ := v.drop 2
  if fld v 0 1 = 3 then (bridgeFlush s, ok)
  else if v.length ≠ 16 then (s, dictAbort aRange 0x14)
  else if fld v 0 1 = 1 then
    match (tableRec 0x4200 rec_).map fun b => setFld (setFld b 8 1 3) 12 2 0 with
    | none => (s, dictAbort aRange 0x14)
    | some rec_ =>
      if (findKey s 0x4200 (sub rec_ 0 8)).isSome then (s, ppRefuse aState 0x1009)
      else match freeView s 0x4200 32768 with
        | none => (s, ppRefuse aFull 0x1003)
        | some el => answer (putTable s 0x4200 el rec_) el
  else match findKey s 0x4200 (sub rec_ 0 8) with
    | none => (s, ppRefuse aState 0x1008)
    | some (_, el, _) => answer (putTable s 0x4200 el (zeros 14)) el

/-- ROUTE_CMD: the result's element is that of the entry's own index. -/
def routeCmd (v : Bytes) (s : State) : State × Res :=
  let answer (x : State × Res) (el : Nat) : State × Res := (x.1.cmdOut 0x4310 0 (le 2 el), x.2)
  let rec_ := v.drop 2
  if fld v 0 1 = 1 then
    match (tableRec 0x4300 rec_).map fun b => setFld b 17 1 (setBit (fld b 17 1) 0 true) with
    | none => (s, dictAbort aRange 0x14)
    | some rec_ =>
      if (findKey s 0x4300 (sub rec_ 0 17)).isSome then (s, ppRefuse aState 0x1009)
      else match (match freeView s 0x4300 32768 with
          | some el => some (0x4300, el)
          | none => (freeView s 0x4301 32768).map fun el => (0x4301, el)) with
        | none => (s, ppRefuse aFull 0x1002)
        | some (i, el) => answer (putTable s i el rec_) el
  else match findKey s 0x4300 (sub rec_ 0 17) with
    | none => (s, ppRefuse aState 0x1008)
    | some (i, el, _) => answer (putTable s i el (zeros 32)) el

/-- The entry that holds a flow, and the way an insert takes, in the view written. -/
def flowFindView (s : State) (key : Bytes) : Option Nat :=
  (flowWays (crc32c key)).find? fun e =>
    let b := tableView s (entryAt 0x4400 e).1 (entryAt 0x4400 e).2
    recValid 0x4400 b && sub b 0 44 == key
def flowSlotView (s : State) (key : Bytes) : Option Nat :=
  let (a, b) := flowBuckets (crc32c key)
  let free (x : Nat) : List Nat :=
    ((List.range 8).map (x + ·)).filter fun e => !recValid 0x4400 (tableView s (entryAt 0x4400 e).1 (entryAt 0x4400 e).2)
  let w := if (free a).length < (free b).length then free b else free a
  w.head?

/-- Remove a flow: in place in SERVICE, else in the open version. -/
def removeFlow (s : State) (e : Nat) : State :=
  if inService s then dropFlow s e else (putTable s (entryAt 0x4400 e).1 (entryAt 0x4400 e).2 (zeros 72)).1

/-- FLOW_CMD: a static entry carries generation FFFF_FFFFh and always hits (R245). -/
def flowCmd (v : Bytes) (s : State) : State × Res :=
  let answer (x : State × Res) (e : Nat) : State × Res := (x.1.cmdOut 0x4410 0 (le 4 e), x.2)
  let key := sub v 2 44
  if fld v 0 1 = 3 then
    (((viewEls s 0x4400).filter fun p => bit (fld p.2.2 44 1) 2 == false).foldl (fun s p =>
      removeFlow s ((p.1 - 0x4400) * 32768 + (p.2.1 - 1))) s, ok)
  else if v.length ≠ 66 then (s, dictAbort aRange 0x14)
  else if fld v 0 1 = 1 then
    match (tableRec 0x4400 (v.drop 2 ++ zeros 8)).map fun b => setFld (setFld b 44 1 5) 60 4 0xFFFFFFFF with
    | none => (s, dictAbort aRange 0x14)
    | some rec_ =>
      if (flowFindView s key).isSome then (s, ppRefuse aState 0x1009)
      else match flowSlotView s key with
        | none => (s, ppRefuse aFull 0x1004)
        | some e => answer (putTable s (entryAt 0x4400 e).1 (entryAt 0x4400 e).2 rec_) e
  else match flowFindView s key with
    | none => (s, ppRefuse aState 0x1008)
    | some e => answer (removeFlow s e, ok) e

/-! ### Closure rules -/

/-- 0171h PARSE_GRAPH: every transition and hook names a fixed node, an enabled programmable node or END (R238). -/
def parseGraphOk (s : State) : Bool :=
  let nodeOk (n : Nat) : Bool := decide (n ≤ 0x0B) || n == 0xFF ||
    (decide (0x20 ≤ n ∧ n ≤ 0x3F) && s.objF 0x4010 (n - 0x1F) 0 1 == 1)
  ((List.range 32).all fun i => s.objF 0x4010 (i + 1) 0 1 == 0 ||
    (nodeOk (s.objF 0x4010 (i + 1) 9 1) && (List.range 8).all fun j => nodeOk (s.objF 0x4010 (i + 1) (12 + 3 * j) 1))) &&
  (List.range 16).all fun i => nodeOk (s.objF 0x4011 (i + 1) 3 1)

/-- 0170h VERSION_SPACE: a free slot for every staged change (R252). -/
def versionSpaceOk (s : State) (staged : List (Nat × Nat × Bytes)) : Bool :=
  [0x4100, 0x4200, 0x4300].all fun t =>
    decide (slotsUsed s t + (staged.filter fun p => tableOf p.1 == some t && recValid p.1 p.2.2).length ≤ tableSize t)

/-- 0172h OPEN_OVERLAP: no staged object is also changed in the open version (R252). -/
def openOverlapOk (s : State) (staged : List (Nat × Nat × Bytes)) : Bool :=
  staged.all fun p => !(s.pp.openCh.any fun q => q.1 == p.1 && q.2.1 == p.2.1)

/-- Is an index one of the packet processor's (R252)? -/
def isPpObject (idx : Nat) : Bool := decide (0x4000 ≤ idx ∧ idx < 0x5000)

end Sys2Proof.Machine
end

