-- ==== Sys2Proof/Machine/Gate.lean ====
section
/-! DEFINITION. The lock gate (04_synthesizers_frontend, R101 to R110): what opens it, what closes it, the requests held at
it, and the aborts of radio transmit and receive (R64). -/

namespace Sys2Proof.Machine
open Sys2Proof

/-- What a transmission that never began carried is put back: MPDUs at the head of their queues with their retry count (R163), a
group frame where it was fetched, a Chain frame for its next opportunity (R218); a beacon is a skipped beacon (R109). -/
def restoreAir (s : State) (r : Radio) (a : Air) : State :=
  if a.kind = 4 then
    match (s.cr r).await with
    | some t => s.modCr r fun x => { x with await := none, retry := { t with tries := t.tries - 1 } :: x.retry }
    | none => s
  else if a.kind = 2 then
    let el := bssEl r.val a.id
    beaconSkip (s.setMac { s.mac with beacons := tput s.mac.beacons el (tgetD s.mac.beacons el 0 - 1) }) r a.id
  else if (match (s.fe r).tx with | some x => x.req.id == a.id && x.s == a.s | none => false) = true then
    let (s, ms) := endExchange s r
    ms.foldr (fun m s => toHead s m) s
  else match s.mac.groupSent.getLast? with
    | some m => if a.kind = 1 ∧ a.id = 0 then putBack (s.setMac { s.mac with groupSent := s.mac.groupSent.dropLast }) r m.frame else s
    | none => s

/-- A transmission that was on the air is cut: its MPDUs are unacknowledged (R106, R163). -/
def brokenAir (s : State) (r : Radio) (a : Air) : State :=
  if (match (s.fe r).tx with | some x => x.req.id == a.id && x.s == a.s | none => false) = true then
    let (s, ms) := endExchange s r
    ms.foldl (fun s m => mpduUnacked s r.val m) s
  else s

/-- Everything a radio has due or on the air is stopped as a radio transmit abort (R94, R106, R110, R136): answers what was. -/
def stopTx (s : State) (r : Radio) : State × List Air :=
  let (s, cut) := cutAir s r
  (cut.foldr (fun a s => if a.s ≤ s.now then brokenAir s r a else restoreAir s r a) s, cut)

/-- Every held request is returned with SYNTH_BUSY; a beacon is then a skipped beacon (R107, R109). -/
def returnHeldAll (s : State) (r : Radio) : State :=
  (s.fe r).held.foldl (fun s p =>
    let s := returnReq s r p.id 0x20
    if p.kind = 2 then beaconSkip s r p.id else s) (s.modFe r fun f => { f with held := [] })

/-- FAULT: the gate stays closed, every held request is returned, a fault record is written (R103, R107). -/
def enterFault (s : State) (r : Radio) : State :=
  let s := s.modFe r fun f =>
    { f with st := .fault, fresh := true, diag := if diagPending f then { f.diag with ended := 6 } else f.diag }
  (returnHeldAll s r).logEvent (radioUnit r) 3 0xF007 r.val 0

/-- LOCK_TIMEOUT: the divider is written again, or the third timeout in a row enters FAULT (R103). -/
def execLockTimeout (r : Radio) (s : State) : Out := live s fun s =>
  let f := s.fe r
  if f.st = .changing ∨ f.st = .relock then
    let s := (s.modFe r fun f => { f with attempts := f.attempts + 1, timeouts := (f.timeouts + 1) % 2 ^ 32 }).radioFlag 0x2051 r 3
    if 3 ≤ f.attempts + 1 then enterFault s r else s
  else s

/-- Step 6: the gate opens, AGC is reset and preamble detection resumes, on the fallback path once the LO is locked (R101 to
R103). A request for another channel begins at the completion of the change instead (R104). A diagnostic transmission begins,
its counter loaded (R120). A slot that waited is served, the held requests are judged (R105, R109). -/
def openGate (s : State) (r : Radio) : State :=
  let was := s.fe r
  let s := s.modFe r fun f =>
    { f with st := .ready, attempts := 0, newChan := false, fresh := false
             changes := if f.newChan then (f.changes + 1) % 2 ^ 32 else f.changes
             dwellFrom := if f.newChan then s.now else f.dwellFrom
             rxFrom := if f.path = .fallback ∧ f.loLocked = false then f.rxFrom else s.now }
  let s := (assigned s r).foldl (fun s t => s.modTrx t fun x => { x with lnaByp := false }) s
  let s := if was.fresh then restartSentinels s r else s
  let f := s.fe r
  if diagPending f then
    s.modFe r fun f =>
      { f with st := .diag, diag := { f.diag with running := true, remaining := s.now + s.objN 0x7F81 0 * 1000000 } }
  else match (if was.newChan then f.pending else none) with
    | some c => beginChange s r c
    | none =>
      let s := serveDue (bookStanding (imageCheck s r) r 0) r
      let held := (s.fe r).held
      held.foldl (fun s p => judgeHeld s r p) (s.modFe r fun f => { f with held := [] })

/-- CHANNEL_CHANGE_DONE: steps 4 to 6 of a channel change (R102). -/
def execChannelChangeDone (r : Radio) (temps : List Int) (us : Nat) (s : State) : Out := live s fun s =>
  if (s.fe r).st = .changing then
    let s := calibrateChange s r temps
    openGate (s.modFe r fun f => { f with lastUs := us % 65536, longestUs := max f.longestUs (us % 65536) }) r
  else s

/-- LOCK_LOST: the gate closes, whatever is due or on the air is stopped and returned with SYNTH_BUSY, a reception is abandoned;
a diagnostic transmission ends and the front end is OFF (R106, R110, R121). -/
def lockLostAt (r : Radio) (s : State) : State :=
  let f := s.fe r
  if f.st = .off ∨ f.st = .fault then s
  else
    let s := s.radioFlag 0x2051 r 2
    if f.st = .diag ∨ diagPending f = true then endDiag s r 6
    else
      let (s, cut) := stopTx s r
      let s := cut.foldl (fun s a => returnReq s r a.id 0x20) s
      s.modFe r fun f => { f with st := .relock, rx := none }

/-- RELOCK_DONE: locked and calibrated (R106). -/
def execRelockDone (r : Radio) (temps : List Int) (s : State) : Out := live s fun s =>
  if (s.fe r).st = .relock then openGate (calibrateChange s r temps) r else s

/-- FAULT_RETRY: a retry every 1 s; one that does not lock counts LOCK_TIMEOUT again (R101, R103, R107). -/
def execFaultRetry (r : Radio) (locks : Bool) (temps : List Int) (s : State) : Out := live s fun s =>
  if (s.fe r).st = .fault then
    if locks then openGate (calibrateChange s r temps) r
    else (s.modFe r fun f => { f with timeouts := (f.timeouts + 1) % 2 ^ 32 }).radioFlag 0x2051 r 3
  else s

/-- Has an assigned transceiver drifted 8 °C from its recorded temperature (R108)? -/
def drifted (s : State) (r : Radio) (temps : List Int) : Bool :=
  ((assigned s r).zip temps).any fun p => decide (80 ≤ (p.2 - (s.trx p.1).temp).natAbs)

/-- RECAL_START: at an allowed boundary of a READY radio (R79, R108). -/
def recalStartAt (r : Radio) (temps : List Int) (s : State) : State :=
  if (s.fe r).st = .ready ∧ allowedBoundary s r s.now = true ∧ drifted s r temps = true then s.modFe r fun f => { f with st := .recal }
  else s

/-- RECAL_DONE: skew and gain of every assigned transceiver are calibrated anew; the gate reopens (R108). -/
def execRecalDone (r : Radio) (temps : List Int) (s : State) : Out := live s fun s =>
  if (s.fe r).st = .recal then openGate (calibrateChange s r temps) r else s

/-- HELD_REQUEST_DEADLINE: returned with SYNTH_BUSY while the gate is still closed; a beacon is skipped (R109). -/
def execHeldRequestDeadline (r : Radio) (id : Nat) (s : State) : Out := live s fun s =>
  if gateOpen (s.fe r) then s
  else match (s.fe r).held.find? fun p => p.id == id && p.deadline.isSome with
    | none => s
    | some p =>
      let s := returnReq (s.modFe r fun f => { f with held := f.held.erase p }) r id 0x20
      if p.kind = 2 then beaconSkip s r p.id else s

/-! ### Aborts of the radios (R64) -/

/-- Abort radio transmit: a diagnostic transmission ends, whatever is due or on the air is stopped. Answers whether one ran. -/
def abortTx (r : Radio) (s : State) : State × Bool :=
  if (s.fe r).diag.running then (endDiag s r 4, true)
  else
    let (s, cut) := stopTx s r
    (s, !cut.isEmpty)

/-- Abort radio receive: the reception in progress is abandoned. -/
def abortRx (r : Radio) (s : State) : State × Bool :=
  if (s.fe r).rx.isSome then (s.modFe r fun f => { f with rx := none }, true) else (s, false)

/-! ### Calibration on the fallback path, and the RFFE buses (R75, R76, R96, R97) -/

/-- Is the present Chain slot one in which the radio neither transmits nor receives: a dedicated slot that no member owns, or
one of another member (R76)? -/
def quietSlot (s : State) (r : Radio) : Bool :=
  let c := s.cr r
  if isChain s r = false ∨ c.running = false then true
  else match c.inSlot with
    | none => true
    | some i => slotKind c.sched i == some 1 &&
        (if isCoordinator s r then (membersOf s r.val).all fun n => tgetD c.slots n 0xFFFF != i else c.mSlot != i)

/-- FALLBACK_CAL_STEP: on the fallback path a step runs only while CCA reports idle and nothing is sent or expected within 40 us,
which `quiet` says of what only the air and the protocol can; it blinds the transceiver for at most 20 us (R75, R76). -/
def execFallbackCalStep (t : Trx) (step : CalStep) (s : State) : Out := live s fun s =>
  match radioOf s t with
  | some r =>
    let f := s.fe r
    if f.path = .fallback ∧ f.st = .ready ∧ f.rx = none ∧ f.tx = none ∧ onAir s r = false ∧ ccaAll s r = false ∧
        step.quiet = true ∧ quietSlot s r = true then
      s.modTrx t fun x => { x with coeffLo := some f.lo, rejection := step.rejectionDb, blindTo := s.now + 20000 }
    else s
  | none => s

/-- The transmission that a write was for does not take place: returned as skipped, or its Chain slot skipped, with RFFE_LATE
(R97). -/
def rffeLate (s : State) (r : Radio) (req : Nat) : State :=
  match (s.fe r).air.find? fun a => a.id == req && decide (s.now < a.e) with
  | none => s
  | some a =>
    let s := refundDuty (rffeDrop s r.val req) (dutyBands s a.chan) (a.e - a.s)
    let s := restoreAir (s.modFe r fun f => { f with air := f.air.erase a }) r a
    let s := returnReq (s.setFlag 0x2040 0 3) r req 0xFF
    if a.kind = 4 then chainStat s r.val 2 else s

/-- RFFE_WRITE: the bus runs its first write in due-time order; one that completes after step 1 is too late for its transmission
(R96, R97). -/
def execRffeWrite (bus : Fin 3) (s : State) : Out := live s fun s =>
  match rffeRun s bus with
  | (s, none) => s
  | (s, some w) => if h : w.radio < 3 then (if w.due < s.now then rffeLate s ⟨w.radio, h⟩ w.req else s) else s

end Sys2Proof.Machine
end

