-- ==== Sys2Proof/Machine/Dram.lean ====
section
/-! DEFINITION. The DRAM controller (14_dram): address decoding, transactions, page state, refresh, training registers,
errors and rank sparing. -/

namespace Sys2Proof.Machine
open Sys2Proof

def State.setDram (s : State) (x : Dram) : State := { s with dram := x }

def dramStat (s : State) (k n : Nat) : State := s.stat64 0x6406 0 k n
def dramFlag (s : State) (b : Nat) : State := s.setFlag 0x6407 0 b

/-- The controller enters a state; its standing charge follows (R363, R420). -/
def setMc (s : State) (st : McState) : State := (s.setDram { s.dram with st }).grant 2 0 (dramCharge st)

/-! ### Geometry and addresses (R359 to R362) -/

def dramBase : Nat := 0x800000000

/-- DRAM_CFG_ACTIVE. -/
def cfgRanks (s : State) : Nat := s.objF 0x6400 1 2 1
def cfgWidth (s : State) : Nat := s.objF 0x6400 1 3 1
def cfgDensity (s : State) : Nat := s.objF 0x6400 1 4 1
def cfgSpare (s : State) : Bool := s.objF 0x6400 1 5 1 == 1
def activeRanks (s : State) : Nat := cfgRanks s - (if cfgSpare s then 1 else 0)
/-- The highest configured chip select is the spare (R377). -/
def spareCs (s : State) : Nat := cfgRanks s - 1

/-- Bytes of a rank (*Rank capacity by device*). -/
def rankBytes (width density : Nat) : Nat := 2 * (32 / max 1 width) * density * 2 ^ 27
def rankCap (s : State) : Nat := rankBytes (cfgWidth s) (cfgDensity s)

/-- 01A0h DRAM_GEOMETRY and 01A1h WATERMARKS on DRAM_CFG and WATERMARKS (R361). -/
def geometryOk (s : State) : Bool :=
  let b := s.objB 0x6400 0
  let spare := fld b 5 1 == 1
  decide (rankBytes (fld b 3 1) (fld b 4 1) * (fld b 2 1 - (if spare then 1 else 0)) ≤ 32 * 2 ^ 30) &&
    [3200, 4000, 4400, 4800, 5200, 5600].contains (fld b 0 2) && (!spare || decide (2 ≤ fld b 2 1))
def watermarksOk (s : State) : Bool := decide (s.objF 0x6401 0 1 1 < s.objF 0x6401 0 0 1 ∧ s.objF 0x6401 0 0 1 ≤ 128)

/-- Where a DRAM address lies (R362). -/
structure DramPlace where
  sc : Nat
  lrank : Nat
  row : Nat
  bg : Nat
  bank : Nat
  block : Nat
  deriving DecidableEq, Repr

def placeOf (s : State) (a : Nat) : DramPlace :=
  let g := if cfgWidth s = 16 then 2 else 3
  let rows := max 1 (cfgDensity s * 2 ^ 30 / (max 1 (cfgWidth s) * 2 ^ (g + 12)))
  let o := a - dramBase
  let q := o / 128 / 64
  let bg := q % 2 ^ g
  let q := q / 2 ^ g
  let bank := q % 4
  let q := q / 4
  let row := q % rows
  { sc := o / 64 % 2, lrank := q / rows, row, bg := bg ^^^ (row % 2 ^ g), bank, block := o % max 1 (rankCap s) / 4096 }

def migrating (s : State) : Bool := s.dram.mig.st == 1 || s.dram.mig.st == 2

/-- The chip select that serves an address: RANK_MAP, and during a migration the spare for the blocks copied (R379). -/
def csOf (s : State) (p : DramPlace) : Nat :=
  let cs := vget s.dram.rankMap p.lrank 0
  if migrating s = true ∧ cs = s.dram.mig.src ∧ p.block < s.dram.mig.blocks then s.dram.mig.spare else cs

/-- Is the address's block being copied (R379)? -/
def inCopy (s : State) (p : DramPlace) : Bool :=
  s.dram.mig.st == 1 && vget s.dram.rankMap p.lrank 0 == s.dram.mig.src && p.block == s.dram.mig.blocks

/-- May the address be accessed: in SERVICE or SELF_REFRESH, within the installed capacity, its rank present (R30, R362,
R364)? -/
def dramHas (s : State) (a : Nat) : Bool :=
  (s.dram.st == .service || s.dram.st == .selfRefresh) && decide (dramBase ≤ a ∧ a < dramBase + activeRanks s * rankCap s) &&
    (vget s.dram.ranks (vget s.dram.rankMap (placeOf s a).lrank 0) {}).st != 0

/-- L2-backed SRAM of the size in force (R398), packet buffer window, or DRAM that answers (R30, R364). -/
def inMemory (s : State) (a : Nat) : Bool :=
  decide (0x08000000 ≤ a ∧ a < 0x08000000 + 1024 * s.objN 0x6801 1) ||
    decide (0x40000000 ≤ a ∧ a < 0x42000000) || dramHas s a

def allMemory (s : State) (a n : Nat) : Bool := (List.range n).all fun i => inMemory s (a + i)

/-! ### The transaction table (R365 to R367) -/

def readsFree (s : State) : Nat := 256 - s.dram.rds.length
def writesFree (s : State) : Nat := 128 - s.dram.wrs.length

/-- The lines of an access: line, offset, length. -/
def linesOf (a len : Nat) : List (Nat × Nat × Nat) :=
  if len = 0 then []
  else
    let first := a / 64
    let last := (a + len - 1) / 64
    (List.range (last + 1 - first)).map fun i =>
      let l := first + i
      let lo := max a (64 * l)
      (l, lo - 64 * l, min (a + len) (64 * l + 64) - lo)

def unissued (s : State) (line : Nat) : Option WrEnt := s.dram.wrs.find? fun w => w.line == line

/-- Number the next request. -/
def nextOrder (s : State) : State := s.setDram { s.dram with order := s.dram.order + 1 }

/-- Accept a read of one line: forwarded on a full match, waiting on a partial one (R367). -/
def acceptRead (s : State) (x : Nat × Nat × Nat) : State :=
  let (line, off, len) := x
  let data := readMemN s.mem (64 * line + off) len
  let s := nextOrder (dramStat s 0 1)
  let ent (wait : Bool) : RdEnt := { line, off, data, order := s.dram.order, since := s.now, waitWrite := wait }
  match unissued s line with
  | none => s.setDram { s.dram with rds := s.dram.rds ++ [ent false] }
  | some w =>
    if (List.range len).all fun i => w.offs.contains (off + i) then
      let bad := s.dram.poison.any fun a => decide (a < 64 * line + off + len ∧ 64 * line + off < a + 8)
      (dramStat s 2 1).setDram { (dramStat s 2 1).dram with replies := s.dram.replies ++ [(64 * line + off, data, bad)] }
    else
      let s := dramStat s 3 1
      s.setDram { s.dram with rds := s.dram.rds ++ [ent true] }

/-- Words of a line, as first addresses, that a write covers whole or in part. -/
def lineWords (line : Nat) : List Nat := (List.range 8).map fun k => 64 * line + 8 * k

/-- A write covers whole words: they are fresh; a word covered in part stays poisoned if it was (R24, R366). -/
def unpoison (s : State) (a n : Nat) : State :=
  s.setDram { s.dram with poison := s.dram.poison.filter fun w => !(decide (a ≤ w ∧ w + 8 ≤ a + n)) }

/-- Accept a write of one line: merged into an unissued one, or a new entry, with the read of a read-merge-write when it
does not cover its line (R366, R367). -/
def acceptWrite (s : State) (x : (Nat × Nat × Nat) × Bytes) : State :=
  let ((line, off, len), data) := x
  let s := nextOrder (dramStat s 1 1)
  let s := unpoison { s with mem := writeMemN s.mem (64 * line + off) data } (64 * line + off) len
  let offs := (List.range len).map (off + ·)
  match unissued s line with
  | some w =>
    let w' := { w with offs := offs.filter (fun o => !w.offs.contains o) ++ w.offs }
    s.setDram { s.dram with wrs := s.dram.wrs.map fun v => if v.line = line then w' else v }
  | none =>
    if len = 64 then s.setDram { s.dram with wrs := s.dram.wrs ++ [{ line, offs, order := s.dram.order }] }
    else
      let s := dramStat s 4 1
      s.setDram { s.dram with
        wrs := s.dram.wrs ++ [{ line, offs, order := s.dram.order, merging := true }]
        rds := s.dram.rds ++ [{ line, off := 0, data := [], order := s.dram.order, since := s.now, merge := true }] }

/-- Pieces of the data for each line. -/
def cutData : List (Nat × Nat × Nat) → Bytes → List ((Nat × Nat × Nat) × Bytes)
  | [], _ => []
  | x :: r, d => (x, d.take x.2.2) :: cutData r (d.drop x.2.2)

/-- May a held line take its entries: a read a read entry, a write a write entry unless it merges into an unissued one, and a
read entry for its read-merge-write (R365 to R367)? -/
def canTake (s : State) (q : DramHeld) : Bool :=
  match q.data with
  | none => decide (1 ≤ readsFree s)
  | some _ => (unissued s q.line).isSome || (decide (1 ≤ writesFree s) && (q.len == 64 || decide (1 ≤ readsFree s)))

/-- A line is accepted. -/
def takeLine (s : State) (q : DramHeld) : State :=
  match q.data with
  | none => acceptRead s (q.line, q.off, q.len)
  | some d => acceptWrite s ((q.line, q.off, q.len), d)

/-- The held lines are accepted in their order, as far as entries are free. -/
def takeHeld : List DramHeld → State → State
  | [], s => s.setDram { s.dram with held := [] }
  | q :: l, s => if s.dram.st = .service ∧ canTake s q = true then takeHeld l (takeLine s q) else s.setDram { s.dram with held := q :: l }

/-- Held requests are acknowledged as entries free (R14, R365, R374). -/
def pumpHeld (s : State) : State := takeHeld s.dram.held s

/-- A request reaches the controller: held behind those that are held, while entries are wanting or in SELF_REFRESH (R14, R364,
R365, R374). -/
def dramRequest (s : State) (addr len : Nat) (qs : List DramHeld) : State :=
  if len = 0 ∨ dramHas s addr = false ∨ dramHas s (addr + len - 1) = false then s
  else takeHeld (s.dram.held ++ qs) s

/-- DRAM_READ. -/
def execDramRead (addr len : Nat) (s : State) : Out := live s fun s =>
  dramRequest s addr len ((linesOf addr len).map fun x => { line := x.1, off := x.2.1, len := x.2.2, data := none })

/-- DRAM_WRITE: complete towards its initiator as soon as it takes its entries (R365). -/
def execDramWrite (addr : Nat) (data : Bytes) (s : State) : Out := live s fun s =>
  dramRequest s addr data.length ((cutData (linesOf addr data.length) data).map fun x =>
    { line := x.1.1, off := x.1.2.1, len := x.1.2.2, data := some x.2 })

/-! ### Errors and sparing (R375 to R382) -/

def modRank (s : State) (cs : Nat) (f : Rank → Rank) : State :=
  s.setDram { s.dram with ranks := vset s.dram.ranks cs (f (vget s.dram.ranks cs {})) }

/-- A migration of a rank to the spare begins. -/
def beginMigration (s : State) (cs cause : Nat) : State :=
  let sp := spareCs s
  let s := modRank (modRank s cs fun r => { r with st := 3 }) sp fun r => { r with st := 4 }
  s.setDram { s.dram with mig :=
    { st := 1, src := cs, spare := sp, cause, blocks := 0, total := rankCap s / 4096, poison := 0, stamp := s.datum.t, blockAt := s.now } }

/-- A rank has failed an access: with the spare free its migration starts; with the spare taken, another rank's failure
sets SPARE_EXHAUSTED (R377, R380). -/
def rankFails (s : State) (cs cause : Nat) : State :=
  if cfgSpare s = false ∨ (migrating s = true ∧ cs = s.dram.mig.src) then s
  else if (vget s.dram.ranks (spareCs s) {}).st = 2 ∧ (vget s.dram.ranks cs {}).st = 1 then beginMigration s cs cause
  else (dramFlag s 4).logEvent 0x30 3 0xF00A cs 0

/-- The outcome of each of the eight words of a line read with bits flipped: bit 72 k + i is bit i of word k. -/
def lineOuts (s : State) (line : Nat) (flips : List Nat) : List EccOut :=
  (List.range 8).map fun k =>
    let base := if s.dram.poison.contains (64 * line + 8 * k) then 255 else 0
    eccDecode (base ^^^ eccFlips ((flips.filter fun f => f / 72 == k).map (· % 72)))

/-- A bad word of a line that is read to be merged and rewritten stays poisoned, but for one that the write covers whole, which
is fresh (R24, R366). -/
def mergeBad (s : State) (line k : Nat) : State :=
  let a := 64 * line + 8 * k
  if (match unissued s line with | some w => (List.range 8).all fun i => w.offs.contains (8 * k + i) | none => false) = true then s
  else s.setDram { s.dram with poison := a :: s.dram.poison.filter (· != a) }

/-- What one word's syndrome does (R23, R25, R375). -/
def wordOut (cs line : Nat) (merge : Bool) (s : State) (p : Nat × EccOut) : State :=
  let a := 64 * line + 8 * p.1
  match p.2 with
  | .clean => s
  | .poison => if merge then mergeBad s.uncorrected line p.1 else s.uncorrected
  | .uncorrectable =>
    let s := modRank (dramFlag s.uncorrected 1) cs fun r => { r with uncorr := (r.uncorr + 1) % 2 ^ 32 }
    let s := rankFails (s.logEvent 0x30 2 0xF003 cs (a % 2 ^ 32)) cs 1
    if merge then mergeBad s line p.1 else s
  | _ =>
    let s := modRank ((dramFlag s 0).corrected 0x30 cs (a % 2 ^ 32)) cs fun r => { r with corr := (r.corr + 1) % 2 ^ 32 }
    if (unissued s line).isSome then s else dramStat s 8 1

/-- A read reaches the SDRAM: its syndromes are acted on and its data is returned, marked where a word is poisoned. -/
def readIssued (s : State) (e : RdEnt) (cs : Nat) (flips : List Nat) : State :=
  let outs := lineOuts s e.line flips
  let touched := (List.range 8).filter fun k => e.merge || (decide (8 * k < e.off + e.data.length ∧ e.off < 8 * k + 8))
  let outs := (((List.range 8).zip outs).filter fun p => touched.contains p.1)
  let s := outs.foldl (wordOut cs e.line e.merge) s
  if e.merge then s.setDram { s.dram with wrs := s.dram.wrs.map fun w => if w.line = e.line then { w with merging := false } else w }
  else s.setDram { s.dram with replies := s.dram.replies ++ [(64 * e.line + e.off, e.data, outs.any fun p => eccBad p.2)] }

/-! ### Command order and page state (R368 to R370) -/

def bankKey (cs : Nat) (p : DramPlace) : Nat := ((cs * 2 + p.sc) * 8 + p.bg) * 4 + p.bank

def isHit (s : State) (line : Nat) : Bool :=
  let p := placeOf s (64 * line)
  (tgetD s.dram.banks (bankKey (csOf s p) p) {}).row == some p.row

/-- May the read issue now: not behind the write it waits for, not in the block being copied? -/
def readReady (s : State) (sc : Nat) (e : RdEnt) : Bool :=
  let p := placeOf s (64 * e.line)
  p.sc == sc && !inCopy s p && !(e.waitWrite && s.dram.wrs.any fun w => w.line == e.line && decide (w.order < e.order))

/-- May the write issue now: its merge read done, no earlier read of its line outstanding? -/
def writeReady (s : State) (sc : Nat) (w : WrEnt) : Bool :=
  let p := placeOf s (64 * w.line)
  p.sc == sc && !inCopy s p && !w.merging && !(s.dram.rds.any fun e => e.line == w.line && decide (e.order < w.order))

/-- Row hits first, then the oldest: lists stand in order of age. -/
def pick {α : Type} (hit : α → Bool) (l : List α) : Option α := match l.find? hit with | some x => some x | none => l.head?

inductive DramCmd where
  | rd (e : RdEnt)
  | wr (w : WrEnt)

/-- The next command of a subchannel. -/
def nextCmd (s : State) (sc : Nat) : Option DramCmd :=
  let rds := s.dram.rds.filter (readReady s sc)
  let wrs := s.dram.wrs.filter (writeReady s sc)
  let rd := (pick (fun e => isHit s e.line) rds).map DramCmd.rd
  let wr := (pick (fun w => isHit s w.line) wrs).map DramCmd.wr
  match rds.find? fun e => decide (e.since + 4000 ≤ s.now) with
  | some e => some (.rd e)
  | none =>
    if s.dram.drain then (match wr with | some c => some c | none => rd)
    else match rd with | some c => some c | none => wr

/-- A drain begins at the high watermark and ends at the low one (R369). -/
def drainJudge (s : State) : State :=
  let n := s.dram.wrs.length
  if s.dram.drain then (if n ≤ s.objF 0x6401 0 1 1 then s.setDram { s.dram with drain := false } else s)
  else if s.objF 0x6401 0 0 1 ≤ n then (dramStat s 7 1).setDram { (dramStat s 7 1).dram with drain := true }
  else s

/-- A column access of a line: activate where the row is not open, with the bank's counter; afterwards the row stays open
or closes by prediction (R370). -/
def columnAccess (s : State) (line : Nat) : State :=
  let p := placeOf s (64 * line)
  let cs := csOf s p
  let key := bankKey cs p
  let b := tgetD s.dram.banks key {}
  let (s, b) : State × Bank :=
    if b.row = some p.row then (dramStat s 5 1, b)
    else
      let s := if b.row.isSome then dramStat s 6 1 else s
      let ctr := match b.last with
        | some r => if r = p.row then min 3 (b.ctr + 1) else b.ctr - 1
        | none => b.ctr
      (s, { b with row := some p.row, last := some p.row, ctr })
  let more := (s.dram.rds.map (·.line) ++ s.dram.wrs.map (·.line)).any fun l =>
    let q := placeOf s (64 * l)
    bankKey (csOf s q) q == key && q.row == p.row
  let b := { b with used := s.now, row := if more = false ∧ b.ctr ≤ 1 then none else b.row }
  s.setDram { s.dram with
    banks := tputD s.dram.banks key b {}
    cmds := vset s.dram.cmds p.sc ((vget s.dram.cmds p.sc [] ++ [cs]).drop ((vget s.dram.cmds p.sc []).length + 1 - 64)) }

/-- DRAM_ISSUE: a subchannel issues its next command, and held requests take what it frees (R365, R368, R369, R375). -/
def execDramIssue (sc : Fin 2) (flips : List Nat) (s : State) : Out := live s fun s =>
  if s.dram.st ≠ .service then s
  else
    let s := drainJudge s
    match nextCmd s sc.val with
    | none => pumpHeld s
    | some (.rd e) =>
      let cs := csOf s (placeOf s (64 * e.line))
      pumpHeld (readIssued (columnAccess (s.setDram { s.dram with rds := s.dram.rds.erase e }) e.line) e cs flips)
    | some (.wr w) => pumpHeld (drainJudge (columnAccess (s.setDram { s.dram with wrs := s.dram.wrs.erase w }) w.line))

/-- ROW_IDLE_CLOSE: a row left open is closed after 1 µs without access; `bank` is the bank group times four plus the bank
(R370). -/
def execRowIdleClose (cs : Fin 4) (sc : Fin 2) (bank : Nat) (s : State) : Out := live s fun s =>
  let key := (cs.val * 2 + sc.val) * 32 + bank % 32
  if s.now < (tgetD s.dram.banks key {}).used + 1000 then s
  else s.setDram { s.dram with banks := tputD s.dram.banks key { tgetD s.dram.banks key {} with row := none } {} }

/-- The refresh interval: 3.9 µs, 1.95 µs above 85 °C (R371). -/
def refreshNs (s : State) : Nat := if s.dram.hot then 1950 else 3900

/-- REFRESH, when the rank's interval has elapsed: postponed during a drain or under read load by at most four intervals; it closes every row of the rank and
leaves the counters (R370, R371). -/
def execRefresh (cs : Fin 4) (s : State) : Out := live s fun s =>
  if s.dram.st ≠ .service ∨ (vget s.dram.ranks cs.val {}).st = 0 ∨ s.now < vget s.dram.refreshAt cs.val 0 + refreshNs s then s
  else
    let s := s.setDram { s.dram with refreshAt := vset s.dram.refreshAt cs.val s.now }
    let busy := s.dram.drain || !s.dram.rds.isEmpty
    if busy = true ∧ vget s.dram.postponed cs.val 0 < 4 then
      s.setDram { s.dram with postponed := vset s.dram.postponed cs.val (vget s.dram.postponed cs.val 0 + 1) }
    else s.setDram { s.dram with
      postponed := vset s.dram.postponed cs.val 0
      banks := (s.dram.banks.map fun b => if b.1 / 64 = cs.val then (b.1, { b.2 with row := none }) else b).filter fun b => b.2 != {} }

/-- TEMP_POLL: mode register 4 sets the refresh rate (R371). -/
def execTempPoll (over85 : Bool) (s : State) : Out := live s fun s =>
  if s.dram.st = .service then s.setDram { s.dram with hot := over85 } else s

/-- CA_PARITY_ALERT: the kept commands after the last executed one are issued again, counted against the rank of the first
of them, and sparing starts (R376). -/
def execCaParityAlert (sc : Fin 2) (executed : Nat) (s : State) : Out := live s fun s =>
  if s.dram.st ≠ .service then s
  else
    let kept := vget s.dram.cmds sc.val []
    match (kept[executed]?).orElse fun _ => kept.getLast? with
    | none => s
    | some cs =>
      let s := dramFlag (dramStat s 9 (kept.length - executed)) 2
      rankFails (modRank s cs fun r => { r with ca := (r.ca + 1) % 2 ^ 32 }) cs 2

/-! ### Migration (R378, R381, R382) -/

/-- A failed rank is recorded and saved (R382). -/
def retireRank (s : State) (cs : Nat) : State :=
  let s := s.setObj 0x6405 0 (le 1 (setBit (s.objN 0x6405 0) cs true))
  s.saveValues [(okey 0x6405 0, s.objB 0x6405 0)]

/-- The last block is copied: RANK_MAP names the spare, the old rank is FAILED. -/
def migrationDone (s : State) : State :=
  let m := s.dram.mig
  match findLt 4 fun l => vget s.dram.rankMap l 0 == m.src && decide (l < activeRanks s) with
  | none => s
  | some l =>
    let s := s.setDram { s.dram with rankMap := vset s.dram.rankMap l m.spare, mig := { m with st := 3 } }
    let s := modRank (modRank s m.src fun r => { r with st := 5, logical := 0xFF }) m.spare fun r => { r with st := 1, logical := l }
    let s := (dramFlag s 3).logEvent 0x30 0 0xF009 m.spare 0
    retireRank (s.logEvent 0x30 3 0xF008 m.src 0) m.src

/-- One block is copied; words that cannot be corrected are written poisoned, wherever they lie in it (R378). -/
def blockDone (s : State) (poisoned : Nat) : State :=
  let m := s.dram.mig
  let l := (findLt 4 fun l => vget s.dram.rankMap l 0 == m.src && decide (l < activeRanks s)).getD 0
  let base := dramBase + l * rankCap s + 4096 * m.blocks
  let s := (List.range poisoned).foldl (fun s _ =>
    let (x, s) := s.draw
    s.setDram { s.dram with poison := (base + 8 * (x % 512)) :: s.dram.poison.filter (· != base + 8 * (x % 512)) }) s
  let s := s.setDram { s.dram with mig := { m with blocks := m.blocks + 1, poison := (m.poison + poisoned) % 2 ^ 32, blockAt := s.now } }
  if m.total ≤ m.blocks + 1 then migrationDone s else s

/-- The least time between block starts, in ns: eight times 8 KiB at the peak rate (R378). -/
def blockNs (s : State) : Nat := 8192000 / max 1 (s.objF 0x6400 1 0 2)

/-- MIGRATION_BLOCK, when the block in progress has had its time. -/
def execMigrationBlock (poisoned : Nat) (s : State) : Out := live s fun s =>
  if s.dram.mig.st = 1 ∧ s.dram.mig.blockAt + blockNs s ≤ s.now then blockDone s poisoned else s

/-- Abort of a migration: the block in progress is finished, then it is STOPPED (R381). -/
def abortMigration (s : State) : State × Bool :=
  if s.dram.mig.st = 1 then
    let s := blockDone s 0
    (if s.dram.mig.st = 1 then s.setDram { s.dram with mig := { s.dram.mig with st := 2 } } else s, true)
  else (s, false)

/-- ABORT_DRAM_MIGRATION. -/
def execAbortDramMigration (s : State) : Out := live s fun s =>
  let (s, ran) := abortMigration s
  s.abortDone 7 0 0 ran 1000000

/-- MIGRATE_CMD: 1 START, 2 RESUME. -/
def migrateCmd (v : Bytes) (s : State) : State × Res :=
  let cs := fld v 1 1
  if fld v 0 1 = 1 then
    if 3 < cs then (s, abortBy aRange 0x30 0)
    else if migrating s then (s, abortBy aState 0x30 0x102)
    else if cfgSpare s = false ∨ (vget s.dram.ranks (spareCs s) {}).st ≠ 2 then (s, abortBy aState 0x30 0x101)
    else if (vget s.dram.ranks cs {}).st ≠ 1 then (s, abortBy aState 0x30 0x103)
    else (beginMigration s cs 3, ok)
  else if s.dram.mig.st = 2 then (s.setDram { s.dram with mig := { s.dram.mig with st := 1, blockAt := s.now } }, ok)
  else (s, abortBy aState 0x30 0x103)

/-! ### Initialisation and service (R363, R372, R373, R382) -/

/-- What each chip select is from INIT: a retired rank is absent and the spare takes its logical rank when it is free. -/
def initRanks (s : State) : State :=
  let retired (cs : Nat) : Bool := bit s.dram.retired cs
  let sp := spareCs s
  let spOk := cfgSpare s && !retired sp
  let first := if spOk then findLt (activeRanks s) retired else none
  let map (l : Nat) : Nat := if first = some l then sp else l
  let rank (cs : Nat) : Rank :=
    if cfgRanks s ≤ cs ∨ retired cs = true then { st := 0 }
    else if cs < activeRanks s then { st := 1, logical := cs }
    else match first with | some l => { st := 1, logical := l } | none => { st := 2 }
  s.setDram { s.dram with rankMap := ⟨#[map 0, map 1, map 2, map 3], rfl⟩, ranks := ⟨#[rank 0, rank 1, rank 2, rank 3], rfl⟩,
                          banks := [], mig := {}, rds := [], wrs := [], held := [], drain := false, cmds := Vector.replicate 2 [] }

/-- Self-refresh entry: every read is completed, every write issued, every bank precharged and every postponed refresh issued
(*Self-refresh entry events*). -/
def enterSelfRefresh (s : State) : State :=
  let s := s.dram.rds.foldl (fun s e => readIssued s e (csOf s (placeOf s (64 * e.line))) []) s
  setMc (s.setDram { s.dram with rds := [], wrs := [], drain := false, banks := [], postponed := Vector.replicate 4 0 }) .selfRefresh

/-- Self-refresh exit: one refresh has been issued to each rank, every bank's counter is 2 (R370), and the held requests are
released in their order (*Self-refresh exit events*). -/
def exitSelfRefresh (s : State) : State :=
  pumpHeld (setMc (s.setDram { s.dram with banks := [], refreshAt := Vector.replicate 4 s.now }) .service)

def mcInit (s : State) : State := if s.dram.st = .off then setMc (initRanks s) .init else s
def mcService (s : State) : State := if s.dram.st = .training then setMc s .service else s

/-- MC_INIT: a write of MC_CTRL.INIT; ignored in other states than OFF (R363). -/
def execMcInit (_core : CoreId) (s : State) : Out := live s mcInit

/-- INIT_DONE. -/
def execInitDone (s : State) : Out := live s fun s => if s.dram.st = .init then setMc s .training else s

/-- INIT_TIMEOUT: 5 ms have elapsed; a fault record (R363). -/
def execInitTimeout (s : State) : Out := live s fun s =>
  if s.dram.st = .init then (setMc s .fault).logEvent 0x30 4 0xF00B 0 0 else s

/-- MC_SERVICE: a write of MC_CTRL.SERVICE; ignored in other states than TRAINING. -/
def execMcService (_core : CoreId) (s : State) : Out := live s mcService

def mcReg (off : Nat) : Nat := 0x10700000 + off

/-- A write of TRN_CTRL: START is ignored while BUSY, outside TRAINING, and with a reserved KIND or no burst to run. -/
def trnCtrl (v : Nat) (s : State) : State :=
  let v := v % 2 ^ 32
  let s := s.setReg (mcReg 0x10) (bits v 25 3 * 2 ^ 25 + bits v 20 4 * 2 ^ 20 + bits v 0 16)
  if bit v 31 = true ∧ s.dram.st = .training ∧ bit (s.regAt (mcReg 0x14)) 0 = false ∧ bits v 20 4 ≤ 4 ∧ 1 ≤ bits v 0 16 then
    s.setReg (mcReg 0x14) (setBit (s.regAt (mcReg 0x14)) 0 true)
  else s

/-- TRN_START. -/
def execTrnStart (_core : CoreId) (v : Nat) (s : State) : Out := live s (trnCtrl v)

/-- TRN_DONE: the failing lanes and the miscompared beats of the run. -/
def execTrnDone (laneFail errBeats : Nat) (s : State) : Out := live s fun s =>
  if bit (s.regAt (mcReg 0x14)) 0 then
    ((s.setReg (mcReg 0x14) 2).setReg (mcReg 0x20) (laneFail % 2 ^ 36)).setReg (mcReg 0x28) (errBeats % 2 ^ 32)
  else s

/-- The RW fields of MR_CMD are written. -/
def mrFields (s : State) (v : Nat) : State :=
  s.setReg (mcReg 0x30) (bits v 27 4 * 2 ^ 27 + v % 2 ^ 16)

/-- A write of MR_CMD with READ 0: the MRW is issued in INIT and TRAINING, and ignored elsewhere (R373). -/
def mrWrite (v : Nat) (s : State) : State :=
  let s := mrFields s (v % 2 ^ 32)
  if bit v 31 = true ∧ (s.dram.st = .init ∨ s.dram.st = .training) then
    let s := s.setReg (mcReg 0x34) (setBit (s.regAt (mcReg 0x34)) 8 true)
    s.setDram { s.dram with modeRegs := tput s.dram.modeRegs (bits v 27 3 * 256 + bits v 8 8) (v % 256) }
  else s

/-- A write of MR_CMD with READ 1: the MRR is issued in INIT, TRAINING and SERVICE; `data` is what the SDRAM answers. -/
def mrRead (v data : Nat) (s : State) : State :=
  let s := mrFields s (v % 2 ^ 32)
  if bit v 31 = true ∧ (s.dram.st = .init ∨ s.dram.st = .training ∨ s.dram.st = .service) then
    s.setReg (mcReg 0x34) (256 + data % 256)
  else s

/-- MRW: a write whose READ bit is 0. -/
def execMrw (_core : CoreId) (v : Nat) (s : State) : Out := live s fun s => if bit v 30 then s else mrWrite v s

/-- MRR: a write whose READ bit is 1. -/
def execMrr (_core : CoreId) (v data : Nat) (s : State) : Out := live s fun s => if bit v 30 then mrRead v data s else s

/-- Is an address a LANE_DELAY register? -/
def isLaneDelay (a : Nat) : Bool :=
  let o := a - mcReg 0x1000
  let l := o % 256 / 4
  decide (mcReg 0x1000 ≤ a ∧ o < 0x800 ∧ o % 4 = 0 ∧ (l ≤ 44 ∨ l = 48))

/-- A write of LANE_DELAY: only in TRAINING (R372). -/
def laneDelay (addr v : Nat) (s : State) : State :=
  if isLaneDelay addr = false then s
  else if s.dram.st = .training then s.setReg addr (bits v 16 10 * 2 ^ 16 + v % 1024)
  else dramFlag s 5

/-- LANE_DELAY_WRITE. -/
def execLaneDelayWrite (_core : CoreId) (addr v : Nat) (s : State) : Out := live s (laneDelay addr v)

end Sys2Proof.Machine
end

