-- ==== Sys2Proof/Machine/DmaRegs.lean ====
section
/-! DEFINITION. DMA channels (15_dma): registers, doorbell, stop, resume, completion and abort. The bursts that move data
stand in Dma.lean, behind the bus. -/

namespace Sys2Proof.Machine
open Sys2Proof

def State.setDma (s : State) (x : Dma) : State := { s with dma := x }
def dmaCur (s : State) (c : Fin 64) : Option DmaCur := s.dma.cur[c]
def setCur (s : State) (c : Fin 64) (x : Option DmaCur) : State := s.setDma { s.dma with cur := vmod s.dma.cur c fun _ => x }

def dmaFlag (s : State) (b : Nat) : State := s.setFlag 0x6502 0 b

/-! ### Registers (*DMA channel registers*) -/

def chBase (c : Nat) : Nat := 0x10100000 + 0x40 * c
def chOn (s : State) (c : Nat) : Bool := bit (s.regAt (chBase c + 8)) 31
def chStop (s : State) (c : Nat) : Bool := bit (s.regAt (chBase c + 8)) 30
def chSize (s : State) (c : Nat) : Nat := 2 ^ min 12 (max 4 (s.regAt (chBase c + 8) % 16))
def chHead (s : State) (c : Nat) : Nat := s.regAt (chBase c + 0x10)
def chWork (s : State) (c : Nat) : Bool := chHead s c != s.regAt (chBase c + 0xC) % chSize s c

/-- STATE: 0 IDLE, 1 RUNNING, 2 STOPPING, 3 STOPPED, 4 HALTED. -/
def chState (s : State) (c : Nat) : Nat := bits (s.regAt (chBase c + 0x14)) 16 3
def setChState (s : State) (c st : Nat) : State :=
  s.setReg (chBase c + 0x14) (s.regAt (chBase c + 0x14) % 4 + st * 65536)

/-- A status bit of a channel and its companion counter: 0 DONE, 1 ERROR. -/
def chFlag (s : State) (c b : Nat) : State :=
  let s := s.setReg (chBase c + 0x14) (setBit (s.regAt (chBase c + 0x14)) b true)
  let k := chBase c + 0x18 + 4 * b
  s.setReg k ((s.regAt k + 1) % 2 ^ 32)

/-- A channel that is enabled and neither halted, stopped nor stopping runs while it has work (R386, R393). -/
def chGo (s : State) (c : Nat) : State :=
  if chOn s c then
    if chStop s c then setChState s c 3
    else setChState s c (if chWork s c then 1 else 0)
  else setChState s c 0

/-- A write of CH_TAIL: the doorbell (R386). -/
def chDoorbell (s : State) (c tail : Nat) : State :=
  let s := s.setReg (chBase c + 0xC) (tail % 4096)
  if chState s c = 0 then chGo s c else s

/-- STOP is written 1: a RUNNING channel stops at its descriptor boundary, an IDLE one at once (R393). -/
def chStopWrite (s : State) (c : Fin 64) : State :=
  let s := s.setReg (chBase c + 8) (setBit (s.regAt (chBase c + 8)) 30 true)
  if chState s c = 1 then setChState s c (if (dmaCur s c).isSome then 2 else 3)
  else if chState s c = 0 then setChState s c 3
  else s

/-- STOP is written 0: a STOPPED channel continues from HEAD. -/
def chStopRelease (s : State) (c : Nat) : State :=
  let s := s.setReg (chBase c + 8) (setBit (s.regAt (chBase c + 8)) 30 false)
  if chState s c = 3 then chGo s c
  else if chState s c = 2 then setChState s c 1
  else s

/-- RESUME: a HALTED channel continues from HEAD (R391). -/
def chResume (s : State) (c : Nat) : State := if chState s c = 4 then chGo s c else s

/-- A write of CH_CTRL: BASE and SIZE are kept while ENABLE is 1, and a write of ENABLE 0 is ignored in RUNNING and
STOPPING. -/
def chCtrl (s : State) (c : Fin 64) (v : Nat) : State :=
  let a := chBase c + 8
  let was := s.regAt a
  let busy := chState s c == 1 || chState s c == 2
  let size := if bit was 31 then was % 16 else v % 16
  let on := if bit was 31 = true ∧ busy = true then true else bit v 31
  let s := s.setReg a (size + (if bit was 30 then 2 ^ 30 else 0) + (if on then 2 ^ 31 else 0))
  let s := if bit v 30 then chStopWrite s c else chStopRelease s c
  let s := if bit v 29 then chResume s c else s
  if chState s c = 0 ∧ on = true then chGo s c else if on = false ∧ bit was 31 = true then setChState s c 0 else s

/-- DMA_DOORBELL. -/
def execDmaDoorbell (_core : CoreId) (ch : Fin 64) (tail : Nat) (s : State) : Out := live s fun s => chDoorbell s ch tail

/-- DMA_STOP. -/
def execDmaStop (_core : CoreId) (ch : Fin 64) (s : State) : Out := live s fun s => chStopWrite s ch

/-- DMA_STOP_RELEASE. -/
def execDmaStopRelease (_core : CoreId) (ch : Fin 64) (s : State) : Out := live s fun s => chStopRelease s ch

/-- DMA_RESUME. -/
def execDmaResume (_core : CoreId) (ch : Fin 64) (s : State) : Out := live s fun s => chResume s ch

/-! ### Completion (R386, R391, R394, R395) -/

/-- The address of the descriptor at HEAD. -/
def chDescAt (s : State) (c : Nat) : Nat := s.regAt (chBase c) + 32 * (chHead s c % chSize s c)

/-- A statistic of DMA_CHAN_STATS: at an offset, of so many bytes. -/
def chStat (s : State) (c off w n : Nat) : State := s.addObjF 0x6501 (c + 1) off w n

/-- A descriptor completes with a status: its words are written, HEAD moves past it, and the channel halts on an error, or
stops, or goes on. -/
def dmaComplete (s : State) (c : Fin 64) (x : DmaCur) (status : Nat) : State :=
  let w2 := readWord s (x.d.addr + 16)
  let w2 := w2 - bits w2 8 8 * 256 + status * 256
  let w3 := readWord s (x.d.addr + 24)
  let w3 := w3 / 2 ^ 24 * 2 ^ 24 + (if status = 1 then x.result else if x.d.op = 2 ∧ status = 0 then 0xFFFFFF else 0)
  let s := if allMemory s x.d.addr 32 then storeWord (storeWord s (x.d.addr + 24) w3) (x.d.addr + 16) (setBit w2 0 true) else s
  let s := s.setReg (chBase c + 0x10) ((chHead s c + 1) % chSize s c)
  let s := chStat (chStat (setCur s c none) c 0 8 1) c 8 8 x.pos
  let s := if status = 1 then chStat s c 16 4 1 else s
  let s := chFlag s c 0
  let s := if x.d.notify then s.postFixed x.opnd else s
  let s := if status = 5 then dmaFlag s 2 else s
  let s := if status = 6 then chStat (dmaFlag s 1) c 24 4 1 else s
  if 2 ≤ status then setChState (dmaFlag (chStat (chFlag s c 1) c 20 4 1) 0) c 4
  else if chState s c = 2 then setChState s c 3
  else chGo s c

/-- Is the operation a cipher one? -/
def isCipherOp (op : Nat) : Bool := op == 3 || op == 4 || op == 5

/-- Output bytes of a descriptor (*DMA operations*). -/
def dmaOutLen (d : DmaDesc) : Nat :=
  if d.op = 3 then d.len + 28 else if d.op = 4 then d.len - 28 else if d.op = 5 then 16 else d.len

/-- The bytes that a cipher job wrote before it ended are zeroed: how many it had written is free (R392). -/
def dmaZero (s : State) (c : Fin 64) (x : DmaCur) : State :=
  let (n, s) := s.drawIn 0 (dmaOutLen x.d)
  if x.d.dstPcie then s.setWired { s.wired with hostOut := s.wired.hostOut ++ [(100 + c.val, x.d.dst, zeros n)] }
  else if allMemory s x.d.dst n then storeBytes s x.d.dst (zeros n)
  else s

/-- The descriptor at HEAD, under the configuration now in force (R384). -/
def dmaLoad (s : State) (c : Fin 64) : DmaCur :=
  let a := chDescAt s c
  let w1 := readWord s (a + 8)
  let w2 := readWord s (a + 16)
  let w3 := readWord s (a + 24)
  { d := { src := readWord s a, dst := w1, len := bits w2 40 24, op := bits w2 36 4, srcW := 2 ^ bits w2 34 2,
           dstW := 2 ^ bits w2 32 2, key := bits w2 16 16, srcPcie := bit w2 7, dstPcie := bit w2 6, notify := bit w2 5,
           aad := bits w3 48 16, addr := a }
    packing := s.objF 0x6500 (c + 1) 0 1 == 1, opnd := s.objF 0x6500 (c + 1) 2 2 }

/-- A channel's cipher job is ended: taken off the waiting list, or off its lane. Answers whether it had started. -/
def dropJob (s : State) (j : Nat) : State × Bool :=
  if s.sec.waiting.any fun y => y.id == j then (s.setSec { s.sec with waiting := s.sec.waiting.filter (·.id != j) }, false)
  else
    let s := (List.finRange 12).foldl (fun s l => match (s.lane l).job with
      | some y => if y.id = j then laneAbort s l y else s
      | none => s) s
    (s.setSec { s.sec with results := tdel s.sec.results j }, true)

/-- Abort of a channel: the descriptor in progress completes with ABORTED (R394). Answers whether one ran. -/
def abortDma (c : Fin 64) (s : State) : State × Bool :=
  if chState s c = 1 ∨ chState s c = 2 then
    let x := (dmaCur s c).getD (dmaLoad s c)
    let s := match x.job with
      | some j => if (dropJob s j).2 then dmaZero (dropJob s j).1 c x else (dropJob s j).1
      | none => s
    (dmaComplete s c x 6, true)
  else (s, false)

/-- ABORT_DMA_CHANNEL. -/
def execAbortDmaChannel (c : Fin 64) (s : State) : Out := live s fun s =>
  let (s, ran) := abortDma c s
  s.abortDone 4 c.val 0 ran 20000

end Sys2Proof.Machine
end

