-- ==== Sys2Proof/Machine/Supply.lean ====
section
/-! DEFINITION. Supply-fail and forced degrade (17_power, R424, R425), beacon bookings (R423), and the votes of a sleep
entry (R416). -/

namespace Sys2Proof.Machine
open Sys2Proof

/-- BEACON_BOOKING: 1 ms before a TBTT the beacon's power is booked (R423). -/
def execBeaconBooking (r : Radio) (b : Fin 16) (s : State) : Out := live s fun s =>
  let period := bssF s r.val b.val 10 2 * 1024
  let left := (16 * bssF s r.val b.val 12 2 + period - s.mac.tsf % period) % period
  if isWlan s r = false ∨ bssOn s r.val b.val = false ∨ (s.fe r).st = .off ∨ 1000 < left then s
  else match highestUnits s r with
    | some u => (s.book (bookKey r.val 1 b.val) u).1
    | none => s

/-! ### Reclaim (R424, *Reclaim order*) -/

/-- Reclaim one after another until the committed total is within the budget. -/
def reclaimWhile (acts : List (State → State)) (s : State) : State :=
  acts.foldl (fun s f => if committed s ≤ budget s then s else f s) s

/-- A grant is taken and remembered for the restore. -/
def takeGrant (s : State) (kind inst : Nat) : State :=
  match grantOf s kind inst with
  | none => s
  | some g => (s.setPower { s.power with reclaimed := s.power.reclaimed ++ [g] }).release kind inst

/-- 1: cores lowered to their protected points: C0 to P800, the others to P400. -/
def reclaimCores (s : State) : State :=
  (List.finRange 8).foldl (fun s c =>
    let p := min (s.core c).point (if c = 0 then 1 else 0)
    requestPoint s c p) s

/-- 2: contention transmissions stop as a radio transmit abort. -/
def reclaimTx (s : State) : State :=
  (List.finRange 3).foldl (fun s r => if grantUnits s 4 r.val = 0 then s else ((abortTx r s).1).release 4 r.val) s

/-- 3: cipher lanes L4 to L11. -/
def reclaimLanes (s : State) : State :=
  (List.range 8).foldl (fun s i => enableLane (takeGrant s 9 (i + 4)) (i + 4) false) s

/-- The share of a radio's booking that one of its transceivers draws at the booking's level. -/
def bookingShare (s : State) (r : Radio) (t : Trx) (units : Nat) : Nat :=
  match fittingLevel s (chains s r) units with
  | some l => ((txCharge s t.val l)).getD 0
  | none => units

/-- 4: a transceiver stops being used at once, with its share of any booking. -/
def reclaimTrx (t : Trx) (s : State) : State :=
  let s := match (List.finRange 3).find? fun r => trxAssign s t == r.val + 1 with
    | some r =>
      if (chains s r).contains t then
        (s.power.grants.filter fun g => g.kind == 10 && g.inst % 4 == r.val).foldl (fun s g =>
          let u := g.units - bookingShare s r t g.units
          s.setPower { s.power with grants := (s.power.grants.map fun x => if x = g then { x with units := u } else x).filter fun x => decide (0 < x.units) }) s
      else s
    | none => s
  offTrx (takeGrant s 3 t.val) t

/-- The transceivers that may be reclaimed: sentinels first, then highest-numbered, all but the lowest of each enabled
radio. -/
def reclaimable3 (s : State) : List Trx :=
  let on := (List.finRange 16).reverse.filter fun t => decide (0 < grantUnits s 3 t.val)
  let kept (t : Trx) : Bool := (List.finRange 3).any fun r => (s.fe r).st != .off && (assigned s r).head? == some t
  (on.filter fun t => trxAssign s t == 0) ++ on.filter fun t => trxAssign s t != 0 && !kept t

/-- 5: ports and lanes not in BACKUP_KEEP: bits 0 ETH0, 1 ETH1, 2 PCIe, 3 the baseline link. -/
def reclaimPorts (s : State) : State :=
  let keep := s.objF 0x1310 0 6 1
  let s := if bit keep 0 then s else linkDown 0 (takeGrant s 6 0)
  let s := if bit keep 1 then s else linkDown 1 (takeGrant s 6 1)
  let s := if bit keep 2 then s else linkDown 3 (takeGrant s 7 0)
  if bit keep 3 then s else
    let s := takeGrant s 8 0
    s.setPair { s.pair with link := false }

/-- 6: a booking is reduced to the highest FEM_DRAW level that fits, or refused (R114). -/
def reclaimBooking (g : Grant) (s : State) : State :=
  let excess := committed s - budget s
  let refused (s : State) : State := ((s.release 10 g.inst).stat 0x1321 0 7 1).setFlag 0x1330 0 7
  if h : g.inst % 4 < 3 then
    let r : Radio := ⟨g.inst % 4, h⟩
    match fittingLevel s (chains s r) (g.units - excess) with
    | some l =>
      if l < -3000 ∨ g.units < excess then refused s
      else match txUnits s (chains s r) fun _ => l with
        | some u => s.setPower { s.power with grants := s.power.grants.map fun x => if x = g then { x with units := u } else x }
        | none => refused s
    | none => refused s
  else refused s

/-- The bookings, newest first. -/
def bookingsByAge (s : State) : List Grant :=
  let l := s.power.grants.filter fun g => g.kind == 10
  l.foldl (fun acc g => (acc.takeWhile fun x => decide (g.age < x.age)) ++ g :: acc.dropWhile fun x => decide (g.age < x.age)) []

/-- Reclaim in the order of *Reclaim order* until the committed total is within the budget; FORCED_DEGRADE when anything was
to be reclaimed (R424). -/
def reclaimAll (s : State) : State :=
  if committed s ≤ budget s then s
  else
    let s := (s.stat 0x1321 0 5 1).setFlag 0x1330 0 1
    let s := reclaimWhile [reclaimCores, reclaimTx, reclaimLanes] s
    let s := reclaimWhile ((reclaimable3 s).map reclaimTrx) s
    let s := reclaimWhile [reclaimPorts] s
    let s := reclaimWhile ((bookingsByAge s).map reclaimBooking) s
    supplyShort s

/-- SUPPLY_FAIL_ASSERT: a low level shorter than 200 ns is ignored (R424). -/
def execSupplyFailAssert (lowNs : Nat) (s : State) : Out := live s fun s =>
  if lowNs < 200 ∨ s.power.supplyLow = true then s
  else reclaimAll ((s.setPower { s.power with supplyLow := true, restoring := false }).setFlag 0x1330 0 0)

/-- SUPPLY_BACK: the line is high again and the 1 s begins; update programming goes on (R425, R463). -/
def execSupplyBack (s : State) : Out := live s fun s =>
  if s.power.supplyLow then s.setPower { s.power with supplyLow := false, restoring := true, supplyShort := false, backAt := s.now } else s

/-- Restore one reclaimed unit (R425, R86). -/
def restoreUnit (g : Grant) (s : State) : State :=
  if g.kind = 3 then
    if h : g.inst < 16 then
      let t : Trx := ⟨g.inst, h⟩
      if trxAssign s t = 0 then sentinelTrx s t else if trxAssign s t ≤ 3 then joinTrx s t else s
    else s
  else if g.kind = 9 then
    let (s, given) := s.request 9 g.inst g.units false
    if given then enableLane s g.inst true else s
  else if g.kind = 8 then
    let (s, given) := s.request 8 g.inst g.units false
    if given then s.setPair { s.pair with link := true } else s
  else (s.request g.kind g.inst g.units false).1

/-- SUPPLY_RESTORE: after 1 s high the full budget is in force and the reclaimed units return (R425). -/
def execSupplyRestore (s : State) : Out := live s fun s =>
  if s.power.restoring = true ∧ s.power.supplyLow = false ∧ (s.datum.running = false ∨ s.power.backAt + 1000000000 ≤ s.now) then
    let back := s.power.reclaimed
    back.foldl (fun s g => restoreUnit g s) (s.setPower { s.power with restoring := false, reclaimed := [] })
  else s

/-! ### Votes of a sleep entry (R416) -/

/-- The refusers of *Entry refusals*, lowest unit ID first. -/
def entryRefusers (s : State) (hibernate : Bool) (mask : Nat) : List (Nat × Nat) :=
  ((List.finRange 3).filter fun r => (s.fe r).st == .diag).map (fun r => (radioUnit r.val, 0x506)) ++
  (if s.upd.st = .receiving ∨ s.upd.st = .ready ∨ s.upd.trial.isSome then [(0x21, 0x503)] else []) ++
  (if migrating s then [(0x30, 0x501)] else []) ++
  (if (List.range 64).any fun c => chState s c == 1 || chState s c == 2 then [(0x31, 0x502)] else []) ++
  (if s.start.limp then [(0x50, 0x508)] else []) ++
  (if mask % (if hibernate then 8 else 64) = 0 then [(0x50, 0x507)] else []) ++
  (if s.pair.st = .active then [(0x60, 0x504)] else []) ++
  (if s.dict.travs.toList.any (fun t => t.st == .armed || t.st == .applying) = true ∨ s.flash.saving.isSome then [(0x70, 0x505)] else [])

/-- A refused or aborted entry is counted against its unit and recorded (R417). -/
def entryRecord (s : State) (op outcome unit step sub : Nat) : State :=
  let s := s.addObjF 0x1322 unit 0 4 1
  let s := (s.stat 0x1321 0 outcome 1).setFlag 0x1330 0 (if outcome = 2 then 3 else 4)
  s.setObj 0x1323 0 (s.datum.t.enc ++ le 1 op ++ le 1 outcome ++ le 1 unit ++ le 1 step ++ le 2 sub)

/-- The result of POWER_CMD: op, outcome, unit, sub-code, wake cause, entry and wake stamps. -/
def powerOut (s : State) (op outcome unit sub cause : Nat) (entry wake : DatumVal) : State :=
  s.cmdOut 0x1301 0 (le 1 op ++ le 1 outcome ++ le 1 unit ++ [0] ++ le 2 sub ++ le 2 cause ++ entry.enc ++ wake.enc)

/-- POWER_CMD: the units vote; entry proceeds when none refuses, with the AON wake latch armed (R416). -/
def powerCmd (v : Bytes) (s : State) : State × Res :=
  let op := fld v 0 1
  let mask := if fld v 2 2 = 0 then s.objN 0x1304 0 else fld v 2 2
  if 64 ≤ fld v 2 2 then (powerOut s op 2 0x70 0x14 0 {} {}, dictAbort aRange 0x14)
  else match entryRefusers s (op == 2) mask with
    | (unit, sub) :: _ =>
      (powerOut (entryRecord s op 2 unit 1 sub) op 2 unit sub 0 {} {}, (aRefused, det unit sub))
    | [] => (s.setPower { s.power with
        entry := some { hibernate := op == 2, mask, stamp := s.datum.t, alarm := sub v 4 12 }, latch := 0 }, ok)

end Sys2Proof.Machine
end

