-- ==== Sys2Proof/Machine/Log.lean ====
section
/-! DEFINITION. The fault and event log (19_recovery_ordering, R448, R453 to R457). -/

namespace Sys2Proof.Machine
open Sys2Proof

def State.setLog (s : State) (l : Log) : State := { s with log := l }

/-- LOG_DELIVER: a unit's record reaches the log and is held until it is due (R448, R454). A unit names itself by a code of
*Unit IDs* (R13). -/
def execLogDeliver (rec : LogIn) (s : State) : Out := live s fun s =>
  if 4 < rec.cls ∨ unitIds.contains (rec.unit % 256) = false then s
  else deliverRec s {
    unit := rec.unit % 256, cls := rec.cls, code := rec.code % 65536
    stamp := { sec := rec.sec, ns := rec.ns }, gen := rec.stepGen, unitSeq := 0
    inst := rec.inst % 256, detail := rec.detail % 2 ^ 64 }

/-- Is a delivered record due (R454)? -/
def recDue (s : State) (r : LogRec) : Bool :=
  if r.gen = s.datum.stepGen then decide ((r.stamp.addNs 10000).units ≤ s.datum.t.units)
  else match tget s.log.stepAt r.gen with
    | some t => decide (t + 10000 ≤ s.now)
    | none => decide (r.gen < s.datum.stepGen)

/-- Merged order (R453): STEP_GEN, Datum stamp, unit ID, UNIT_SEQ. -/
def mergedLt (a b : LogRec) : Bool :=
  if a.gen ≠ b.gen then decide (a.gen < b.gen)
  else if a.stamp.units ≠ b.stamp.units then decide (a.stamp.units < b.stamp.units)
  else if a.unit ≠ b.unit then decide (a.unit < b.unit)
  else decide (a.unitSeq < b.unitSeq)

/-- A record put into its place. -/
def insertRec (r : LogRec) : List LogRec → List LogRec
  | [] => [r]
  | x :: l => if mergedLt r x then r :: x :: l else x :: insertRec r l

/-- The flash ring holds the newest 64 (R456). -/
def ringWith (ring : List LogRec) (r : LogRec) : List LogRec := (ring ++ [r]).drop (ring.length + 1 - 64)

/-- A record takes the next LOG_SEQ and its slot; an earlier record of that slot is overwritten (R455). DEVICE_FAULT sets
its flag and drives FAULT_N (R457); `save`: UNIT_FAULT and DEVICE_FAULT go to the flash ring (R456). -/
def commitRec (save : Bool) (s : State) (r : LogRec) : State :=
  let r := { r with seq := s.log.nextSeq }
  let kept := s.log.recs.filter fun x => x.seq % 1024 ≠ r.seq % 1024
  let lost := decide (kept.length < s.log.recs.length)
  let s := s.setLog { s.log with
    recs := kept ++ [r]
    nextSeq := s.log.nextSeq + 1
    unacked := if r.cls = 4 ∧ r.acked = false then s.log.unacked ++ [r.seq] else s.log.unacked
    ring := if save = true ∧ (r.cls = 3 ∨ r.cls = 4) then ringWith s.log.ring r else s.log.ring }
  let s := if lost then s.setFlag 0x7F12 0 0 else s
  let s := if r.cls = 4 then s.setFlag 0x7F12 0 4 else s
  s.postFixed 1

/-- LOG_COMMIT: the records that are due commit in merged order (R454). -/
def execLogCommit (s : State) : Out := live s fun s =>
  let due := (s.log.waiting.filter (recDue s)).foldr insertRec []
  let s := s.setLog { s.log with waiting := s.log.waiting.filter fun r => !recDue s r }
  due.foldl (commitRec true) s

/-- A record acknowledged when it is a DEVICE_FAULT at or below `v`. -/
def ackRec (v : Nat) (r : LogRec) : LogRec := if r.cls = 4 ∧ r.seq ≤ v then { r with acked := true } else r

/-- LOG_ACK: every DEVICE_FAULT record at or below `v` is acknowledged, overwritten ones and saved copies included
(R456, R457). -/
def logAck (v : Bytes) (s : State) : State × Res :=
  let n := leNat v
  (s.setLog { s.log with
    recs := s.log.recs.map (ackRec n)
    ring := s.log.ring.map (ackRec n)
    unacked := s.log.unacked.filter fun q => n < q }, ok)

/-- FAULT_N is driven low (R457, R478). -/
def faultN (s : State) : Bool := !s.log.unacked.isEmpty || s.log.wakeFault

end Sys2Proof.Machine
end

