-- ==== Sys2Proof/Machine/Reset.lean ====
section
/-! DEFINITION. Reset of everything outside the AON domain, and the start-up sequence (21_startup_clocks, R473 to R481,
R484, R485; 22_electrical_package, R497). -/

namespace Sys2Proof.Machine
open Sys2Proof

def State.setStart (s : State) (x : Start) : State := { s with start := x }

/-- The update unit across a reset: the flash, the boot control record and the fuses stay; RECEIVING and READY do not
(R462, R466). -/
def updAcross (u : Update) : Update :=
  { u with st := .idle, header := [], received := [], profile := false, result := 0, fallbacks := 0,
           scheduled := none, resetDue := false, peerTie := false }

/-- The persistent set across a reset: a save in progress is torn (R63); a rank that was migrating is retired (R381). -/
def flashAcross (s : State) : Flash :=
  if migrating s then
    let v := le 1 (setBit (s.objN 0x6405 0) s.dram.mig.src true)
    { s.flash with
      saving := none
      saved := tput s.flash.saved (okey 0x6405 0) v
      saved2 := tput s.flash.saved2 (okey 0x6405 0) v
      apps := vset s.flash.apps s.upd.running (tput (vget s.flash.apps s.upd.running []) (okey 0x6405 0) v) }
  else { s.flash with saving := none }

/-- Datum across a reset: its clock stops at D0, the increment returns to 4 ns, the rest of the unit is as at reset
(R316, R330). -/
def datumAcross (d : DatumUnit) : DatumUnit :=
  let k := stopDatum d
  { t := d.t, running := false, restored := false, d0 := k.d0 }

/-- Reset of everything outside the AON domain (R473). Kept: the AON domain, what is in flash and fuses, levels that the
board drives, and PDUs already sent. Contents of memory are not kept (R363; log entry 6). -/
def resetMain (s : State) : State :=
  { State.reset with
    pending := s.pending
    free := s.free
    now := s.now
    lastResp := s.lastResp
    flash := flashAcross s
    dict := { State.reset.dict with sent := s.dict.sent }
    wired := { gpioLevel := s.wired.gpioLevel, xspi := { resetN := false, fast := false }, tap := s.wired.tap }
    datum := datumAcross s.datum
    sec := { entropyOk := s.sec.entropyOk }
    power := { grants := resetGrants, supplyLow := s.power.supplyLow }
    pair := { peerIn := s.pair.peerIn, id := s.pair.id }
    log := { ring := s.log.ring, wakeFault := s.log.wakeFault }
    upd := updAcross s.upd
    start := { s.start with crossings := [], thermValid := 0, highest := 0, locked := 0, booted := false, limp := false, rescue := false }
    part := s.part }

/-! ### Wake fault records (R478, R481) -/

/-- AON edges since D0: the count's start is between two edges, so it is one of two numbers; 0 with no D0. -/
def edgesSinceD0 (s : State) : Nat × State := if s.datum.d0.isSome then s.draw else (0, s)

/-- The AON holds up to 8 records; a ninth overwrites the oldest. FAULT_N is driven low (R478, R481). -/
def latchFault (s : State) (code detail attempts : Nat) : State :=
  let (edges, s) := edgesSinceD0 s
  let l := s.start.faults ++ [{ code, detail, attempts, edges }]
  { s with start := { s.start with faults := l.drop (l.length - 8) }, log := { s.log with wakeFault := true } }

/-! ### Steps A, B and C -/

/-- Every power-good of a step is good: HOLD inputs 0 to 3, MAIN inputs 4 to 7. -/
def holdGood (x : Start) : Bool := bits x.pg 0 4 == 15
def mainGood (x : Start) : Bool := bits x.pg 4 4 == 15

/-- A step that is complete gives way to the next; rails that are already good pass at once (R476). -/
def stepA (x : Start) : Start :=
  if x.phase = .stepA ∧ x.enHold = true ∧ holdGood x = true then { x with phase := .stepB, xoEn := true, refRun := 0, attempts := 0 }
  else x
def stepB (x : Start) : Start :=
  if x.phase = .stepB ∧ 2 ≤ x.refRun then { x with phase := .stepC, enMain := true, attempts := 0 } else x
def stepC (x : Start) : Start :=
  if x.phase = .stepC ∧ x.enMain = true ∧ mainGood x = true then { x with phase := .pll, locked := 0 } else x
def advanceStart (x : Start) : Start := stepC (stepB (stepA x))

/-- A start request S: the sequence begins at step A (*The start-up sequence*). -/
def startRequest (s : State) (cause : Nat) : State :=
  s.setStart (advanceStart { s.start with
    phase := .stepA, enHold := true, attempts := 0, refRun := 0, lastAttempts := 1, cause, limp := false, fromStandby := false })

/-- A start-up fails: the enables are deasserted, a record is latched, and the device is in HIBERNATE (R478). -/
def failStart (s : State) (code detail attempts : Nat) : State :=
  let s := latchFault (if s.start.fromStandby then resetMain s else s) code detail attempts
  { s with
    start := { s.start with phase := .failed, enMain := false, enHold := false, xoEn := false, fromStandby := false
                            cause := if s.start.fromStandby then 2 else s.start.cause }
    power := { s.power with now_ := 4 } }

/-- A reset of the device by its own hand: ACTIVATE, REVERT or the end of a trial (R466, R467). -/
def deviceReset (s : State) : State := startRequest (resetMain s) 3

/-- RESET_N: low for 1 us or more resets everything outside AON; its release is a start request (R473). -/
def execResetN (lowNs : Nat) (s : State) : Out := aon s fun s =>
  if lowNs < 1000 ∨ s.start.phase = .off then s else startRequest (resetMain s) 1

/-- POWER_GOOD: an input has been high for 20 us (R473). -/
def execPowerGood (i : Fin 8) (s : State) : Out := aon s fun s =>
  if s.start.phase = .off then s else s.setStart (advanceStart { s.start with pg := setBit s.start.pg i true })

/-- A record is latched, both rail enables are deasserted for 5 ms, and a start-up with the cause begins after them
(R480). -/
def abruptReset (s : State) (code detail cause : Nat) : State :=
  let s := latchFault (resetMain s) code detail 0
  s.setStart { s.start with phase := .reassert, enHold := false, enMain := false, cause, fromStandby := false }

/-- PG_LOST: an input has been low for 2 us; with its rail enabled the device resets (R473, R480). -/
def execPgLost (i : Fin 8) (s : State) : Out := aon s fun s =>
  if s.start.phase = .off ∨ bit s.start.pg i = false then s
  else
    let en := if i.val < 4 then s.start.enHold else s.start.enMain
    let s := s.setStart { s.start with pg := setBit s.start.pg i false }
    if en then abruptReset s 4 i.val 4 else s

/-- The PLLs whose loss resets the device: DATUM, CPU, MEM and the SerDes of Ethernet, baseline link and PCIe (R480). -/
def fatalPll (d : Nat) : Bool := [2, 7, 8, 9, 10, 11].contains d

/-- PLL_LOST: in a running state (R480). -/
def execPllLost (domain : Fin 14) (s : State) : Out := live s fun s =>
  if fatalPll domain.val = true ∧ s.power.now_ ≤ 2 ∧ s.start.limp = false then abruptReset s 5 domain.val 5 else s

/-- REF_WINDOW: a window of 64 AON cycles; two good ones in a row make REF ready (R475). -/
def windowGood (n : Nat) : Bool := decide (78047 ≤ n ∧ n ≤ 78203)

def execRefWindow (edges : Nat) (s : State) : Out := aon s fun s =>
  if s.start.xoEn = true ∧ s.start.phase ≠ .off then
    s.setStart (advanceStart { s.start with
      lastWindow := edges, refRun := if windowGood edges then s.start.refRun + 1 else 0 })
  else s

/-- The power-good inputs of a group that are still low, by bit. -/
def stillLow (x : Start) (lo : Nat) : Nat := 15 - bits x.pg lo 4

/-- A step exceeds its limit with its retries used: the start-up fails, or without REF goes on in the limp state (R478,
R479). The DETAIL of a LIMP record is not stated and is free. -/
def stepFailed (s : State) : State :=
  let n := s.start.attempts + 1
  match s.start.phase with
  | .stepA => failStart s 1 (stillLow s.start 0) n
  | .stepC => failStart s 3 (stillLow s.start 4) n
  | .stepB =>
    if s.start.limpOk then
      let (d, s) := s.draw
      let s := latchFault s 6 d n
      s.setStart (advanceStart { s.start with phase := .stepC, enMain := true, attempts := 0, limp := true })
    else failStart s 2 s.start.lastWindow n
  | _ => s

/-- The enable of the present step. -/
def stepEnable (x : Start) : Bool :=
  match x.phase with
  | .stepA => x.enHold
  | .stepB => x.xoEn
  | .stepC => x.enMain
  | _ => false

/-- The enable of the present step, driven to a level. -/
def driveStep (x : Start) (b : Bool) : Start :=
  match x.phase with
  | .stepA => { x with enHold := b }
  | .stepB => { x with xoEn := b, refRun := 0 }
  | .stepC => { x with enMain := b }
  | _ => x

/-- STARTUP_STEP_TIMEOUT: the step is retried up to three times; for a retry its enable is deasserted (R476). -/
def execStartupStepTimeout (lastWindow : Nat) (s : State) : Out := aon s fun s =>
  if stepEnable s.start then
    let s := if s.start.phase = .stepB then s.setStart { s.start with lastWindow } else s
    if s.start.attempts < 3 then
      s.setStart (driveStep { s.start with attempts := s.start.attempts + 1, lastAttempts := s.start.lastAttempts + 1 } false)
    else stepFailed s
  else s

/-- ENABLE_REASSERT: after 5 ms the step's enable is asserted again, or the start-up after PG_LOST or PLL_LOST begins
(R476, R480). -/
def execEnableReassert (s : State) : Out := aon s fun s =>
  match s.start.phase with
  | .reassert => startRequest s s.start.cause
  | .stepA | .stepB | .stepC =>
    if stepEnable s.start then s else s.setStart (advanceStart (driveStep s.start true))
  | _ => s

/-- FAIL_RETRY_EXPIRY: a new start-up after a failed one (R478); 0 is none. -/
def execFailRetryExpiry (s : State) : Out := aon s fun s =>
  if s.start.phase = .failed ∧ s.start.failRetry ≠ 0 then startRequest s s.start.cause else s

/-! ### The limp state (R484, R485) -/

/-- RC_TRIM: the RC oscillator is trimmed against AON. -/
def execRcTrim (v : Nat) (s : State) : Out := live s fun s =>
  if s.start.limp then s.setStart { s.start with rcTrim := v % 65536 } else s

/-- LIMP_REF_CHECK: once a second R475 is applied to two windows; REF's return is flagged. -/
def execLimpRefCheck (w1 w2 : Nat) (s : State) : Out := live s fun s =>
  if s.start.limp then
    let good := windowGood w1 && windowGood w2
    let back := good && decide (s.start.refRun < 2)
    let s := s.setStart { s.start with lastWindow := w2, refRun := if good then 2 else 0 }
    if back then s.setFlag 0x1005 0 1 else s
  else s

/-! ### Junction temperature (R497) -/

/-- The hottest valid reading and its sensor, none before any. -/
def hottest (s : State) : Option (Int × Nat) :=
  (List.range 9).foldl (fun acc i =>
    if bit s.start.thermValid i then
      let v := s.objI 0x1700 (i + 1) 0 2
      match acc with
      | some (w, _) => if w < v then some (v, i) else acc
      | none => some (v, i)
    else acc) none

/-- Has the hottest valid reading reached THERM_WARN? -/
def thermHigh (s : State) : Bool :=
  match hottest s with
  | some (v, _) => decide ((s.objN 0x1701 0 * 10 : Nat) ≤ v)
  | none => false

/-- THERM_READING: a reading in 0.1 °C; one outside −50 to +150 °C is invalid and left out of every judgement. -/
def execThermReading (sensor : Fin 9) (v : Int) (s : State) : Out := live s fun s =>
  let was := thermHigh s
  if v < -500 ∨ 1500 < v then
    let s := s.setObj 0x1700 (sensor + 1) (le 2 0x8000)
    (s.setStart { s.start with thermValid := setBit s.start.thermValid sensor false }).setFlag 0x1703 0 1
  else
    let s := s.setObj 0x1700 (sensor + 1) (leInt 2 v)
    let top := if s.start.thermValid = 0 ∧ s.start.highest = 0 then v else max s.start.highest v
    let s := s.setStart { s.start with thermValid := setBit s.start.thermValid sensor true, highest := top }
    let s := match hottest s with
      | some (h, i) => s.setObj 0x1702 0 (leInt 2 h ++ le 1 i ++ leInt 2 s.start.highest)
      | none => s
    if thermHigh s = true ∧ was = false then s.setFlag 0x1703 0 0 else s

/-- THERM_TRIP: 122 °C or above for 100 us resets the device and proceeds as a failed start-up. -/
def execThermTrip (sensor : Fin 9) (s : State) : Out := live s fun s =>
  if bit s.start.thermValid sensor = true ∧ 1220 ≤ s.objI 0x1700 (sensor + 1) 0 2 then
    failStart (resetMain s) 7 sensor.val 0
  else s

/-! ### The supplies -/

/-- AON_POWER_ON: the arrival of VDD_AON resets the AON domain, Datum is zero, and a start-up begins (R316, R473). -/
def execAonPowerOn (s : State) : Out := aon s fun s =>
  let s := resetMain s
  let s := { s with
    now := 0
    datum := {}
    power := { grants := resetGrants }
    pair := {}
    log := { ring := s.log.ring }
    wired := {}
    start := { pg := 0, enHold := false, enMain := false, xoEn := false, refRun := 0, locked := 0, booted := false,
               boots := s.start.boots, limpOk := true, failRetry := 60 } }
  startRequest s 0

/-- POWER_LOSS: everything but flash and fuses is lost (R63, R462); only the return of VDD_AON changes anything. -/
def execPowerLoss (s : State) : Out := aon s fun s =>
  let s := resetMain s
  { s with
    datum := { running := false, restored := false }
    power := { grants := [] }
    pair := {}
    log := { ring := s.log.ring }
    wired := {}
    start := { phase := .off, pg := 0, enHold := false, enMain := false, xoEn := false, refRun := 0, locked := 0,
               booted := false, boots := s.start.boots } }

end Sys2Proof.Machine
end

