-- ==== Sys2Proof/Machine/Update.lean ====
section
/-! DEFINITION. Firmware update, trial and confirmation, regional profiles (20_firmware_update, R461 to R472). -/

namespace Sys2Proof.Machine
open Sys2Proof

def State.setUpd (s : State) (u : Update) : State := { s with upd := u }

/-- The partner is healthy (R447): link up, a HEARTBEAT within 1.25 ms with every health bit, complementary roles. -/
def partnerHealthy (s : State) : Bool :=
  s.pair.link && s.pair.heard && s.pair.partnerHealth == 7 &&
    ((s.pair.st == .active && s.pair.partner == 3) || (s.pair.st == .standby && s.pair.partner == 4))

/-- The first condition of *Update refusals* that holds for every operation (R464). -/
def updRefusal (s : State) : Option Nat :=
  if s.power.supplyLow then some 0x106
  else if s.objN 0x1610 0 = 1 then some 0x111
  else if s.pair.partnerBusy then some 0x112
  else if s.pair.en = true ∧ partnerHealthy s = false then some 0x113
  else if s.upd.st = .trial then some 0x114
  else none

def updRefused (sub : Nat) : Res := abortBy aRefused 0x21 sub

/-- Not listed for the present state (R464). -/
def updState_ : Res := abortBy aState 0x21 0x150

/-! ### The image header (R357, R461) -/

def hdrType (h : Bytes) : Nat := fld h 5 1
def hdrLen (h : Bytes) : Nat := fld h 20 4

def allZero (b : Bytes) : Bool := b.all fun x => x == 0

/-- Does load-map entry `i` lie inside the payload? -/
def loadInside (h : Bytes) (i : Nat) : Bool := decide (fld h (168 + 16 * i) 4 + fld h (172 + 16 * i) 4 ≤ hdrLen h)

/-- Step 1 but for the target: magic, version, type, reserved fields, counts, load map (R461). -/
def hdrFormOk (h : Bytes) : Bool :=
  sub h 0 4 == [0x52, 0x4E, 0x53, 0x49] && fld h 4 1 == 1 && allZero (sub h 30 2) && allZero (sub h 153 7) &&
    allZero (sub h 312 86) &&
    (if hdrType h = 1 then decide (1 ≤ hdrLen h ∧ hdrLen h ≤ 12582400 ∧ 1 ≤ fld h 25 1 ∧ fld h 25 1 ≤ 8) &&
        (List.range (fld h 25 1)).all (loadInside h)
      else hdrType h == 2 && decide (1 ≤ hdrLen h ∧ hdrLen h ≤ 65024) && fld h 25 1 == 0)

/-- Steps 1 to 5 of R357 on a header: a code of *Verification results*. -/
def verifyHeader (env : Env) (h : Bytes) (s : State) : Nat :=
  if hdrFormOk h = false then 1
  else if fld h 6 2 ≠ 0x3716 then 2
  else if s.part.compatActive < fld h 8 2 ∨ fld h 10 2 < s.part.compatActive then 3
  else if 4 ≤ fld h 24 1 ∨ fuseState s (fld h 24 1) ≠ 1 ∨ env.keyOk = false then 4
  else if env.sigOk = false then 5
  else if hdrType h = 1 ∧ fld h 12 4 < s.upd.floor then 6
  else if hdrType h = 2 ∧ fld h 16 4 ≤ s.objN 0x7001 0 then 6
  else 0

/-- NODE_MODEL as the 16 bytes a profile's MODEL is compared with. -/
def nodeModel (s : State) : Bytes := (s.objB 0x1620 0 ++ zeros 16).take 16

/-! ### Receiving (R462 to R465) -/

/-- A slot's header or contents. -/
def setSlot (u : Update) (profile : Bool) (k : Nat) (x : Slot) : Update :=
  if profile then { u with profiles := vset u.profiles k x } else { u with images := vset u.images k x }

/-- The slot a BEGIN fills: the one not running, or the profile slot not in force (R462). -/
def targetSlot (u : Update) (profile : Bool) : Nat := if profile then 1 - u.inForce else 1 - u.running

/-- BEGIN is accepted: the target slot's header is invalidated and the new header kept in the unit. -/
def beginAccepted (h : Bytes) (s : State) : State :=
  let p := hdrType h == 2
  let k := targetSlot s.upd p
  s.setUpd (setSlot { s.upd with st := .receiving, header := h, received := [], profile := p, target := k, peerTie := false } p k {})

/-- BEGIN (R461, R464). On a paired device the answer waits for the partner's next HEARTBEAT (R465). -/
def updBegin (env : Env) (h : Bytes) (s : State) : State × Option Res :=
  match updRefusal s with
  | some x => (s, some (updRefused x))
  | none =>
    if hdrType h = 2 ∧ (s.pair.st = .syncing ∨ s.pair.st = .standby) then (s, some (updRefused 0x115))
    else if s.upd.st ≠ .idle then (s, some updState_)
    else
      let r := verifyHeader env h s
      if r ≠ 0 then (s, some (updRefused (0x120 + r)))
      else if hdrType h = 2 ∧ sub h 296 16 ≠ nodeModel s then (s, some (updRefused 0x128))
      else if s.pair.en then (s.setUpd { s.upd with peerTie := true, header := h }, none)
      else (beginAccepted h s, some ok)

/-- The partner's next HEARTBEAT judges a waiting BEGIN: when both began together the device with PAIR_ID 1 yields
(R465). None: it goes on waiting. -/
def beginHeard (s : State) : State × Option Res :=
  if s.pair.partnerBusy = false then (beginAccepted s.upd.header s, some ok)
  else if s.pair.id = 1 then (s.setUpd { s.upd with peerTie := false, header := [] }, some (updRefused 0x112))
  else (s, none)

/-- A waiting BEGIN finds the partner gone. -/
def beginLost (s : State) : State × Res := (s.setUpd { s.upd with peerTie := false, header := [] }, updRefused 0x113)

/-- UPDATE_DATA (R463). -/
def updateData (v : Bytes) (s : State) : State × Res :=
  match updRefusal s with
  | some x => (s, updRefused x)
  | none =>
    let off := fld v 0 4
    let n := v.length - 4
    if s.upd.st ≠ .receiving then (s, updState_)
    else if hdrLen s.upd.header < off + n then (s, abortBy aRange 0x21 0)
    else if off = s.upd.received.length then (s.setUpd { s.upd with received := s.upd.received ++ v.drop 4 }, ok)
    else if off + n ≤ s.upd.received.length then (s, ok)
    else (s, abortBy aRange 0x21 0)

/-- FINISH: with the digest passed the header is written last; else the slot stays EMPTY (R462). -/
def updFinish (env : Env) (s : State) : State × Res :=
  match updRefusal s with
  | some x => (s, updRefused x)
  | none =>
    if s.upd.st ≠ .receiving ∨ s.upd.received.length ≠ hdrLen s.upd.header then (s, updState_)
    else if env.digestOk then
      (s.setUpd (setSlot { s.upd with st := .ready, result := 0 } s.upd.profile s.upd.target
        { header := some s.upd.header, payload := s.upd.received }), ok)
    else (s.setUpd { s.upd with st := .idle, result := 7, received := [], header := [] }, updRefused 0x127)

/-- The update ends with its slot EMPTY and result ABORTED (*Update states*). -/
def updStop (s : State) : State :=
  s.setUpd (setSlot { s.upd with st := .idle, result := aAborted, received := [], header := [] } s.upd.profile s.upd.target {})

/-- DISCARD (R464: never refused). -/
def updDiscard (s : State) : State × Res :=
  if s.upd.st = .receiving ∨ s.upd.st = .ready then (updStop s, ok) else (s, updState_)

/-! ### Profiles (R471) -/

/-- The entries of a profile payload, none when it does not divide into entries. -/
def profileEntries : Nat → Bytes → Option (List (Nat × Nat × Bytes))
  | 0, p => if p.isEmpty then some [] else none
  | fuel + 1, p =>
    if p.isEmpty then some []
    else if p.length < 6 ∨ p.length < 6 + fld p 4 2 then none
    else (profileEntries fuel (p.drop (6 + fld p 4 2))).map fun r => (fld p 0 2, fld p 2 2, sub p 6 (fld p 4 2)) :: r

/-- An entry names an RL object of 7000h to 70FFh and passes its type and range. -/
def profileEntryOk (e : Nat × Nat × Bytes) : Bool :=
  decide (0x7000 ≤ e.1 ∧ e.1 ≤ 0x70FF) &&
    (match objRow? e.1 e.2.1 with
      | some r => r.acc == .rl && valueRes r e.2.2 == ok
      | none => false)

/-- ACTIVATE of a profile: applied at its execution plus 2 ms (R471). -/
def activateProfile (s : State) : State × Res :=
  match profileEntries s.upd.received.length s.upd.received with
  | some l =>
    if l.all profileEntryOk then
      (s.setUpd { s.upd with st := .idle, scheduled := some (l, s.datum.t.addNs 2000000, s.upd.target) }, ok)
    else (s, abortBy aRange 0x21 0)
  | none => (s, abortBy aRange 0x21 0)

/-- Every RL object the device holds another value of than its default. -/
def rlSet (s : State) : List (Nat × Nat) :=
  (s.obj.map fun p => (p.1 / 65536, p.1 % 65536)).filter fun k =>
    match objRow? k.1 k.2 with
    | some r => r.acc == .rl
    | none => false

/-- A profile takes effect: RL objects not named return to their defaults, REG_SIGNER and REG_VERSION are set, MR2 is
extended (R354, R471); each changed value is mirrored (R436). -/
def profileInForce (l : List (Nat × Nat × Bytes)) (slot : Nat) (h : Bytes) (s : State) : State :=
  let old := rlSet s
  let s := old.foldl (fun s k => s.setObj k.1 k.2 (s.dflt k.1 k.2)) s
  let s := l.foldl (fun s e => s.setObj e.1 e.2.1 e.2.2) s
  let s := (s.setObj 0x7002 0 (le 1 (fld h 24 1))).setObj 0x7001 0 (le 4 (fld h 16 4))
  let s := extendMr (s.setUpd { s.upd with inForce := slot }) 2 (shake 64 h)
  let named := l.map fun e => (e.1, e.2.1)
  let keys := named ++ old.filter (fun k => !named.contains k) ++ [(0x7001, 0)]
  keys.foldl (fun s k => s.mirror 6 (.object k.1 k.2 (s.objB k.1 k.2))) s

/-- PROFILE_APPLY: Datum has reached T (R117, R471). -/
def execProfileApply (s : State) : Out := live s fun s =>
  match s.upd.scheduled with
  | some (l, t, slot) =>
    if t.le s.datum.t then
      let h := ((vget s.upd.profiles slot {}).header).getD []
      profileInForce l slot h (s.setUpd { s.upd with scheduled := none })
    else s
  | none => s

/-! ### Trial and confirmation (R466 to R470) -/

/-- ACTIVATE of a firmware image: the record is written and the device resets (R466). -/
def activateImage (window : Nat) (s : State) : State × Res :=
  (s.setUpd { s.upd with
    trial := some s.upd.target, trialBooted := false, resetDue := true, fallCause := 2
    window := if window = 0 then s.objN 0x1604 0 else window }, ok)

def updActivate (window : Nat) (s : State) : State × Res :=
  match updRefusal s with
  | some x => (s, updRefused x)
  | none =>
    if s.upd.st ≠ .ready then (s, updState_)
    else if s.upd.profile then activateProfile s else activateImage window s

/-- REVERT: the trial ends in fallback with a reset (R467). -/
def updRevert (s : State) : State × Res :=
  if s.upd.st = .trial then (s.setUpd { s.upd with fallCause := 3, resetDue := true }, ok) else (s, updState_)

/-- UPDATE_CMD. -/
def updateCmd (env : Env) (v : Bytes) (s : State) : State × Option Res :=
  let some_ (x : State × Res) : State × Option Res := (x.1, some x.2)
  if (fld v 0 1 = 1) ≠ (v.length = 516) then (s, some (dictAbort aType 0x13))
  else match fld v 0 1 with
    | 1 => updBegin env (v.drop 4) s
    | 2 => some_ (updFinish env s)
    | 3 => some_ (updActivate (fld v 2 2) s)
    | 4 => some_ (updDiscard s)
    | _ => some_ (updRevert s)

/-- The fuse steps rise to the running image's security version; at 128 the protection is exhausted (R470). -/
def raiseFloor (s : State) : State :=
  let n := max s.upd.floor (min s.part.secVersion 128)
  let full := decide (n = 128 ∧ s.upd.floor < 128)
  let s := s.setUpd { s.upd with floor := n, floorOwed := false }
  if full then s.setFlag 0x1630 0 3 else s

/-- The floor step of a confirmation waits while SUPPLY_FAIL_N is low (R468). -/
def confirmFloor (s : State) : State :=
  if s.power.supplyLow then s.setUpd { s.upd with floorOwed := true } else raiseFloor s

/-- BENCHMARK (R468). -/
def benchmark (sess : Nat) (v : Bytes) (s : State) : State × Res :=
  if sess < 0xFF00 then (s, updRefused 0x10A)
  else if leNat v ≠ s.part.fwVersion then (s, abortBy aRange 0x21 0)
  else if s.upd.st ≠ .trial then (s, updState_)
  else
    let s := s.setUpd { s.upd with
      st := .idle, confirmed := s.upd.trial.getD s.upd.confirmed, trial := none, trialBooted := false, oldFormat := false
      platFormat := if s.upd.oldFormat then fld (((vget s.upd.images s.upd.running {}).header).getD []) 28 2 else s.upd.platFormat }
    ((confirmFloor s).setFlag 0x1630 0 1, ok)

/-- TRIAL_WINDOW_EXPIRY: unconfirmed, the device resets to fall back (R467). -/
def execTrialWindowExpiry (s : State) : Out := live s fun s =>
  if s.upd.st = .trial then deviceReset (s.setUpd { s.upd with fallCause := 1 }) else s

/-- The abort function 08h: an update that runs ends; in any other state nothing runs (R64, R468). -/
def abortUpdate (s : State) : State × Bool :=
  if s.upd.st = .receiving ∨ s.upd.st = .ready then (updStop s, true) else (s, false)

/-- ABORT_UPDATE. -/
def execAbortUpdate (s : State) : Out := live s fun s =>
  let (s, ran) := abortUpdate s
  s.abortDone 8 0 0 ran 50000000

end Sys2Proof.Machine
end

