-- ==== Sys2Proof/Machine/Boot.lean ====
section
/-! DEFINITION. PLL lock, reset release and the boot ROM (21_startup_clocks, R477, R481 to R483; 20_firmware_update R466,
R467, R469; 13_security R349, R351, R354). -/

namespace Sys2Proof.Machine
open Sys2Proof

/-- The PLLs locked at Rr: DATUM, LIF, CPU, FLD and XSPI; in the limp state the DATUM clock is stopped (R484). -/
def startPlls (limp : Bool) : Nat := if limp then 0x3080 else 0x30C4

/-! ### Restored records (R456, R481) -/

/-- A restored record takes the next LOG_SEQ with BOOT set; FAULT_N follows its acknowledgement (R457). -/
def restoreRec (s : State) (r : LogRec) : State :=
  let r := { r with seq := s.log.nextSeq, boot := true }
  s.setLog { s.log with
    recs := s.log.recs ++ [r]
    nextSeq := s.log.nextSeq + 1
    restored := s.log.restored + 1
    unacked := if r.cls = 4 ∧ r.acked = false then s.log.unacked ++ [r.seq] else s.log.unacked
    ring := ringWith s.log.ring r }

/-- The log record of a wake fault: unit 52h for codes 05h and 07h, 50h for the others; its stamp from its edges (R481). -/
def faultRec (s : State) (f : WakeFault) : LogRec :=
  let stamp := match s.datum.d0 with
    | some (d, r) => datumOf (d.units + advanceBy s.datum r f.edges)
    | none => s.datum.t
  { unit := if f.code = 5 ∨ f.code = 7 then 0x52 else 0x50, cls := 4, code := f.code, stamp, gen := 0, unitSeq := 0,
    inst := 0xFF, detail := f.detail }

/-- The flash ring is restored in its saved order, then the AON's records, which leave the AON (R456, R481). -/
def restoreLog (s : State) : State :=
  let ring := s.log.ring
  let faults := s.start.faults.map (faultRec s)
  let s := s.setLog { s.log with ring := [], wakeFault := false }
  (ring ++ faults).foldl restoreRec (s.setStart { s.start with faults := [] })

/-! ### Identity and measurements -/

/-- Up to three derivations of the identity; a third mismatch boots without identity (R349, R351). -/
def bootIdentity (tries : List Bool) (s : State) : State :=
  let t := tries.take 3
  let n := (t.takeWhile fun b => !b).length
  let good := decide (n < t.length)
  let s := s.setSec { s.sec with idFault := !good, attempts := if good then n + 1 else 3 }
  if good then s else s.logEvent 0x21 4 0x101 0xFF 0

/-- A measurement whose 64 bytes hash what the spec names without giving its layout: a free value (R354). -/
def extendFree (s : State) (i : Nat) : State :=
  let (v, s) := s.drawBytes 64
  extendMr s i v

/-! ### Choosing the image (R466, R467, R483) -/

def slotHeader (u : Update) (k : Nat) : Bytes := ((vget u.images k {}).header).getD []

/-- The trial ends in fallback: the confirmed slot runs (R467). -/
def bootFallback (cause : Nat) (s : State) : State :=
  let s := s.setUpd { s.upd with trial := none, trialBooted := false, fallbacks := s.upd.fallbacks + 1, fallCause := 2 }
  (s.setFlag 0x1630 0 0).logEvent 0x21 3 0x140 0xFF cause

/-- No slot remains: no image runs, and none declares an object (R38, R483). -/
def bootRescue (s : State) : State :=
  let s : State := { s with dict := { s.dict with declared := some [] } }
  (s.setStart { s.start with rescue := true }).logEvent 0x21 4 0x142 0xFF 0

/-- Run a slot, on trial or confirmed. -/
def bootSlot (k : Nat) (onTrial : Bool) (s : State) : State :=
  s.setUpd { s.upd with running := k, st := if onTrial then .trial else .idle, windowEnd := s.now + s.upd.window * 1000000000 }

/-- The confirmed slot, or when it fails the other one on trial with TRIAL_WINDOW, or RESCUE. -/
def bootConfirmed (b : BootIn) (s : State) : State :=
  let other := 1 - s.upd.confirmed
  if b.confirmedChecksOk then bootSlot s.upd.confirmed false s
  else if (vget s.upd.images other {}).header.isSome = true then
    let s := s.logEvent 0x21 3 0x141 0xFF 0
    if b.otherChecksOk then
      bootSlot other true (s.setUpd { s.upd with
        trial := some other, trialBooted := true, fallCause := 2, window := s.objN 0x1604 0 })
    else bootRescue s
  else bootRescue s

/-- What the boot ROM does with the boot control record. -/
def chooseSlot (b : BootIn) (s : State) : State :=
  match s.upd.trial with
  | some k =>
    if s.upd.trialBooted then bootConfirmed b (bootFallback s.upd.fallCause s)
    else if b.trialChecksOk then bootSlot k true (s.setUpd { s.upd with trialBooted := true })
    else bootConfirmed b (bootFallback 4 s)
  | none => bootConfirmed b s

/-! ### Settings (R63, R469) -/

/-- The objects of the platform record. -/
def platformKey (k : Nat) : Bool :=
  let idx := k / 65536
  let el := k % 65536
  [0x0110, 0x0111, 0x4005, 0x5800].contains idx ||
    (decide (el = 0) && [0x0004, 0x0101, 0x0102, 0x0103, 0x1240, 0x1400, 0x1403, 0x1610, 0x1620, 0x4004, 0x5820].contains idx)

/-- The application settings an image starts with: its own slot's area in its format, else in a trial the other slot's
area in its format, else defaults; the Boolean tells of a trial that starts from defaults. -/
def appSettings (s : State) : Tab Bytes × Bool :=
  let k := s.upd.running
  let fmt := fld (slotHeader s.upd k) 26 2
  if vget s.upd.appFormat k none = some fmt then (vget s.flash.apps k [], false)
  else if s.upd.st = .trial ∧ vget s.upd.appFormat (1 - k) none = some fmt then (vget s.flash.apps (1 - k) [], false)
  else ([], s.upd.st == .trial)

/-- The persistent set is restored from the copy of the newer generation (R63): the platform record, and the image's application settings. -/
def restoreSettings (s : State) : State :=
  let plat := (if s.flash.gen < s.flash.gen2 then s.flash.saved2 else s.flash.saved).filter fun p => platformKey p.1
  let (app, dflt) := appSettings s
  let all := app.foldl (fun t p => tput t p.1 p.2) plat
  let s := { s with flash := { s.flash with saved := all, gen2 := s.flash.gen, saved2 := all } }
  let s : State := all.foldl (fun s p => s.setObj (p.1 / 65536) (p.1 % 65536) p.2) s
  let pf := fld (slotHeader s.upd s.upd.running) 28 2
  let s := if s.upd.st = .trial ∧ pf ≠ s.upd.platFormat then s.setUpd { s.upd with oldFormat := true } else s
  if dflt then s.setFlag 0x1630 0 2 else s

/-- The level in force: COMPAT_LEVEL as restored, at most COMPAT_MAX (R67, R500). -/
def bootCompat (s : State) : State :=
  let l := s.objN 0x0004 0
  let s := { s with part := { s.part with compatActive := min l s.part.compatMax } }
  if s.part.compatMax < l then s.logEvent 0x70 3 0x10 0xFF 0 else s

/-- Values that the reset takes from RS objects (R382, R383, R398, R447). -/
def bootActive (s : State) : State :=
  let s := (s.setObj 0x6400 1 (s.objB 0x6400 0)).setObj 0x6801 1 (s.objB 0x6801 0)
  let s : State := { s with dram := { s.dram with retired := s.objN 0x6405 0 } }
  s.setPair { s.pair with en := s.objF 0x1400 0 0 1 == 1, win := s.objF 0x1400 0 1 1, kickMs := s.objF 0x1400 0 2 2 }

/-- The profile in force is checked and MR2 extended; one that fails leaves no profile installed (R357). -/
def bootProfile (profileOk : Bool) (s : State) : State :=
  match (vget s.upd.profiles s.upd.inForce {}).header with
  | none => s
  | some h =>
    let p := (vget s.upd.profiles s.upd.inForce {}).payload
    let s := (rlSet s).foldl (fun s k => s.setObj k.1 k.2 (s.dflt k.1 k.2)) s
    if profileOk then
      let s := ((profileEntries p.length p).getD []).foldl (fun s e => s.setObj e.1 e.2.1 e.2.2) s
      let s := (s.setObj 0x7002 0 (le 1 (fld h 24 1))).setObj 0x7001 0 (le 4 (fld h 16 4))
      extendMr s 2 (shake 64 h)
    else s

/-- The state the pair starts in, its link trained (R432, R484). -/
def bootPair (s : State) : State :=
  if s.start.limp then s.setPair { s.pair with st := .wait }
  else if s.pair.en then
    let (s, given) := s.request 8 0 32 false
    s.setPair { s.pair with st := .wait, link := given }
  else s.setPair { s.pair with st := .solo }

/-- C0 to C7 are started together, each asking for its CORE_DVFS point (R420); in RESCUE C1 to C7 stay held (R483). -/
def startCores (s : State) : State :=
  if s.start.rescue then (List.finRange 8).foldl (fun s c => if c = 0 then s else s.modCore c fun k => { k with held := true }) s
  else if s.start.limp then s
  else (List.range 8).foldl (fun s i => coreDvfsWritten s (i + 1)) s

/-- FW_VERSION and the security version are the running image's; the image fitted at manufacture keeps the part's. -/
def bootVersion (s : State) : State :=
  let h := slotHeader s.upd s.upd.running
  if h.length = 512 ∧ s.start.rescue = false then
    { s with part := { s.part with fwVersion := fld h 16 4, secVersion := fld h 12 4 } }
  else s

/-- The fuse steps that a confirmation left owing (R468). -/
def bootFloor (s : State) : State :=
  if s.upd.floorOwed = true ∧ s.power.supplyLow = false then raiseFloor s else s

/-- Rr: the DATUM clock runs again, or is held stopped in the limp state (R330, R484). -/
def bootDatum (s : State) : State :=
  if s.start.limp then s.setDatum (stopDatum s.datum)
  else s.setDatum { s.datum with running := true, restored := s.datum.d0.isNone }

/-- The wake from HIBERNATE that this boot completes is POWER_CMD's result (R414, R418). -/
def bootWoke (s : State) : State :=
  match s.power.asleep with
  | some e =>
    let s := s.stat 0x1321 0 1 1
    powerOut s 2 1 0 0 s.power.latch e.stamp s.datum.t
  | none => s

/-- Step 3 of *Boot ROM events*: XSPI_RESET_N is released, and the flash, read first in 1S-1S-1S, is read in 8D-8D-8D (R307). -/
def bootXspi (s : State) : State := { s with wired := { s.wired with xspi := { resetN := true, fast := true } } }

/-- RESET_RELEASE: at Rr the boot ROM runs its steps (*Boot ROM events*). -/
def execResetRelease (b : BootIn) (s : State) : Out := aon s fun s =>
  if s.start.phase = .pll ∧ s.start.locked ≠ 0 ∧ s.start.fromStandby = false then
    let s := s.setStart { s.start with phase := .released, boots := s.start.boots + 1, booted := true }
    let s := bootDatum s
    let s := s.setStart { s.start with rrStamp := s.datum.t }
    let s := { s with wired := { s.wired with pcieRoot := b.pcieRole }
                      pair := { s.pair with id := if b.pairId then 1 else 0 }
                      power := { s.power with now_ := if s.start.limp then 5 else 0 } }
    let s := extendFree (restoreLog (bootXspi s)) 0
    let s := bootIdentity b.pufTries s
    let s := restoreSettings (chooseSlot b s)
    let s := extendFree (bootCompat s) 3
    let s := if s.start.rescue then s else extendMr s 1 (shake 64 (slotHeader s.upd s.upd.running))
    let s := bootFloor (bootVersion (bootProfile b.profileOk s))
    let s := if s.start.limp then s else s.setPower { s.power with now_ := s.objN 0x1300 0 }
    startCores (bootWoke (bootPair (bootActive s)))
  else s

end Sys2Proof.Machine
end

