-- ==== Sys2Proof/Machine/Operands.lean ====
section
/-! DEFINITION. The operand forms: how the bytes of a PDU are laid out and divided into operations, and the operation that a
command of the table stands for (02_object_dictionary, *PDU header*, *Request operation*, *Transports*). -/

namespace Sys2Proof.Machine
open Sys2Proof

/-! ### Operations -/

/-- A request operation. -/
def reqOp (opcode flags idx el : Nat) (v : Bytes) : Op := { opcode, flags, idx, el, value := v }

def writeOp (idx el : Nat) (v : Bytes) : Op := reqOp 2 0 idx el v

/-! ### PDUs -/

/-- Header of a PDU: VERSION, FLAGS, SESSION, SEQ, LENGTH, OP_COUNT. -/
def pduHeader (flags sess seq len count : Nat) : Bytes := [1] ++ le 1 flags ++ le 2 sess ++ le 4 seq ++ le 2 len ++ le 2 count

/-- A PDU in the clear. -/
def plainPdu (flags sess seq count : Nat) (body : Bytes) : Bytes := pduHeader flags sess seq body.length count ++ body

def pduFlags (b : Bytes) : Nat := fld b 1 1
def pduEnc (b : Bytes) : Bool := bit (pduFlags b) 5
def pduSess (b : Bytes) : Nat := fld b 2 2
def pduSeq (b : Bytes) : Nat := fld b 4 4
def pduLen (b : Bytes) : Nat := fld b 8 2
def pduCount (b : Bytes) : Nat := fld b 10 2
def pduBody (b : Bytes) : Bytes := b.drop 12

/-- PDU limit of a transport (*Transports*). -/
def pduLimit : Transport → Nat
  | .field => 1498
  | .udp => 1232
  | _ => 4096

/-- The PDU in what a transport delivered, when its framing, its length and its LENGTH agree: FIELD frames carry the marker
56h 4Fh and padding. -/
def framedPdu (tr : Transport) (raw : Bytes) : Option Bytes :=
  match tr with
  | .field =>
    if sub raw 0 2 ≠ [0x56, 0x4F] ∨ raw.length < 14 then none
    else
      let b := raw.drop 2
      if b.length < 12 + pduLen b ∨ 1498 < 12 + pduLen b then none else some (b.take (12 + pduLen b))
  | tr => if raw.length < 12 ∨ raw.length ≠ 12 + pduLen raw ∨ pduLimit tr < raw.length then none else some raw

/-- VERSION and OP_COUNT of a PDU. -/
def headerOk (b : Bytes) : Bool := fld b 0 1 == 1 && decide (1 ≤ pduCount b ∧ pduCount b ≤ 32)

/-- A body divided exactly into so many request operations. -/
def splitOps : Nat → Bytes → Option (List Op)
  | 0, b => if b.isEmpty then some [] else none
  | n + 1, b =>
    let v := fld b 6 2
    if b.length < 8 + v then none
    else (splitOps n (b.drop (8 + v))).map fun l =>
      { opcode := fld b 0 1, flags := fld b 1 1, idx := fld b 2 2, el := fld b 4 2, value := sub b 8 v } :: l

/-- A body that is one OPEN_1 operation. -/
def loneOpen1 (b : Bytes) : Option Op :=
  match splitOps (pduCount b) (pduBody b) with
  | some [o] => if o.opcode = 0x10 then some o else none
  | _ => none

/-- The PDU an OPEN_1 or OPEN_3 row stands for, as its transport delivers it. -/
def openingPdu (tr : Transport) (sess seq opcode : Nat) (v : Bytes) : Bytes :=
  let b := plainPdu 0 sess seq 1 (le 1 opcode ++ zeros 5 ++ le 2 v.length ++ v)
  match tr with
  | .field => [0x56, 0x4F] ++ b
  | _ => b

end Sys2Proof.Machine
end

