-- ==== Sys2Proof/Machine/Rules.lean ====
section
/-! DEFINITION. The hardware closure rules (R56; rule IDs 0110h to 0200h, by the owning chapters): the indices a rule
reads and the unit it fails with over a Traverse's staged values laid over the present ones (log entry 33). -/

namespace Sys2Proof.Machine
open Sys2Proof

abbrev Staged := List (Nat × Nat × Bytes)

/-- The values as a Traverse would leave them; those staked before that wait for a radio's boundary stand already (R60). -/
def overlay (s : State) (st : Staged) : State := (s.rf.deferred ++ st).foldl (fun s p => s.setObj p.1 p.2.1 p.2.2) s

/-- A hardware rule: its ID, the indices it reads, and the unit ID it fails with; arguments: the present state, the
staged values, the state as the Traverse would leave it. -/
structure HwRule where
  id : Nat
  reads : List Nat
  fails : State → Staged → State → Option Nat

/-- The lowest radio that breaks a rule, by its unit ID. -/
def radioFails (bad : Radio → Bool) : Option Nat := ((List.finRange 3).find? bad).map fun r => radioUnit r.val

/-- Unit `u` when the rule is broken. -/
def failsWith (u : Nat) (bad : Bool) : Option Nat := if bad then some u else none

def enabledRadio (s : State) (r : Radio) : Bool := isWlan s r || isChain s r

/-- Channels a radio may occupy: its WLAN channel, or every hop channel (R113). -/
def radioChans (s : State) (r : Radio) : List Chan :=
  if isWlan s r then [wlanChan s r]
  else if isChain s r then
    let d := latchSched s r
    (hopList d.ch0 d.spacing d.m).map fun k => chanOf k (chainBw s r)
  else []

/-! ### 0110h to 0120h (R85, R93, R113) -/

def femBandOk (s : State) (r : Radio) (t : Trx) : Bool :=
  (radioChans s r).all fun c => bit (s.objN 0x2003 (t.val + 1)) (bandOf c)

def wideWlan (s : State) (r : Radio) : Bool := isWlan s r && decide (160000 < (wlanChan s r).bw)

def sentinelOk (s : State) (t : Trx) : Bool :=
  trxAssign s t != 0 || (List.finRange 3).any fun r =>
    s.objN 0x2002 (t.val + 1) == r.val && enabledRadio s r && !(assigned s r).isEmpty

/-- R93. -/
def femTimingOk (s : State) (el : Nat) : Bool :=
  let f (o : Nat) := s.objF 0x2006 el o 2
  decide (100 ≤ f 0 ∧ f 0 ≤ 2000 ∧ 100 ≤ f 2 ∧ f 2 ≤ 2000 ∧ 100 ≤ f 4 ∧ f 4 ≤ 1500 ∧ 100 ≤ f 6 ∧ f 6 ≤ 1500 ∧
    f 2 + 200 ≤ f 0 ∧ f 4 + 200 ≤ f 6)

/-- Spatial streams a radio is configured for: those of PHY_CAPS, one in Chain mode. -/
def streamsOf (s : State) (r : Radio) : Nat := if isWlan s r then s.objF 0x2102 (r.val + 1) 2 1 else 1

def arrayRules : List HwRule :=
  [{ id := 0x110, reads := [0x2001],
     fails := fun _ _ v => failsWith 1 ((List.finRange 3).any fun r => decide (8 < (assigned v r).length)) },
   { id := 0x111, reads := [0x2001, 0x2003, 0x2100, 0x2101, 0x3802],
     fails := fun _ _ v => failsWith 1 ((List.finRange 3).any fun r => (assigned v r).any fun t => !femBandOk v r t) },
   { id := 0x112, reads := [0x2100, 0x2101],
     fails := fun _ _ v => failsWith 1 ((List.finRange 3).any fun r => wideWlan v r && !(selectPlan (wlanChan v r)).2.2) },
   { id := 0x113, reads := [0x2010, 0x2100, 0x2101],
     fails := fun _ _ v => failsWith 1 ((List.finRange 3).any fun r => wideWlan v r && v.objN 0x2010 (r.val + 1) == 2) },
   { id := 0x114, reads := [0x2001, 0x2002, 0x2100],
     fails := fun _ _ v => failsWith 1 ((List.finRange 16).any fun t => !sentinelOk v t) },
   { id := 0x115, reads := [0x2001, 0x2100, 0x2102],
     fails := fun _ _ v => failsWith 1 ((List.finRange 3).any fun r =>
       enabledRadio v r && decide ((assigned v r).length < max 1 (streamsOf v r))) },
   { id := 0x116, reads := [0x2006],
     fails := fun _ _ v => failsWith 1 ((List.range 16).any fun t => !femTimingOk v (t + 1)) },
   { id := 0x120, reads := [0x2100, 0x2101, 0x2103, 0x3800, 0x3802, 0x7000, 0x7020],
     fails := fun _ _ v => radioFails fun r => v.objN 0x7000 0 != 0 && (radioChans v r).any fun c => (permits v c).isNone }]

/-! ### 0130h to 0133h (R124) -/

/-- MCS numbers valid for an MR-OFDM option (*MR-OFDM options*). -/
def ofdmMcs (opt : Nat) : List Nat :=
  if opt = 1 then [0, 1, 2, 3] else if opt = 2 then [0, 1, 2, 3, 4, 5]
  else if opt = 3 then [1, 2, 3, 4, 5, 6] else if opt = 4 then [2, 3, 4, 5, 6] else []

def sunMcsOk (s : State) (r : Radio) : Bool :=
  let p := s.objB 0x2103 (r.val + 1)
  (List.range 8).all fun m => !bit (fld p 2 1) m || (ofdmMcs (fld p 1 1)).contains m

/-- The ramp in us is at most a quarter of the preamble at the fastest enabled FSK rate. -/
def rampOk (s : State) (r : Radio) : Bool :=
  let p := s.objB 0x2103 (r.val + 1)
  let fast := ((List.range 8).map fun c => if bit (fld p 0 1) c then fskKbps c else 0).foldl max 0
  decide (fld p 5 1 * 4 * fast ≤ fld p 4 1 * 8000)

def staticPunctureOk (s : State) (r : Radio) : Bool :=
  let f (o w : Nat) := s.objF 0x2101 (r.val + 1) o w
  punctureOk (f 4 1) (f 6 2) && !bit (f 6 2) (f 5 1)

def phyRules : List HwRule :=
  [{ id := 0x130, reads := [0x2100, 0x2101],
     fails := fun _ _ v => radioFails fun r => isWlan v r && (wlanChan v r).bw == 320000 && decide ((wlanChan v r).lo < 5925000) },
   { id := 0x131, reads := [0x2100, 0x2101], fails := fun _ _ v => radioFails fun r => isWlan v r && !staticPunctureOk v r },
   { id := 0x132, reads := [0x2100, 0x2103], fails := fun _ _ v => radioFails fun r => isChain v r && !sunMcsOk v r },
   { id := 0x133, reads := [0x2100, 0x2103], fails := fun _ _ v => radioFails fun r => isChain v r && !rampOk v r }]

/-! ### 0140h to 0151h (R149, R202) -/

def bssOf (s : State) (r : Radio) : List Nat := (List.range 16).filter fun b => bssOn s r.val b
def mldOn (s : State) (m : Nat) : Bool := s.objF 0x3000 (m + 1) 0 1 == 1
def bssMld (s : State) (r b : Nat) : Nat := bssF s r b 7 1
def affiliated (s : State) (r b : Nat) : Bool := decide (bssMld s r b < 3)

/-- Addresses of the enabled MLDs and BSSs, each with the unit it is charged to: 02h for a clash of MLDs alone, else the BSS's
radio (R149). -/
def macAddrs (s : State) : List (Nat × Nat) :=
  (((List.range 3).filter (mldOn s)).map fun m => (2, s.objF 0x3000 (m + 1) 1 6)) ++
  (List.finRange 3).flatMap fun r => (bssOf s r).map fun b => (radioUnit r.val, bssF s r.val b 1 6)

/-- The unit of the first address that an earlier one equals. -/
def firstTwice : List Nat → List (Nat × Nat) → Option Nat
  | _, [] => none
  | seen, (u, a) :: l => if seen.contains a then some u else firstTwice (a :: seen) l

/-- The radio of the lowest enabled BSS that breaks a rule. -/
def bssFails (s : State) (bad : Nat → Nat → Bool) : Option Nat := radioFails fun r => (bssOf s r).any (bad r.val)

def templateOk (s : State) (r b : Nat) : Bool :=
  let t := s.objB 0x3011 (bssEl r b)
  decide (t ≠ [] ∧ fld t 0 2 ≤ fld t 2 2)

def macRules : List HwRule :=
  [{ id := 0x140, reads := [0x3000, 0x3010],
     fails := fun _ _ v => radioFails fun r => (List.range 3).any fun m =>
       decide (1 < ((bssOf v r).filter fun b => bssMld v r.val b == m).length) },
   { id := 0x141, reads := [0x3000, 0x3010],
     fails := fun _ _ v => bssFails v fun r b => affiliated v r b && bssF v r b 8 1 != bssMld v r b },
   { id := 0x142, reads := [0x2100, 0x3010],
     fails := fun _ _ v => radioFails fun r => !(bssOf v r).isEmpty && !isWlan v r },
   { id := 0x143, reads := [0x3000, 0x3010], fails := fun _ _ v => firstTwice [] (macAddrs v) },
   { id := 0x144, reads := [0x3000, 0x3010],
     fails := fun _ _ v => bssFails v fun r b => affiliated v r b && !mldOn v (bssMld v r b) },
   { id := 0x145, reads := [0x3010, 0x3011], fails := fun _ _ v => bssFails v fun r b => !templateOk v r b },
   { id := 0x150, reads := [0x2100, 0x2102, 0x3500],
     fails := fun _ _ v => radioFails fun r => enabledRadio v r && planFlagOn v r.val 2 && !bit (v.objF 0x2102 (r.val + 1) 0 2) 8 },
   { id := 0x151, reads := [0x2100, 0x3500],
     fails := fun _ _ v => radioFails fun r => enabledRadio v r && decide (planF v r.val 1 1 < planF v r.val 2 1) }]

/-! ### 0160h to 0164h (R206) -/

def runKinds (d : Sched) : List (Nat × Nat) := d.runs.map fun x => (x.1, x.2.1)

def slotSumOk (d : Sched) : Bool :=
  (d.runs.map fun x => x.1 * x.2.2).sum == d.len && decide ((d.runs.map (·.1)).sum ≤ 1024) &&
    (match runKinds d with
    | (1, 0) :: l => l.all fun x => x.2 != 0 && x.1 != 0
    | _ => false)

def beaconFits (s : State) (r : Radio) (d : Sched) : Bool :=
  let body := 38 + 4 * d.runs.length + 4 * 16 + 2 * 16
  decide (500000 + chainAir s r (cfgBeaconRate d.cfg) (chainOctets s r 0 body) ≤ slotNs d 0)

def hopDwellOk (d : Sched) : Bool :=
  decide ((d.m = 1 ∨ (3 ≤ d.m ∧ d.m ≤ 128)) ∧ (d.m = 1 → d.dwell = 0)) &&
    (d.dwell == 0 || (slotList d.runs).all fun x => decide (x.2 ≤ 4 * d.dwell))

/-- Dedicated slots that a radio's members own. -/
def ownedSlots (s : State) (r : Radio) : List Nat := ((membersOf s r.val).map fun n => s.objN 0x3811 n).filter (· != 0xFFFF)

def hasTwice : List Nat → Bool
  | [] => false
  | x :: l => l.contains x || hasTwice l

def ownersOk (s : State) (r : Radio) : Bool :=
  let l := ownedSlots s r
  !hasTwice l && l.all fun k => slotKind (latchSched s r) k == some 1

/-- Members of a radio whose MEMBER_SLOT the Traverse changes. -/
def ownerChanges (s : State) (st : Staged) (r : Radio) : Nat :=
  (st.filter fun p => p.1 == 0x3811 && mState s p.2.1 != 0 && mRadio s p.2.1 == r.val && s.objB p.1 p.2.1 != p.2.2).length

def ownerChangeOk (s : State) (st : Staged) (r : Radio) : Bool :=
  let n := ownerChanges s st r
  n == 0 || (decide (n ≤ 16) && !((s.cr r).deltas.any fun d => decide (0 < d.2.2)))

def chainRules : List HwRule :=
  [{ id := 0x160, reads := [0x2100, 0x3800, 0x3801, 0x3803],
     fails := fun _ _ v => radioFails fun r => isCoordinator v r && !slotSumOk (latchSched v r) },
   { id := 0x161, reads := [0x2100, 0x2103, 0x3800, 0x3801, 0x3803],
     fails := fun _ _ v => radioFails fun r => isCoordinator v r && !beaconFits v r (latchSched v r) },
   { id := 0x162, reads := [0x2100, 0x3800, 0x3802, 0x3803, 0x7020],
     fails := fun _ _ v => radioFails fun r => isCoordinator v r && !hopDwellOk (latchSched v r) },
   { id := 0x163, reads := [0x3803, 0x3811], fails := fun _ _ v => radioFails fun r => !ownersOk v r },
   { id := 0x164, reads := [0x3811], fails := fun s st _ => radioFails fun r => !ownerChangeOk s st r }]

/-! ### 0170h to 0200h (R252, R238, R259, R270, R312, R345, R361, R404, R426, R447, R472) -/

/-- Egress a queue of PORTQ_CFG must have: a RADIOS group for group-addressed and Chain queues, else its own. -/
def portqOk (s : State) (q : Nat) : Bool :=
  match rootsOf s q with
  | [] => true
  | root :: _ => groupEgress s (groupOf s q) == if 5 ≤ root then 0xFE else root

def groupEgressOk (s : State) : Bool :=
  ((List.range 251).all fun k => portqOk s (8192 + k)) &&
    (setElements s 0x3100).all fun n => decide (n = 0) || staState s n == 0 || staGroupOk s (staGroup s n)

/-- R270; T is not fixed before the STAKE, so BASE is held against the present Datum. -/
def gateListOk (s : State) (g : Nat) : Bool :=
  let x := stagedGate s g
  !x.enabled || ((x.entries.map (·.2)).sum == x.cycle && x.entries.all (fun e => decide (1000 ≤ e.2)) &&
    decide (x.base.units ≤ s.datum.t.units + s.objN 0x121 0 * 1000000000 * 4294967296))

def pauseOk (s : State) (p : Nat) : Bool :=
  decide (s.objF 0x5803 (p + 1) 8 4 < s.objF 0x5803 (p + 1) 4 4 ∧ s.objF 0x5803 (p + 1) 4 4 ≤ 65536)

def key256 (s : State) (slot : Nat) : Bool := (keyAt s slot).st != 0 && keyLen (keyAt s slot).typ == 32

def macsecKeysOk (s : State) (p : Nat) : Bool :=
  ((List.range 4).all fun a =>
    let b := s.objB 0x5811 (4 * p + a + 1)
    fld b 0 1 == 0 || key256 s (fld b 2 2)) &&
  (List.range 16).all fun i =>
    let b := s.objB 0x5812 (16 * p + i + 1)
    fld b 0 1 == 0 || (List.range 4).all fun a => fld b (10 + 28 * a) 1 == 0 || key256 s (fld b (12 + 28 * a) 2)

def portFails (bad : Nat → Bool) : Option Nat := ((List.range 2).find? bad).map (0x12 + ·)

/-- A staged next PN below its slot's counter (R345). -/
def counterBack (s : State) (p : Nat × Nat × Bytes) : Bool :=
  p.1 == 0x5811 && fld p.2.2 0 1 == 1 && decide (fld p.2.2 4 8 < (keyAt s (fld p.2.2 2 2)).counter)

/-- An element at its default names no operand slot. -/
def operandOk (s : State) (idx el off : Nat) : Bool :=
  s.objB idx el == s.dflt idx el || decide (16 ≤ s.objF idx el off 2 ∧ s.objF idx el off 2 ≤ 4095)

def ascending : List Int → Bool
  | x :: y :: l => decide (x < y) && ascending (y :: l)
  | _ => true

def budgetOk (s : State) : Bool :=
  let f (o : Nat) := s.objF 0x1310 0 o 2
  decide (f 2 ≤ f 0 ∧ f 4 + 200 < f 0) && (List.range 16).all fun t => ascending ((femEntries s t).map (·.1))

def ppIdx (st : Staged) : List Nat := (st.filter fun p => isPpObject p.1).map (·.1)

def unitRules (st : Staged) : List HwRule :=
  [{ id := 0x170, reads := ppIdx st, fails := fun s st _ => failsWith 0x10 (!versionSpaceOk s st) },
   { id := 0x171, reads := [0x4010, 0x4011], fails := fun _ _ v => failsWith 0x10 (!parseGraphOk v) },
   { id := 0x172, reads := ppIdx st, fails := fun s st _ => failsWith 0x10 (!openOverlapOk s st) },
   { id := 0x180, reads := [0x5001, 0x5002], fails := fun _ _ v => failsWith 0x11 (!groupEgressOk v) },
   { id := 0x181, reads := [0x121, 0x5030, 0x5031, 0x5032, 0x5033, 0x5034, 0x5035],
     fails := fun _ _ v => failsWith 0x11 ((List.range 5).any fun g => !gateListOk v g) },
   { id := 0x190, reads := [0x5803], fails := fun _ _ v => portFails fun p => !pauseOk v p },
   { id := 0x191, reads := [0x5811, 0x5812], fails := fun _ _ v => portFails fun p => !macsecKeysOk v p },
   { id := 0x1A0, reads := [0x6400], fails := fun _ _ v => failsWith 0x30 (!geometryOk v) },
   { id := 0x1A1, reads := [0x6401], fails := fun _ _ v => failsWith 0x30 (!watermarksOk v) },
   { id := 0x1B0, reads := [0x4600, 0x6500],
     fails := fun _ _ v => failsWith 0x41 (((List.range 16).any fun k => !operandOk v 0x4600 (k + 1) 2) ||
       (List.range 64).any fun k => !operandOk v 0x6500 (k + 1) 2) },
   { id := 0x1C0, reads := [0x1310, 0x1311], fails := fun _ _ v => failsWith 0x50 (!budgetOk v) },
   { id := 0x1D0, reads := [0x1240, 0x1400],
     fails := fun _ _ v => failsWith 0x60 (v.objF 0x1400 0 0 1 == 1 && v.objN 0x1240 0 == 0) },
   { id := 0x1E0, reads := [0x1620, 0x7000],
     fails := fun s _ v => failsWith 0x21 (v.objN 0x7000 0 != 0 && s.objB 0x1620 0 != v.objB 0x1620 0) },
   { id := 0x200, reads := [0x5811], fails := fun s st _ => failsWith 0x20 (st.any (counterBack s)) }]

/-- Every hardware rule, in rising ID. -/
def hwRules (st : Staged) : List HwRule := arrayRules ++ phyRules ++ macRules ++ chainRules ++ unitRules st

/-- The rules whose read set touches a staged object. -/
def hwEvaluated (st : Staged) : List HwRule := (hwRules st).filter fun r => r.reads.any fun i => st.any fun p => p.1 == i

end Sys2Proof.Machine
end

