-- ==== Sys2Proof/Machine/Read.lean ====
section
/-! DEFINITION. What a READ of each hardware-backed object answers (R10, R34, R290): the objects that typed state holds
are rendered here, by unit; every other object is its stored value. -/

namespace Sys2Proof.Machine
open Sys2Proof

/-- A value cut or zero-filled to `n` bytes. -/
def padTo (n : Nat) (b : Bytes) : Bytes := (b ++ zeros n).take n

def stampOr (d : Option DatumVal) : Bytes := (d.getD {}).enc

/-! ### Dictionary, start-up, log, update (02, 19 to 21) -/

def TravState.code : TravState → Nat
  | .idle => 0 | .opened => 1 | .closed => 2 | .armed => 3 | .applying => 4

def readTraverse (s : State) (n : Nat) : Bytes :=
  let t := vget s.dict.travs (n - 1) {}
  le 1 t.st.code ++ le 2 t.owner ++ le 2 t.staged.length ++ le 2 t.failing ++ t.t.enc ++ le 2 t.result ++ boolByte t.late

/-- Elements of CLOSURE_RULE that hold a record (R57). -/
def ruleElements (s : State) : List Nat := (setElements s 0x140).filter fun e => decide (1 ≤ e) && !(s.objB 0x140 e).isEmpty

/-- Every object table. -/
def allRows : List ObjRow :=
  objsDict ++ objsClock ++ objsFabric ++ objsDatum ++ objsPower ++ objsPair ++ objsUpdate ++ objsTherm ++ objsTrx ++ objsSynth ++
    objsPhy ++ objsMac ++ objsPlan ++ objsChain ++ objsPp ++ objsTm ++ objsWired ++ objsSec ++ objsDram ++ objsDma ++ objsCores ++
    objsLog

/-- Objects present: every element of the tables and those the image declares. -/
def objectCount (s : State) : Nat :=
  (allRows.map fun r => (r.ihi + 1 - r.ilo) * (r.ehi + 1 - r.elo)).sum +
    ((s.dict.declared.getD []).map fun o => o.hi + 1 - o.lo).sum

def readDict (s : State) (idx el : Nat) : Option Bytes :=
  if idx = 0x0001 then some (le 2 s.part.siliconRev)
  else if idx = 0x0002 then some s.part.serial
  else if idx = 0x0003 then some (le 4 s.part.fwVersion)
  else if idx = 0x0004 ∧ el ≠ 0 then
    some (le 2 (if el = 1 then s.part.compatMin else if el = 2 then s.part.compatMax else s.part.compatActive))
  else if idx = 0x0010 then some (le 4 (objectCount s))
  else if idx = 0x0100 then some (le 1 (s.dict.sessions.filter fun x => x.opened && decide (x.num < 0xFF00)).length)
  else if idx = 0x0120 ∧ el ≠ 0 then some (readTraverse s el)
  else if idx = 0x0140 ∧ el = 0 then some (le 2 (ruleElements s).length)
  else if idx = 0x0150 then some (le 1 s.dict.subs.length)
  else none

/-- A record's four words (*Log record*). -/
def readLogRec (r : LogRec) : Bytes :=
  le 2 r.code ++ le 1 r.cls ++ le 1 r.unit ++ le 4 r.seq ++
    le 2 r.gen ++ le 6 r.stamp.sec ++
    le 1 r.inst ++ le 1 ((if r.boot then 1 else 0) + (if r.acked then 2 else 0)) ++ le 2 r.unitSeq ++ le 4 r.stamp.ns ++
    le 8 r.detail

/-- The record of slot n, n from 1; zero while none was written. -/
def logSlot (s : State) (n : Nat) : Bytes :=
  match s.log.recs.find? fun r => r.seq % 1024 == n - 1 with
  | some r => readLogRec r
  | none => zeros 32

def readLog (s : State) (idx el : Nat) : Option Bytes :=
  if idx = 0x7F00 then
    some (le 2 s.log.recs.length ++ le 4 s.log.nextSeq ++ le 4 ((s.log.recs.head?.map (·.seq)).getD 0) ++
      le 2 s.log.unacked.length ++ le 1 s.log.restored)
  else if idx = 0x7F01 then some (logSlot s el)
  else none

def UpdState.code : UpdState → Nat
  | .idle => 0 | .receiving => 1 | .ready => 2 | .trial => 3

/-- SLOT_INFO of a firmware slot. -/
def readSlot (s : State) (k : Nat) : Bytes :=
  match (vget s.upd.images k {}).header with
  | none => zeros 21
  | some h =>
    let st := if s.upd.trial = some k then 3 else if s.upd.confirmed = k then 2 else 1
    le 1 st ++ le 4 (fld h 16 4) ++ le 4 (fld h 12 4) ++ le 2 (fld h 26 2) ++ le 2 (fld h 28 2) ++ padTo 8 (sub h 32 8)

def readUpdate (s : State) (idx el : Nat) : Option Bytes :=
  let u := s.upd
  if idx = 0x1603 then
    some (le 1 u.st.code ++ le 1 (hdrType u.header) ++ le 1 u.target ++ le 1 u.result ++ le 4 u.received.length ++
      le 4 (hdrLen u.header) ++ le 4 (if u.st = .trial then cdiv (u.windowEnd - s.now) 1000000000 else 0) ++ le 1 u.running ++
      le 1 u.confirmed ++ le 1 u.floor ++ le 4 u.fallbacks)
  else if idx = 0x1605 then some (readSlot s (el - 1))
  else none

def readStart (s : State) (idx : Nat) : Option Bytes :=
  let x := s.start
  if idx = 0x1000 then some (boolByte x.limp ++ le 4 x.lastWindow ++ le 2 x.locked ++ le 2 x.rcTrim)
  else if idx = 0x1002 then some (le 1 ((if s.wired.pcieRoot then 1 else 0) + 2 * (s.pair.id % 2)))
  else if idx = 0x1003 then some (le 1 x.cause ++ le 1 x.lastAttempts ++ boolByte x.rescue ++ x.rrStamp.enc)
  else none

/-! ### Datum, power, pair (12, 17, 18) -/

def readTpo (s : State) (n : Nat) : Bytes :=
  let x := vget s.datum.tpo (n - 1) {}
  stampOr x.next ++ le 4 x.pulses ++ le 4 x.late

def readDatum (s : State) (idx el : Nat) : Option Bytes :=
  let d := s.datum
  if idx = 0x1200 then some d.t.enc
  else if idx = 0x1204 then some (le 4 d.stepGen ++ d.lastStep.enc ++ boolByte d.running)
  else if idx = 0x1206 then some (le 8 d.aonCal)
  else if idx = 0x1211 then some (readTpo s el)
  else if idx = 0x1221 then some (le 1 (vget d.fifo (el - 1) []).length)
  else if idx = 0x1241 then
    some (leInt 8 d.pairO ++ le 4 d.pairRtt ++ leInt 4 d.pairRate ++ d.pairStamp.enc ++ boolByte d.pairValid)
  else none

/-- Band, well bias and assists by the VDD_FAB set point: a higher band's settings only once the rail has settled (R419, R421). -/
def readBias (s : State) : Bytes :=
  let mv := if settled s s.power.vidFabAt then fabVoltage s else min (fabVoltage s) (500 + 5 * s.power.vidFabWas)
  if mv < 620 then le 1 0 ++ leInt 2 150 ++ [1, 0]
  else if mv < 700 then le 1 1 ++ leInt 2 75 ++ [1, 0]
  else if mv < 800 then le 1 2 ++ leInt 2 0 ++ [0, 0]
  else le 1 3 ++ leInt 2 0 ++ [0, 1]

def readPower (s : State) (idx el : Nat) : Option Bytes :=
  if idx = 0x1103 then some (le 2 (fabVoltage s))
  else if idx = 0x1300 ∧ el = 1 then some (le 1 s.power.now_)
  else if idx = 0x1320 then
    some (le 2 (budget s) ++ le 2 (committed s) ++ le 2 ((s.power.grants.filter fun g => g.kind == 10).map (·.units)).sum ++
      le 2 (grantUnits s 1 0) ++ boolByte s.power.supplyLow ++ le 2 (500 + 5 * s.power.vidCpu))
  else if idx = 0x1324 then some (readBias s)
  else none

def PairState.code : PairState → Nat
  | .solo => 0 | .wait => 1 | .syncing => 2 | .standby => 3 | .active => 4 | .fenced => 5

/-- Age in us of the oldest mirror frame not acknowledged. -/
def mirrorLag (s : State) : Nat := match s.pair.unacked with | [] => 0 | u :: _ => (s.now - u.at_) / 1000

def readPair (s : State) : Bytes :=
  let p := s.pair
  le 1 p.st.code ++ le 1 p.id ++ le 1 p.partner ++ boolByte p.link ++ boolByte p.peerIn ++ le 1 p.progress ++
    le 4 (mirrorLag s) ++ le 4 p.takeovers ++ p.lastTakeover.enc

/-! ### Radios (03 to 05) -/

def FeState.code : FeState → Nat
  | .off => 0 | .changing => 1 | .ready => 2 | .recal => 3 | .relock => 4 | .fault => 5 | .diag => 6

def pathCode (f : FrontEnd) : Nat :=
  if f.switching then 2 else match f.path with | .sampling => 0 | .fallback => 1 | .probe => 3

/-- DWELL_STATUS: the maximum dwell of the channel's entry, and us since the change that brought the radio to it. -/
def readDwell (s : State) (r : Radio) : Bytes :=
  let f := s.fe r
  match f.chan.bind (permits s) with
  | some e => le 2 e.dwell ++ le 4 ((s.now - f.dwellFrom) / 1000)
  | none => zeros 6

def readDiag (s : State) (r : Radio) : Bytes :=
  let d := (s.fe r).diag
  le 1 d.mode ++ leInt 2 (Int.fdiv d.power 10) ++ le 4 (if d.running then cdiv (d.remaining - s.now) 1000000 else 0) ++ le 1 d.ended

def readRadio (s : State) (idx : Nat) (r : Radio) : Option Bytes :=
  let f := s.fe r
  if idx = 0x2020 then some (le 1 (pathCode f) ++ le 1 f.reason ++ le 1 f.plan ++ le 2 f.cost ++ le 2 f.hold)
  else if idx = 0x2021 then some (le 4 f.switches)
  else if idx = 0x2050 then
    some (le 1 f.st.code ++ le 2 f.lastUs ++ le 2 f.longestUs ++ le 4 f.changes ++ le 4 f.timeouts ++ leInt 2 f.temp)
  else if idx = 0x7042 then some (readDwell s r)
  else if idx = 0x7F82 then some (readDiag s r)
  else none

def readTrx (s : State) (n : Nat) : Bytes :=
  let x := vget s.rf.trx (n - 1) {}
  let a := (List.finRange 3).find? fun r => s.objN 0x2001 n == r.val + 1
  le 1 (s.objN 0x2001 n) ++ boolByte x.calibrated ++ boolByte (match a with | some r => x.coeffLo == some (s.fe r).lo | none => false) ++ le 1 x.rejection ++ le 4 x.overrange

/-! ### 802.11 and Chain (06 to 08) -/

def readCtx (sta tid win wstart k : Nat) : Bytes := le 2 sta ++ le 1 tid ++ [1] ++ le 2 win ++ le 2 wstart ++ le 2 k

def readMac (s : State) (idx el : Nat) : Option Bytes :=
  if idx = 0x3100 ∧ el = 0 then some (le 2 (staInUse s))
  else if idx = 0x3101 then
    some (le 2 (2007 - aidsUsed s (el - 1) - (s.mac.quar.filter fun q => q.pool == el - 1).length))
  else if idx = 0x3200 then
    if el = 0 then some (le 2 s.mac.rxBa.length)
    else some (match tget s.mac.rxBa (el - 1) with
      | some c => readCtx c.sta c.tid c.win c.wstart c.held.length
      | none => zeros 10)
  else if idx = 0x3201 then
    if el = 0 then some (le 2 s.mac.txBa.length)
    else some (match tget s.mac.txBa (el - 1) with
      | some c => readCtx c.sta c.tid c.win c.wstart (outstanding s c.sta c.tid).length
      | none => zeros 10)
  else if idx = 0x3600 ∧ el = 0 then some (le 2 ((twtSet s).filter fun a => twtActive s a).length)
  else none

def readJoin (s : State) (n : Nat) : Bytes :=
  match pendingAt s n with
  | some j => le 1 j.radio ++ boolByte j.rejoin ++ padTo 8 j.ext ++ le 1 j.fsk ++ le 1 j.ofdm ++ leInt 2 j.rssi ++ j.stamp.enc
  | none => zeros 26

def MemberState.code : MemberState → Nat
  | .scan => 0 | .joining => 1 | .synced => 2 | .holdover => 3

def readChainRadio (s : State) (r : Radio) : Bytes :=
  let c := s.cr r
  le 1 (if isCoordinator s r then 255 else c.mst.code) ++ le 4 c.number ++ c.bStamp.enc ++ le 2 c.schedVer ++
    le 1 (groupsOf c.sched).length ++ le 4 ((((s.fe r).chan).map (·.centre)).getD 0) ++ le 1 c.missed

def readChain (s : State) (idx el : Nat) : Option Bytes :=
  if idx = 0x3810 ∧ el = 0 then some (le 2 (memberCount s))
  else if idx = 0x3820 then
    if el = 0 then some (le 1 (s.chain.pending.toList.filter (·.isSome)).length) else some (readJoin s el)
  else if idx = 0x3830 then if h : el - 1 < 3 then some (readChainRadio s ⟨el - 1, h⟩) else none
  else none

/-! ### Packet processor, traffic manager, ports (09 to 11) -/

def readPp (s : State) (idx el : Nat) : Option Bytes :=
  let p := s.pp
  if idx = 0x4001 then
    some (le 4 p.committed ++ le 2 p.openCh.length ++ le 1 p.live.length ++ le 4 (p.live.head?.getD 0) ++ le 4 p.routeGen)
  else if idx = 0x4100 ∧ el = 0 then some (le 2 (tableCount s 0x4100))
  else if idx = 0x4200 ∧ el = 0 then some (le 2 (tableCount s 0x4200))
  else none

def readQueue (s : State) (q : Nat) : Bytes :=
  let x := s.queue q
  let chip := ((x.frames.filter fun f => !f.inDram).map (·.cells)).sum
  let age := match x.frames with | [] => 0 | f :: _ => (s.datum.t.units - f.stamp.units) / 4294967296 / 1000
  le 4 x.frames.length ++ le 4 chip ++ le 4 (dramCellsOf x) ++ le 4 age ++ le 4 x.drops

def readTm (s : State) (idx el : Nat) : Option Bytes :=
  if idx = 0x5011 then some (leInt 8 ((tget s.tm.shapers el).getD 0))
  else if idx = 0x5050 then some (readQueue s (el - 1))
  else if idx = 0x5060 then
    some (le 4 s.tm.freeCells ++ le 4 s.tm.leastFree ++ le 4 s.tm.dramCells ++ le 4 (dramRegion s - s.tm.dramCells))
  else none

def pauseBits (v : Vector Nat 8) : Nat := (List.range 8).foldl (fun a i => if vget v i 0 = 0 then a else a + 2 ^ i) 0

def readPort (s : State) (idx el : Nat) : Option Bytes :=
  let w := s.wired
  let e := vget w.eth (el - 1) {}
  if idx = 0x5801 then
    some (boolByte e.link ++ le 1 (s.objF 0x5800 el 0 1) ++ boolByte e.fecLock ++ le 1 e.an ++ e.upStamp.enc)
  else if idx = 0x5804 then some (le 1 (pauseBits e.paused) ++ le 1 e.pausing)
  else if idx = 0x5821 then
    some (boolByte w.plcaOk ++ boolByte (w.plcaOk && s.objF 0x5820 0 0 1 == 1) ++ le 4 w.beaconsLost)
  else if idx = 0x5830 then
    some (boolByte w.pcieRoot ++ le 2 s.part.vendorId ++ le 2 0x3716 ++ boolByte w.pcieLink ++ le 1 w.pcieSpeed ++
      le 1 w.pcieWidth ++ le 4 w.aerCorr ++ le 4 w.aerUncorr)
  else if idx = 0x5841 then some (le 4 (gpioIn s))
  else none

/-! ### Security, DRAM, cores (13, 14, 16) -/

/-- KEY_INFO: never the material, only its fingerprint (R343). -/
def readKey (s : State) (n : Nat) : Bytes :=
  let k := keyAt s n
  if k.st = 0 then zeros 48
  else le 1 k.st ++ le 1 k.typ ++ boolByte k.warned ++ [0] ++ le 8 k.counter ++ le 8 ((keyLimit s k.typ).getD 0) ++
    le 8 ((keyWarn s k.typ).getD 0) ++ shake 8 k.material ++ k.stamp.enc

def readLane (s : State) (n : Nat) : Bytes :=
  let l := vget s.sec.lanes n {}
  le 1 ((l.job.map (·.cls)).getD 0) ++ [0] ++ le 8 l.jobs ++ le 4 l.parity ++ le 4 l.aborts ++ le 4 l.authFail

def readSec (s : State) (idx el : Nat) : Option Bytes :=
  if idx = 0x6000 then some (if el = 0 then le 2 (keysInUse s) else readKey s (el - 1))
  else if idx = 0x6003 then some (le 1 s.sec.rekeys.length)
  else if idx = 0x6010 ∧ el ≠ 0 then some (readLane s (el - 1))
  else if idx = 0x6100 then some s.part.idPubkey
  else if idx = 0x6101 then some s.part.idCert
  else if idx = 0x6102 then some s.part.idChain
  else if idx = 0x6103 then some (boolByte s.sec.idFault ++ le 1 s.sec.attempts ++ boolByte s.sec.entropyOk)
  else if idx = 0x6120 then
    let f := vget s.part.fuses (el - 1) (0, [])
    some (le 1 f.1 ++ padTo 64 f.2)
  else if idx = 0x6121 then some (le 2 s.part.fuseSeq)
  else none

def readDram (s : State) (idx el : Nat) : Option Bytes :=
  if idx = 0x6402 then
    let r := vget s.dram.ranks (el - 1) {}
    some (le 1 r.st ++ le 1 r.logical ++ le 4 r.corr ++ le 4 r.uncorr ++ le 4 r.ca)
  else if idx = 0x6403 then
    let m := s.dram.mig
    some (le 1 m.st ++ le 1 m.src ++ le 1 m.spare ++ le 1 m.cause ++ le 4 m.blocks ++ le 4 m.total ++ le 4 m.poison ++ m.stamp.enc)
  else none

/-- A handle, FFFFh for none. -/
def handleOr (s : State) (t : Option Nat) : Nat := match t with | some t => handleOf t (s.thread t) | none => 0xFFFF

def ThState.code : ThState → Nat
  | .free => 0 | .ready => 1 | .running => 2 | .waiting => 3

def readCore (s : State) (n : Nat) : Bytes :=
  let c := vget s.cores.cores n {}
  le 1 (if c.held then 0 else if c.running.isSome then 1 else 2) ++ le 2 (pointMhz c.point) ++ le 2 (handleOr s c.running) ++
    le 8 c.dispatches ++ le 4 c.preempts

def readThread (s : State) (t : Nat) : Bytes :=
  let x := s.thread t
  if x.st = .free then zeros 3 ++ [0xFF] ++ le 2 (handleOf t x) ++ le 2 0xFFFF ++ le 2 0xFFFF ++ le 2 0xFFFF ++ le 2 0xFFFF ++ zeros 8
  else le 1 x.st.code ++ le 1 x.prio ++ le 1 x.mask ++ le 1 (x.lastCore.getD 0xFF) ++ le 2 (handleOf t x) ++
    ((List.range 4).flatMap fun i => le 2 ((x.waits[i]?).getD 0xFFFF)) ++
    le 4 (if x.deadline = 0 then 0 else cdiv (x.deadline - s.now) 1000) ++ le 4 x.dispatches

def readOperand (s : State) (o : Nat) : Bytes :=
  let x := s.opnd o
  le 2 x.count ++ le 4 x.value ++ le 2 (handleOr s x.waiter) ++ le 4 x.posts

def readCores (s : State) (idx el : Nat) : Option Bytes :=
  if idx = 0x6800 ∧ el ≠ 0 then some (readCore s (el - 1))
  else if idx = 0x6810 then some (if el = 0 then le 2 (threadsInUse s) else readThread s (el - 1))
  else if idx = 0x6811 ∧ el ≠ 0 then some (readOperand s (el - 1))
  else none

/-! ### CMD objects (R10, R50) -/

/-- What a READ of a CMD object returns: the layout its table states, else the last value with its abort code behind it
(R10, R50; log entry 34). -/
def readCmd (s : State) (r : ObjRow) (idx el : Nat) : Bytes :=
  let c := tgetD s.dict.cmds (okey idx el) {}
  let code := le 2 c.code
  if idx = 0x0130 then padTo 4 s.dict.lastAbort ++ le 2 s.dict.abortCode ++ le 4 s.dict.abortNs
  else if idx = 0x0011 then (if c.code = 0 ∧ c.value ≠ [] then c.out else padTo 4 c.value ++ code)
  else if idx = 0x1222 then (if c.code = 0 then padTo 20 s.datum.popped else zeros 20)
  else if idx = 0x6004 then (if c.code = 0 then padTo 24 s.sec.popped else zeros 24)
  else if idx = 0x6110 then s.sec.report
  else if idx = 0x1301 then padTo 32 c.out
  else if idx = 0x1202 then padTo 12 c.out ++ le 4 s.datum.stepGen ++ code
  else if idx = 0x1601 then le 1 s.upd.st.code ++ [0] ++ code
  else if idx = 0x5851 then code ++ c.out
  else if idx = 0x6112 ∨ idx = 0x6404 then code
  else if idx = 0x3102 then padTo 4 c.out ++ code
  else if idx = 0x4410 ∨ idx = 0x5832 then padTo 4 c.out ++ code
  else if idx = 0x6130 then padTo 33 c.out ++ code
  else if [0x3202, 0x3601, 0x3812, 0x4101, 0x4201, 0x4310, 0x6001, 0x6122].contains idx then padTo 2 c.out ++ code
  else
    let v := if c.value.isEmpty then (if r.dflt.isEmpty then (match r.len with | .exact n => zeros n | _ => []) else r.dflt)
      else c.value
    v ++ code

/-! ### One object -/

/-- CCA_STATUS: the busy bitmap, the busy time, which no rule lets the model account, and the present Datum (log entry
35). -/
def readCca (s : State) (r : Radio) : State × Bytes :=
  let b := ccaBitmap s r
  let (us, s') := { s with free := s.free + 16 }.draw
  (s', le 2 b ++ le 4 (us % 2 ^ 32) ++ s.datum.t.enc)

/-- A staked value that waits for its radio's boundary: what a READ after the latch answers (R60, R62). -/
def deferredAt (s : State) (idx el : Nat) : Option Bytes :=
  (s.rf.deferred.reverse.find? fun p => p.1 == idx && p.2.1 == el).map (·.2.2)

/-- The value of a hardware-backed object. -/
def valueOf (s : State) (r : ObjRow) (idx el : Nat) : Bytes :=
  if r.acc = .cmd then readCmd s r idx el
  else if let some v := deferredAt s idx el then v
  else
    let byRadio : Option Bytes := if h : el - 1 < 3 then readRadio s idx ⟨el - 1, h⟩ else none
    let found := ([readDict s idx el, readLog s idx el, readUpdate s idx el, readStart s idx, readDatum s idx el, readPower s idx el,
      (if idx = 0x1401 then some (readPair s) else none), byRadio, (if idx = 0x2022 then some (readTrx s el) else none),
      (if idx = 0x7040 then some (le 8 (dutyUsed s (el - 1) / 1000)) else none),
      readMac s idx el, readChain s idx el, readPp s idx el, readTm s idx el, readPort s idx el, readSec s idx el,
      readDram s idx el, readCores s idx el].find? (·.isSome)).bind id
    found.getD (s.objB idx el)

/-- Objects whose counters a read clears (R290). -/
def clearsOnRead (idx : Nat) : Bool := idx == 0x5802 || idx == 0x5822

/-- A READ: its abort, the value, and the state after it. DATUM_NOW cannot be read before Datum is restored (R331). -/
def readObj (s : State) (r : ObjRow) (idx el : Nat) : State × Res × Bytes :=
  if idx = 0x1200 ∧ s.datum.restored = false then (s, abortBy aBusy 0x51 1, [])
  else if idx = 0x2121 then
    if h : el - 1 < 3 then ((readCca s ⟨el - 1, h⟩).1, ok, (readCca s ⟨el - 1, h⟩).2) else (s, ok, s.objB idx el)
  else if clearsOnRead idx then (s.setObj idx el (s.dflt idx el), ok, s.objB idx el)
  else (s, ok, valueOf s r idx el)

end Sys2Proof.Machine
end

