-- ==== Sys2Proof/Machine/Sess.lean ====
section
/-! DEFINITION. Sessions, PDU framing and the delivery of responses (02_object_dictionary R39 to R49). -/

namespace Sys2Proof.Machine
open Sys2Proof

def State.setDict (s : State) (d : Dict) : State := { s with dict := d }

/-! ### Sessions and Traverse slots (R44 to R47, R54) -/

def sessOf (s : State) (n : Nat) : Option Session := s.dict.sessions.find? fun x => x.num == n

def modSess (s : State) (n : Nat) (f : Session → Session) : State :=
  s.setDict { s.dict with sessions := s.dict.sessions.map fun x => if x.num = n then f x else x }

def isLocal (n : Nat) : Bool := decide (0xFF00 ≤ n)

def travAt (s : State) (k : Nat) : Traverse := vget s.dict.travs k {}
def setTrav (s : State) (k : Nat) (t : Traverse) : State := s.setDict { s.dict with travs := vset s.dict.travs k t }

/-- The slot a session took (R54). -/
def travOf (s : State) (n : Nat) : Option Nat :=
  findLt 4 fun k => decide ((travAt s k).st ≠ .idle ∧ (travAt s k).owner = n ∧ n ≠ 0)

/-- Staged counts are watched as resource 16 (R458). -/
def watchTrav (s : State) : State := s.watch 16 (((List.range 4).map fun k => (travAt s k).staged.length).foldl max 0) 512 0x70 0

/-- A slot enters IDLE: everything released, the result recorded; T, LATE and the first failing write stay readable. -/
def freeTrav (s : State) (k code : Nat) : State :=
  let t := travAt s k
  watchTrav (setTrav s k { failing := t.failing, t := t.t, result := code, late := t.late })

/-- The Traverse of a session that ends is aborted, or goes on with no owner when ARMED or APPLYING (R47). -/
def endTrav (s : State) (n : Nat) : State :=
  match travOf s n with
  | none => s
  | some k =>
    let t := travAt s k
    if t.st = .armed ∨ t.st = .applying then setTrav s k { t with owner := 0 } else freeTrav s k aAborted

/-- What a session holds ends with it: its subscriptions and its Traverse (R47). -/
def releaseSession (s : State) (n : Nat) : State :=
  endTrav (s.setDict { s.dict with subs := s.dict.subs.filter fun x => x.sess != n }) n

/-- The session is over: a remote one is gone, a local channel begins a new one under the same number (R47). -/
def closeSession (s : State) (n : Nat) : State :=
  let s := releaseSession s n
  if isLocal n then modSess s n fun x => { x with nextSeq := 1, waiting := [], stored := [], held := [], exec := none }
  else s.setDict { s.dict with sessions := s.dict.sessions.filter fun x => x.num != n }

/-- Every remote session ends (failover, R47). -/
def closeRemote (s : State) : State :=
  ((s.dict.sessions.filter fun x => !isLocal x.num).map (·.num)).foldl closeSession s

/-! ### PDUs -/

def encResp (r : RespOp) : Bytes :=
  le 1 (r.opcode % 128 + 128) ++ le 1 r.flags ++ le 2 r.idx ++ le 2 r.el ++ le 2 r.abort ++ le 4 r.detail ++
    le 2 r.value.length ++ r.value

/-- An encrypted PDU of the device: response key and salt, direction byte 1 or 2 (R44, R45). -/
def sealPdu (x : Session) (flags dir seq count : Nat) (body : Bytes) : Bytes :=
  let hdr := pduHeader (flags + 0x20) x.num seq (body.length + 16) count
  let nonce := sub x.keys 68 4 ++ le 1 dir ++ zeros 3 ++ le 4 seq
  hdr ++ (List.range (body.length + 16)).map (Config.gcmSeal (sub x.keys 32 32) nonce hdr body)

/-- A PDU on its way to the manager. -/
def sendRemote (s : State) (tr : Transport) (b : Bytes) : State := s.setDict { s.dict with sent := s.dict.sent ++ [(tr, b)] }

/-- The channel of a local session: ports 0 to 7, the mailbox 8. -/
def chanOfSess (n : Nat) : Nat := if n = 0xFF10 then 8 else n - 0xFF00

def modChan (s : State) (c : Nat) (f : Channel → Channel) : State :=
  s.setDict { s.dict with chans := vset s.dict.chans c (f (vget s.dict.chans c {})) }

/-- The dictionary port's interrupt lines into the device common window (R43): bit n is high while DONE of channel n is set.
What the window's aggregator does with them is not stated (log entry 132). -/
def dpIrq (s : State) : Nat := (List.range 8).foldl (fun a n => setBit a n (vget s.dict.chans n {}).done) 0

/-- BUSY clears as DONE is set, with the response or with none (R43); mailbox DONE raises vector 0 (R306). -/
def answerChan (s : State) (c : Nat) (b : Bytes) : State :=
  let s := modChan s c fun x => { x with busy := false, done := true, doneCount := (x.doneCount + 1) % 2 ^ 32, rspLen := b.length, rspBuf := b }
  if c = 8 then raiseMsix s 0 else s

/-- Deliver a response PDU of a session. -/
def deliver (s : State) (x : Session) (b : Bytes) : State :=
  if isLocal x.num then answerChan s (chanOfSess x.num) b else sendRemote s x.tr b

/-- The response PDU of an execution. -/
def responsePdu (x : Session) (e : Exec) : Bytes :=
  let body := e.resps.flatMap encResp
  if isLocal x.num then plainPdu 0x80 x.num e.seq e.resps.length body else sealPdu x 0x80 1 e.seq e.resps.length body

/-- PDU limit of a transport, the tag of an encrypted PDU taken off (*Transports*, R45). -/
def pduRoom (tr : Transport) : Nat :=
  match tr with
  | .field => 1498 - 12 - 16
  | .udp => 1232 - 12 - 16
  | _ => 4096 - 12

/-! ### The end of an execution (R39, R40, R49) -/

/-- The session's order after an execution: its response is stored, copies held get it, and an END or the last SEQ closes
the session. -/
def executed (s : State) (x : Session) (e : Exec) : State :=
  let b := responsePdu x e
  let s := deliver s x b
  if e.ending then closeSession s x.num
  else
    let s := (x.held.filter (· == e.seq)).foldl (fun s _ => deliver s x b) s
    modSess s x.num fun x => { x with exec := none, held := [], stored := ((e.seq, b) :: x.stored).take 8 }

/-- Every operation has its answer: a command of the table leaves it in `lastResp`, a PDU is answered; a reset that the
operation asked for follows (R465, R467). -/
def finishExec (s : State) (n : Nat) (e : Exec) : State :=
  match sessOf s n with
  | none => s
  | some x =>
    let s := if e.direct then (if e.ending then closeSession s n else modSess s n fun x => { x with exec := none }) else executed s x e
    if s.upd.resetDue then deviceReset s else s

/-- The response operation of a request operation. -/
def answerOp (o : Op) (r : Res) (v : Bytes) : RespOp :=
  { opcode := o.opcode, flags := o.flags, idx := o.idx, el := o.el, abort := r.1, detail := if r.1 = 0 then 0 else r.2, value := v }

/-- An answered operation joins the execution's responses; the STOP of an operation that aborts skips those behind it. -/
def pushResp (e : Exec) (o : Op) (r : RespOp) : Exec :=
  { e with todo := e.todo.tail, resps := e.resps ++ [r], room := e.room - (14 + r.value.length), wait := none,
           skipping := e.skipping || (r.abort != 0 && bit o.flags 7) }

def setExec (s : State) (n : Nat) (e : Exec) : State := modSess s n fun x => { x with exec := some e }

/-- The session waits in its execution for the event. -/
def waitsFor (x : Session) (w : Suspend) : Bool := match x.exec with | some e => e.wait == some w | none => false

/-- The response is full: one more response operation, for the first operation not executed (R40). -/
def noRoom (s : State) (n : Nat) (e : Exec) (o : Op) : State :=
  let a := answerOp o (dictAbort aAborted 0xB) []
  finishExec { s with lastResp := some a } n { e with todo := [], resps := e.resps ++ [a] }

/-- The event that a held operation waited for has come: it is answered, unless the answer finds no room (R40); its PDU is
answered when it was the last. -/
def release (s : State) (n : Nat) (r : Res) (v : Bytes) : State :=
  match (sessOf s n).bind (·.exec) with
  | none => s
  | some e =>
    match e.todo with
    | [] => s
    | o :: rest =>
      if e.room < 14 + v.length then noRoom s n e o
      else
        let a := answerOp o r v
        let e := pushResp e o a
        let s := { s with lastResp := some a }
        if rest.isEmpty then finishExec s n e else setExec s n e

/-- Answer every held operation that waits for an event. -/
def releaseAll (s : State) (w : Suspend) (r : Res) (v : Bytes) : State :=
  ((s.dict.sessions.filter fun x => waitsFor x w).map (·.num)).foldl (fun s n => release s n r v) s

/-- The value a held write of a CMD object leaves with its abort code (R10). -/
def recordCmd (s : State) (idx el : Nat) (v : Bytes) (code : Nat) : State :=
  s.setDict { s.dict with cmds := tput s.dict.cmds (okey idx el) { tgetD s.dict.cmds (okey idx el) {} with value := v, code } }

/-- As `releaseAll`, for held writes of a CMD object. -/
def releaseCmd (s : State) (w : Suspend) (r : Res) : State :=
  let held := s.dict.sessions.filterMap fun x => if waitsFor x w then x.exec.bind fun e => e.todo.head? else none
  let s := held.foldl (fun s o => recordCmd s o.idx o.el o.value r.1) s
  releaseAll s w r []

end Sys2Proof.Machine
end

