-- ==== Sys2Proof/Machine/Trav.lean ====
section
/-! DEFINITION. The closure check and the Traverse's own operations CLOSE, STAKE and ABORT (02_object_dictionary R51,
R54 to R59, R64 to R67). -/

namespace Sys2Proof.Machine
open Sys2Proof

/-! ### Finding an object (R36 to R38) -/

def isFwIdx (idx : Nat) : Bool := decide (0xE000 ≤ idx ∧ idx ≤ 0xEFFF)

def accOf (code : Nat) : Acc := if code = 0 then .ro else if code = 1 then .rw else if code = 2 then .wo else if code = 3 then .rs else .cmd

/-- A declared object as a table row: OCTETS and TEXT take any length up to their size (R37). -/
def fwRow (o : FwObject) : ObjRow :=
  { ilo := o.idx, ihi := o.idx, elo := o.lo, ehi := o.hi, typ := o.typ,
    len := if o.typ = 0xA ∨ o.typ = 0xB then .upTo o.size else .exact o.size,
    acc := accOf o.access, dflt := [], pers := o.pers, chks := [] }

/-- The row of an object, or why there is none: NO_OBJECT, NO_ELEMENT, BUSY before the image's declaration. Until then every
index of the customer's range counts as one that the image will serve (DESIGN CHOICE; log entry 144). -/
def findObj (s : State) (idx el : Nat) : Except Res ObjRow :=
  if isFwIdx idx then
    match s.dict.declared with
    | none => .error (dictAbort aBusy 2)
    | some l =>
      match l.find? fun o => decide (o.idx = idx ∧ o.lo ≤ el ∧ el ≤ o.hi) with
      | some o => .ok (fwRow o)
      | none => .error (if l.any (fun o => o.idx == idx) then dictAbort aNoElement 0x11 else dictAbort aNoObject 0x10)
  else
    match objRow? idx el with
    | some r => .ok r
    | none => .error (if hasIndex idx then dictAbort aNoElement 0x11 else dictAbort aNoObject 0x10)

/-! ### Iclia rules (R57) -/

/-- The instructions of a record: opcode, reserved byte, operand. -/
def ruleCode (b : Bytes) : List (Nat × Nat × Nat) :=
  (List.range (min 20 (fld b 2 1))).map fun i => (fld b (4 + 6 * i) 1, fld b (5 + 6 * i) 1, fld b (6 + 6 * i) 4)

/-- Values an instruction pops and pushes. -/
def ruleEffect (op : Nat) : Option (Nat × Nat) :=
  if op = 1 ∨ op = 2 ∨ op = 3 then some (0, 1)
  else if 4 ≤ op ∧ op ≤ 10 then some (2, 1)
  else if op = 11 then some (1, 1)
  else none

/-- The stack's depth after the instructions; none on underflow, on more than 8 values, on an unknown opcode. -/
def ruleDepth : Nat → List (Nat × Nat × Nat) → Option Nat
  | d, [] => some d
  | d, (op, _, _) :: l =>
    match ruleEffect op with
    | none => none
    | some (a, b) => if d < a ∨ 8 < d - a + b then none else ruleDepth (d - a + b) l

def hasObj (s : State) (idx el : Nat) : Bool := match findObj s idx el with | .ok _ => true | .error _ => false

/-- Is the index of a SUM present? -/
def hasIdx (s : State) (idx : Nat) : Bool :=
  if isFwIdx idx then (s.dict.declared.getD []).any fun o => o.idx == idx else hasIndex idx

/-- The checks made of a CLOSURE_RULE value when it is staged. -/
def ruleOk (s : State) (b : Bytes) : Bool :=
  b.isEmpty ||
    (decide (0x8000 ≤ fld b 0 2 ∧ 1 ≤ fld b 2 1 ∧ fld b 2 1 ≤ 20) && fld b 3 1 == 0 &&
      allZero (b.drop (4 + 6 * fld b 2 1)) && (ruleCode b).all (fun x => x.2.1 == 0) && ruleDepth 0 (ruleCode b) == some 1 &&
      (ruleCode b).all fun x =>
        (x.1 != 1 || hasObj s (x.2.2 / 65536) (x.2.2 % 65536)) && (x.1 != 3 || hasIdx s (x.2.2 / 65536)))

/-- What an object pushes (R57), by its type. -/
def pushed (typ : Nat) (v : Bytes) : Int :=
  if typ ≤ 4 then leNat v
  else if typ = 5 then sgn 8 (leNat v)
  else if typ = 6 then sgn 2 (leNat v)
  else if typ = 7 then sgn 4 (leNat v)
  else if typ = 8 then sgn 8 (leNat v)
  else if typ = 9 then fld v 0 6
  else v.length

/-- Firmware's answers to what a closure check reads: object, value; no value where it refused or did not answer (R57). -/
abbrev FwVals := List (Nat × Nat × Option Bytes)

/-- A value as the Traverse would leave it; none when it is absent or cannot be read. An unstaged firmware-served object has
the value firmware answered. -/
def ruleRead (s : State) (st : Staged) (v : State) (fw : FwVals) (idx el : Nat) : Option Int :=
  match findObj s idx el with
  | .error _ => none
  | .ok r =>
    match st.find? fun p => p.1 == idx && p.2.1 == el with
    | some p => some (pushed r.typ p.2.2)
    | none =>
      if isFwIdx idx then
        ((fw.find? fun p => p.1 == idx && p.2.1 == el).bind fun p => p.2.2).map (pushed r.typ)
      else if r.acc = .wo ∨ (idx = 0x1200 ∧ s.datum.restored = false) then none
      else some (pushed r.typ (valueOf v r idx el))

def fits64 (x : Int) : Option Int := if -(2 ^ 63 : Nat) ≤ x ∧ x < (2 ^ 63 : Nat) then some x else none

/-- The sum of elements 1 to n, n the value of element 0. -/
def ruleSum (s : State) (st : Staged) (v : State) (fw : FwVals) (idx : Nat) : Option Int :=
  match ruleRead s st v fw idx 0 with
  | none => none
  | some n =>
    ((List.range (min n.toNat 65535)).foldl (fun a i =>
      a.bind fun x => (ruleRead s st v fw idx (i + 1)).map (x + ·)) (some 0)).bind fits64

/-- One instruction on the stack, its top first. -/
def ruleStep (s : State) (st : Staged) (v : State) (fw : FwVals) (op arg : Nat) (k : List Int) : Option (List Int) :=
  let truth (b : Bool) : Int := if b then 1 else 0
  if op = 1 then (ruleRead s st v fw (arg / 65536) (arg % 65536)).map (· :: k)
  else if op = 2 then some (sgn 4 arg :: k)
  else if op = 3 then (ruleSum s st v fw (arg / 65536)).map (· :: k)
  else
    match op, k with
    | 11, a :: l => some (truth (a == 0) :: l)
    | 4, b :: a :: l => (fits64 (a + b)).map (· :: l)
    | 5, b :: a :: l => (fits64 (a - b)).map (· :: l)
    | 6, b :: a :: l => some (truth (a == b) :: l)
    | 7, b :: a :: l => some (truth (decide (a < b)) :: l)
    | 8, b :: a :: l => some (truth (decide (a ≤ b)) :: l)
    | 9, b :: a :: l => some (truth (a != 0 && b != 0) :: l)
    | 10, b :: a :: l => some (truth (a != 0 || b != 0) :: l)
    | _, _ => none

/-- A rule passes when exactly one value remains and it is not zero. -/
def rulePasses (s : State) (st : Staged) (v : State) (fw : FwVals) (b : Bytes) : Bool :=
  match (ruleCode b).foldl (fun k x => k.bind (ruleStep s st v fw x.1 x.2.2)) (some []) with
  | some [x] => x != 0
  | _ => false

/-! ### Read sets and the closure check (R51, R56) -/

/-- A key of a read or write set; element 65536 stands for the whole index. -/
def keyMeets (a b : Nat × Nat) : Bool := a.1 == b.1 && (a.2 == b.2 || a.2 == 65536 || b.2 == 65536)

def setsMeet (a b : List (Nat × Nat)) : Bool := a.any fun x => b.any (keyMeets x)

/-- What a rule names: the objects it pushes, the whole index of a SUM. -/
def ruleReads (b : Bytes) : List (Nat × Nat) :=
  (ruleCode b).filterMap fun x =>
    if x.1 = 1 then some (x.2.2 / 65536, x.2.2 % 65536) else if x.1 = 3 then some (x.2.2 / 65536, 65536) else none

def writeSet (st : Staged) : List (Nat × Nat) := st.map fun p => (p.1, p.2.1)

/-- The Iclia rules as the Traverse would leave them, each with whether it is staged. -/
def rulesLeft (s : State) (st : Staged) : List (Bytes × Bool) :=
  let staged := (st.filter fun p => p.1 == 0x140).map fun p => (p.2.2, true)
  let kept := ((ruleElements s).filter fun e => !st.any fun p => p.1 == 0x140 && p.2.1 == e).map fun e => (s.objB 0x140 e, false)
  (staged ++ kept).filter fun p => !p.1.isEmpty

/-- The Iclia rules a CLOSE evaluates. -/
def icliaEvaluated (s : State) (st : Staged) : List Bytes :=
  ((rulesLeft s st).filter fun p => p.2 || setsMeet (ruleReads p.1) (writeSet st)).map (·.1)

/-- The read set of a Traverse: every object read by an evaluated rule. -/
def readSetOf (s : State) (st : Staged) : List (Nat × Nat) :=
  ((hwEvaluated st).flatMap fun r => r.reads.map fun i => (i, 65536)) ++ (icliaEvaluated s st).flatMap ruleReads

/-- Ordinal of the first staged write among the keys; 0 none. -/
def ordinalOf (st : Staged) (reads : List (Nat × Nat)) : Nat :=
  match st.findIdx? fun p => reads.any (keyMeets (p.1, p.2.1)) with | some i => i + 1 | none => 0

/-- The first failing hardware rule: unit, ID, ordinal. -/
def hwFailing (s : State) (st : Staged) (v : State) : List HwRule → Option (Nat × Nat × Nat)
  | [] => none
  | r :: l =>
    match r.fails s st v with
    | some u => some (u, r.id, ordinalOf st (r.reads.map fun i => (i, 65536)))
    | none => hwFailing s st v l

/-- The failing Iclia rule of the lowest ID. -/
def icliaFailing (s : State) (st : Staged) (v : State) (fw : FwVals) : Option (Nat × Nat × Nat) :=
  ((icliaEvaluated s st).filter fun b => !rulePasses s st v fw b).foldl (fun a b =>
    match a with
    | some (_, id, _) => if fld b 0 2 < id then some (0x70, fld b 0 2, ordinalOf st (ruleReads b)) else a
    | none => some (0x70, fld b 0 2, ordinalOf st (ruleReads b))) none

def closureFailing (s : State) (st : Staged) (fw : FwVals := []) : Option (Nat × Nat × Nat) :=
  let v := overlay s st
  match hwFailing s st v (hwEvaluated st) with
  | some x => some x
  | none => icliaFailing s st v fw

/-- Is the object one that firmware must be asked for: declared, readable, not staged, not answered yet? -/
def fwUnknown (s : State) (st : Staged) (fw : FwVals) (p : Nat × Nat) : Bool :=
  isFwIdx p.1 && (match findObj s p.1 p.2 with | .ok r => decide (r.acc ≠ .wo) | .error _ => false) &&
    !(st.any fun q => q.1 == p.1 && q.2.1 == p.2) && !(fw.any fun q => q.1 == p.1 && q.2.1 == p.2)

/-- The objects that the evaluated rules name: those they push, element 0 of a SUM, and the elements it counts. -/
def ruleObjects (s : State) (st : Staged) (fw : FwVals) : List (Nat × Nat) :=
  (icliaEvaluated s st).flatMap fun b => (ruleCode b).flatMap fun x =>
    let idx := x.2.2 / 65536
    if x.1 = 1 then [(idx, x.2.2 % 65536)]
    else if x.1 = 3 ∧ isFwIdx idx = true then
      (idx, 0) :: (List.range (min 65535 ((ruleRead s st s fw idx 0).getD 0).toNat)).map fun i => (idx, i + 1)
    else []

/-- What a CLOSE still has to ask firmware (R38, R57): nothing once a hardware rule fails. -/
def fwWanted (s : State) (st : Staged) (fw : FwVals) : List (Nat × Nat) :=
  if (hwFailing s st (overlay s st) (hwEvaluated st)).isSome then []
  else ((ruleObjects s st fw).filter (fwUnknown s st fw)).eraseDups

/-! ### CLOSE, reservations (R51) -/

def travState : Res := dictAbort aState 8

/-- The slots other than `k` that reserve. -/
def reserving (s : State) (k : Option Nat) : List Traverse :=
  ((List.range 4).filter fun i => k != some i).map (travAt s) |>.filter fun t => t.st == .closed || t.st == .armed

/-- Is the object in the write set or the read set of a reserving slot other than `k`? -/
def reservedBy (s : State) (k : Option Nat) (idx el : Nat) : Bool :=
  (reserving s k).any fun t => setsMeet [(idx, el)] (writeSet t.staged ++ t.readSet)

/-- One request to firmware for an object that a closure check reads. -/
def askObject (slot : Nat) (s : State) (p : Nat × Nat) : State :=
  let id := s.dict.nextReq
  let o : Op := { opcode := 1, flags := 0, idx := p.1, el := p.2, value := [] }
  let s := s.setDict { s.dict with
    fwReqs := s.dict.fwReqs ++ [{ id, sess := 0, op := o }], nextReq := id + 1
    closeAsks := s.dict.closeAsks.map fun a => if a.slot = slot then { a with left := a.left ++ [(id, p)] } else a }
  s.postFixed 0

/-- A CLOSE begins to wait for firmware; one that waited for the slot before is over. -/
def askClosure (s : State) (n k : Nat) (fw : FwVals) (l : List (Nat × Nat)) : State :=
  let s := s.setDict { s.dict with closeAsks := (s.dict.closeAsks.filter fun a => a.slot != k) ++ [{ slot := k, sess := n, left := [], vals := fw }] }
  l.foldl (askObject k) s

/-- CLOSE, with what firmware answered. -/
def travClose (s : State) (n : Nat) (fw : FwVals := []) : State × Res :=
  match travOf s n with
  | none => (s, travState)
  | some k =>
    let t := travAt s k
    if t.st ≠ .opened then (s, travState)
    else
      let reads := readSetOf s t.staged
      match closureFailing s t.staged fw with
      | some (u, id, ord) => (setTrav s k { t with failing := ord }, (aClosure, u * 0x1000000 + id))
      | none =>
        let s := setTrav s k { t with failing := 0 }
        let w := writeSet t.staged
        if (reserving s (some k)).any fun o => setsMeet w (writeSet o.staged ++ o.readSet) || setsMeet reads (writeSet o.staged) then
          (s, dictAbort aBusy 1)
        else (setTrav s k { t with st := .closed, failing := 0, readSet := reads }, ok)

/-! ### STAKE (R58, R67) -/

/-- Why a STAKE without PERSIST is aborted: the staged object that takes effect at a reset only (R67, R383, R398, R447). -/
def needsPersist (p : Nat × Nat × Bytes) : Option Res :=
  if p.1 = 0x4 ∧ p.2.1 = 0 then some (dictAbort aState 0xA)
  else if p.1 = 0x6400 ∧ p.2.1 = 0 then some (abortBy aState 0x30 0x104)
  else if p.1 = 0x6801 ∧ p.2.1 = 0 then some (abortBy aState 0x40 1)
  else if p.1 = 0x1400 ∧ p.2.1 = 0 then some (abortBy aState 0x60 0x604)
  else none

/-- What PERSIST, or its absence, refuses: the former for platform-record objects during a trial (R469). -/
def persistRefusal (s : State) (st : Staged) (persist : Bool) : Option Res :=
  if persist then
    if s.upd.st = .trial ∧ st.any (fun p => platformKey (okey p.1 p.2.1)) then some (abortBy aState 0x21 0x151) else none
  else st.findSome? needsPersist

/-- Datum units of a head at `ticks` of the chain timer. -/
def datumAtTick (s : State) (ticks : Nat) : Nat := s.datum.t.units + (ticks - s.chain.ticks) * s.datum.incr

/-- The chain timer's ticks at the k-th head from now on: H = B(N + 1) - W of the chains to come (R204, R227). -/
def headTick (s : State) (r : Radio) (k : Nat) : Nat :=
  let c := s.cr r
  let next := c.nextSched.getD (latchSched s r)
  let w := if k = 0 then c.sched.window else next.window
  c.bTick + (c.sched.len + k * next.len - w) * 62500

/-- The head of the radio's first chain whose head is at or after a Datum. A coordinator whose chain does not run yet has no
head to name, and counts as no coordinator (DESIGN CHOICE; log entry 141). -/
def nextHead (s : State) (r : Radio) (notBefore : Nat) : Option Nat :=
  if isCoordinator s r && (s.cr r).running then
    (findLt 64 fun k => decide (s.chain.ticks ≤ headTick s r k ∧ notBefore ≤ datumAtTick s (headTick s r k))).map fun k =>
      datumAtTick s (headTick s r k)
  else none

/-- The stake instant T of a request (R58). -/
def stakeAt (s : State) (v : Bytes) : Except Res Nat :=
  let t0 := s.datum.t.units
  let early := t0 + 2000000 * 4294967296
  let whenCode := fld v 0 1
  if whenCode = 0 then .ok early
  else if whenCode = 1 then
    let t := (datumAt v 4).units
    if t < early then .error (dictAbort aStakePast 0x17)
    else if t0 + s.objN 0x121 0 * 1000000000 * 4294967296 < t then .error (dictAbort aRange 0x18)
    else .ok t
  else
    match (if h : fld v 1 1 < 3 then nextHead s ⟨fld v 1 1, h⟩ early else none) with
    | some t => .ok t
    | none => .error (dictAbort aState 7)

/-- The codes of a stake request; its reserved bytes are ignored (log entry 45). -/
def stakeRangeOk (v : Bytes) : Bool :=
  decide (fld v 0 1 ≤ 2) && (fld v 0 1 != 2 || decide (fld v 1 1 ≤ 2)) &&
    (fld v 0 1 != 1 || decide (fld v 10 4 ≤ 999999999))

/-- STAKE: T is fixed and the Traverse armed; the slot with its T. -/
def travStake (s : State) (n : Nat) (v : Bytes) (persist : Bool) : State × Res × Option Nat :=
  if v.length ≠ 16 then (s, dictAbort aType 0x13, none)
  else
    match travOf s n with
    | none => (s, travState, none)
    | some k =>
      let t := travAt s k
      if t.st ≠ .closed then (s, travState, none)
      else if stakeRangeOk v = false then (s, dictAbort aRange 0x14, none)
      else
        match persistRefusal s t.staged persist with
        | some r => (s, r, none)
        | none =>
          match stakeAt s v with
          | .error r => (s, r, none)
          | .ok u => (setTrav s k { t with st := .armed, t := datumOf u, persist, late := false }, ok, some k)

/-! ### ABORT (R54, R64, R65) -/

/-- Abort a slot: OPEN, CLOSED and ARMED release everything and record ABORTED; an IDLE one does not run. -/
def travAbort (s : State) (k : Nat) : State × Res × Bool :=
  let t := travAt s k
  if t.st = .idle then (s, ok, false)
  else if t.st = .applying then (s, travState, false)
  else (freeTrav s k aAborted, ok, true)

/-- The abort command's function 06h on slot `k`, 0 first; its completion is recorded (R64). -/
def abortTrav (s : State) (k : Nat) : State × Res :=
  let (s, r, ran) := travAbort s k
  (s.abortDone 6 (k + 1) r.1 ran 100000, r)

/-- The ABORT operation: the session's own Traverse (R54). -/
def travAbortOwn (s : State) (n : Nat) : State × Res :=
  match travOf s n with
  | none => (s, ok)
  | some k => abortTrav s k

end Sys2Proof.Machine
end

