-- ==== Sys2Proof/Machine/Stake.lean ====
section
/-! DEFINITION. What a stake changes at its instant T, unit by unit (02_object_dictionary R59 to R63 and the chapters that
name a stake). -/

namespace Sys2Proof.Machine
open Sys2Proof

def stakes (st : Staged) (idx : Nat) : Bool := st.any fun p => p.1 == idx
def stakesAt (st : Staged) (idx el : Nat) : Bool := st.any fun p => p.1 == idx && p.2.1 == el

/-! ### Mirrored objects (R436, R440) -/

/-- The class of *Mirror classes* an object belongs to, none when R440 leaves it out. -/
def mirrorClass (idx : Nat) : Option Nat :=
  if isFlagObj idx = true ∨ idx = 0x1400 ∨ idx = 0x6405 then none
  else if 0x3000 ≤ idx ∧ idx ≤ 0x37FF then some 3
  else if 0x3800 ≤ idx ∧ idx ≤ 0x3FFF then some 4
  else if [0x4010, 0x4011].contains idx = true ∨ (0x4100 ≤ idx ∧ idx ≤ 0x45FF) then some 5
  else some 6

def mirrorChange (s : State) (idx el : Nat) : State :=
  match mirrorClass idx with | some c => s.mirrorObj c idx el | none => s

/-! ### One staged object -/

/-- The starting counter that a transmit SA carries is written to its slot; a counter never decreases (R345). -/
def txsaStaked (s : State) (v : Bytes) : State :=
  let slot := fld v 2 2
  let c := (keyAt s slot).counter
  if fld v 0 1 = 1 ∧ c < fld v 4 8 then
    let s := advanceKey s slot (fld v 4 8 - c)
    s.mirror 1 (keyItem s slot)
  else s

/-- A sentinel's scan list or clock radio is new: its scan starts from the first entry (R88). -/
def rescan (s : State) (t : Trx) : State := if trxAssign s t = 0 then beginDwell s t 0 else s

/-- An object takes its staged value at T, with what its own chapter lets a write of it do. -/
def stakeValue (s : State) (p : Nat × Nat × Bytes) : State :=
  let idx := p.1
  let el := p.2.1
  let v := p.2.2
  let old := s.objN idx el
  if isFwIdx idx then s.postFixed 0
  else if isFlagObj idx then s.clearFlags idx el (leNat v)
  else if idx = 0x1602 then (updateData v s).1
  else if idx = 0x3100 then (staEntry el v s).1
  else
    let s := mirrorChange (s.setObj idx el v) idx el
    match idx with
    | 0x1201 => s.setDatum { s.datum with incr := leNat v, incrPend := none }
    | 0x1210 => if h : el - 1 < 4 then tpoConfigured s ⟨el - 1, h⟩ else s
    | 0x1312 => coreDvfsWritten s el
    | 0x2004 => if h : el - 1 < 16 then s.modTrx ⟨el - 1, h⟩ fun x => { x with polaritySet := true } else s
    | 0x2030 => if h : el - 1 < 16 then rescan s ⟨el - 1, h⟩ else s
    | 0x2002 => if h : el - 1 < 16 then rescan s ⟨el - 1, h⟩ else s
    | 0x5811 => txsaStaked s v
    | 0x5842 => gpioWritten s old (leNat v)
    | 0x5840 => gpioStaked s (el - 1) (old % 256)
    | _ => s

/-- Objects of the packet processor that its versions carry (R252). -/
def versioned (p : Nat × Nat × Bytes) : Bool := isPpObject p.1 && p.1 != 0x4000 && !isFlagObj p.1

/-- A packet-processor object takes its staged value. -/
def stakeTable (s : State) (p : Nat × Nat × Bytes) : State :=
  ageFromNow (mirrorChange (s.setObj p.1 p.2.1 p.2.2) p.1 p.2.1) p.1 p.2.1

/-- The staged packet-processor objects become one new version (R252). -/
def stakeTables (s : State) (st : Staged) (t : Nat) : State :=
  let st := st.filter versioned
  if st.isEmpty then s
  else
    let olds := st.map fun p => (p.1, p.2.1, s.objB p.1 p.2.1)
    let s := st.foldl stakeTable (newVersion s t olds)
    [0x4100, 0x4200, 0x4300, 0x4400].foldl watchTable s

/-! ### Transceivers (R26, R84, R86, R412) -/

/-- What a transceiver is to be: 0 powered down, 1 a sentinel, 2 used by its radio. -/
def trxWanted (s : State) (t : Trx) : Nat :=
  let a := trxAssign s t
  if a = 0 then 1
  else if h : 0 < a ∧ a ≤ 3 then
    let r : Radio := ⟨a - 1, by omega⟩
    if runState s = 2 ∧ isWlan s r = true then 0
    else if ((assigned s r).take (chainCount s)).contains t then 2 else 0
  else 0

/-- A transceiver takes its new part; `w` is the state before the stake. -/
def trxStaked (w s : State) (t : Trx) : State :=
  if trxAssign w t = trxAssign s t ∧ trxWanted w t = trxWanted s t then s
  else
    let s := offTrx s t
    match trxWanted s t with
    | 1 => sentinelTrx s t
    | 2 => joinTrx s t
    | _ => s

/-! ### Radios (R101, R104, R123, R412, R435) -/

/-- Is the radio's front end to run: enabled, not a WLAN radio in LISTEN (R413), not in the limp state (R484), and on a
device that holds its role (R434, R435, R444)? -/
def radioRuns (s : State) (r : Radio) : Bool :=
  personality s r != 0 && !(runState s == 2 && isWlan s r) && !s.start.limp && (s.pair.st == .solo || s.pair.st == .active)

/-- The channel a radio's configuration gives it. -/
def configured (s : State) (r : Radio) : Chan := if isChain s r then firstChannel s r else wlanChan s r

/-- A Chain radio that is enabled: its first chain, or its scan, is still to begin (R204, R223). -/
def chainFresh (s : State) (r : Radio) : State :=
  s.modCr r fun x => { x with
    running := false, number := 0, nextSched := none, nextSlots := none, inSlot := none, slot := 0, used := 0, group := 0
    slotAt := 0, due := false, late := [], rffeDone := true
    formed := none, stepped := false, await := none, retry := [], resps := [], slots := [], deltas := [], quarantine := []
    mst := .scan, missed := 0, backoffK := 0, backoff := 0, joinDue := false, scanChan := 0, short := 0xFFFF, mSlot := 0xFFFF
    timing := 0, joinChain := 0, scanAt := s.now, upAt := s.datum.t.nanos }

/-- The front end of a radio that runs no more: what it has on the air stops, an exchange whose answer it awaits ends, and the
requests it holds go back with SYNTH_BUSY (log entry 158). -/
def radioDown (s : State) (r : Radio) : State :=
  if (s.fe r).st = .off then s
  else
    let (s, ms) := endExchange (stopTx s r).1 r
    let s := returnHeldAll (ms.foldl (fun s m => mpduUnacked s r.val m) s) r
    feOff (s.modCr r fun x => { x with running := false, inSlot := none, due := false }) r

/-- Does a diagnostic transmission run or wait for its channel? -/
def diagHolds (s : State) (r : Radio) : Bool := (s.fe r).diag.running || diagPending (s.fe r)

/-- A radio is enabled: a diagnostic transmission ends first (R121), and the change to the configured channel begins. -/
def radioUp (s : State) (r : Radio) : State :=
  let s := if diagHolds s r then endDiag s r 5 else radioDown s r
  let s := if isChain s r then chainFresh s r else s
  beginChange s r (configured s r)

/-- What a stake does to a radio. -/
def radioStaked (w : State) (st : Staged) (s : State) (r : Radio) : State :=
  let was := radioRuns w r
  if radioRuns s r = false then (if was then radioDown s r else s)
  else if was = false ∨ personality w r ≠ personality s r ∨ (stakesAt st 0x2100 (r + 1) = true ∧ ((s.fe r).st = .off ∨ diagHolds s r = true)) ∨
      (isChain s r = true ∧ isMember w r ≠ isMember s r) then radioUp s r
  else if isWlan s r = true ∧ wlanChan w r ≠ wlanChan s r ∧ (s.fe r).st ≠ .off then requestChannel s r (wlanChan s r)
  else s

/-- PEER_TRIGGER: the standing booking is asked for at the stake that sets it (R196). -/
def peerStaked (w s : State) (r : Radio) : State :=
  if planFlagOn s r.val 3 = true ∧ planFlagOn w r.val 3 = false then bookStanding s r 1
  else if planFlagOn s r.val 3 = false ∧ planFlagOn w r.val 3 = true then s.release 10 (bookKey r.val 0 1)
  else s

/-- The radios and transceivers take their new values (R26, R60, R77, R123); `w` is the state before them. -/
def radiosStaked (w : State) (st : Staged) (s : State) : State :=
  let s := (List.finRange 16).foldl (trxStaked w) s
  (List.finRange 3).foldl (fun s (r : Radio) =>
    let s := radioStaked w st s r
    let s := if stakesAt st 0x2010 (r.val + 1) then pathModeStaked s r else s
    let s := if stakesAt st 0x2011 (r.val + 1) then ifSideStaked s r else s
    if stakesAt st 0x3500 (r.val + 1) then peerStaked w (planStaked s r) r else s) s

/-! ### Values that wait for a radio's boundary (R26, R60, R84, R86) -/

/-- Objects of one radio, by element. A coordinator's CHAIN_CONFIG, HOP_CONFIG and SLOT_RUNS are latched at a head (R228). -/
def radioObjs : List Nat := [0x2010, 0x2011, 0x2012, 0x2100, 0x2101, 0x2102, 0x2103, 0x2110, 0x2120, 0x3020, 0x3500, 0x3800]

/-- Objects of one transceiver, whose boundary is its radio's. -/
def trxObjs : List Nat := [0x2003, 0x2004, 0x2005, 0x2006, 0x2132, 0x1311]

def radioNum (n : Nat) : List Radio := if h : n < 3 then [⟨n, h⟩] else []

/-- The radio of transceiver number `t`. -/
def trxRadio (s : State) (t : Nat) : List Radio := let a := s.objN 0x2001 (t + 1); if a = 0 then [] else radioNum (a - 1)

/-- The radios at whose boundaries a staked value takes effect: none for what another unit takes at T. -/
def ownersOf (s : State) (p : Nat × Nat × Bytes) : List Radio :=
  let el := p.2.1
  if radioObjs.contains p.1 then radioNum (el - 1)
  else if [0x3801, 0x3802, 0x3803].contains p.1 then (radioNum (el - 1)).filter fun r => isMember s r
  else if [0x3010, 0x3011, 0x3012].contains p.1 then radioNum ((el - 1) / 16)
  else if trxObjs.contains p.1 then trxRadio s (el - 1)
  else if p.1 = 0x2001 then trxRadio s (el - 1) ++ (if leNat p.2.2 = 0 then [] else radioNum (leNat p.2.2 - 1))
  else []

/-- Are all the radios of a staked value at their boundaries? -/
def atBoundaries (s : State) (p : Nat × Nat × Bytes) : Bool := (ownersOf s p).all fun r => radioBoundary s r

/-- The waiting values whose radios are at their boundaries take effect. -/
def takeDeferred (s : State) : State :=
  let go := s.rf.deferred.filter (atBoundaries s)
  if go.isEmpty then s
  else
    let w := s.setRf { s.rf with deferred := s.rf.deferred.filter fun p => !go.contains p }
    radiosStaked w go (go.foldl stakeValue w)

/-- A command of the radios: the boundaries that have been reached count before it, those it makes after it (R60). -/
def atBoundary (f : State → State) (s : State) : State := takeDeferred (f (takeDeferred s))

/-! ### Power (R412, R413) -/

/-- The running state and its cap: each core asks again for its point. -/
def runStaked (st : Staged) (s : State) : State :=
  if 2 < s.power.now_ ∨ ¬ (stakes st 0x1300 = true ∨ stakes st 0x1302 = true ∨ stakes st 0x1303 = true) then s
  else (List.range 8).foldl (fun s i => coreDvfsWritten s (i + 1)) (s.setPower { s.power with now_ := s.objN 0x1300 0 })

/-! ### Traffic manager (R259, R272, R280) -/

/-- The egresses whose tree a queue hangs from, with its group. -/
def queuePlace (s : State) (q : Nat) : Nat × List Nat :=
  (groupOf s q, (rootsOf s q).filter fun root => groupOn s (groupOf s q) root)

/-- Is a queue's group, or every egress of it, disabled? -/
def queueOff (s : State) (q : Nat) : Bool :=
  groupEgress s (groupOf s q) == 0xFF ||
    (!(rootsOf s q).isEmpty && (rootsOf s q).all fun root =>
      if root < 2 then ethMode s root == 0
      else if h : 5 ≤ root ∧ root < 8 then personality s ⟨root - 5, by omega⟩ == 0 else false)

/-- The queues that hold frames. -/
def heldQueues (s : State) : List Nat := (s.tm.queues.filter fun p => !p.2.frames.isEmpty).map (·.1)

/-- Frames of queues that the stake disables are discarded (R280); a queue that hangs elsewhere moves. -/
def queuesStaked (w : State) (moved : List Nat) (s : State) : State :=
  let s := moved.foldl seat s
  (heldQueues s).foldl (fun s q => if queueOff s q && !queueOff w q then flushQueue s q else s) s

/-- A port whose mode changes: its link goes down and its charge is asked for anew (R282, R420). -/
def portStaked (w s : State) (p : Fin 2) : State :=
  if ethMode w p.val = ethMode s p.val then s
  else
    let s := (linkDown ⟨p.val, by omega⟩ s).release 6 p.val
    (s.request 6 p.val (portCharge (ethMode s p.val)) false).1

/-! ### Everything at T -/

/-- A change of a manager key or its rights ends every session opened with it (R48). -/
def keysStaked (w s : State) : State :=
  let gone (k : Nat) : Bool := w.objB 0x110 k != s.objB 0x110 k || w.objB 0x111 k != s.objB 0x111 k
  ((s.dict.sessions.filter fun x => !isLocal x.num && gone x.keySlot).map (·.num)).foldl closeSession s

/-- The units take the new values at T: `w` is the state before them. -/
def unitsStaked (w : State) (st : Staged) (t : Nat) (s : State) : State :=
  let s := s.setStart { s.start with limpOk := s.objF 0x1001 0 0 1 == 1, failRetry := s.objF 0x1001 0 1 2 }
  let s := keysStaked w s
  let s := if stakes st 0x140 then extendFree s 4 else s
  let s := if stakes st 0x6002 ∧ s.objN 0x6002 0 < w.objN 0x6002 0 then warnFracStaked s else s
  let s := runStaked st s
  let s := radiosStaked w st s
  let s := (List.finRange 2).foldl (portStaked w) s
  (List.range 5).foldl (fun s g => if stakesAt st 0x5030 (g + 1) = true ∨ stakes st (0x5031 + g) = true then gateStaked s g t else s) s

/-- Do staged objects move queues in the tree? -/
def movesQueues (st : Staged) : Bool := stakes st 0x4020 || stakes st 0x5001 || stakes st 0x5002

/-- Every staged value is switched at T, but for those of radios that are not at their boundary then (R60); packet-processor
objects wait while four versions are live (R253). -/
def switchAll (s : State) (st : Staged) (t : Nat) (tables : Bool) : State :=
  let s := takeDeferred s
  let (plain, later) := (st.filter fun p => !versioned p).partition (atBoundaries s)
  let old := s.rf.deferred.filter fun d => !st.any fun p => p.1 == d.1 && p.2.1 == d.2.1
  let s := s.setRf { s.rf with deferred := old ++ later }
  let w := s
  let v := overlay s st
  let moved := if movesQueues st then (heldQueues s).filter fun q => queuePlace s q != queuePlace v q else []
  let s := moved.foldl unseat s
  let s := plain.foldl stakeValue s
  let s := if tables then stakeTables s st t else s
  queuesStaked w moved (unitsStaked w plain t s)

/-- A slot starts APPLYING (R59 to R62). -/
def startApplying (s : State) (k : Nat) (late : Bool) : State :=
  let x := travAt s k
  let now_ := canCommit s || !(x.staged.any versioned)
  let s := setTrav s k { x with st := .applying, late, mirroring := false, waitReclaim := !now_ }
  switchAll s x.staged x.t.units now_

/-- STAKE_INSTANT: Datum reaches T of an ARMED Traverse (R58 to R61). -/
def execStakeInstant (slot : Fin 4) (s : State) : Out := live s fun s =>
  let x := travAt s slot.val
  if x.st = .armed ∧ x.t.units ≤ s.datum.t.units then startApplying s slot.val false else s

/-- A step that carries Datum past T starts APPLYING at the step, and the result records LATE (R59). -/
def lateStakes (s : State) : State :=
  (List.range 4).foldl (fun s k =>
    let x := travAt s k
    if x.st = .armed ∧ x.t.units < s.datum.t.units then startApplying s k true else s) s

/-- A reclaim lets a Traverse whose tables wait go on (R253). -/
def reclaimStakes (s : State) : State :=
  (List.range 4).foldl (fun s k =>
    let x := travAt s k
    if x.st = .applying ∧ x.waitReclaim = true ∧ canCommit s = true then
      stakeTables (setTrav s k { x with waitReclaim := false }) x.staged x.t.units
    else s) s

end Sys2Proof.Machine
end

