-- ==== Sys2Proof/Machine/Boundary.lean ====
section
/-! DEFINITION. The commands of the radios at whose edges a boundary lies: PPDUs and receptions begin and end, slots and chains
begin, the front end changes. Each counts the boundaries it meets, at which staked values that waited take effect (R26, R60). -/

namespace Sys2Proof.Machine
open Sys2Proof

/-- PREAMBLE_DETECT. -/
def execPreambleDetect (r : Radio) (c : Correlation) (tr : Tracking) (s : State) : Out :=
  live s fun s => atBoundary (preambleDetect r { toCorrelation := c, toTracking := tr }) s

/-- SIGNAL_FIELD_DECODE. -/
def execSignalFieldDecode (r : Radio) (sf : SigField) (format : Option Nat) (users : List RxUser) (s : State) : Out := live s fun s =>
  atBoundary (signalFieldDecode r sf format users) s

/-- RESTART. -/
def execRestart (r : Radio) (p : Preamble) (s : State) : Out := live s fun s => atBoundary (restartRx r p) s

/-- CHANNEL_CHANGE: at the radio's boundary, in READY, the pending change begins (R102). -/
def execChannelChange (r : Radio) (s : State) : Out := live s fun s => atBoundary (fun s => changeAtBoundary s r) s

/-- PATH_SWITCH. -/
def execPathSwitch (r : Radio) (s : State) : Out := live s fun s => atBoundary (pathSwitchAt r) s

/-- LOCK_LOST. -/
def execLockLost (r : Radio) (s : State) : Out := live s fun s => atBoundary (lockLostAt r) s

/-- RECAL_START. -/
def execRecalStart (r : Radio) (temps : List Int) (s : State) : Out := live s fun s => atBoundary (recalStartAt r temps) s

/-- ABORT_RADIO_TX (R64). -/
def execAbortRadioTx (r : Radio) (s : State) : Out := live s fun s =>
  atBoundary (fun s => let (s, ran) := abortTx r s; s.abortDone 1 r.val 0 ran 6000) s

/-- ABORT_RADIO_RX (R64). -/
def execAbortRadioRx (r : Radio) (s : State) : Out := live s fun s =>
  atBoundary (fun s => let (s, ran) := abortRx r s; s.abortDone 2 r.val 0 ran 4000) s

/-- MPDU_RECEIVE. -/
def execMpduReceive (r : Radio) (m : RxMpdu) (s : State) : Out := live s fun s => atBoundary (mpduReceive r m) s

/-- PPDU_ASSEMBLY. -/
def execPpduAssembly (r : Radio) (p : PpduReq) (s : State) : Out := live s fun s => atBoundary (ppduAssembly r p) s

/-- TBTT. -/
def execTbtt (r : Radio) (b : Fin 16) (mediumFree : Bool) (s : State) : Out := live s fun s => atBoundary (tbttAt r b.val mediumFree) s

/-- ACK_RECEIVE. -/
def execAckReceive (r : Radio) (acked : List (Nat × Nat × Nat)) (s : State) : Out := live s fun s => atBoundary (ackReceive r acked) s

/-- ACK_TIMEOUT. -/
def execAckTimeout (r : Radio) (s : State) : Out := live s fun s => atBoundary (ackTimeout r) s

/-- TB_PPDU_RECEIVE. -/
def execTbPpduReceive (r : Radio) (p : TbPpdu) (s : State) : Out :=
  live s fun s => atBoundary (tbPpduReceive r p.startNs p.users) s

/-- CHAIN_START: the slot before it is over. -/
def execChainStart (r : Radio) (s : State) : Out := live s fun s =>
  atBoundary (fun s => chainStartAt r s) (slotEdge s r)

/-- SLOT_START: the slot before it is over. -/
def execSlotStart (slot : SlotIn) (s : State) : Out := live s fun s =>
  atBoundary (slotStartAt slot.radio slot.rffeDone slot.late) (slotEdge s slot.radio)

/-- CHAIN_FRAME_RECEIVE. -/
def execChainFrameReceive (r : Radio) (f : ChainFrame) (s : State) : Out := live s fun s => atBoundary (chainFrameAt r f) s

end Sys2Proof.Machine
end

