-- ==== Sys2Proof/Machine/Pair.lean ====
section
/-! DEFINITION. The redundant pair and the baseline link (18_redundant_pair, R427 to R447). -/

namespace Sys2Proof.Machine
open Sys2Proof

def pairStat (s : State) (k n : Nat) : State := s.stat 0x1404 0 k n
def pairFlag (s : State) (b : Nat) : State := s.setFlag 0x1405 0 b

/-! ### What is mirrored (R436, R440) -/

/-- Is the stored object part of the mirror: an RS, RW or P object, or a table that a mirrored class names? -/
def mirroredKey (k : Nat) : Bool :=
  let idx := k / 65536
  match mirrorClass idx with
  | none => false
  | some _ => match objRow? idx (k % 65536) with
    | some r => r.acc == .rw || r.acc == .rs || r.pers || [0x3600, 0x3810, 0x4400, 0x4401].contains idx
    | none => false

/-- The mirrored part of the device, emptied; the manager keys with it, so that their sessions end (R48). -/
def mirrorEmpty (s : State) : State :=
  let w := s
  let s := { s with
    obj := s.obj.filter fun p => !mirroredKey p.1
    sec := { s.sec with slots := [] }
    mac := { s.mac with snCtr := [], rxBa := [], txBa := [], lastPn := [], aids := [], quar := [], barOwed := [] }
    pp := { s.pp with hitAt := [], cache := [] } }
  let s := (List.finRange 3).foldl chainFresh (keysStaked w s)
  (List.range 4).foldl (fun s k =>
    if (travAt s k).st = .armed ∧ (travAt s k).owner = 0 then freeTrav s k aAborted else s) s

/-- The mirror is discarded: the device's own persistent configuration stands again (R433). -/
def discardMirror (s : State) : State :=
  let s : State := (s.flash.saved.filter fun p => mirroredKey p.1).foldl
    (fun s p => s.setObj (p.1 / 65536) (p.1 % 65536) p.2) (mirrorEmpty s)
  s.setPair { s.pair with copying := false, copyDone := false, progress := 0, inSeq := 1, ackOut := 0, switchHeld := false }

/-- A device that returns to WAIT from SYNCING or STANDBY. -/
def toWait (s : State) : State :=
  let s := discardMirror s
  s.setPair { s.pair with st := .wait, missed := 0 }

/-- The partner follows no longer: nothing is owed to it and no reservation applies (R437). -/
def partnerGone (s : State) (st : Nat) : State :=
  s.setPair { s.pair with partner := st, unacked := [], keyRes := [], snRes := [] }

/-- A full copy of every mirrored class (R445). -/
def fullCopy (s : State) : List (Nat × MirrorItem) :=
  (s.obj.filterMap fun p =>
    if mirroredKey p.1 then some ((mirrorClass (p.1 / 65536)).getD 6, .object (p.1 / 65536) (p.1 % 65536) p.2) else none) ++
  (s.sec.slots.map fun p => (1, keyItem s p.1)) ++
  (s.mac.snCtr.map fun p => (2, .seqCounter (p.1 / 16) (p.1 % 16) p.2)) ++
  [(3, .aids s.mac.aids)] ++
  (s.mac.rxBa.map fun p => (3, .agreement true p.1 p.2.sta p.2.tid p.2.win p.2.wstart)) ++
  (s.mac.txBa.map fun p => (3, .agreement false p.1 p.2.sta p.2.tid p.2.win p.2.wstart)) ++
  (s.mac.lastPn.map fun p => (3, .replay (p.1 / 16) (p.1 % 16) p.2)) ++
  (((List.finRange 3).filter fun r => isCoordinator s r && (s.cr r).running).map fun r =>
    (4, .chain r (s.cr r).number (s.cr r).bStamp.sec (s.cr r).bStamp.ns (s.cr r).schedVer)) ++
  (((List.range 4).filter fun k => (travAt s k).st == .armed).map fun k =>
    let t := travAt s k
    (6, .traverse k t.staged t.t.sec t.t.ns t.t.frac t.persist))

/-- The standby takes one change. -/
def applyMirror (s : State) (x : MirrorItem) : State :=
  match x with
  | .object idx el v =>
    let s := keysStaked s (s.setObj idx el v)
    if idx = 0x1201 then s.setDatum { s.datum with incr := leNat v }
    else if idx = 0x1300 ∧ s.power.now_ ≤ 2 then s.setPower { s.power with now_ := leNat v }
    else if idx = 0x2004 then (if h : el - 1 < 16 then s.modTrx ⟨el - 1, h⟩ fun x => { x with polaritySet := true } else s)
    else s
  | .key slot st typ counter material salt => setKey s slot { st, typ, material, salt, counter }
  | .traverse slot staged sec ns frac persist =>
    if slot < 4 then setTrav s slot { st := .armed, staged, t := { sec, ns, frac }, persist } else s
  | .seqCounter sta tid sn => s.setMac { s.mac with snCtr := tputD s.mac.snCtr (16 * sta + tid) sn 0 }
  | .replay sta tid pn => s.setMac { s.mac with lastPn := tput s.mac.lastPn (16 * sta + tid) pn }
  | .aids used => s.setMac { s.mac with aids := used }
  | .agreement rx ctx sta tid win wstart =>
    if rx then s.setMac { s.mac with rxBa := if win = 0 then tdel s.mac.rxBa ctx else tput s.mac.rxBa ctx { sta, tid, win, wstart } }
    else s.setMac { s.mac with txBa := if win = 0 then tdel s.mac.txBa ctx else tput s.mac.txBa ctx { sta, tid, win, wstart } }
  | .chain r number bSec bNs schedVer =>
    let b : DatumVal := { sec := bSec, ns := bNs }
    s.modCr r fun x => { x with
      running := true, number, bStamp := b, schedVer
      bTick := s.chain.ticks - (s.datum.t.units - b.units) / max 1 s.datum.incr }

/-! ### The active role (R432 to R434, R441 to R443) -/

/-- A device that becomes ACTIVE raises ACTIVE_OUT, and its kick timer starts. -/
def holdRole (s : State) : State :=
  (partnerGone s 0).setPair { (partnerGone s 0).pair with
    st := .active, activeOut := true, claiming := false, retryClaim := false, switchHeld := false, handing := false, missed := 0
    kickAt := s.now + s.pair.kickMs * 1000000 }

/-- Every transceiver and radio takes the part its configuration gives it. -/
def startRadios (up : State → Radio → State) (s : State) : State :=
  let s := (List.finRange 16).foldl (fun s t =>
    match trxWanted s t with
    | 1 => if (s.trx t).powered then s else sentinelTrx s t
    | 2 => if (s.trx t).powered then s else joinTrx s t
    | _ => offTrx s t) s
  (List.finRange 3).foldl (fun s r => if radioRuns s r = true ∧ (s.fe r).st = .off then up s r else s) s

/-- A claim from WAIT: the device starts from its own persistent configuration (R433). -/
def coldClaim (s : State) : State := startRadios radioUp (pairFlag (holdRole s) 3)

/-- A radio at takeover: a Chain coordinator keeps the mirrored chain number and B(N) (R443). -/
def radioTakeover (s : State) (r : Radio) : State :=
  let s := if isCoordinator s r = true ∧ (s.cr r).running = true then
      s.modCr r fun x => { x with sched := latchSched s r, inSlot := none, slot := 0, used := 0
                                  slots := (slotChanges s r).foldl (fun t p => tputD t p.1 p.2 0xFFFF) x.slots }
    else if isChain s r then chainFresh s r else s
  beginChange s r (configured s r)

/-- *Takeover events* (R441 to R443). -/
def takeover (s : State) : State :=
  let s := pairFlag (holdRole s) 0
  let s := s.setPair { s.pair with takeovers := (s.pair.takeovers + 1) % 2 ^ 32, lastTakeover := s.datum.t }
  let s := s.logEvent 0x60 0 0xF00E 0xFF 0
  let w := pairWindow s
  let s := (s.sec.slots.map (·.1)).foldl (fun s n => advanceKey s n w) s
  let s := s.setMac { s.mac with snCtr := s.mac.snCtr.map fun p => (p.1, snAdd p.2 512) }
  let s := closeRemote s
  let o := s.objN 0x1403 0
  let s := if o = 0 then s else s.postOperand o 0
  let s := s.setMac { s.mac with
    rxBa := s.mac.rxBa.map fun p => (p.1, { p.2 with held := [] })
    barOwed := s.mac.txBa.map fun p => (p.2.sta, p.2.tid, snAt s p.2.sta p.2.tid) }
  startRadios radioTakeover s

/-- A device that yields the role: its remote sessions end (R47), ACTIVE_OUT low, every radio stopped as a radio transmit abort and OFF (R434, R444). -/
def yieldRole (s : State) (st : PairState) : State :=
  let s := (List.finRange 3).foldl (fun s r => radioDown (abortTx r s).1 r) (closeRemote s)
  s.setPair { s.pair with st, activeOut := false, claiming := false, retryClaim := false, handing := false, missed := 0, kickAt := 0 }

/-- Every counter reservation has been acknowledged: no counter frame is owed (R444). -/
def reservationsAcked (s : State) : Bool :=
  s.pair.unacked.all fun u => match u.item with | .key .. => false | .seqCounter .. => false | _ => true

/-- The hand-over goes on once every reservation is acknowledged (R444). -/
def handOver (s : State) : State :=
  if s.pair.handing = true ∧ reservationsAcked s = true then
    let s := (List.finRange 3).foldl (fun s r => (abortTx r s).1) s
    let s := (s.mac.rxBa.map (·.2)).foldl (fun s c => flushCtx s c) s
    let s := s.setMac { s.mac with rxBa := s.mac.rxBa.map fun p => (p.1, { p.2 with held := [] }) }
    pairStat (partnerGone (yieldRole s .wait) 0) 6 1
  else s

/-! ### HEARTBEAT -/

/-- A counter's present value is sent at least every 1 ms when it has advanced since it was sent (R437). -/
def sendCounters (s : State) : State :=
  let s := (s.sec.slots.map (·.1)).foldl (fun s n => if keySent s n < (keyAt s n).counter then s.mirror 1 (keyItem s n) else s) s
  (s.mac.snCtr.map (·.1)).foldl (fun s k =>
    if snSent s (k / 16) (k % 16) = some (snAt s (k / 16) (k % 16)) then s else mirrorSn s (k / 16) (k % 16)) s

/-- HEARTBEAT_SEND: in a running state, its link up, and not FENCED (R431, R434). -/
def execHeartbeatSend (s : State) : Out := live s fun s =>
  if s.pair.st = .solo ∨ s.pair.st = .fenced ∨ s.pair.link = false ∨ 2 < s.power.now_ then s
  else
    let s := s.setPair { s.pair with hbSent := s.pair.hbSent + 1 }
    if mirroring s then sendCounters s else s

/-- A full copy begins: the mirrored part is emptied, and RESYNC_REQ is sent (R445). -/
def beginSync (s : State) : State :=
  let s := mirrorEmpty ((List.finRange 3).foldl radioDown s)
  pairStat ((s.setPair { s.pair with
    st := .syncing, copying := true, copyDone := false, progress := 0, inSeq := 1, ackOut := 0, switchHeld := false }).setDatum
      { s.datum with followRun := 0 }) 5 1

/-- STANDBY is entered once the copy is complete and Datum has followed for 16 records (R445). -/
def tryStandby (s : State) : State :=
  if s.pair.st = .syncing ∧ s.pair.copyDone = true ∧ 16 ≤ s.datum.followRun then
    s.setPair { s.pair with st := .standby, copying := false, progress := 100 }
  else s

/-- A BEGIN that waits is judged at the partner's next HEARTBEAT (R465). -/
def judgeBegin (heard : Bool) (s : State) : State :=
  if s.upd.peerTie = false then s
  else if heard then
    match beginHeard s with
    | (s, some r) => releaseCmd s .peerHeartbeat r
    | (s, none) => s
  else
    let (s, r) := beginLost s
    releaseCmd s .peerHeartbeat r

/-- What a device of its state does with a HEARTBEAT; a claim that had begun in WAIT ends with it (R432; DEDUCED, log entry
162). -/
def heartbeatIn (s : State) (h : Heartbeat) : State :=
  match s.pair.st with
  | .wait =>
    if h.state = 4 ∧ s.start.limp = false then
      beginSync (s.setPair { s.pair with claiming := false, retryClaim := false, activeOut := false })
    else s
  | .syncing => tryStandby (followActive (pairTime (s.setMac { s.mac with tsf := h.tsf }) h) h.synced)
  | .standby => followActive (pairTime (s.setMac { s.mac with tsf := h.tsf }) h) h.synced
  | .active => if h.state = 2 ∨ h.state = 3 then s else partnerGone s h.state
  | _ => s

/-- HEARTBEAT_RECEIVE: the partner's state, its health and its time record (R429, R431, R439). -/
def execHeartbeatReceive (h : Heartbeat) (s : State) : Out := live s fun s =>
  if s.pair.st = .solo ∨ s.pair.link = false then s
  else if h.pairId = s.pair.id then pairFlag s 5
  else
    let s := s.setPair { s.pair with partner := h.state, partnerHealth := h.health, partnerBusy := h.updating || h.trial, heard := true, missed := 0 }
    handOver (judgeBegin true (heartbeatIn s h))

/-- HEARTBEAT_MISSED: three in a row end SYNCING, and in STANDBY decide on failover (R431, R432, R441). -/
def execHeartbeatMissed (s : State) : Out := live s fun s =>
  if s.pair.st = .solo then s
  else
    let s := pairStat (s.setPair { s.pair with missed := s.pair.missed + 1, heard := false }) 0 1
    let s := judgeBegin false s
    if s.pair.missed < 3 then s
    else match s.pair.st with
      | .syncing => toWait s
      | .standby => if s.pair.peerIn then toWait (pairFlag s 1) else takeover s
      | .active => partnerGone s 0
      | _ => s

/-! ### MIRROR, RESYNC_DATA and their acknowledgements (R430, R436 to R438, R445) -/

/-- A frame that arrives: one with a bad CRC is counted; frames are applied in SEQ order, each exactly once. -/
def mirrorFrame (s : State) (seq : Nat) (x : MirrorItem) (crcOk : Bool) : State × Bool :=
  if crcOk = false then (pairStat s 2 1, false)
  else if seq = s.pair.inSeq then
    ((applyMirror s x).setPair { s.pair with inSeq := (seq + 1) % 2 ^ 32, ackOut := seq }, true)
  else (s, false)

/-- MIRROR. -/
def execMirror (_cls seq : Nat) (item : MirrorItem) (crcOk : Bool) (s : State) : Out := live s fun s =>
  if standsBy s then (mirrorFrame s seq item crcOk).1 else s

/-- RESYNC_DATA: the last frame completes the copy. -/
def execResyncData (_cls seq : Nat) (item : MirrorItem) (crcOk last : Bool) (progress : Nat) (s : State) : Out := live s fun s =>
  if s.pair.st = .syncing then
    let (s, took) := mirrorFrame s seq item crcOk
    if took then
      tryStandby (s.setPair { s.pair with progress := min 100 progress, copying := !last, copyDone := s.pair.copyDone || last })
    else s
  else s

/-- What the acknowledgement of one frame settles: a counter's reservation, an armed Traverse (R437, R438). -/
def frameAcked (s : State) (u : MirrorFrame) : State :=
  match u.item with
  | .key slot _ _ counter _ _ => s.setPair { s.pair with keyRes := tput s.pair.keyRes slot counter }
  | .seqCounter sta tid sn => s.setPair { s.pair with snRes := tput s.pair.snRes (16 * sta + tid) sn }
  | .traverse slot .. =>
    let t := travAt s slot
    if t.mirroring then releaseAll (setTrav s slot { t with mirroring := false }) (.mirrorAck slot) ok t.t.enc else s
  | _ => s

/-- MIRROR_ACK: cumulative by SEQ. -/
def execMirrorAck (seq : Nat) (s : State) : Out := live s fun s =>
  match s.pair.unacked.findIdx? fun u => u.seq == seq with
  | none => s
  | some i =>
    let acked := s.pair.unacked.take (i + 1)
    let s := s.setPair { s.pair with unacked := s.pair.unacked.drop (i + 1) }
    handOver (acked.foldl frameAcked s)

/-- MIRROR_RESEND: every unacknowledged frame again, counted (R430). -/
def execMirrorResend (s : State) : Out := live s fun s => pairStat s 1 s.pair.unacked.length

/-- RESYNC_REQ: the active copies every mirrored class, its SEQ starting anew (R445). -/
def execResyncReq (s : State) : Out := live s fun s =>
  if s.pair.st = .active then
    let s := partnerGone s 2
    let s := (fullCopy s).foldl (fun s p => s.mirror p.1 p.2) (s.setPair { s.pair with outSeq := 1 })
    pairStat s 5 1
  else s

/-- STAKE_MIRROR_TIMEOUT: after 1 ms the stake goes on unmirrored, and the standby returns to WAIT (R438). -/
def execStakeMirrorTimeout (slot : Fin 4) (s : State) : Out := live s fun s =>
  let t := travAt s slot.val
  if t.mirroring then
    releaseAll (partnerGone (setTrav s slot.val { t with mirroring := false }) 1) (.mirrorAck slot.val) ok t.t.enc
  else s

/-! ### Claims and the role pins (R432, R433, R441) -/

/-- WAIT_EXPIRY: 50 ms without a heartbeat. -/
def execWaitExpiry (s : State) : Out := live s fun s =>
  if s.pair.st ≠ .wait ∨ s.pair.claiming = true ∨ s.start.limp = true then s
  else if s.pair.peerIn then pairFlag s 1
  else s.setPair { s.pair with claiming := true, activeOut := true }

/-- CLAIM_SAMPLE: 20 us after ACTIVE_OUT rose. -/
def execClaimSample (s : State) : Out := live s fun s =>
  if s.pair.claiming = false ∨ s.pair.retryClaim = true then s
  else if s.pair.peerIn = false then coldClaim s
  else if s.pair.id = 1 then s.setPair { s.pair with claiming := false, activeOut := false }
  else s.setPair { s.pair with retryClaim := true }

/-- PEER_ACTIVE_CHANGE: a level that has held for 20 us. -/
def execPeerActiveChange (level : Bool) (s : State) : Out := aon s fun s =>
  let was := s.pair.peerIn
  let s := s.setPair { s.pair with peerIn := level }
  if level = true ∨ was = false ∨ s.start.phase ≠ .released then s
  else if s.pair.retryClaim then coldClaim s
  else if s.pair.st = .standby then
    if s.pair.switchHeld then takeover s
    else if s.pair.heard then pairFlag s 4
    else s
  else s

/-- A device that loses its role to its partner, or whose firmware has stalled, is FENCED until reset (R432, R434). -/
def enterFenced (s : State) : State := yieldRole (partnerGone s 0) .fenced

/-- PEER_ACTIVE_HELD: high for 100 us (R432, R433). -/
def execPeerActiveHeld (s : State) : Out := live s fun s =>
  if s.pair.peerIn = false then s
  else if s.pair.retryClaim then s.setPair { s.pair with claiming := false, retryClaim := false, activeOut := false }
  else if s.pair.st = .active ∧ s.pair.id = 1 then enterFenced s
  else s

/-- SWITCHOVER: in STANDBY, once PEER_ACTIVE_IN reads low (R432, R444). -/
def execSwitchover (s : State) : Out := live s fun s =>
  if s.pair.st ≠ .standby then s
  else
    let s := pairStat s 6 1
    if s.pair.peerIn then s.setPair { s.pair with switchHeld := true } else takeover s

/-! ### The kick timer (R434) -/

/-- A write of PAIR_KICK. -/
def pairKicked (s : State) (v : Nat) : State :=
  if bit v 0 = true ∧ s.pair.st = .active then s.setPair { s.pair with kickAt := s.now + s.pair.kickMs * 1000000 } else s

/-- PAIR_KICK. -/
def execPairKick (_core : CoreId) (v : Nat) (s : State) : Out := live s fun s => pairKicked s v

/-- PAIR_KICK_LEFT: milliseconds to the timeout, 0 outside ACTIVE. -/
def kickLeft (s : State) : Nat := if s.pair.st = .active then cdiv (s.pair.kickAt - s.now) 1000000 else 0

/-- KICK_TIMEOUT, once KICK_TIMEOUT has passed since the last write of PAIR_KICK. -/
def execKickTimeout (s : State) : Out := live s fun s =>
  if s.pair.st = .active ∧ s.pair.kickAt ≤ s.now then (enterFenced s).logEvent 0x60 4 0xF00F 0xFF 0 else s

/-! ### PAIR_CMD (R444, *Pair reasons*) -/

def pairState (reason : Nat) : Res := abortBy aState 0x60 reason

/-- PAIR_CMD: 1 SWITCHOVER, 2 RESYNC. -/
def pairCmd (v : Bytes) (s : State) : State × Res :=
  if leNat v = 1 then
    if s.pair.st ≠ .active then (s, pairState 0x601)
    else if s.pair.partner ≠ 3 then (s, pairState 0x602)
    else (handOver (s.setPair { s.pair with handing := true }), ok)
  else if s.pair.st = .syncing then (s, pairState 0x603)
  else if s.pair.st ≠ .standby then (s, pairState 0)
  else (beginSync s, ok)

end Sys2Proof.Machine
end

