-- ==== Sys2Proof/Machine/Sleep.lean ====
section
/-! DEFINITION. Datum steps as they reach every unit (R59, R214, R275, R317, R331, R334), and sleep entry and exit
(17_power R414 to R418; 21_startup_clocks R477). -/

namespace Sys2Proof.Machine
open Sys2Proof

/-! ### Steps and the advance -/

/-- What a step moves beside Datum itself: gates, formed beacons, armed Traverses (R59, R214, R275). -/
def stepTail (s : State) : State := lateStakes (chainStepped ((List.range 5).foldl gateStepped s))

/-- The write of a step completes: its held operation is answered (R317). -/
def stepDone (s : State) (q : StepReq) (r : Res) : State :=
  match q.sess with
  | none => s
  | some n =>
    match sessOf s n with
    | none => s
    | some x =>
      if waitsFor x .datumStep then
        match x.exec.bind fun e => e.todo.head? with
        | some o => release (recordCmd s o.idx o.el o.value r.1) n r []
        | none => s
      else s

/-- The oldest step waiting that a write asked for, or that the pair asked for. -/
def nextStep (s : State) (follow : Bool) : Option StepReq := s.datum.steps.find? fun q => q.follow == follow

def dropStep (s : State) (q : StepReq) : State := s.setDatum { s.datum with steps := s.datum.steps.erase q }

/-- STEP_APPLY: the applying tick of a written step (R317). -/
def execStepApply (s : State) : Out := live s fun s =>
  match nextStep s false with
  | none => s
  | some q =>
    if s.datum.running = false then s
    else
      let (s, did) := applyStep (dropStep s q) q
      if did then stepDone ((stepTail s).cmdOut 0x1202 0 s.datum.t.enc) q ok
      else stepDone s q (abortBy aRange 0x51 0)

/-- FOLLOW_STEP: the standby's own step towards the active's Datum (R334). -/
def execFollowStep (s : State) : Out := live s fun s =>
  match nextStep s true with
  | none => s
  | some q =>
    if s.datum.running = false then s
    else
      let (s, did) := applyStep (dropStep s q) q
      if did then stepTail s else s

/-- DATUM_ADVANCE: at the first AON edge after the DATUM clock runs again Datum is restored; stamps taken at Rr are of the
restored Datum (R331). -/
def execDatumAdvance (edges : Nat) (s : State) : Out := live s fun s =>
  if s.datum.running = true ∧ s.datum.restored = false then
    let s := advanceDatum s edges
    let s := s.setStart { s.start with rrStamp := s.datum.t }
    match s.power.asleep with
    | some e => (powerOut s 2 1 0 0 s.power.latch e.stamp s.datum.t).setPower { s.power with asleep := none, latch := 0 }
    | none => s
  else s

/-! ### Sleep entry (R415 to R418) -/

/-- Step 2: remote sessions end, radios enter OFF, links go down; a standby leaves STANDBY (R446). -/
def entryQuiet (s : State) : State :=
  let s := closeRemote s
  let s := (List.finRange 3).foldl (fun s r => radioDown (abortTx r s).1 r) s
  let s := (List.finRange 16).foldl offTrx s
  let s := [0, 1, 2, 3].foldl (fun s (p : Fin 4) => linkDown p s) s
  let s := ((s.release 6 0).release 6 1).release 7 0
  let s := if s.pair.st = .syncing ∨ s.pair.st = .standby then toWait s else s
  (s.release 8 0).setPair { s.pair with link := false, claiming := false, retryClaim := false, activeOut := false }

/-- Step 3: queued frames are discarded and counted; packet-buffer frames are not preserved (R415), and no service period
is open when the radios run again (R201). -/
def entryDrain (s : State) : State :=
  let n := (s.tm.queues.map fun p => p.2.frames.length).sum
  let s := s.stat 0x1321 0 8 n
  { s with
    tm := { s.tm with queues := s.tm.queues.map (fun p => (p.1, { p.2 with frames := [] })), nodes := [], dramCells := 0, cellRefs := []
                      freeCells := 131072 - s.tm.retired.length, inTx := Vector.replicate 5 none }
    pp := { s.pp with ctxs := [] }
    wired := { s.wired with rx := [] }
    mac := { s.mac with fetched := Vector.replicate 3 [], inFlight := Vector.replicate 3 [], retry := [], toPp := [], groupSent := []
                        uapsd := [], spOpen := [], spTrig := [], spHeard := [], spEarly := []
                        rxBa := s.mac.rxBa.map fun p => (p.1, { p.2 with held := [] }) } }

/-- Step 4: JESD79-5 SDRAM in self-refresh. -/
def entryDram (s : State) : State := if s.dram.st = .service then enterSelfRefresh s else s

/-- The values that a sleep entry copies to the AON (*Start-up objects*). -/
def copyStartup (s : State) : State :=
  s.setStart { s.start with limpOk := s.objF 0x1001 0 0 1 == 1, failRetry := s.objF 0x1001 0 1 2 }

/-- STANDBY: PWR_EN_MAIN is deasserted and VDD_FAB is at 0.55 V. -/
def standBy (s : State) (e : SleepEntry) : State :=
  let s := s.stat 0x1321 0 0 1
  { s with
    power := { s.power with entry := none, asleep := some e, before := s.power.now_, now_ := 3, vidFab := 10, pendingCore := []
                            grants := s.power.grants.filter fun g => g.kind == 0 }
    start := { s.start with phase := .asleep, enMain := false, locked := 0, pg := bits s.start.pg 0 4 } }

/-- HIBERNATE: only the AON domain keeps its contents, Datum having recorded D0. -/
def hibernate (s : State) (e : SleepEntry) : State :=
  let latch := s.power.latch
  let s := resetMain s
  { s with
    power := { s.power with asleep := some e, latch, now_ := 4 }
    start := { s.start with phase := .asleep, enMain := false, enHold := false, xoEn := false, refRun := 0, pg := 0 } }

/-! ### Wakes and sleep exit (R414, R418) -/

/-- The exit begins: a start-up with the latched sources as its cause; REF and the HOLD rails are up after STANDBY. -/
def beginWake (s : State) : State :=
  let standby := decide (s.power.now_ = 3)
  let cause := s.start.cause
  let s := startRequest s 2
  s.setStart { s.start with fromStandby := standby, cause := if standby then cause else 2 }

/-- ENTRY_DONE: steps 2 to 5 of *STANDBY entry events*; a wake latched meanwhile is replayed (R418). -/
def execEntryDone (s : State) : Out := live s fun s =>
  match s.power.entry with
  | none => s
  | some e =>
    let s := copyStartup (entryDrain (entryQuiet s))
    let s := if e.hibernate then hibernate s e else standBy (entryDram s) e
    if s.power.latch = 0 then s
    else beginWake ((s.stat 0x1321 0 4 1).setFlag 0x1330 0 5)

/-- Units run again in the running state held before: links and radios as configured (R414, R417). -/
def resumeUnits (s : State) : State :=
  let s := if s.dram.st = .selfRefresh then exitSelfRefresh s else s
  let s := (List.finRange 2).foldl (fun s p =>
    if ethMode s p.val = 0 then s else (s.request 6 p.val (portCharge (ethMode s p.val)) false).1) s
  let s := if s.pair.en then
      let (s, given) := s.request 8 0 32 false
      s.setPair { s.pair with link := given }
    else s
  startRadios radioUp s

/-- ENTRY_ABORTED: a unit, one of *Unit IDs* (R13), missed the bound of its step; the steps before it are undone (R417). -/
def execEntryAborted (unit step : Nat) (s : State) : Out := live s fun s =>
  match s.power.entry with
  | none => s
  | some e =>
    if unitIds.contains unit = false then s else
    let op := if e.hibernate then 2 else 1
    let s := if 2 < step then entryQuiet s else s
    let s := if 3 < step then entryDrain s else s
    let s := s.setPower { s.power with entry := none, latch := 0 }
    let s := entryRecord s op 3 unit step 0x510
    let s := powerOut s op 3 unit 0x510 0 e.stamp {}
    if 2 < step then resumeUnits s else s

/-- The exit from STANDBY once the PLLs have locked (*STANDBY exit events*). -/
def exitStandby (s : State) : State :=
  let s := s.setStart { s.start with phase := .released, fromStandby := false }
  let s := match s.power.asleep with
    | some e => powerOut (s.stat 0x1321 0 1 1) 1 1 0 0 s.power.latch e.stamp s.datum.t
    | none => s
  let s := s.setPower { s.power with
    asleep := none, latch := 0, grants := resetGrants, vidFab := if s.power.fabHeld then 70 else min 70 (vidOf (s.objN 0x1102 0))
    now_ := if s.start.limp then 5 else s.power.before }
  let s := (List.finRange 8).foldl (fun s c => s.modCore c fun k => { k with held := c != 0, point := 0 }) s
  if s.start.limp then (s.setDatum (stopDatum s.datum)).setPair { s.pair with st := .wait }
  else resumeUnits (coreDvfsWritten (if s.pair.en then s.setPair { s.pair with st := .wait, missed := 0 } else s) 1)

/-- PLL_LOCK: the PLLs of the start-up have locked. After STANDBY the device resumes; otherwise reset is released and the
boot ROM runs (R477). -/
def execPllLock (s : State) : Out := aon s fun s =>
  if s.start.phase = .pll then
    let s := s.setStart { s.start with locked := startPlls s.start.limp }
    if s.start.fromStandby then exitStandby s else s
  else s

/-- Does an event of a source wake the entry that is made: an ALARM once Datum has reached the alarm in STANDBY, and with an
alarm set; PCIE in the endpoint role (*Wake sources*)? The AON counter's reach in HIBERNATE is the event itself. -/
def wakeCounts (s : State) (e : SleepEntry) (source : Nat) : Bool :=
  if source = 1 then leNat e.alarm != 0 && (e.hibernate || decide ((datumAt e.alarm 0).units ≤ s.datum.t.units))
  else if source = 5 then !s.wired.pcieRoot
  else true

/-- WAKE: an event of an enabled source; during entry it is latched (R418), after a failed start-up it starts another
(R478). -/
def execWake (source : Fin 6) (s : State) : Out := aon s fun s =>
  let enabled (e : SleepEntry) : Bool := bit e.mask source.val && (!e.hibernate || decide (source.val < 3)) && wakeCounts s e source.val
  let latched (s : State) : State := s.setPower { s.power with latch := setBit s.power.latch source.val true }
  if s.start.phase = .failed then startRequest s 2
  else match s.power.entry, s.power.asleep with
    | some e, _ => if enabled e then latched s else s
    | none, some e => if s.start.phase = .asleep ∧ enabled e = true then beginWake (latched s) else s
    | none, none => s

end Sys2Proof.Machine
end

