-- ==== Sys2Proof/Machine/Engine.lean ====
section
/-! DEFINITION. The dictionary engine's operations: READ, WRITE, STAGE, CLOSE, STAKE, ABORT, SUBSCRIBE and END, and the
execution of a session's operations in order (02_object_dictionary R37 to R40, R48 to R58, R62, R64, R501, R502). -/

namespace Sys2Proof.Machine
open Sys2Proof

/-! ### Rights (R48, R352) -/

/-- Does the session's right permit an operation? -/
def mayDo (x : Session) (op idx el : Nat) : Bool :=
  x.rights == 2 || op == 1 || op == 7 || op == 0x13 ||
    (x.rights == 4 && op == 2 && el == 0 && [0x1601, 0x1602, 0x7F02].contains idx)

/-! ### CMD objects -/

/-- The code of an access, as DESCRIBE and the declaration write it. -/
def Acc.code : Acc → Nat
  | .ro => 0 | .rw => 1 | .wo => 2 | .rs => 3 | .rl => 4 | .cmd => 5

/-- The greatest length of a value. -/
def Len.max : Len → Nat
  | .exact n => n
  | .upTo n => n
  | .oneOf l => l.foldl Nat.max 0
  | .between _ hi => hi

/-- DESCRIBE: type, access, persistence, size and default of the object named (*Dictionary objects*). -/
def describe (v : Bytes) (s : State) : State × Res :=
  let idx := fld v 0 2
  let el := fld v 2 2
  match findObj s idx el with
  | .error r => (s, r)
  | .ok row => (s.cmdOut 0x11 0 (Config.describeRecord row.typ (Acc.code row.acc) row.pers (Len.max row.len) (s.dflt idx el)), ok)

/-- The functions of the abort command that name a radio, a lane, a channel or a thread; the bound of each (R64). -/
def abortUnit (fn inst : Nat) (s : State) : Option (State × Bool × Nat) :=
  match fn with
  | 1 => if h : inst < 3 then some (takeDeferred (abortTx ⟨inst, h⟩ s).1, (abortTx ⟨inst, h⟩ s).2, 6000) else none
  | 2 => if h : inst < 3 then some (takeDeferred (abortRx ⟨inst, h⟩ s).1, (abortRx ⟨inst, h⟩ s).2, 4000) else none
  | 3 => if h : inst < 12 then some ((abortLane ⟨inst, h⟩ s).1, (abortLane ⟨inst, h⟩ s).2, 2000) else none
  | 4 => if h : inst < 64 then some ((abortDma ⟨inst, h⟩ s).1, (abortDma ⟨inst, h⟩ s).2, 20000) else none
  | 5 =>
    if inst < 512 then
      let ran := (s.thread inst).st != .free
      some (if ran then abortThread s inst else s, ran, 10000)
    else none
  | 7 => if inst = 0 then some ((abortMigration s).1, (abortMigration s).2, 1000000) else none
  | 8 => if inst = 0 then some ((abortUpdate s).1, (abortUpdate s).2, 50000000) else none
  | _ => none

/-- A refused write of the abort command is what a READ of it returns (R64, R50). -/
def abortRefused (s : State) (v : Bytes) (r : Res) : State × Res :=
  (s.setDict { s.dict with lastAbort := v, abortCode := r.1, abortNs := 0 }, r)

/-- The abort command (R64). -/
def abortCmd (v : Bytes) (s : State) : State × Res :=
  let fn := fld v 0 1
  let inst := fld v 2 2
  if fn = 6 then
    if 1 ≤ inst ∧ inst ≤ 4 then abortTrav s (inst - 1) else abortRefused s v (dictAbort aRange 0x14)
  else match abortUnit fn inst s with
    | some (s, ran, bound) => (s.abortDone fn inst 0 ran bound, ok)
    | none => abortRefused s v (dictAbort aRange 0x14)

/-- How an operation stands: answered, or held for an event; a held one will answer with so many bytes at most. -/
inductive OpRes where
  | done (r : Res) (v : Bytes)
  | hold (w : Suspend) (len : Nat)

/-- A command of a unit with its own table, that answers at once. -/
def unitCmd (env : Env) (x : Session) (idx : Nat) (v : Bytes) (s : State) : State × Res :=
  match idx with
  | 0x0011 => describe v s
  | 0x7F80 => diagTx (if isLocal x.num then 0 else x.keySlot) v s
  | 0x3102 => staAlloc v s
  | 0x3103 => staFree v s
  | 0x3202 => baCmd v s
  | 0x3601 => twtCmd v s
  | 0x3812 => memberCmd v s
  | 0x4101 => ruleCmd v s
  | 0x4201 => bridgeCmd v s
  | 0x4310 => routeCmd v s
  | 0x4410 => flowCmd v s
  | 0x5832 => pcieCfg env v s
  | 0x5851 => i2cXfer env v s
  | 0x1222 => capturePop v s
  | 0x6001 => keyCmd v s
  | 0x6004 => rekeyPop s
  | 0x6110 => attest v s
  | 0x6112 => extend x.num v s
  | 0x6122 => fuseCmd env v s
  | 0x6130 => debugUnlock env v s
  | 0x6404 => migrateCmd v s
  | 0x1301 => powerCmd v s
  | 0x1402 => pairCmd v s
  | 0x7F02 => logAck v s
  | 0x1600 => benchmark x.num v s
  | _ => (s, ok)

/-- A write of a CMD object starts its action (R10, R50); a later READ returns the write and its code. -/
def writeCmd (env : Env) (x : Session) (idx el : Nat) (v : Bytes) (s : State) : State × OpRes :=
  if idx = 0x130 then
    let (s, r) := abortCmd v s
    (s, .done r [])
  else
    let s := s.cmdOut idx el []
    let answered (a : State × Res) : State × OpRes := (recordCmd a.1 idx el v a.2.1, .done a.2 [])
    let maybe (a : State × Option Res) (w : Suspend) : State × OpRes :=
      match a.2 with
      | some r => answered (a.1, r)
      | none => (a.1, .hold w 0)
    match idx with
    | 0x4002 => maybe (versionCmd v s) .reclaim
    | 0x1202 => maybe (stepWrite x.num v s) .datumStep
    | 0x1601 => maybe (updateCmd env v s) .peerHeartbeat
    | _ => answered (unitCmd env x idx v s)

/-! ### RW and WO objects -/

/-- What the owning unit does with a direct write that has passed the engine's checks. -/
def unitWrite (idx el : Nat) (v : Bytes) (s : State) : State × Res :=
  let old := s.objN idx el
  if isFlagObj idx then (s.clearFlags idx el (leNat v), ok)
  else if idx = 0x1602 then updateData v s
  else if idx = 0x3100 then staEntry el v s
  else if (tableOf idx).isSome then tableWrite idx el v s
  else if idx = 0x4000 then ppModeCmd v s
  else
    let s := mirrorChange (s.setObj idx el v) idx el
    match idx with
    | 0x1201 => (incrWritten s, ok)
    | 0x1210 => (if h : el - 1 < 4 then tpoConfigured s ⟨el - 1, h⟩ else s, ok)
    | 0x1312 => (coreDvfsWritten s el, ok)
    | 0x5842 => (gpioWritten s old (leNat v), ok)
    | _ => (s, ok)

/-- Bit 23 of a STATE detail: the object is RW and the value could have been staged; R251 states 0 for PP_MODE (R50). -/
def stateBit (acc : Acc) (idx : Nat) (r : Res) : Res :=
  if r.1 = aState ∧ acc = .rw ∧ idx ≠ 0x4000 then (r.1, r.2 + 0x800000) else r

/-! ### Firmware-served objects (R38) -/

/-- The request is passed to firmware as an operand; the operation waits for its answer. -/
def askFirmware (s : State) (n : Nat) (o : Op) (size : Nat) : State × OpRes :=
  let id := s.dict.nextReq
  let s := s.setDict { s.dict with fwReqs := s.dict.fwReqs ++ [{ id, sess := n, op := o, size }], nextReq := id + 1 }
  (s.postFixed 0, .hold (.firmware id) 0)

/-! ### WRITE and STAGE -/

/-- What an access code refuses of a direct WRITE (R10). -/
def writeDenied : Acc → Option Res
  | .ro => some (dictAbort aAccess 0x12)
  | .rs => some (dictAbort aStageOnly 0x15)
  | .rl => some (dictAbort aLocked 0x16)
  | _ => none

/-- A refused write of a CMD object is recorded too (R50); POWER_CMD's record has its own place for the refusal. -/
def writeRefused (s : State) (acc : Acc) (idx el : Nat) (v : Bytes) (r : Res) : State × OpRes :=
  if acc = .cmd then
    if idx = 0x130 then ((abortRefused s v r).1, .done r [])
    else if idx = 0x1301 then (recordCmd (powerOut s (fld v 0 1) 2 (r.2 / 0x1000000) (r.2 % 65536) 0 {} {}) idx el v r.1, .done r [])
    else (recordCmd (s.cmdOut idx el []) idx el v r.1, .done r [])
  else (s, .done r [])

/-- The engine's checks of a value: those of its table, the part's own range of COMPAT_LEVEL, the fields that a
TPO_CFG's mode uses, and the runs of a SLOT_RUNS value (R37, R205, R322, R501). -/
def engineRes (s : State) (r : ObjRow) (idx el : Nat) (v : Bytes) : Res :=
  if valueRes r v ≠ ok then valueRes r v
  else if idx = 0x0004 ∧ ¬ (s.part.compatMin ≤ leNat v ∧ leNat v ≤ s.part.compatMax) then dictAbort aRange 0x14
  else if idx = 0x1210 ∧ el ≠ 0 ∧ tpoOk v = false then dictAbort aRange 0x14
  else if idx = 0x3803 ∧ el ≠ 0 ∧ runsOk v = false then dictAbort aRange 0x14
  else ok

/-- WRITE: access, type, range and reservation, then the unit (R10, R37, R51, R501). -/
def opWrite (env : Env) (x : Session) (o : Op) (s : State) : State × OpRes :=
  match findObj s o.idx o.el with
  | .error r => (s, .done r [])
  | .ok row =>
    match writeDenied row.acc with
    | some r => (s, .done r [])
    | none =>
      let r := engineRes s row o.idx o.el o.value
      let o := { o with value := scrub row o.value }
      if r ≠ ok then writeRefused s row.acc o.idx o.el o.value r
      else if row.acc ≠ .cmd ∧ reservedBy s none o.idx o.el = true then (s, .done (dictAbort aBusy 1) [])
      else if isFwIdx o.idx then askFirmware s x.num o 0
      else if row.acc = .cmd then writeCmd env x o.idx o.el o.value s
      else
        let a := unitWrite o.idx o.el o.value s
        (a.1, .done (stateBit row.acc o.idx a.2) [])

/-- What an access code refuses of a STAGE (R55). -/
def stageDenied : Acc → Option Res
  | .ro => some (dictAbort aAccess 0x12)
  | .cmd => some (dictAbort aAccess 0x12)
  | .rl => some (dictAbort aLocked 0x16)
  | _ => none

/-- RANGE and TYPE aborts of the owning unit, found by running its write on a copy of the state. -/
def unitRange (idx el : Nat) (v : Bytes) (s : State) : Res :=
  if isFwIdx idx then ok
  else if idx = 0x140 then (if ruleOk s v then ok else dictAbort aRange 0x14)
  else
    let r := (unitWrite idx el v s).2
    if r.1 = aRange ∨ r.1 = aType then r else ok

/-- Add a write to a Traverse, or replace the earlier one to the same object in its place (R54, R56). -/
def addStaged (st : Staged) (idx el : Nat) (v : Bytes) : Staged :=
  if stakesAt st idx el then st.map fun p => if p.1 = idx ∧ p.2.1 = el then (idx, el, v) else p else st ++ [(idx, el, v)]

def stagedBytes (st : Staged) : Nat := (st.map fun p => p.2.2.length).sum

/-- STAGE (R54, R55). -/
def opStage (x : Session) (o : Op) (s : State) : State × Res :=
  match findObj s o.idx o.el with
  | .error r => (s, r)
  | .ok row =>
    match stageDenied row.acc with
    | some r => (s, r)
    | none =>
      let e := engineRes s row o.idx o.el o.value
      let o := { o with value := scrub row o.value }
      let r := if e = ok then unitRange o.idx o.el o.value s else e
      let own := travOf s x.num
      let t : Traverse := match own with | some k => travAt s k | none => {}
      let st := addStaged t.staged o.idx o.el o.value
      if r ≠ ok then (s, r)
      else if t.st = .armed ∨ t.st = .applying then (s, travState)
      else if reservedBy s own o.idx o.el then (s, dictAbort aBusy 1)
      else if 512 < st.length then (s, dictAbort aFull 0x19)
      else if 65536 < stagedBytes st then (s, dictAbort aFull 6)
      else
        match own with
        | some k => (watchTrav (setTrav s k { t with st := .opened, staged := st, readSet := [] }), ok)
        | none =>
          match findLt 4 fun k => (travAt s k).st == .idle with
          | none => (s, dictAbort aBusy 5)
          | some k =>
            let t := travAt s k
            (watchTrav (setTrav s k { st := .opened, owner := x.num, staged := st, t := t.t, result := t.result, late := t.late }), ok)

/-! ### READ (R37, R40, R62) -/

/-- The APPLYING slot that holds a READ of elements `el` to `el + n - 1` until it has latched (R62). -/
def applyingSlot (s : State) (idx el n : Nat) : Option Nat :=
  findLt 4 fun k => (travAt s k).st == .applying && (travAt s k).staged.any fun p => p.1 == idx && decide (el ≤ p.2.1 ∧ p.2.1 < el + n)

/-- One element. -/
def readOne (s : State) (idx el : Nat) : State × Res × Bytes :=
  match findObj s idx el with
  | .error r => (s, r, [])
  | .ok row => if row.acc = .wo then (s, dictAbort aAccess 0x12, []) else readObj s row idx el

/-- Successive elements, whole ones, as many as fit, up to the first that does not exist or cannot be read. -/
def readRange : Nat → Nat → Nat → Nat → State → Bytes → State × Bytes
  | 0, _, _, _, s, acc => (s, acc)
  | n + 1, idx, el, room, s, acc =>
    let (s', r, v) := readOne s idx el
    if r ≠ ok ∨ room < acc.length + v.length then (s, acc) else readRange n idx (el + 1) room s' (acc ++ v)

/-- READ, with RANGE in bit 0 of OPFLAGS; `room` bytes are free for the value. A value that a READ without RANGE carries is
ignored (DESIGN CHOICE; log entry 142). A poisoned word ends it ABORTED (R449). -/
def opRead (env : Env) (x : Session) (o : Op) (room : Nat) (s : State) : State × OpRes :=
  let range := bit o.flags 0
  let n := if range then leNat o.value else 1
  match findObj s o.idx o.el with
  | .error r => (s, .done r [])
  | .ok row =>
      if row.acc = .wo then (s, .done (dictAbort aAccess 0x12) [])
      else if range = true ∧ o.value.length ≠ 2 then (s, .done (dictAbort aType 0x13) [])
      else
        match applyingSlot s o.idx o.el (max 1 n) with
        | some k => (s, .hold (.latch k) 0)
        | none =>
          if range = true ∧ n = 0 then (s, .done ok [])
          else if isFwIdx o.idx then askFirmware s x.num o (match row.len with | .exact k => if range then k else 0 | _ => 0)
          else if env.poisoned then (s, .done (dictAbort aAborted 0xC) [])
          else if range then
            let (_, r, _) := readOne s o.idx o.el
            if r ≠ ok then (s, .done r [])
            else
              let (s, v) := readRange n o.idx o.el room s []
              (s, .done ok v)
          else
            let (s, r, v) := readOne s o.idx o.el
            (s, .done r v)

/-! ### SUBSCRIBE and notifications (R52, R53) -/

/-- The sum of the companion counters of a flag object's bits. -/
def evtSum (s : State) (idx el : Nat) : Nat :=
  if isFlagObj idx then ((List.range 32).map fun b => let c := counterOf idx el b; s.objN c.1 c.2).sum else 0

/-- EVT: the companion counter of the lowest set flag. -/
def evtOf (s : State) (idx el : Nat) : Nat :=
  if isFlagObj idx then
    match findLt 32 fun b => bit (s.objN idx el) b with
    | some b => let c := counterOf idx el b; s.objN c.1 c.2
    | none => 0
  else 0

/-- A sample of an object, none when it cannot be read. Whether firmware answers for an object it serves, and with what value,
is free (log entry 36). -/
def sample (s : State) (idx el : Nat) : Option (State × Bytes) :=
  match findObj s idx el with
  | .error _ => none
  | .ok row =>
    if isFwIdx idx then
      let (k, s) := s.draw
      let n := match row.len with | .upTo n => k / 2 % (n + 1) | l => Len.max l
      if k % 2 = 0 then none else some ((s.drawBytes n).2, (s.drawBytes n).1)
    else if idx = 0x1200 ∧ s.datum.restored = false then none
    else if clearsOnRead idx then some (s, s.objB idx el)
    else
      let (s, r, v) := readObj s row idx el
      if r = ok then some (s, v) else none

/-- *Notification value*. -/
def notifyValue (s : State) (nseq idx el : Nat) (v : Bytes) : Bytes := le 4 nseq ++ s.datum.t.enc ++ le 4 (evtOf s idx el) ++ v

/-- The instant at which the period runs out again: the next whole number of periods from the first notification (R53). -/
def nextPeriod (s : State) (u : Sub) : Sub :=
  let p := u.periodMs * 1000000
  if u.nextAt ≤ s.now ∧ p ≠ 0 then { u with nextAt := u.nextAt + ((s.now - u.nextAt) / p + 1) * p } else u

/-- One sample of a subscription: a notification is sent, or is owed (R53). The SEQ of its header is not stated and is free
(log entry 38). -/
def sendNotify (s : State) (u : Sub) : State :=
  let put (s : State) (u' : Sub) : State :=
    s.setDict { s.dict with subs := s.dict.subs.map fun y => if y.sess = u.sess ∧ y.idx = u.idx ∧ y.el = u.el then u' else y }
  match sample s u.idx u.el, sessOf s u.sess with
  | some (s, v), some x =>
    let n := (u.nseq + 1) % 2 ^ 32
    let (q, s) := s.draw
    let val := notifyValue s n u.idx u.el v
    let body := le 1 8 ++ le 1 0 ++ le 2 u.idx ++ le 2 u.el ++ le 2 val.length ++ val
    let pdu := if isLocal u.sess then plainPdu 0x40 u.sess (q % 2 ^ 32) 1 body else sealPdu x 0x40 2 (q % 2 ^ 32) 1 body
    put (sendRemote s x.tr pdu) { nextPeriod s u with nseq := n, lastAt := s.now, lastVal := some v, lastEvt := evtSum s u.idx u.el, owed := false }
  | none, _ => put { s with free := s.free + 1 } { nextPeriod s u with owed := true }
  | _, none => s

/-- The codes and ranges of a subscription value. -/
def subRangeOk (v : Bytes) : Bool :=
  let mode := fld v 0 1
  decide (mode ≤ 3) && (mode == 0 || decide (fld v 2 2 ≤ 60000)) &&
    (mode < 2 || decide (100 ≤ fld v 4 4 ∧ fld v 4 4 ≤ 86400000))

/-- SUBSCRIBE. -/
def opSubscribe (x : Session) (o : Op) (s : State) : State × Res :=
  match findObj s o.idx o.el with
  | .error r => (s, r)
  | .ok row =>
      if row.acc = .wo then (s, dictAbort aAccess 0x12)
      else if o.value.length ≠ 8 then (s, dictAbort aType 0x13)
      else if subRangeOk o.value = false then (s, dictAbort aRange 0x14)
      else
        let rest := s.dict.subs.filter fun u => !(u.sess == x.num && u.idx == o.idx && u.el == o.el)
        if fld o.value 0 1 = 0 then (s.setDict { s.dict with subs := rest }, ok)
        else if 64 ≤ rest.length ∨ 16 ≤ (rest.filter fun u => u.sess == x.num).length then (s, dictAbort aFull 9)
        else
          let u : Sub := { sess := x.num, idx := o.idx, el := o.el, mode := fld o.value 0 1, minMs := fld o.value 2 2, periodMs := fld o.value 4 4
                           nextAt := s.now }
          (sendNotify (s.setDict { s.dict with subs := rest ++ [u] }) u, ok)

/-! ### One operation (R39, R48, R502) -/

/-- STAKE: T is returned, to a paired active only when the standby has acknowledged the armed Traverse (R58, R438). -/
def opStake (x : Session) (o : Op) (s : State) : State × OpRes :=
  match travStake s x.num o.value (bit o.flags 1) with
  | (s, r, none) => (s, .done r [])
  | (s, r, some k) =>
    let t := travAt s k
    if mirroring s then
      let s := s.mirror 6 (.traverse k t.staged t.t.sec t.t.ns t.t.frac t.persist)
      (setTrav s k { t with mirroring := true }, .hold (.mirrorAck k) 12)
    else (s, .done r t.t.enc)

/-- CLOSE: it is held while firmware is asked for what the evaluated rules name (R38, R57). -/
def opClose (x : Session) (s : State) : State × OpRes :=
  match travOf s x.num with
  | none => (s, .done travState [])
  | some k =>
    let l := fwWanted s (travAt s k).staged []
    if (travAt s k).st = .opened ∧ l ≠ [] then (askClosure s x.num k [] l, .hold (.closure k) 0)
    else ((travClose s x.num).1, .done (travClose s x.num).2 [])

/-- CLOSE, ABORT and END take no value (R37). -/
def noValue (o : Op) (s : State) (f : State → State × Res) : State × OpRes :=
  if o.value.isEmpty then ((f s).1, .done (f s).2 []) else (s, .done (dictAbort aType 0x13) [])

/-- One operation of a session; `room` bytes are free for a value. OPEN_1 to OPEN_3 inside a PDU of an open remote session are
answered AUTH 7000_001Eh, and AUTH_FAIL counts none of them: R502 states only local transports (DESIGN CHOICE; log entry
143). -/
def runOp (env : Env) (x : Session) (o : Op) (room : Nat) (s : State) : State × OpRes :=
  if [1, 2, 3, 4, 5, 6, 7, 8, 0x10, 0x11, 0x12, 0x13].contains o.opcode = false then (s, .done (dictAbort aRange 0x1B) [])
  else if o.opcode = 8 then (s, .done (dictAbort aAccess 0x1D) [])
  else if 0x10 ≤ o.opcode ∧ o.opcode ≤ 0x12 then
    (s, .done (if isLocal x.num then dictAbort aAccess 0x1C else dictAbort aAuth 0x1E) [])
  else if mayDo x o.opcode o.idx o.el = false then
    match (if o.opcode = 2 then findObj s o.idx o.el else .error ok) with
    | .ok row => writeRefused s row.acc o.idx o.el o.value (dictAbort aAccess 4)
    | .error _ => (s, .done (dictAbort aAccess 4) [])
  else match o.opcode with
    | 1 => opRead env x o room s
    | 2 => opWrite env x o s
    | 3 => ((opStage x o s).1, .done (opStage x o s).2 [])
    | 4 => if o.value.isEmpty then opClose x s else (s, .done (dictAbort aType 0x13) [])
    | 5 => opStake x o s
    | 6 => noValue o s fun s => travAbortOwn s x.num
    | 7 => ((opSubscribe x o s).1, .done (opSubscribe x o s).2 [])
    | _ => noValue o s fun s => (releaseSession s x.num, ok)

/-! ### A session's operations in order (R39, R40) -/

/-- Run what remains of an execution, until it ends or an operation is held. -/
def runExec (env : Env) (n : Nat) : Nat → State → State
  | 0, s => s
  | fuel + 1, s =>
    match sessOf s n with
    | none => s
    | some x =>
      match x.exec with
      | none => s
      | some e =>
        if e.wait.isSome then s
        else match e.todo with
          | [] => finishExec s n e
          | o :: _ =>
            let push (s : State) (r : Res) (v : Bytes) : State :=
              let a := answerOp o r v
              let e := pushResp e o a
              let e := if o.opcode = 0x13 ∧ r = ok then { e with ending := true } else e
              setExec { s with lastResp := some a } n e
            if e.room < 14 then noRoom s n e o
            else if e.skipping then runExec env n fuel (push s (dictAbort aAborted 0) [])
            else match runOp env x o (e.room - 14) s with
              | (s', .done r v) =>
                if e.room < 14 + v.length then noRoom s n e o else runExec env n fuel (push s' r v)
              | (s', .hold w len) =>
                if e.room < 14 + len then noRoom s n e o else setExec s' n { e with wait := some w }

/-- What is left of an execution, and the end of it. -/
def runLeft (env : Env) (n : Nat) (s : State) : State :=
  match (sessOf s n).bind (·.exec) with
  | none => s
  | some e => runExec env n (e.todo.length + 1) s

/-- A PDU begins to execute (R49). -/
def startPdu (env : Env) (n : Nat) (p : Pdu) (s : State) : State :=
  let s := modSess s n fun x => { x with
    nextSeq := p.seq + 1, waiting := x.waiting.filter fun q => q.seq != p.seq
    exec := some { seq := p.seq, todo := p.ops, room := pduRoom x.tr - 14, ending := p.seq == 0xFFFFFFFF } }
  runLeft env n s

/-- A command of the table that names one operation: it runs outside the SEQ order, when its session is open and executes
nothing else. -/
def directOp (env : Env) (n : Nat) (o : Op) (s : State) : State :=
  match sessOf s n with
  | none => s
  | some x =>
    if x.opened = false ∨ x.exec.isSome then s
    else runLeft env n (setExec s n { seq := x.nextSeq, todo := [o], room := pduRoom x.tr - 14, direct := true })

/-- A READ held for a latching stake is answered anew, or waits for another slot (R62). -/
def reread (n : Nat) (s : State) : State :=
  match sessOf s n with
  | none => s
  | some x =>
    match x.exec with
    | none => s
    | some e =>
      match e.todo with
      | [] => s
      | o :: _ =>
        match opRead {} x o (e.room - 14) s with
        | (s', .done r v) =>
          if e.room < 14 + v.length then noRoom s n e o else release s' n r v
        | (s', .hold w len) =>
          if e.room < 14 + len then noRoom s n e o else setExec s' n { e with wait := some w }

end Sys2Proof.Machine
end

