-- ==== Sys2Proof/Machine/Pdu.lean ====
section
/-! DEFINITION. Velmoti PDUs: their reception, the opening of remote sessions, the session order and its timers
(02_object_dictionary R41 to R49, R351, R352). -/

namespace Sys2Proof.Machine
open Sys2Proof

/-! ### Discards -/

/-- A PDU discarded without answer, as R41 and R49 count it. -/
def discardPdu (s : State) : State := s.addObjF 0x0112 2 0 4 1

/-- A PDU that fails authentication is discarded without answer (R45). -/
def gcmFail (s : State) : State := s.addObjF 0x0112 1 0 4 1

/-! ### Opening (R44, R46) -/

/-- An answer of the opening, in the clear. -/
def openAnswer (s : State) (tr : Transport) (sess seq : Nat) (r : RespOp) : State :=
  sendRemote { s with lastResp := some r } tr (plainPdu 0x80 sess seq 1 (encResp r))

/-- A refusal of OPEN_1: AUTH refusals are counted. -/
def open1Refused (s : State) (tr : Transport) (o : Op) (r : Res) : State :=
  openAnswer (if r.1 = aAuth then s.addObjF 0x0112 0 0 4 1 else s) tr 0 0 (answerOp o r [])

/-- Open remote sessions, at most 16 (R46). -/
def openRemote (s : State) : Nat := (s.dict.sessions.filter fun x => x.opened && !isLocal x.num).length

/-- The number that OPEN_2 assigns: the lowest one free, else the oldest opening that never completed gives way (log entry
39). -/
def openNumber (s : State) : Nat :=
  match findLt 255 fun i => (sessOf s (i + 1)).isNone with
  | some i => i + 1
  | none => ((s.dict.sessions.find? fun x => !x.opened).map (·.num)).getD 1

/-- Rights under a key slot: 0 when the slot is empty (R46, R48). -/
def slotRights (s : State) (k : Nat) : Nat :=
  if k < 1 ∨ 8 < k ∨ s.objB 0x0110 k = [] then 0 else s.objN 0x0111 k

/-- Why OPEN_1 is refused (R46, R350, R351, R352). -/
def open1Refusal (s : State) (tr : Transport) (v : Bytes) : Option Res :=
  if v.length ≠ 89 then some (dictAbort aType 0x13)
  else if s.sec.entropyOk = false then some (abortBy aRefused 0x21 0x10B)
  else if s.sec.idFault = true ∧ tr ≠ .field then some (abortBy aRefused 0x21 0x101)
  else if slotRights s (fld v 32 1) = 0 then some (dictAbort aAuth 0x1E)
  else if 16 ≤ openRemote s then some (dictAbort aFull 0x1F)
  else none

/-- OPEN_2: the device's nonce, ephemeral key and signature under a new session number. -/
def openSession (s : State) (tr : Transport) (o : Op) : State :=
  let k := fld o.value 32 1
  let nm := sub o.value 0 32
  let em := sub o.value 33 56
  let n := openNumber s
  let (nd, s) := s.drawBytes 32
  let (ed, s) := s.drawBytes 56
  let msg := ascii "VLM2" ++ nm ++ le 1 k ++ em ++ le 2 n ++ nd ++ ed
  let sig := if s.sec.idFault then zeros 114 else (List.range 114).map (Config.identitySign msg)
  let rights := if s.sec.idFault then (if slotRights s k = 2 then 4 else 3) else slotRights s k
  let x : Session := { num := n, tr := tr, opened := false, rights := rights, keySlot := k, nm := nm, nd := nd, em := em, ed := ed, openedAt := s.now }
  let s := s.setDict { s.dict with sessions := (s.dict.sessions.filter fun y => y.num != n) ++ [x] }
  openAnswer s tr n 0 { answerOp o ok (le 2 n ++ nd ++ ed ++ sig) with detail := if s.sec.idFault then det 0x21 0x101 else 0 }

/-- At most four OPEN_1 are answered in a second (R46); the seconds are those that begin with an OPEN_1 (log entry 39). -/
def openOne (s : State) (tr : Transport) (o : Op) : State :=
  let fresh : Bool := s.dict.open1Count == 0 || decide (s.dict.open1Since + 1000000000 ≤ s.now)
  if fresh = false ∧ 4 ≤ s.dict.open1Count then s
  else
    let s := s.setDict { s.dict with
      open1Count := if fresh then 1 else s.dict.open1Count + 1
      open1Since := if fresh then s.now else s.dict.open1Since }
    match open1Refusal s tr o.value with
    | some r => open1Refused s tr o r
    | none => openSession s tr o

/-- The session keys (R44). -/
def sessionKeys (x : Session) : Bytes :=
  shake 72 (ascii "VELMOTI" ++ (List.range 56).map (Config.x448 x.ed x.em) ++ x.nm ++ x.nd ++ le 2 x.num)

/-- OPEN_3: the session opens, or AUTH is answered and the opening stays; a seventeenth session does not open (R44, R46, R49;
log entry 39). -/
def openThree (env : Env) (x : Session) (o : Op) (s : State) : State :=
  if env.sigOk = false ∨ o.value.length ≠ 114 ∨ x.openedAt + 5000000000 < s.now then
    openAnswer (s.addObjF 0x0112 0 0 4 1) x.tr x.num 1 (answerOp o (dictAbort aAuth 0x1E) [])
  else if 16 ≤ openRemote s then openAnswer s x.tr x.num 1 (answerOp o (dictAbort aFull 0x1F) [])
  else
    let y := { x with opened := true, keys := sessionKeys x, nextSeq := 2 }
    let a := answerOp o ok []
    let b := sealPdu y 0x80 1 1 1 (encResp a)
    let s := modSess s x.num fun _ => { y with stored := [(1, b)] }
    sendRemote { s with lastResp := some a } x.tr b

/-! ### The order of a session (R49) -/

/-- A copy of a PDU already in the order: its stored response again, once it has been executed; otherwise it is dropped, and a
local channel is freed (R43). -/
def oldPdu (s : State) (x : Session) (seq : Nat) : State :=
  match x.stored.find? fun p => p.1 == seq with
  | some p => deliver s x p.2
  | none =>
    let runs : Bool := match x.exec with | some e => e.seq == seq && !e.direct | none => false
    if runs then modSess s x.num fun x => { x with held := x.held ++ [seq] }
    else if isLocal x.num then answerChan s (chanOfSess x.num) []
    else s

/-- A PDU of a session whose body divides: it executes, waits, or is discarded. -/
def acceptPdu (env : Env) (x : Session) (p : Pdu) (s : State) : State :=
  if p.seq < x.nextSeq then oldPdu s x p.seq
  else if x.nextSeq + 8 < p.seq then
    (if isLocal x.num then answerChan (discardPdu s) (chanOfSess x.num) [] else discardPdu s)
  else if p.seq = x.nextSeq ∧ x.exec.isNone then startPdu env x.num p s
  else if x.waiting.any (fun q => q.seq == p.seq) then s
  else modSess s x.num fun x => { x with waiting := x.waiting ++ [p] }

/-! ### Remote PDUs -/

/-- Does the body of an encrypted PDU authenticate as this plaintext: its AES-256-GCM sealing under the request key and salt,
direction byte 0 and SEQ, with the header as additional data (R44, R45)? -/
def authentic (x : Session) (b plain : Bytes) : Bool :=
  let nonce := sub x.keys 64 4 ++ le 1 0 ++ zeros 3 ++ le 4 (pduSeq b)
  pduBody b == (List.range (plain.length + 16)).map (Config.gcmSeal (sub x.keys 0 32) nonce (b.take 12) plain)

/-- A PDU of an open remote session: authenticated, then divided. It is answered on the transport it came by. -/
def remotePdu (env : Env) (tr : Transport) (b : Bytes) (plain : Bytes) (x : Session) (s : State) : State :=
  let copy : Bool := pduEnc b == false && pduSeq b == 1 && (match splitOps (pduCount b) (pduBody b) with
    | some [o] => o.opcode == 0x12
    | _ => false)
  if copy then
    match x.stored.find? fun p => p.1 == 1 with
    | some p => sendRemote s tr p.2
    | none => s
  else if pduEnc b = false ∨ authentic x b plain = false then gcmFail s
  else
    match splitOps (pduCount b) plain with
    | none => discardPdu s
    | some ops =>
      let s := modSess s x.num fun x => { x with tr }
      acceptPdu env { x with tr } { seq := pduSeq b, enc := true, ops } s

/-- A PDU on FIELD or UDP (R41, R45, R49). -/
def fromRemote (env : Env) (tr : Transport) (b : Bytes) (plain : Bytes) (s : State) : State :=
  let opens : Option Op := if pduEnc b then none else loneOpen1 b
  if headerOk b = false then discardPdu s
  else if pduEnc b = false ∧ (splitOps (pduCount b) (pduBody b)).isNone then discardPdu s
  else if pduSeq b = 0 ∧ opens.isNone then discardPdu s
  else if pduSess b = 0 ∧ pduSeq b = 0 then
    match opens with
    | some o => openOne s tr o
    | none => s
  else
    match (if isLocal (pduSess b) then none else sessOf s (pduSess b)) with
    | none => gcmFail s
    | some x =>
      if x.opened then remotePdu env tr b plain x s
      else if pduEnc b then gcmFail s
      else match splitOps (pduCount b) (pduBody b) with
        | some [o] => if o.opcode = 0x12 ∧ pduSeq b = 1 then openThree env x o s else gcmFail s
        | _ => gcmFail s

/-- TRANSPORTS enables FIELD and UDP; a FENCED device serves local transports only (R42, R434). -/
def transportOn (s : State) (tr : Transport) : Bool :=
  match tr with
  | .field => bit (s.objN 0x0103 0) 0 && s.pair.st != .fenced
  | .udp => bit (s.objN 0x0103 0) 1 && s.pair.st != .fenced
  | .mailbox => bit (s.objN 0x0103 0) 2 && !s.wired.pcieRoot
  | .port _ => true

/-! ### Local PDUs (R42, R43) -/

/-- A response operation of R42. -/
def foreignAnswer : RespOp := { opcode := 0x80, flags := 0, idx := 0, el := 0, abort := aAccess, detail := det 0x70 0x1A, value := [] }

/-- The session of a channel. -/
def sessOfChan (c : Nat) : Nat := if c = 8 then 0xFF10 else 0xFF00 + c

/-- A PDU submitted on a channel that is not busy. -/
def fromLocal (env : Env) (c : Nat) (b : Bytes) (s : State) : State :=
  let drop (s : State) : State := answerChan (discardPdu s) c []
  if headerOk b = false then drop s
  else if pduEnc b = true ∨ pduSess b ≠ sessOfChan c then
    let n := pduCount b
    answerChan { s with lastResp := some foreignAnswer } c
      (plainPdu 0x80 (pduSess b) (pduSeq b) n ((List.replicate n foreignAnswer).flatMap encResp))
  else if pduSeq b = 0 then
    match loneOpen1 b with
    | some o =>
      let a := answerOp o (dictAbort aAccess 0x1C) []
      answerChan { s with lastResp := some a } c (plainPdu 0x80 (pduSess b) 0 1 (encResp a))
    | none => drop s
  else
    match splitOps (pduCount b) (pduBody b), sessOf s (sessOfChan c) with
    | some ops, some x => acceptPdu env x { seq := pduSeq b, enc := false, ops } s
    | _, _ => drop s

/-- GO with a PDU on a channel: ignored while BUSY; the mailbox accepts PDUs only while enabled (R42, R43). -/
def submitPdu (env : Env) (c : Nat) (framed : Option Bytes) (s : State) : State :=
  if (vget s.dict.chans c {}).busy then s
  else
    let s := modChan s c fun x => { x with busy := true }
    if c = 8 ∧ transportOn s .mailbox = false then answerChan s c []
    else match framed with
      | none => answerChan (discardPdu s) c []
      | some b => fromLocal env c b s

/-- The PDU in a request buffer: its header gives its length. -/
def bufferedPdu (buf : Bytes) : Option Bytes :=
  let b := (buf ++ zeros 4096).take 4096
  if 4096 < 12 + pduLen b then none else some (b.take (12 + pduLen b))

/-- GO on a dictionary-port channel or the mailbox, which does not exist in the root role (R43, R305). -/
def portGo (env : Env) (c : Nat) (s : State) : State :=
  if c = 8 ∧ s.wired.pcieRoot = true then s else submitPdu env c (bufferedPdu (vget s.dict.chans c {}).reqBuf) s

/-- A PDU arrives on a transport. -/
def pduArrives (env : Env) (tr : Transport) (raw : Bytes) (plain : Bytes) (s : State) : State :=
  match tr with
  | .mailbox => if s.wired.pcieRoot then s else submitPdu env 8 (framedPdu tr raw) s
  | .port c => submitPdu env c.val (framedPdu tr raw) s
  | tr =>
    if transportOn s tr = false then s
    else match framedPdu tr raw with
      | none => discardPdu s
      | some b => fromRemote env tr b plain s

/-- PDU_RECEIVE: `plain` is what the body decrypts to. -/
def execPduReceive (tr : Transport) (head body : Bytes) (plain : Bytes) (env : Env) (s : State) : Out :=
  live s fun s => pduArrives env tr (head ++ body) plain s

/-- DP_GO: channels 0 to 7 are the dictionary port's, 8 the mailbox. -/
def execDpGo (ch : Fin 9) (env : Env) (s : State) : Out := live s fun s => portGo env ch.val s

/-- OPEN_1: on a local transport the PDU names its channel's session (R502). -/
def execOpen1 (tr : Transport) (nm : Bytes) (k : Nat) (em : Bytes) (s : State) : Out := live s fun s =>
  let sess := match tr with | .mailbox => 0xFF10 | .port c => 0xFF00 + c.val | _ => 0
  pduArrives {} tr (openingPdu tr sess 0 0x10 (nm ++ le 1 k ++ em)) [] s

/-- OPEN_3, on the transport of the opening that awaits it. -/
def execOpen3 (sess : Nat) (env : Env) (s : State) : Out := live s fun s =>
  match sessOf s sess with
  | none => gcmFail s
  | some x => pduArrives env x.tr (openingPdu x.tr sess 1 0x12 (zeros 114)) [] s

/-! ### The order's own events -/

/-- PDU_EXECUTE: the session's next PDU begins once its predecessor has completed; an execution whose held operation has been
answered goes on (R49, R39). -/
def execPduExecute (sess : Nat) (env : Env) (s : State) : Out := live s fun s =>
  match sessOf s sess with
  | none => s
  | some x =>
    match x.exec with
    | some e => if e.wait.isNone then runLeft env sess s else s
    | none =>
      match x.waiting.find? fun p => p.seq == x.nextSeq with
      | some p => startPdu env sess p s
      | none => s

/-- SEQ_WAIT_EXPIRY: the numbers missing before the lowest waiting PDU are abandoned and counted (R49). -/
def execSeqWaitExpiry (sess : Nat) (s : State) : Out := live s fun s =>
  match sessOf s sess with
  | none => s
  | some x =>
    match x.waiting with
    | [] => s
    | p :: rest =>
      let low := rest.foldl (fun m q => min m q.seq) p.seq
      if low ≤ x.nextSeq then s
      else modSess (s.addObjF 0x0112 3 0 4 (low - x.nextSeq)) sess fun x => { x with nextSeq := low }

/-- SESSION_IDLE_TIMEOUT: a remote session ends; a local one does not (R47). -/
def execSessionIdleTimeout (sess : Nat) (s : State) : Out := live s fun s => if isLocal sess then s else closeSession s sess

end Sys2Proof.Machine
end

