-- ==== Sys2Proof/Machine/Dict.lean ====
section
/-! DEFINITION. The rows of the dictionary's operations and of its own events: notifications, firmware answers, the end of a
stake, the persistent save (02_object_dictionary R37 to R65). -/

namespace Sys2Proof.Machine
open Sys2Proof

/-! ### Operations -/

/-- READ, with RANGE when a count is given. -/
def execRead (sess idx el : Nat) (ask : ReadAsk) (s : State) : Out := live s fun s =>
  match ask.count with
  | none => directOp ask.env sess (reqOp 1 0 idx el []) s
  | some n => directOp ask.env sess (reqOp 1 1 idx el (le 2 n)) s

/-- WRITE. -/
def execWrite (sess idx el : Nat) (v : Bytes) (env : Env) (s : State) : Out := live s fun s =>
  directOp env sess (writeOp idx el v) s

/-- STAGE. -/
def execStage (sess idx el : Nat) (v : Bytes) (s : State) : Out := live s fun s => directOp {} sess (reqOp 3 0 idx el v) s

/-- CLOSE. -/
def execClose (sess : Nat) (s : State) : Out := live s fun s => directOp {} sess (reqOp 4 0 0 0 []) s

/-- STAKE, with PERSIST in bit 1 of OPFLAGS. -/
def execStake (sess : Nat) (v : Bytes) (persist : Bool) (s : State) : Out := live s fun s =>
  directOp {} sess (reqOp 5 (if persist then 2 else 0) 0 0 v) s

/-- ABORT. -/
def execAbort (sess : Nat) (s : State) : Out := live s fun s => directOp {} sess (reqOp 6 0 0 0 []) s

/-- SUBSCRIBE. -/
def execSubscribe (sess idx el : Nat) (v : Bytes) (s : State) : Out := live s fun s => directOp {} sess (reqOp 7 0 idx el v) s

/-- END. -/
def execEndSession (sess : Nat) (s : State) : Out := live s fun s => directOp {} sess (reqOp 0x13 0 0 0 []) s

/-- STATS_READ: a READ of ETH_STATS or FIELD_STATS (R290). -/
def execStatsRead (sess idx el : Nat) (s : State) : Out := live s fun s => directOp {} sess (reqOp 1 0 idx el []) s

/-! ### Notifications (R53) -/

/-- Does a subscription's own condition hold: MIN_MS passed, and its period run out, a change, or a sample owed? -/
def subDue (s : State) (u : Sub) : Bool :=
  let periodic : Bool := decide (2 ≤ u.mode ∧ u.nextAt ≤ s.now)
  let changed : Bool :=
    (u.mode == 1 || u.mode == 3) &&
      (u.lastEvt != evtSum s u.idx u.el ||
        match sample s u.idx u.el with
        | some (_, v) => u.lastVal != some v
        | none => false)
  decide (u.lastAt + u.minMs * 1000000 ≤ s.now) && (periodic || changed || u.owed)

/-- NOTIFY: the subscription at this place of the device's list. A FENCED device serves local transports only (R434). -/
def execNotify (sub : Nat) (s : State) : Out := live s fun s =>
  match s.dict.subs[sub]? with
  | none => s
  | some u => if subDue s u ∧ (isLocal u.sess ∨ s.pair.st ≠ .fenced) then sendNotify s u else s

/-! ### Firmware-served requests (R38) -/

/-- Take an outstanding request off the list. -/
def takeReq (s : State) (id : Nat) : State :=
  s.setDict { s.dict with fwReqs := s.dict.fwReqs.filter fun q => q.id != id }

/-- A CLOSE has its answers: more are asked for when a SUM's count has become known, else it is decided (R57). -/
def closeAnswered (s : State) (a : CloseAsk) : State :=
  let l := fwWanted s (travAt s a.slot).staged a.vals
  if travOf s a.sess = some a.slot ∧ (travAt s a.slot).st = .opened ∧ l ≠ [] then askClosure s a.sess a.slot a.vals l
  else
    let s := s.setDict { s.dict with closeAsks := s.dict.closeAsks.filter fun b => b.slot != a.slot }
    let held := s.dict.sessions.any fun x => x.num == a.sess && waitsFor x (.closure a.slot)
    if held then releaseAll (travClose s a.sess a.vals).1 (.closure a.slot) (travClose s a.sess a.vals).2 [] else s

/-- An answer, or none, to what a closure check asked. -/
def answerClosure (s : State) (id : Nat) (v : Option Bytes) : State :=
  match s.dict.closeAsks.find? fun a => a.left.any fun p => p.1 == id with
  | none => s
  | some a =>
    let b := { a with
      left := a.left.filter fun p => p.1 != id
      vals := a.vals ++ ((a.left.filter fun p => p.1 == id).map fun p => (p.2.1, p.2.2, v)) }
    let s := s.setDict { s.dict with closeAsks := s.dict.closeAsks.map fun c => if c.slot = a.slot then b else c }
    if b.left.isEmpty then closeAnswered s b else s

/-- Bytes free for the value of a session's held operation (R40). -/
def roomOf (s : State) (n : Nat) : Nat := (((sessOf s n).bind (·.exec)).map fun e => e.room - 14).getD 0

/-- Firmware's value for a request: nothing but for a READ; of a READ with RANGE whole elements only, no more than asked for
and as many as fit (R40). -/
def answerValue (s : State) (q : FwReq) (v : Bytes) : Bytes :=
  if q.op.opcode ≠ 1 then []
  else if q.size = 0 then v
  else v.take (q.size * min (min (v.length / q.size) (leNat q.op.value)) (roomOf s q.sess / q.size))

/-- The request's answer to what asked. -/
def answerReq (s : State) (id : Nat) (r : Res) (v : Bytes) : State :=
  match s.dict.fwReqs.find? fun q => q.id == id with
  | none => s
  | some q =>
    if q.sess = 0 then answerClosure (takeReq s id) id (if r.1 = 0 then some v else none)
    else releaseAll (takeReq s id) (.firmware id) r (if r.1 = 0 then answerValue s q v else [])

/-- FW_ANSWER: a value comes only with a READ that completes; an answer after the timeout is discarded, and so is one whose
detail word names no unit of *Unit IDs*, a code that may appear in no detail word (R13; DESIGN CHOICE, log entry 146). -/
def execFwAnswer (req code detail : Nat) (v : Bytes) (s : State) : Out := live s fun s =>
  if code % 65536 = 0 ∨ unitIds.contains (detail / 0x1000000 % 256) = true then
    answerReq s req (code % 65536, detail % 4294967296) v
  else s

/-- FW_TIMEOUT: 50 ms without an answer. -/
def execFwTimeout (req : Nat) (s : State) : Out := live s fun s => answerReq s req (dictAbort aTimeout 3) []

/-- FW_DECLARE: the running image's declaration is complete; RESCUE runs no image. -/
def execFwDeclare (objs : List FwObject) (s : State) : Out := live s fun s =>
  if s.dict.declared.isSome ∨ s.start.rescue = true then s
  else s.setDict { s.dict with declared := some (objs.filter fun o => isFwIdx o.idx) }

/-! ### The end of a stake, persistence (R62, R63) -/

/-- The P objects a Traverse staged, with their values as they stand: a firmware-served one's is the staged value, which
firmware takes at the stake (R63). -/
def persistentOf (s : State) (st : Staged) : List (Nat × Bytes) :=
  st.filterMap fun p =>
    match findObj s p.1 p.2.1 with
    | .ok r => if r.pers then some (okey p.1 p.2.1, if isFwIdx p.1 then p.2.2 else (deferredAt s p.1 p.2.1).getD (s.objB p.1 p.2.1)) else none
    | .error _ => none

/-- READs held for a slot are answered with the new values. -/
def rereadAll (s : State) (k : Nat) : State :=
  ((s.dict.sessions.filter fun x => waitsFor x (.latch k)).map (·.num)).foldl (fun s n => reread n s) s

/-- STAKE_LATCHED: step 3 of *Stake events*. -/
def execStakeLatched (slot : Fin 4) (s : State) : Out := live s fun s =>
  let t := travAt s slot.val
  if t.st ≠ .applying ∨ t.waitReclaim = true then s
  else
    let vals := persistentOf s t.staged
    let s := if t.persist = true ∧ vals.isEmpty = false then s.saveValues vals else s
    rereadAll (freeTrav s slot.val 0) slot.val

/-- PERSIST_SAVE: the new generation is in both copies; a save that meets a poisoned word is abandoned (R63, R449). The
running image's part is its own slot's application settings, in its formats; a trial keeps the platform record's (R469). -/
def execPersistSave (poisoned : Bool) (s : State) : Out := live s fun s =>
  match s.flash.saving with
  | none => s
  | some t =>
    if poisoned then ({ s with flash := { s.flash with saving := none } }).poisonConsumed 0x70 0xFF 0
    else
      let k := s.upd.running
      let h := slotHeader s.upd k
      let s := { s with flash := { s.flash with
        gen := s.flash.gen + 1, saved := t, gen2 := s.flash.gen + 1, saved2 := t, saving := none
        apps := vset s.flash.apps k (t.filter fun p => !platformKey p.1) } }
      s.setUpd { s.upd with
        appFormat := vset s.upd.appFormat k (some (fld h 26 2))
        platFormat := if s.upd.trial.isSome then s.upd.platFormat else fld h 28 2 }

/-! ### Version reclaims (R253) -/

/-- A COMMIT that waits is served. -/
def commitWaiting (s : State) : State :=
  match s.dict.sessions.find? fun x => waitsFor x .reclaim with
  | none => s
  | some x =>
    if canCommit s then
      match x.exec.bind fun e => e.todo.head? with
      | none => s
      | some o => release (recordCmd (commitNow s) o.idx o.el o.value 0) x.num ok []
    else s

/-- VERSION_RECLAIM: the last packet of a superseded version has left; a stake that waits goes first (log entry 40). -/
def execVersionReclaim (n : Nat) (s : State) : Out := live s fun s => commitWaiting (reclaimStakes (reclaim n s))

/-- VERSION_LIVE_TIMEOUT: 1 ms without a reclaim. -/
def execVersionLiveTimeout (s : State) : Out := live s fun s => releaseCmd s .reclaim (ppRefuse aBusy 0x1005)

/-! ### The abort command's functions of the dispatcher and the engine (R64, R65) -/

/-- ABORT_THREAD: function 05h; a slot that is FREE runs nothing to stop. -/
def execAbortThread (t : Fin 512) (s : State) : Out := live s fun s =>
  let ran := (s.thread t.val).st != .free
  (if ran then abortThread s t.val else s).abortDone 5 t.val 0 ran 10000

/-- ABORT_TRAVERSE: function 06h; the order of the abort and of an instant T already reached is the engine's mutual-exclusion
element's. -/
def execAbortTraverse (slot : Fin 4) (instantFirst : Bool) (s : State) : Out := live s fun s =>
  let x := travAt s slot.val
  let s := if x.st = .armed ∧ x.t.units ≤ s.datum.t.units ∧ instantFirst = true then startApplying s slot.val false else s
  (abortTrav s slot.val).1

end Sys2Proof.Machine
end

