-- ==== Sys2Proof/Machine/Windows.lean ====
section
/-! DEFINITION. The control-core address map: unit windows with their registers, memory, and the accesses of cores, of the
DMA engine and of PCIe (01_architecture R29 to R33, R364, R398, R399, R410; 11_wired_ports R304, R305). -/

namespace Sys2Proof.Machine
open Sys2Proof

/-! ### The address map (R30) -/

/-- The decoded windows, 512 KiB each (*Control-core address map*). -/
def windowBases : List Nat :=
  [0x10000000, 0x10100000, 0x10200000, 0x10300000, 0x10400000, 0x10500000, 0x10580000, 0x10600000, 0x10700000, 0x10800000,
   0x11000000, 0x11400000, 0x11800000, 0x12000000, 0x13000000, 0x13800000, 0x14000000, 0x14800000, 0x15000000]

def inUnitWindow (a : Nat) : Bool := windowBases.any fun b => decide (b ≤ a ∧ a < b + 0x80000)

/-- Boot ROM: read and execute only. -/
def inRom (a : Nat) : Bool := decide (a < 0x10000)

/-! ### Register accesses (R29): `none` is an access fault -/

/-- A register of `n` bytes takes naturally aligned accesses of that width only. -/
def only {α : Type} (n w : Nat) (x : α) : Option α := if w = n then some x else none

/-- A write of 1 clears a status bit (R32). -/
def w1c (s : State) (a v mask : Nat) : State :=
  s.setReg a ((List.range 32).foldl (fun x b => if bit v b && bit mask b then setBit x b false else x) (s.regAt a))

/-- The state after a command another row means. -/
def after (o : Out) (s : State) : State := match o with | .next t => t | _ => s

/-! Ring blocks of the packet and management rings -/

/-- CTRL of a ring: BASE, SIZE and BUF_SIZE are ignored on write while ENABLE is 1. -/
def ringCtrl (s : State) (b v : Nat) (buf : Bool) : State :=
  let was := s.regAt (b + 8)
  let on := if bit v 31 then 2 ^ 31 else 0
  if bit was 31 then s.setReg (b + 8) (was % 2 ^ 31 + on)
  else s.setReg (b + 8) (on + (if buf then bits v 8 3 * 256 else 0) + v % 16)

/-- A write at offset k of a ring's registers. -/
def ringWrite (b k w v : Nat) (buf : Bool) (tail : State → State) (s : State) : Option State :=
  match k with
  | 0x0 => only 8 w (if ringOn s b then s else s.setReg b (v % 2 ^ 64 / 64 * 64))
  | 0x4 => none
  | 0x8 => only 4 w (ringCtrl s b v buf)
  | 0xC => only 4 w (tail s)
  | 0x10 => only 4 w s
  | 0x14 => only 4 w (w1c s (b + 0x14) v 3)
  | 0x18 => only 4 w s
  | 0x1C => only 4 w s
  | _ => some s

/-- The width that offset k of a ring block takes: 8, 4, or either (0); 1 for a place no aligned access may have. -/
def ringWidth (k : Nat) : Nat := if k = 0 then 8 else if k = 4 then 1 else if k < 0x20 then 4 else 0

/-- A read of a register that is what it holds. -/
def plainRead (s : State) (a w width : Nat) : Option (State × Nat) :=
  if width = 0 then some (s, 0) else only width w (s, s.regAt a)

/-- The packet ring at an offset of a ring area with so many receive rings. -/
def ringAt (host : Bool) (off : Nat) : Option Ring :=
  let n := off / 0x40
  let j := (off - 0x800) / 0x40
  if host then
    if h : n < 8 then some (.hostRx ⟨n, h⟩) else if h : 0x800 ≤ off ∧ j < 4 then some (.hostTx ⟨j, h.2⟩) else none
  else
    if h : n < 16 then some (.coreRx ⟨n, h⟩) else if h : 0x800 ≤ off ∧ j < 4 then some (.coreTx ⟨j, h.2⟩) else none

/-- A write in a ring area. A host transmit ring's TAIL is set and its descriptors are left to TX_RING_DOORBELL, whose operands
are what the bus reads return (log entry 26). -/
def areaWrite (host : Bool) (off w v : Nat) (s : State) : Option State :=
  match ringAt host off with
  | none => some s
  | some ring =>
    let b := ringBase ring
    let tail (s : State) : State :=
      if host then s.setReg (b + 0xC) (v % 4096) else after (execTxRingDoorbell ring v [] [] [] s) s
    ringWrite b (off % 0x40) w v true tail s

def areaRead (host : Bool) (off w : Nat) (s : State) : Option (State × Nat) :=
  match ringAt host off with
  | none => some (s, 0)
  | some ring => plainRead s (ringBase ring + off % 0x40) w (ringWidth (off % 0x40))

/-! Dictionary port and mailbox channels (R43) -/

/-- A write at offset k of a channel: REQ_BUF is ignored while BUSY. -/
def chanWrite (c k w v : Nat) (s : State) : Option State :=
  let x := vget s.dict.chans c {}
  if k = 0 then only 4 w (if bit v 0 then portGo {} c s else s)
  else if k = 4 then only 4 w (if bit v 1 then modChan s c fun x => { x with done := false } else s)
  else if k = 8 then only 4 w s
  else if 0x1000 ≤ k ∧ k < 0x2000 ∧ x.busy = false then
    some (modChan s c fun x => { x with reqBuf := patch ((x.reqBuf ++ zeros 4096).take 4096) (k - 0x1000) (le w v) })
  else some s

/-- A read of a channel; what RSP_BUF holds from a GO to its DONE is not valid and free (R43). -/
def chanRead (c k w : Nat) (s : State) : Option (State × Nat) :=
  let x := vget s.dict.chans c {}
  if k = 0 then only 4 w (s, 0)
  else if k = 4 then only 4 w (s, x.rspLen % 65536 * 65536 + (if x.done then 2 else 0) + (if x.busy then 1 else 0))
  else if k = 8 then only 4 w (s, x.doneCount)
  else if 0x1000 ≤ k ∧ k < 0x2000 then some (s, fld x.reqBuf (k - 0x1000) w)
  else if 0x2000 ≤ k ∧ k < 0x3000 then
    if x.busy then some (s.draw.2, s.draw.1 % 2 ^ (8 * w)) else some (s, fld x.rspBuf (k - 0x2000) w)
  else some (s, 0)

/-! Common window: log window, UART -/

def commonWrite (off w v : Nat) (s : State) : Option State :=
  if 0x10000 ≤ off ∧ off < 0x18000 then none
  else if off = 0x40000 then only 4 w (after (execUartDataWrite 0 v s) s)
  else if off = 0x40004 then only 4 w (w1c s uartStatusAt v 4)
  else some s

def commonRead (off w : Nat) (s : State) : Option (State × Nat) :=
  if 0x10000 ≤ off ∧ off < 0x18000 then
    let n := (off - 0x10000) / 32
    only 8 w (s, fld (logSlot s (n + 1)) ((off - 0x10000) % 32) 8)
  else if off = 0x40000 then
    only 4 w (match s.wired.uartRx with
      | x :: r => (s.setWired { s.wired with uartRx := r }, 256 + x.toNat)
      | [] => (s, 0))
  else if off = 0x40004 then
    let s := uartDrain s
    only 4 w (s, (if bit (s.regAt uartStatusAt) 2 then 4 else 0) + (if 64 ≤ s.wired.uartTx.length then 2 else 0) +
      (if s.wired.uartRx.isEmpty then 0 else 1))
  else some (s, 0)

/-! DMA channels -/

def dmaRegWrite (off w v : Nat) (s : State) : Option State :=
  if h : off / 0x40 < 64 then
    let c : Fin 64 := ⟨off / 0x40, h⟩
    let b := chBase c
    match off % 0x40 with
    | 0x0 => only 8 w (if chOn s c then s else s.setReg b (v % 2 ^ 64 / 32 * 32))
    | 0x4 => none
    | 0x8 => only 4 w (chCtrl s c v)
    | 0xC => only 4 w (chDoorbell s c v)
    | 0x10 => only 4 w s
    | 0x14 => only 4 w (w1c s (b + 0x14) v 3)
    | 0x18 => only 4 w s
    | 0x1C => only 4 w s
    | _ => some s
  else some s

def dmaRegRead (off w : Nat) (s : State) : Option (State × Nat) :=
  if off / 0x40 < 64 then plainRead s (0x10100000 + off) w (ringWidth (off % 0x40)) else some (s, 0)

/-! Dispatcher blocks (R410) -/

/-- A write of DSP_OP executes an operation (*Dispatcher operations*). -/
def dspOp (c : CoreId) (v : Nat) (s : State) : State :=
  let arg := s.regAt (dspBase c + 0x18)
  match bits v 60 4 with
  | 1 => after (execCreate c v arg s) s
  | 2 => after (execWait c v arg s) s
  | 3 => after (execYield c s) s
  | 4 => after (execExit c s) s
  | 5 => after (execPost c v arg s) s
  | 6 => after (execSetPriority c v s) s
  | 7 => after (execThreadAbort c v s) s
  | _ => dspResult s c 4 0

/-- Is the offset in the block of another core than the one that issues the access? -/
def foreignBlock (who : Option CoreId) (off : Nat) : Bool :=
  decide (off < 0x800) && (match who with | some c => off / 0x100 != c.val | none => true)

def dspRegWrite (who : Option CoreId) (off w v : Nat) (s : State) : Option State :=
  if foreignBlock who off then none
  else match who with
    | none => some s
    | some c =>
      if 0x800 ≤ off then some s
      else match off % 0x100 with
        | 0x18 => only 8 w (s.setReg (dspBase c + 0x18) (v % 2 ^ 64))
        | 0x20 => only 8 w (dspOp c v s)
        | 0x30 => only 4 w (w1c s (dspBase c + 0x30) v 7)
        | k => if k < 0x30 then (if k % 8 = 0 then only 8 w s else none) else if k < 0x40 then only 4 w s else some s

def dspRegRead (who : Option CoreId) (off w : Nat) (s : State) : Option (State × Nat) :=
  if foreignBlock who off then none
  else match who with
    | none => some (s, 0)
    | some c =>
      let o (i : Nat) : Nat := ((s.core c).opnds[i]?).getD 0
      if 0x800 ≤ off then some (s, 0)
      else match off % 0x100 with
        | 0x0 => only 8 w (let t := after (execDspNextRead c s) s; (t, (t.core c).readData))
        | 0x8 => only 8 w (s, o 1 * 2 ^ 32 + o 0)
        | 0x10 => only 8 w (s, o 3 * 2 ^ 32 + o 2)
        | 0x20 => only 8 w (s, 0)
        | 0x28 => only 8 w (s, (s.core c).result)
        | k =>
          if k < 0x30 then (if k % 8 = 0 then only 8 w (s, s.regAt (dspBase c + k)) else none)
          else if k < 0x40 then only 4 w (s, s.regAt (dspBase c + k))
          else some (s, 0)

/-! Datum window: each core's own snapshot -/

def dtmRegRead (who : Option CoreId) (off w : Nat) (s : State) : Option (State × Nat) :=
  let free : State × Nat := (s.draw.2, s.draw.1 % 2 ^ (8 * w))
  match off with
  | 0x0 => only 8 w (match who with | some c => (after (execDtmSnapRead c s) s, s.datum.t.sec) | none => free)
  | 0x4 => none
  | 0x8 => only 8 w (match who with | some c => (s, s.datum.snaps[c].t.ns * 2 ^ 32 + s.datum.snaps[c].t.frac) | none => free)
  | 0xC => none
  | 0x10 => only 4 w (match who with | some c => (s, s.datum.snaps[c].gen) | none => free)
  | _ => some (s, 0)

def dtmRegWrite (off w : Nat) (s : State) : Option State :=
  match off with
  | 0x0 => only 8 w s
  | 0x4 => none
  | 0x8 => only 8 w s
  | 0xC => none
  | 0x10 => only 4 w s
  | _ => some s

/-! DRAM controller -/

/-- A write of MR_CMD; what an MRR returns from the SDRAM is free here. -/
def mrCmd (v : Nat) (s : State) : State := if bit v 30 then mrRead v s.draw.1 s.draw.2 else mrWrite v s

def mcRegWrite (off w v : Nat) (s : State) : Option State :=
  match off with
  | 0x0 => only 4 w (let s := if bit v 0 then mcInit s else s; if bit v 1 then mcService s else s)
  | 0x4 => only 4 w s
  | 0x10 => only 4 w (trnCtrl v s)
  | 0x14 => only 4 w (w1c s (mcReg 0x14) v 2)
  | 0x18 => only 4 w (s.setReg (mcReg 0x18) (v % 2 ^ 32))
  | 0x20 => only 8 w s
  | 0x24 => none
  | 0x28 => only 4 w s
  | 0x30 => only 4 w (mrCmd v s)
  | 0x34 => only 4 w (w1c s (mcReg 0x34) v 0x100)
  | _ => if isLaneDelay (mcReg off) then only 4 w (laneDelay (mcReg off) v s) else some s

def McState.code : McState → Nat
  | .off => 0 | .init => 1 | .training => 2 | .service => 3 | .selfRefresh => 4 | .fault => 5

def mcRegRead (off w : Nat) (s : State) : Option (State × Nat) :=
  match off with
  | 0x0 => only 4 w (s, 0)
  | 0x4 => only 4 w (s, s.dram.st.code)
  | 0x20 => only 8 w (s, s.regAt (mcReg 0x20))
  | 0x24 => none
  | _ =>
    if [0x10, 0x14, 0x18, 0x28, 0x30, 0x34].contains off = true ∨ isLaneDelay (mcReg off) = true then
      only 4 w (s, s.regAt (mcReg off))
    else some (s, 0)

/-! Radio windows: management rings -/

def radioRegWrite (r : Radio) (off w v : Nat) (s : State) : Option State :=
  let b := radioWindow r.val
  if off < 0x20 then ringWrite b off w v false (fun s => s.setReg (b + 0xC) (v % 4096)) s
  else if off < 0x40 then
    match off with
    | 0x34 => only 4 w (w1c s (b + 0x34) v 1)
    | 0x3C => some s
    | _ => ringWrite (b + 0x20) (off - 0x20) w v false (fun s => mtxTail s r v) s
  else some s

def radioRegRead (r : Radio) (off w : Nat) (s : State) : Option (State × Nat) :=
  if off < 0x40 ∧ off ≠ 0x3C then plainRead s (radioWindow r.val + off) w (ringWidth (off % 0x20)) else some (s, 0)

/-! Pair -/

def pairRegWrite (off w v : Nat) (s : State) : Option State :=
  match off with
  | 0x0 => only 4 w (pairKicked s v)
  | 0x4 => only 4 w s
  | _ => some s

def pairRegRead (off w : Nat) (s : State) : Option (State × Nat) :=
  match off with
  | 0x0 => only 4 w (s, 0)
  | 0x4 => only 4 w (s, kickLeft s % 65536)
  | _ => some (s, 0)

/-! ### Windows -/

/-- A write to a unit window by a core, or by the DMA engine (none). -/
def windowWrite (who : Option CoreId) (a w v : Nat) (s : State) : Option State :=
  if (w ≠ 4 ∧ w ≠ 8) ∨ a % w ≠ 0 then none
  else
    let off := a % 0x80000
    match a / 0x80000 * 0x80000 with
    | 0x10000000 => commonWrite off w v s
    | 0x10100000 => dmaRegWrite off w v s
    | 0x10200000 => dspRegWrite who off w v s
    | 0x10400000 => dtmRegWrite off w s
    | 0x10700000 => mcRegWrite off w v s
    | 0x11000000 => radioRegWrite 0 off w v s
    | 0x11400000 => radioRegWrite 1 off w v s
    | 0x11800000 => radioRegWrite 2 off w v s
    | 0x13000000 => if 0x40000 ≤ off ∧ off < 0x41000 then areaWrite false (off - 0x40000) w v s else some s
    | 0x14000000 => pairRegWrite off w v s
    | 0x15000000 => chanWrite (off / 0x10000) (off % 0x10000) w v s
    | _ => some s

/-- A read of a unit window. -/
def windowRead (who : Option CoreId) (a w : Nat) (s : State) : Option (State × Nat) :=
  if (w ≠ 4 ∧ w ≠ 8) ∨ a % w ≠ 0 then none
  else
    let off := a % 0x80000
    match a / 0x80000 * 0x80000 with
    | 0x10000000 => commonRead off w s
    | 0x10100000 => dmaRegRead off w s
    | 0x10200000 => dspRegRead who off w s
    | 0x10400000 => dtmRegRead who off w s
    | 0x10700000 => mcRegRead off w s
    | 0x11000000 => radioRegRead 0 off w s
    | 0x11400000 => radioRegRead 1 off w s
    | 0x11800000 => radioRegRead 2 off w s
    | 0x13000000 => if 0x40000 ≤ off ∧ off < 0x41000 then areaRead false (off - 0x40000) w s else some (s, 0)
    | 0x14000000 => pairRegRead off w s
    | 0x15000000 => chanRead (off / 0x10000) (off % 0x10000) w s
    | _ => some (s, 0)

/-! ### The bus -/

/-- A write of `w` bytes at an address: `none` where R29, R30 or the ROM refuse it. -/
def busWrite (who : Option CoreId) (a w v : Nat) (s : State) : Option State :=
  if inUnitWindow a then windowWrite who a w v s
  else if allMemory s a w then some (storeBytes s a (le w v))
  else none

/-- A read of `w` bytes at an address. -/
def busRead (who : Option CoreId) (a w : Nat) (s : State) : Option (State × Nat) :=
  if inUnitWindow a then windowRead who a w s
  else if allMemory s a w then some (s, leNat (readMemN s.mem a w))
  else if inRom a && inRom (a + w - 1) then some (s, leNat ((List.range w).map fun i => Config.romByte (a + i)))
  else none

/-- FLAG_CLEAR: a write of 1 to sticky flags, and the sets the mutual-exclusion element ordered after it (R32, R33). -/
def execFlagClear (idx el ones setLast : Nat) (s : State) : Out := live s fun s =>
  if isFlagObj idx then
    (List.range 32).foldl (fun s b => if bit setLast b then s.setFlag idx el b else s) (s.clearFlags idx el ones)
  else s

/-! ### Crossings (R486 to R488; log entry 159) -/

/-- The registers whose write is a control event in another clocked domain, with that domain (*Clock domains*): the
commands of the DRAM controller and the pair's kick. -/
def eventDomain (a : Nat) : Option Nat :=
  if a = mcReg 0 ∨ a = mcReg 0x10 ∨ a = mcReg 0x30 then some 8 else if a = 0x14000000 then some 10 else none

/-- A destination domain's period in ps: MEM at the DRAM rate in force divided by 8, BASE at 402.83 MHz. -/
def periodPs (s : State) (d : Nat) : Nat := if d = 8 then 8000000 / max 1 (s.objF 0x6400 1 0 2) else 2482

/-- The round trip of a crossing from a core: 3 periods of each side (R488), in ns. -/
def roundTrip (s : State) (core : CoreId) (d : Nat) : Nat :=
  (3 * (1000000 / pointMhz (s.core core).point) + 3 * periodPs s d + 999) / 1000

/-- An event raised before the acknowledge has returned: it is not sent, and its domains are kept (R487). -/
def crossingOverrun (s : State) (d : Nat) : State :=
  (s.setFlag 0x1005 0 0).setObj 0x1004 0 (le 1 7 ++ le 1 d ++ s.datum.t.enc)

/-- The event crosses: the toggle changes, and the data is held until the acknowledge returns (R486). -/
def crossingSent (s : State) (core : CoreId) (d a v : Nat) : State :=
  let c := tgetD s.start.crossings a {}
  let sent : Crossing := { toggle := !c.toggle, held := v, ackAt := s.now + roundTrip s core d }
  s.setStart { s.start with crossings := tput s.start.crossings a sent }

/-- Raise the event that a register write is, its effect the destination's; one that comes too early is dropped. -/
def raiseEvent (s t : State) (core : CoreId) (a v : Nat) : State :=
  match eventDomain a with
  | none => t
  | some d =>
    if s.now < (tgetD s.start.crossings a {}).ackAt then crossingOverrun s d else crossingSent t core d a v

/-- REGISTER_WRITE: a core's write; a refused one raises an access fault on the core and has no effect (R29, R30). One
that is an event in another clocked domain crosses to it (R486, R487). -/
def execRegisterWrite (core : CoreId) (addr width value : Nat) (s : State) : Out := live s fun s =>
  match busWrite (some core) addr width value s with
  | some t => raiseEvent s t core addr value
  | none => s.fault core addr 0

/-- What the check of the word a core consumes tells: its flipped bits, over its poison (R22, R23). -/
def loadOut (s : State) (addr : Nat) (flips : List Nat) : EccOut :=
  eccDecode (eccFlips flips ^^^ (if memPoisoned s (addr / 8 * 8) 8 then 255 else 0))

/-- CORE_LOAD: a load or an instruction fetch (R29, R30, R399). A fetch that meets an uncorrectable line fetches it again. -/
def execCoreLoad (core : CoreId) (addr width : Nat) (fetch : Bool) (flips : List Nat) (s : State) : Out := live s fun s =>
  match busRead (some core) addr width s with
  | none => s.fault core addr 0
  | some (t, v) =>
    let give (s : State) : State := s.modCore core fun k => { k with readData := v }
    if inUnitWindow addr then give t
    else match loadOut s addr flips with
      | .clean => give t
      | .checkBit => give (t.corrected 0x40 core.val addr)
      | .dataBit _ => give (t.corrected 0x40 core.val addr)
      | .uncorrectable =>
        if fetch then give t.uncorrected else (t.poisonConsumed 0x40 core.val addr).fault core addr 1
      | .poison => (t.poisonConsumed 0x40 core.val addr).fault core addr (if fetch then 2 else 1)

/-! ### Inbound PCIe (R304, R305) -/

/-- A completion: value, poisoned, Unsupported Request. -/
def complete (s : State) (v : Nat) (ep ur : Bool) : State := s.setWired { s.wired with completion := some (v, ep, ur) }

/-- A write within BAR0; a vector that is unmasked while pending is sent. -/
def barWrite (off w v : Nat) (s : State) : Option State :=
  if off < 0x3000 then chanWrite 8 off w v s
  else if 0x10000 ≤ off ∧ off < 0x11000 then areaWrite true (off - 0x10000) w v s
  else if 0x20000 ≤ off ∧ off < 0x20200 then
    let put (s : State) (a x : Nat) : State :=
      let s := s.setReg a (x % 2 ^ 32)
      if a % 16 = 12 ∧ bit x 0 = false then s.setReg msixPending (setBit (s.regAt msixPending) ((a - msixTable) / 16) false) else s
    let s := put s (bar0 + off) v
    some (if w = 8 then put s (bar0 + off + 4) (v / 2 ^ 32) else s)
  else some s

/-- A read within BAR0. -/
def barRead (off w : Nat) (s : State) : Option (State × Nat) :=
  if off < 0x3000 then chanRead 8 off w s
  else if 0x10000 ≤ off ∧ off < 0x11000 then areaRead true (off - 0x10000) w s
  else if 0x20000 ≤ off ∧ off < 0x20200 then
    some (s, s.regAt (bar0 + off) + (if w = 8 then s.regAt (bar0 + off + 4) * 2 ^ 32 else 0))
  else if off = 0x21000 then some (s, s.regAt msixPending % 2 ^ (8 * w))
  else if off = 0x21004 then some (s, 0)
  else some (s, 0)

/-- Does a request of the endpoint lie inside PCIE_INBOUND? -/
def inInbound (s : State) (a w : Nat) : Bool :=
  let base := s.objF 0x5831 0 0 8
  decide (base ≤ a ∧ a + w ≤ base + s.objF 0x5831 0 8 4 * 2 ^ 20)

/-- INBOUND_REQUEST: in the endpoint role BAR0, in the root role DRAM inside PCIE_INBOUND; anything else is completed as
Unsupported Request. A poisoned write to memory stores poisoned words, one to a register is not made. -/
def execInboundRequest (q : PcieIn) (s : State) : Out := live s fun s =>
  let ur := complete s 0 false true
  if s.wired.pcieRoot = false ∧ q.bar0 = true then
    if (q.width ≠ 4 ∧ q.width ≠ 8) ∨ q.addr % q.width ≠ 0 ∨ 2 ^ 20 ≤ q.addr then ur
    else if q.write then
      if q.poisoned then s.uncorrected
      else (barWrite q.addr q.width q.value s).getD ur
    else match barRead q.addr q.width s with
      | some (t, v) => complete t v false false
      | none => ur
  else if s.wired.pcieRoot = true ∧ q.bar0 = false ∧ inInbound s q.addr q.width = true ∧ (List.range q.width).all (fun i => dramHas s (q.addr + i)) = true then
    if q.write then
      let s := storeBytes s q.addr (le q.width q.value)
      if q.poisoned then
        let ws := (List.range ((q.addr + q.width - 1) / 8 + 1 - q.addr / 8)).map fun i => 8 * (q.addr / 8 + i)
        s.setDram { s.dram with poison := ws ++ s.dram.poison.filter fun w => !ws.contains w }
      else s
    else
      let bad := memPoisoned s q.addr q.width || q.ecc == .poisoned
      let t := if bad then s.poisonConsumed 0x15 0xFF q.addr else if q.ecc = .corrected then s.corrected 0x15 0xFF q.addr else s
      complete t (leNat (readMemN s.mem q.addr q.width)) bad false
  else ur

end Sys2Proof.Machine
end

