-- ==== Sys2Proof/Machine/Dma.lean ====
section
/-! DEFINITION. What the DMA engine does with a descriptor: its checks, its bursts over the bus, its cipher jobs and its
completion (15_dma R385 to R392). -/

namespace Sys2Proof.Machine
open Sys2Proof

/-! ### Judging a descriptor (R387 to R389) -/

/-- Do the operation and the type of the key slot it names fit? An EMPTY slot is left to the job (R337). -/
def keyFits (s : State) (d : DmaDesc) : Bool :=
  let k := keyAt s d.key
  k.st == 0 || (if d.op = 5 then k.typ == 0x14 || k.typ == 0x15 else decide (0x10 ≤ k.typ ∧ k.typ ≤ 0x13))

/-- A reserved encoding, or R387 broken. -/
def badDesc (s : State) (d : DmaDesc) : Bool :=
  decide (5 < d.op) || d.len == 0 || (isCipherOp d.op && !keyFits s d) ||
    (d.op == 3 && decide (d.len < 2 * d.aad)) ||
    (d.op == 4 && decide (d.len < 28 + 2 * d.aad)) ||
    (d.op == 5 && d.aad != 0)

/-- STRICT: equal widths, and addresses and length multiples of it (R389). -/
def misaligned (x : DmaCur) : Bool :=
  x.packing == false &&
    (x.d.srcW != x.d.dstW || (x.d.op != 1 && x.d.src % x.d.srcW != 0) || x.d.dst % x.d.dstW != 0 || x.d.len % x.d.srcW != 0)

/-- A PCIe address where none is allowed (R388). -/
def pcieRefused (s : State) (c : Fin 64) (d : DmaDesc) : Bool :=
  ((d.srcPcie && d.op != 1) || d.dstPcie) && !(s.objF 0x6500 (c + 1) 1 1 == 1 && s.wired.pcieLink)

/-- Why a descriptor completes before any byte is moved: a code of *DMA completion status*. -/
def dmaJudge (s : State) (c : Fin 64) (x : DmaCur) : Option Nat :=
  if allMemory s x.d.addr 32 = false then some 4
  else if memPoisoned s x.d.addr 32 then some 5
  else if badDesc s x.d then some 3
  else if misaligned x then some 2
  else if pcieRefused s c x.d then some 4
  else none

/-! ### Accesses (R390) -/

/-- The width of the next access: the widest naturally aligned one, up to the descriptor's, that fits. -/
def stepWidth (w a n : Nat) : Nat := ([8, 4, 2, 1].find? fun k => decide (k ≤ w ∧ a % k = 0 ∧ k ≤ n)).getD 1

/-- Read `n` bytes by accesses of at most `w`; none on an access the bus refuses. -/
def readRun (w : Nat) : Nat → Nat → Nat → State → Option (State × Bytes)
  | 0, _, _, s => some (s, [])
  | fuel + 1, a, n, s =>
    if n = 0 then some (s, [])
    else
      let k := stepWidth w a n
      match busRead none a k s with
      | none => none
      | some (s, v) => (readRun w fuel (a + k) (n - k) s).map fun p => (p.1, le k v ++ p.2)

/-- Write bytes by accesses of at most `w`: the state after those the bus took, and whether it took all. -/
def writeRun (w : Nat) : Nat → Nat → Bytes → State → State × Bool
  | 0, _, _, s => (s, true)
  | fuel + 1, a, b, s =>
    if b.isEmpty then (s, true)
    else
      let k := stepWidth w a b.length
      match busWrite none a k (leNat (b.take k)) s with
      | none => (s, false)
      | some s => writeRun w fuel (a + k) (b.drop k) s

/-- Bytes of one side of a descriptor: from memory and windows, or as PCIe returned them. -/
def dmaRead (pcie : Bool) (w a n : Nat) (data : Option Bytes) (s : State) : Option (State × Bytes) :=
  if pcie then data.map fun b => (s, (b ++ zeros n).take n) else readRun w n a n s

/-- Bytes to a descriptor's destination. -/
def dmaWrite (c : Fin 64) (pcie : Bool) (w a : Nat) (b : Bytes) (s : State) : State × Bool :=
  if pcie then (s.setWired { s.wired with hostOut := s.wired.hostOut ++ [(100 + c.val, a, b)] }, true)
  else writeRun w b.length a b s

/-- Destination words that receive a byte of a poisoned source word keep the poison (R25, R392). -/
def carryPoison (src dst n : Nat) (s : State) : State :=
  let ws := ((List.range n).filter fun i => memPoisoned s (src + i) 1 && inMemory s (dst + i)).map fun i => (dst + i) / 8 * 8
  s.setDram { s.dram with poison := ws.eraseDups ++ s.dram.poison.filter fun w => !ws.contains w }

/-! ### Bursts (R385) -/

/-- Source bytes of the next burst: up to 256, ended where the descriptor's window, if it touches one, is 64-bit aligned. -/
def burstLen (x : DmaCur) : Nat :=
  let a := (if x.d.op = 1 ∨ inUnitWindow x.d.dst then x.d.dst else x.d.src) + x.pos
  min (x.d.len - x.pos) (256 - a % 8)

def finish (x : DmaCur) (status : Nat) : DmaCur := { x with ready := true, status }

/-- The end of a burst: the descriptor goes on, or has only its completion left. -/
def burstEnd (x : DmaCur) (n : Nat) : DmaCur :=
  let x := { x with pos := x.pos + n }
  if x.d.len ≤ x.pos then finish x (if x.poisoned then 5 else 0) else x

/-- A poisoned source word is seen for the first time: DP_UNCORR and a CONTAINED record (R25, R449). -/
def seePoison (c : Fin 64) (x : DmaCur) (a : Nat) (bad : Bool) (s : State) : State × DmaCur :=
  if bad = true ∧ x.poisoned = false then (s.poisonConsumed 0x31 c.val a, { x with poisoned := true }) else (s, x)

/-- COPY. -/
def burstCopy (c : Fin 64) (x : DmaCur) (data : Option Bytes) (s : State) : State × DmaCur :=
  let n := burstLen x
  let src := x.d.src + x.pos
  let dst := x.d.dst + x.pos
  match dmaRead x.d.srcPcie x.d.srcW src n data s with
  | none => (s, finish x 4)
  | some (s, b) =>
    let bad := !x.d.srcPcie && memPoisoned s src n
    let (s, x) := seePoison c x src bad s
    if x.d.dstPcie = true ∧ bad = true then (s, burstEnd x n)
    else
      let (t, all) := dmaWrite c x.d.dstPcie x.d.dstW dst b s
      if all = false then (t, finish x 4)
      else (if bad = true ∧ x.d.dstPcie = false then carryPoison src dst n t else t, burstEnd x n)

/-- FILL: byte i of the destination is byte i mod 8 of SRC_ADDR. -/
def burstFill (c : Fin 64) (x : DmaCur) (s : State) : State × DmaCur :=
  let n := burstLen x
  let b := (List.range n).map fun i => BitVec.ofNat 8 (x.d.src / 256 ^ ((x.pos + i) % 8))
  let (t, all) := dmaWrite c x.d.dstPcie x.d.dstW (x.d.dst + x.pos) b s
  if all then (t, burstEnd x n) else (t, finish x 4)

/-- COMPARE: the first difference ends it with MISMATCH. -/
def burstCompare (c : Fin 64) (x : DmaCur) (data : Option Bytes) (s : State) : State × DmaCur :=
  let n := burstLen x
  let src := x.d.src + x.pos
  let dst := x.d.dst + x.pos
  match dmaRead x.d.srcPcie x.d.srcW src n data s with
  | none => (s, finish x 4)
  | some (s, a) =>
    match dmaRead x.d.dstPcie x.d.dstW dst n (if x.d.srcPcie then data.map fun b => b.drop n else data) s with
    | none => (s, finish x 4)
    | some (s, b) =>
      let bad := (!x.d.srcPcie && memPoisoned s src n) || (!x.d.dstPcie && memPoisoned s dst n)
      let (s, x) := seePoison c x src bad s
      match findLt n fun i => decide (a[i]? ≠ b[i]?) with
      | some i => if x.poisoned then (s, burstEnd x n) else (s, finish { x with pos := x.pos + i, result := x.pos + i } 1)
      | none => (s, burstEnd x n)

/-- ENCRYPT, DECRYPT, CMAC: the source is taken, then a lane's job begins (R27). -/
def burstCipher (c : Fin 64) (x : DmaCur) (data : Option Bytes) (s : State) : State × DmaCur :=
  let n := burstLen x
  let src := x.d.src + x.pos
  match dmaRead x.d.srcPcie x.d.srcW src n data s with
  | none => (s, finish x 4)
  | some (s, b) =>
    let (s, x) := seePoison c x src (!x.d.srcPcie && memPoisoned s src n) s
    let x := { x with taken := x.taken ++ b, pos := x.pos + n }
    if x.pos < x.d.len then (s, x)
    else if x.poisoned then (s, finish x 5)
    else
      let job := s.sec.nextJob
      (queueJob s 4 x.d.key (x.d.op != 4) none x.d.len .dma, { x with job := some job })

/-- A channel with a burst to serve. -/
def hasBurst (s : State) (c : Nat) : Bool :=
  (chState s c == 1 || chState s c == 2) &&
    match (vget s.dma.cur c none : Option DmaCur) with
    | none => chWork s c
    | some x => !x.ready && x.job.isNone

/-- The next channel with a burst in round-robin order. -/
def nextChannel (s : State) : Option Nat :=
  (findLt 64 fun k => hasBurst s ((s.dma.rr + 1 + k) % 64)).map fun k => (s.dma.rr + 1 + k) % 64

/-- One burst of a channel; a descriptor that is just started is judged first. -/
def serveBurst (c : Fin 64) (data : Option Bytes) (s : State) : State :=
  let x := (dmaCur s c).getD (dmaLoad s c)
  let early := if (dmaCur s c).isNone then dmaJudge s c x else none
  let (t, y) := match early with
    | some st => (if st = 5 then s.poisonConsumed 0x31 c.val x.d.addr else s, finish x st)
    | none => match x.d.op with
      | 0 => burstCopy c x data s
      | 1 => burstFill c x s
      | 2 => burstCompare c x data s
      | _ => burstCipher c x data s
  setCur t c (some y)

/-- A word of memory that the burst reads was corrected, or is uncorrectable and so marked poisoned; which, the spec leaves to the
fault (R25). -/
def burstEcc (c : Fin 64) (ecc : EccObs) (s : State) : State :=
  let x := (dmaCur s c).getD (dmaLoad s c)
  let a := x.d.src + x.pos
  if ecc = .clean ∨ x.d.op = 1 ∨ x.d.srcPcie = true ∨ inMemory s a = false then s
  else
    let (k, s) := s.draw
    let w := (a + k % max 1 (burstLen x)) / 8 * 8
    if ecc = .corrected then s.corrected 0x31 c.val w
    else s.setDram { s.dram with poison := w :: s.dram.poison.filter (· != w) }

/-- DMA_BURST: the next channel's burst with what its source gives (R385, R386). -/
def execDmaBurst (data : BurstIn) (s : State) : Out := live s fun s =>
  match nextChannel s with
  | none => s
  | some k =>
    if h : k < 64 then
      let s := s.setDma { s.dma with rr := k }
      serveBurst ⟨k, h⟩ data.pcie (burstEcc ⟨k, h⟩ data.ecc s)
    else s

/-! ### Completion (R386, R391, R392) -/

/-- The destination of a cipher descriptor (*DMA operations*). -/
def cipherDest (x : DmaCur) (j : Job) : Bytes :=
  let out (nonce : Bytes) (n : Nat) : Bytes :=
    (List.range n).map (Config.cipherOut x.d.op j.typ x.d.aad j.material nonce x.taken)
  if x.d.op = 3 then
    let nonce := (j.salt ++ zeros 4).take 4 ++ le 8 j.counter
    nonce ++ x.taken.take x.d.aad ++ out nonce (x.d.len - x.d.aad + 16)
  else if x.d.op = 4 then
    sub x.taken 12 x.d.aad ++ out (x.taken.take 12) (x.d.len - 28 - x.d.aad)
  else out [] 16

/-- A cipher job's result becomes the descriptor's: its destination is written, or zeroed. -/
def cipherDone (c : Fin 64) (x : DmaCur) (code : Nat) (j : Job) (s : State) : State :=
  if code = 0 then
    let (t, all) := dmaWrite c x.d.dstPcie x.d.dstW x.d.dst (cipherDest x j) s
    dmaComplete t c x (if all then 0 else 4)
  else if code = 1 then
    dmaComplete (dmaWrite c x.d.dstPcie x.d.dstW x.d.dst (zeros (dmaOutLen x.d)) s).1 c x 7
  else if code = 6 then dmaComplete (dmaZero s c x) c x 6
  else dmaComplete (if code = 2 then dmaZero s c x else s) c x (6 + code)

/-- DMA_DESCRIPTOR_DONE: the descriptor that has only its completion left, or whose cipher job has ended. -/
def execDmaDescriptorDone (ch : Fin 64) (s : State) : Out := live s fun s =>
  match dmaCur s ch with
  | none => s
  | some x =>
    if x.ready then dmaComplete s ch x x.status
    else match x.job with
      | none => s
      | some id =>
        match tget s.sec.results id with
        | none => s
        | some (code, j) => cipherDone ch x code j (s.setSec { s.sec with results := tdel s.sec.results id })

end Sys2Proof.Machine
end

