-- ==== Sys2Proof/Machine/Commands.lean ====
section
/-! DEFINITION. The rows that are writes of one command object or of one control object: each is a WRITE of its session, the
operation byte of its value fixed by the row, and goes through the dictionary engine's own checks (R10, R37, R48, R51, R501). -/

namespace Sys2Proof.Machine
open Sys2Proof

/-- A write of a command object whose value begins with an operation code. -/
def cmdRow (env : Env) (sess idx op : Nat) (rest : Bytes) (s : State) : State :=
  directOp env sess (writeOp idx 0 (le 1 op ++ rest)) s

/-- A write of a whole value. -/
def valueRow (env : Env) (sess idx el : Nat) (v : Bytes) (s : State) : State := directOp env sess (writeOp idx el v) s

/-- DESCRIBE: index and element are written to 0011h.0 (R10). -/
def execDescribe (sess idx el : Nat) (s : State) : Out := live s fun s => valueRow {} sess 0x0011 0 (le 2 idx ++ le 2 el) s

/-- STA_ENTRY_WRITE: a write of a station entry, element `el` of 3100h (R156). -/
def execStaEntryWrite (sess el : Nat) (v : Bytes) (s : State) : Out := live s fun s => valueRow {} sess 0x3100 el v s

/-- TABLE_ENTRY_WRITE: a write of an entry of a packet-processor table (R250). -/
def execTableEntryWrite (sess idx el : Nat) (v : Bytes) (s : State) : Out := live s fun s =>
  if isPpObject idx then valueRow {} sess idx el v s else s

/-- TPO_CFG_WRITE: a write of a pulse output's configuration (R323). -/
def execTpoCfgWrite (sess el : Nat) (v : Bytes) (s : State) : Out := live s fun s => valueRow {} sess 0x1210 el v s

/-- CORE_DVFS_WRITE: a core's target point is written (R420). -/
def execCoreDvfsWrite (sess el : Nat) (v : Bytes) (s : State) : Out := live s fun s => valueRow {} sess 0x1312 el v s

/-! ### Diagnostic transmissions -/

/-- DIAG_TX_STOP: A DIAG_TX write with MODE 00h ends a diagnostic transmission (R121). -/
def execDiagTxStop (sess : Nat) (rest : Bytes) (s : State) : Out := live s fun s => cmdRow {} sess 0x7F80 0 rest s

/-- DIAG_TX_CW: A DIAG_TX write with MODE 01h starts a continuous-wave transmission if allowed (R118). -/
def execDiagTxCw (sess : Nat) (rest : Bytes) (s : State) : Out := live s fun s => cmdRow {} sess 0x7F80 1 rest s

/-- DIAG_TX_PACKET: A DIAG_TX write with MODE 02h starts a continuous-packet transmission if allowed (R118). -/
def execDiagTxPacket (sess : Nat) (rest : Bytes) (s : State) : Out := live s fun s => cmdRow {} sess 0x7F80 2 rest s

/-- DIAG_TX_MASK: A DIAG_TX write with MODE 03h starts a spectral-mask test transmission if allowed (R118). -/
def execDiagTxMask (sess : Nat) (rest : Bytes) (s : State) : Out := live s fun s => cmdRow {} sess 0x7F80 3 rest s

/-! ### Stations, agreements, members -/

/-- STA_ALLOC: A write to STA_ALLOC takes a station entry and an AID, or refuses (R154). -/
def execStaAlloc (sess : Nat) (v : Bytes) (s : State) : Out := live s fun s => valueRow {} sess 0x3102 0 v s

/-- STA_FREE: A write to STA_FREE frees the entry, discards its queues, deletes its agreements and flushes its reorder
contexts (R157). -/
def execStaFree (sess : Nat) (v : Bytes) (s : State) : Out := live s fun s => valueRow {} sess 0x3103 0 v s

/-- ADD_RX: BA_CMD op 1 installs a receive block acknowledgement agreement (R162). -/
def execAddRx (sess : Nat) (rest : Bytes) (s : State) : Out := live s fun s => cmdRow {} sess 0x3202 1 rest s

/-- ADD_TX: BA_CMD op 2 installs a transmit block acknowledgement agreement (R162). -/
def execAddTx (sess : Nat) (rest : Bytes) (s : State) : Out := live s fun s => cmdRow {} sess 0x3202 2 rest s

/-- DELETE_RX: BA_CMD op 3 deletes a receive agreement (R162). -/
def execDeleteRx (sess : Nat) (rest : Bytes) (s : State) : Out := live s fun s => cmdRow {} sess 0x3202 3 rest s

/-- DELETE_TX: BA_CMD op 4 deletes a transmit agreement (R162). -/
def execDeleteTx (sess : Nat) (rest : Bytes) (s : State) : Out := live s fun s => cmdRow {} sess 0x3202 4 rest s

/-- TWT_ADD: TWT_CMD op 1 installs an individual TWT agreement, or refuses (R197). -/
def execTwtAdd (sess : Nat) (rest : Bytes) (s : State) : Out := live s fun s => cmdRow {} sess 0x3601 1 rest s

/-- TWT_DELETE: TWT_CMD op 2 deletes a TWT agreement, or refuses (R197). -/
def execTwtDelete (sess : Nat) (rest : Bytes) (s : State) : Out := live s fun s => cmdRow {} sess 0x3601 2 rest s

/-- MEMBER_JOIN: MEMBER_CMD JOIN creates a member entry and queues an ACCEPTED response (R226). -/
def execMemberJoin (sess : Nat) (rest : Bytes) (s : State) : Out := live s fun s => cmdRow {} sess 0x3812 1 rest s

/-- MEMBER_REJECT: MEMBER_CMD REJECT queues a response with the given status (R226). -/
def execMemberReject (sess : Nat) (rest : Bytes) (s : State) : Out := live s fun s => cmdRow {} sess 0x3812 2 rest s

/-- MEMBER_REMOVE: MEMBER_CMD REMOVE sends LEAVE and frees the entry (R226). -/
def execMemberRemove (sess : Nat) (rest : Bytes) (s : State) : Out := live s fun s => cmdRow {} sess 0x3812 3 rest s

/-! ### Packet processor -/

/-- PP_MODE_WRITE: A write of PP_MODE changes the update method, refused while the open version holds changes (R251). -/
def execPpModeWrite (sess : Nat) (v : Bytes) (s : State) : Out := live s fun s => valueRow {} sess 0x4000 0 v s

/-- COMMIT: VERSION_CMD COMMIT makes the open version live for every later packet (R251). -/
def execCommit (sess : Nat) (s : State) : Out := live s fun s => valueRow {} sess 0x4002 0 [1] s

/-- DISCARD: VERSION_CMD DISCARD drops the open version (R251). -/
def execDiscard (sess : Nat) (s : State) : Out := live s fun s => valueRow {} sess 0x4002 0 [2] s

/-- RULE_INSERT: RULE_CMD INSERT writes a rule to the lowest invalid element (R254). -/
def execRuleInsert (sess : Nat) (rest : Bytes) (s : State) : Out := live s fun s => cmdRow {} sess 0x4101 1 rest s

/-- RULE_DELETE: RULE_CMD DELETE removes a rule (R254). -/
def execRuleDelete (sess : Nat) (rest : Bytes) (s : State) : Out := live s fun s => cmdRow {} sess 0x4101 2 rest s

/-- BRIDGE_INSERT: BRIDGE_CMD INSERT adds a static bridge entry (R254). -/
def execBridgeInsert (sess : Nat) (rest : Bytes) (s : State) : Out := live s fun s => cmdRow {} sess 0x4201 1 rest s

/-- BRIDGE_DELETE: BRIDGE_CMD DELETE removes a bridge entry by MAC and VLAN (R254). -/
def execBridgeDelete (sess : Nat) (rest : Bytes) (s : State) : Out := live s fun s => cmdRow {} sess 0x4201 2 rest s

/-- BRIDGE_FLUSH: BRIDGE_CMD FLUSH removes the dynamic bridge entries (R254). -/
def execBridgeFlush (sess : Nat) (rest : Bytes) (s : State) : Out := live s fun s => cmdRow {} sess 0x4201 3 rest s

/-- ROUTE_INSERT: ROUTE_CMD INSERT adds a route and raises the route generation (R254). -/
def execRouteInsert (sess : Nat) (rest : Bytes) (s : State) : Out := live s fun s => cmdRow {} sess 0x4310 1 rest s

/-- ROUTE_DELETE: ROUTE_CMD DELETE removes a route by prefix and length (R254). -/
def execRouteDelete (sess : Nat) (rest : Bytes) (s : State) : Out := live s fun s => cmdRow {} sess 0x4310 2 rest s

/-- FLOW_INSERT: FLOW_CMD INSERT adds a static flow entry, or is aborted when both buckets are full (R244). -/
def execFlowInsert (sess : Nat) (rest : Bytes) (s : State) : Out := live s fun s => cmdRow {} sess 0x4410 1 rest s

/-- FLOW_DELETE: FLOW_CMD DELETE removes a flow by its key (R254). -/
def execFlowDelete (sess : Nat) (rest : Bytes) (s : State) : Out := live s fun s => cmdRow {} sess 0x4410 2 rest s

/-- FLOW_FLUSH: FLOW_CMD FLUSH removes the learned flows (R254). -/
def execFlowFlush (sess : Nat) (rest : Bytes) (s : State) : Out := live s fun s => cmdRow {} sess 0x4410 3 rest s

/-! ### Wired ports -/

/-- PCIE_CFG_READ: PCIE_CFG op 1 reads the endpoint's configuration space in the root role (R312). -/
def execPcieCfgRead (sess : Nat) (rest : Bytes) (env : Env) (s : State) : Out := live s fun s => cmdRow env sess 0x5832 1 rest s

/-- PCIE_CFG_WRITE: PCIE_CFG op 2 writes the endpoint's configuration space in the root role (R312). -/
def execPcieCfgWrite (sess : Nat) (rest : Bytes) (env : Env) (s : State) : Out := live s fun s => cmdRow env sess 0x5832 2 rest s

/-- I2C_XFER: I2C_XFER runs a write and read transfer, aborting on NAK or a stuck line (R309). -/
def execI2cXfer (sess : Nat) (v : Bytes) (env : Env) (s : State) : Out := live s fun s => valueRow env sess 0x5851 0 v s

/-- GPIO_OUT_WRITE: A write of GPIO_OUT drives the output pins (R310). -/
def execGpioOutWrite (sess : Nat) (v : Bytes) (s : State) : Out := live s fun s => valueRow {} sess 0x5842 0 v s

/-! ### Datum -/

/-- DATUM_INCR_WRITE: A direct write of DATUM_INCR is range-checked and scheduled (R314). -/
def execDatumIncrWrite (sess : Nat) (v : Bytes) (s : State) : Out := live s fun s => valueRow {} sess 0x1201 0 v s

/-- STEP_RELATIVE: A DATUM_STEP write in RELATIVE mode requests an offset step of Datum (R317). -/
def execStepRelative (sess : Nat) (rest : Bytes) (s : State) : Out := live s fun s => cmdRow {} sess 0x1202 0 rest s

/-- STEP_ABSOLUTE: A DATUM_STEP write in ABSOLUTE mode requests that Datum be set to a value (R317). -/
def execStepAbsolute (sess : Nat) (rest : Bytes) (s : State) : Out := live s fun s => cmdRow {} sess 0x1202 1 rest s

/-- CAPTURE_POP: A write of CAPTURE_POP removes and returns the oldest capture record of an input (R327). -/
def execCapturePop (sess : Nat) (v : Bytes) (s : State) : Out := live s fun s => valueRow {} sess 0x1222 0 v s

/-! ### Security -/

/-- INSTALL: KEY_CMD INSTALL writes a key into a slot with its initial counter, or refuses (R343). -/
def execInstall (sess : Nat) (rest : Bytes) (s : State) : Out := live s fun s => cmdRow {} sess 0x6001 1 rest s

/-- ERASE: KEY_CMD ERASE makes a slot EMPTY and zeroes its material (R344). -/
def execErase (sess : Nat) (rest : Bytes) (s : State) : Out := live s fun s => cmdRow {} sess 0x6001 2 rest s

/-- REKEY_POP: A write to REKEY_POP removes and returns the oldest rekey record (R348). -/
def execRekeyPop (sess : Nat) (v : Bytes) (s : State) : Out := live s fun s => valueRow {} sess 0x6004 0 v s

/-- ATTEST: A nonce written to ATTEST starts a signed attestation report (R355). -/
def execAttest (sess : Nat) (v : Bytes) (s : State) : Out := live s fun s => valueRow {} sess 0x6110 0 v s

/-- EXTEND: EXTEND extends MR6 or MR7 with firmware's value, from a local transport only (R354). -/
def execExtend (sess : Nat) (v : Bytes) (s : State) : Out := live s fun s => valueRow {} sess 0x6112 0 v s

/-- PROGRAM: FUSE_CMD PROGRAM programs a customer key slot under a verified signature (R356). -/
def execProgram (sess : Nat) (rest : Bytes) (env : Env) (s : State) : Out := live s fun s => cmdRow env sess 0x6122 1 rest s

/-- REVOKE: FUSE_CMD REVOKE revokes an active key slot under a verified signature (R356). -/
def execRevoke (sess : Nat) (rest : Bytes) (env : Env) (s : State) : Out := live s fun s => cmdRow env sess 0x6122 2 rest s

/-- DEBUG_DISABLE: FUSE_CMD DEBUG_DISABLE permanently disables debug (R356). -/
def execDebugDisable (sess : Nat) (rest : Bytes) (env : Env) (s : State) : Out := live s fun s => cmdRow env sess 0x6122 3 rest s

/-- CHALLENGE: DEBUG_UNLOCK CHALLENGE returns a fresh nonce (R358). -/
def execChallenge (sess : Nat) (rest : Bytes) (s : State) : Out := live s fun s => cmdRow {} sess 0x6130 1 rest s

/-- RESPOND: DEBUG_UNLOCK RESPOND unlocks core debug on a valid signature and extends MR5 (R358). -/
def execRespond (sess : Nat) (rest : Bytes) (env : Env) (s : State) : Out := live s fun s => cmdRow env sess 0x6130 2 rest s

/-! ### DRAM, power, pair, log -/

/-- MIGRATE_START: MIGRATE_CMD START starts a migration of the named rank (R377). -/
def execMigrateStart (sess : Nat) (rest : Bytes) (s : State) : Out := live s fun s => cmdRow {} sess 0x6404 1 rest s

/-- MIGRATE_RESUME: MIGRATE_CMD RESUME continues a STOPPED migration (R381). -/
def execMigrateResume (sess : Nat) (rest : Bytes) (s : State) : Out := live s fun s => cmdRow {} sess 0x6404 2 rest s

/-- POWER_CMD_STANDBY: POWER_CMD op 1 polls the units' votes and enters STANDBY, or refuses (R416). -/
def execPowerCmdStandby (sess : Nat) (rest : Bytes) (s : State) : Out := live s fun s => cmdRow {} sess 0x1301 1 rest s

/-- POWER_CMD_HIBERNATE: POWER_CMD op 2 polls the units' votes and enters HIBERNATE, or refuses (R416). -/
def execPowerCmdHibernate (sess : Nat) (rest : Bytes) (s : State) : Out := live s fun s => cmdRow {} sess 0x1301 2 rest s

/-- PAIR_SWITCHOVER: PAIR_CMD SWITCHOVER hands the active role to the standby in order (R444). -/
def execPairSwitchover (sess : Nat) (s : State) : Out := live s fun s => valueRow {} sess 0x1402 0 [1] s

/-- RESYNC: PAIR_CMD RESYNC discards the standby's mirror and copies again (R432). -/
def execResync (sess : Nat) (s : State) : Out := live s fun s => valueRow {} sess 0x1402 0 [2] s

/-- LOG_ACK: A write of LOG_ACK acknowledges DEVICE_FAULT records up to a LOG_SEQ (R457). -/
def execLogAck (sess : Nat) (v : Bytes) (s : State) : Out := live s fun s => valueRow {} sess 0x7F02 0 v s

/-! ### Update -/

/-- BEGIN: UPDATE_CMD BEGIN verifies an image header and starts receiving into the target slot (R461). -/
def execBegin (sess : Nat) (rest : Bytes) (env : Env) (s : State) : Out := live s fun s => cmdRow env sess 0x1601 1 rest s

/-- UPDATE_DATA: UPDATE_DATA programs a chunk of payload at the expected offset (R463). -/
def execUpdateData (sess : Nat) (v : Bytes) (s : State) : Out := live s fun s => valueRow {} sess 0x1602 0 v s

/-- FINISH: UPDATE_CMD FINISH checks the payload digest and writes the header last (R462). -/
def execFinish (sess : Nat) (rest : Bytes) (env : Env) (s : State) : Out := live s fun s => cmdRow env sess 0x1601 2 rest s

/-- ACTIVATE: UPDATE_CMD ACTIVATE starts a firmware trial with a reset, or schedules a profile (R466). -/
def execActivate (sess : Nat) (rest : Bytes) (s : State) : Out := live s fun s => cmdRow {} sess 0x1601 3 rest s

/-- UPDATE_DISCARD: UPDATE_CMD DISCARD abandons the image and leaves the slot EMPTY (R464). -/
def execUpdateDiscard (sess : Nat) (rest : Bytes) (s : State) : Out := live s fun s => cmdRow {} sess 0x1601 4 rest s

/-- REVERT: UPDATE_CMD REVERT ends a trial in fallback with a reset (R467). -/
def execRevert (sess : Nat) (rest : Bytes) (s : State) : Out := live s fun s => cmdRow {} sess 0x1601 5 rest s

/-- BENCHMARK: A write of BENCHMARK confirms the trial image and advances the anti-rollback floor (R468). -/
def execBenchmark (sess : Nat) (v : Bytes) (s : State) : Out := live s fun s => valueRow {} sess 0x1600 0 v s

end Sys2Proof.Machine
end

