-- ==== Sys2Proof/Machine/Dispatch.lean ====
section
/-! DEFINITION. The one dispatch from a command to its meaning, an arm for each row of the table. -/

namespace Sys2Proof.Machine
open Sys2Proof

/-- The effect of one command on everything but the queue. -/
def exec (i : Instr) (s : State) : Host.Outcome State Fault Refusal :=
  match i with
  | .monitorRefresh readings => Sys2Proof.Machine.execMonitorRefresh readings s
  | .flagClear idx el ones setLast => Sys2Proof.Machine.execFlagClear idx el ones setLast s
  | .registerWrite core addr width value => Sys2Proof.Machine.execRegisterWrite core addr width value s
  | .pduReceive tr head body plain env => Sys2Proof.Machine.execPduReceive tr head body plain env s
  | .dpGo ch env => Sys2Proof.Machine.execDpGo ch env s
  | .pduExecute sess env => Sys2Proof.Machine.execPduExecute sess env s
  | .seqWaitExpiry sess => Sys2Proof.Machine.execSeqWaitExpiry sess s
  | .read sess idx el ask => Sys2Proof.Machine.execRead sess idx el ask s
  | .write sess idx el v env => Sys2Proof.Machine.execWrite sess idx el v env s
  | .stage sess idx el v => Sys2Proof.Machine.execStage sess idx el v s
  | .close sess => Sys2Proof.Machine.execClose sess s
  | .stake sess v persist => Sys2Proof.Machine.execStake sess v persist s
  | .abort sess => Sys2Proof.Machine.execAbort sess s
  | .subscribe sess idx el v => Sys2Proof.Machine.execSubscribe sess idx el v s
  | .notify sub => Sys2Proof.Machine.execNotify sub s
  | .open1 tr nm k em => Sys2Proof.Machine.execOpen1 tr nm k em s
  | .open3 sess env => Sys2Proof.Machine.execOpen3 sess env s
  | .endSession sess => Sys2Proof.Machine.execEndSession sess s
  | .sessionIdleTimeout sess => Sys2Proof.Machine.execSessionIdleTimeout sess s
  | .fwAnswer req code detail v => Sys2Proof.Machine.execFwAnswer req code detail v s
  | .fwTimeout req => Sys2Proof.Machine.execFwTimeout req s
  | .stakeInstant slot => Sys2Proof.Machine.execStakeInstant slot s
  | .stakeLatched slot => Sys2Proof.Machine.execStakeLatched slot s
  | .persistSave poisoned => Sys2Proof.Machine.execPersistSave poisoned s
  | .abortRadioTx r => Sys2Proof.Machine.execAbortRadioTx r s
  | .abortRadioRx r => Sys2Proof.Machine.execAbortRadioRx r s
  | .abortCipherLane l => Sys2Proof.Machine.execAbortCipherLane l s
  | .abortDmaChannel c => Sys2Proof.Machine.execAbortDmaChannel c s
  | .abortThread t => Sys2Proof.Machine.execAbortThread t s
  | .abortTraverse slot instantFirst => Sys2Proof.Machine.execAbortTraverse slot instantFirst s
  | .abortDramMigration => Sys2Proof.Machine.execAbortDramMigration s
  | .abortUpdate => Sys2Proof.Machine.execAbortUpdate s
  | .describe sess idx el => Sys2Proof.Machine.execDescribe sess idx el s
  | .overrangeWindow r w => Sys2Proof.Machine.execOverrangeWindow r w s
  | .pathSwitch r => Sys2Proof.Machine.execPathSwitch r s
  | .pathSwitchDone r => Sys2Proof.Machine.execPathSwitchDone r s
  | .blockHoldExpiry r => Sys2Proof.Machine.execBlockHoldExpiry r s
  | .probeExpiry r => Sys2Proof.Machine.execProbeExpiry r s
  | .imageRecalTimer r rejectionDb => Sys2Proof.Machine.execImageRecalTimer r rejectionDb s
  | .fallbackCalStep t step => Sys2Proof.Machine.execFallbackCalStep t step s
  | .trxJoinCalDone t temp => Sys2Proof.Machine.execTrxJoinCalDone t temp s
  | .sentinelDwellEnd t powers moved => Sys2Proof.Machine.execSentinelDwellEnd t powers moved s
  | .rffeWrite bus => Sys2Proof.Machine.execRffeWrite bus s
  | .channelChange r => Sys2Proof.Machine.execChannelChange r s
  | .channelChangeDone r temps us => Sys2Proof.Machine.execChannelChangeDone r temps us s
  | .loLocked r => Sys2Proof.Machine.execLoLocked r s
  | .lockTimeout r => Sys2Proof.Machine.execLockTimeout r s
  | .lockLost r => Sys2Proof.Machine.execLockLost r s
  | .relockDone r temps => Sys2Proof.Machine.execRelockDone r temps s
  | .faultRetry r locks temps => Sys2Proof.Machine.execFaultRetry r locks temps s
  | .recalStart r temps => Sys2Proof.Machine.execRecalStart r temps s
  | .recalDone r temps => Sys2Proof.Machine.execRecalDone r temps s
  | .heldRequestDeadline r id => Sys2Proof.Machine.execHeldRequestDeadline r id s
  | .dutyBucketRoll sub => Sys2Proof.Machine.execDutyBucketRoll sub s
  | .diagTxStop sess rest => Sys2Proof.Machine.execDiagTxStop sess rest s
  | .diagTxCw sess rest => Sys2Proof.Machine.execDiagTxCw sess rest s
  | .diagTxPacket sess rest => Sys2Proof.Machine.execDiagTxPacket sess rest s
  | .diagTxMask sess rest => Sys2Proof.Machine.execDiagTxMask sess rest s
  | .diagTimeoutExpiry r => Sys2Proof.Machine.execDiagTimeoutExpiry r s
  | .diagDurationEnd r => Sys2Proof.Machine.execDiagDurationEnd r s
  | .preambleDetect r c tr => Sys2Proof.Machine.execPreambleDetect r c tr s
  | .signalFieldDecode r sf format users => Sys2Proof.Machine.execSignalFieldDecode r sf format users s
  | .restart r p => Sys2Proof.Machine.execRestart r p s
  | .nfIntervalEnd r t windows => Sys2Proof.Machine.execNfIntervalEnd r t windows s
  | .tbtt r b mediumFree => Sys2Proof.Machine.execTbtt r b mediumFree s
  | .probeRequest r b p => Sys2Proof.Machine.execProbeRequest r b p s
  | .staAlloc sess v => Sys2Proof.Machine.execStaAlloc sess v s
  | .staEntryWrite sess el v => Sys2Proof.Machine.execStaEntryWrite sess el v s
  | .staFree sess v => Sys2Proof.Machine.execStaFree sess v s
  | .aidRelease pool aid tenSeconds => Sys2Proof.Machine.execAidRelease pool aid tenSeconds s
  | .mpduReceive r m => Sys2Proof.Machine.execMpduReceive r m s
  | .blockAckReq r sta tid sn => Sys2Proof.Machine.execBlockAckReq r sta tid sn s
  | .reorderTimeout ctx => Sys2Proof.Machine.execReorderTimeout ctx s
  | .ppduAssembly r p => Sys2Proof.Machine.execPpduAssembly r p s
  | .ackReceive r acked => Sys2Proof.Machine.execAckReceive r acked s
  | .ackTimeout r => Sys2Proof.Machine.execAckTimeout r s
  | .psPoll r sta => Sys2Proof.Machine.execPsPoll r sta s
  | .uapsdTrigger r sta sp => Sys2Proof.Machine.execUapsdTrigger r sta sp s
  | .addRx sess rest => Sys2Proof.Machine.execAddRx sess rest s
  | .addTx sess rest => Sys2Proof.Machine.execAddTx sess rest s
  | .deleteRx sess rest => Sys2Proof.Machine.execDeleteRx sess rest s
  | .deleteTx sess rest => Sys2Proof.Machine.execDeleteTx sess rest s
  | .mtxDoorbell core r tail => Sys2Proof.Machine.execMtxDoorbell core r tail s
  | .mtxComplete r desc status => Sys2Proof.Machine.execMtxComplete r desc status s
  | .planSnapshot r dirUl ac => Sys2Proof.Machine.execPlanSnapshot r dirUl ac s
  | .planDone r ns => Sys2Proof.Machine.execPlanDone r ns s
  | .tbPpduReceive r p => Sys2Proof.Machine.execTbPpduReceive r p s
  | .peerTrigger r sta csRequired busy durNs => Sys2Proof.Machine.execPeerTrigger r sta csRequired busy durNs s
  | .bookingRetry r => Sys2Proof.Machine.execBookingRetry r s
  | .twtAdd sess rest => Sys2Proof.Machine.execTwtAdd sess rest s
  | .twtDelete sess rest => Sys2Proof.Machine.execTwtDelete sess rest s
  | .twtSpStart a => Sys2Proof.Machine.execTwtSpStart a s
  | .twtSpEnd a => Sys2Proof.Machine.execTwtSpEnd a s
  | .chainStart r => Sys2Proof.Machine.execChainStart r s
  | .chainHead r => Sys2Proof.Machine.execChainHead r s
  | .slotStart slot => Sys2Proof.Machine.execSlotStart slot s
  | .beaconForm r => Sys2Proof.Machine.execBeaconForm r s
  | .sharedPosition r k cca => Sys2Proof.Machine.execSharedPosition r k cca s
  | .chainFrameReceive r f => Sys2Proof.Machine.execChainFrameReceive r f s
  | .chainAckTimeout r => Sys2Proof.Machine.execChainAckTimeout r s
  | .joinPendingExpiry rec => Sys2Proof.Machine.execJoinPendingExpiry rec s
  | .memberJoin sess rest => Sys2Proof.Machine.execMemberJoin sess rest s
  | .memberReject sess rest => Sys2Proof.Machine.execMemberReject sess rest s
  | .memberRemove sess rest => Sys2Proof.Machine.execMemberRemove sess rest s
  | .beaconMissed r => Sys2Proof.Machine.execBeaconMissed r s
  | .joinTimeout r => Sys2Proof.Machine.execJoinTimeout r s
  | .joinBackoffExpiry r => Sys2Proof.Machine.execJoinBackoffExpiry r s
  | .scanAdvance r => Sys2Proof.Machine.execScanAdvance r s
  | .packetIngress p => Sys2Proof.Machine.execPacketIngress p s
  | .packetHandoff ctx => Sys2Proof.Machine.execPacketHandoff ctx s
  | .bridgeAgeExpiry el => Sys2Proof.Machine.execBridgeAgeExpiry el s
  | .flowIdleExpiry entry => Sys2Proof.Machine.execFlowIdleExpiry entry s
  | .ppModeWrite sess v => Sys2Proof.Machine.execPpModeWrite sess v s
  | .tableEntryWrite sess idx el v => Sys2Proof.Machine.execTableEntryWrite sess idx el v s
  | .commit sess => Sys2Proof.Machine.execCommit sess s
  | .discard sess => Sys2Proof.Machine.execDiscard sess s
  | .versionReclaim n => Sys2Proof.Machine.execVersionReclaim n s
  | .versionLiveTimeout => Sys2Proof.Machine.execVersionLiveTimeout s
  | .ruleInsert sess rest => Sys2Proof.Machine.execRuleInsert sess rest s
  | .ruleDelete sess rest => Sys2Proof.Machine.execRuleDelete sess rest s
  | .bridgeInsert sess rest => Sys2Proof.Machine.execBridgeInsert sess rest s
  | .bridgeDelete sess rest => Sys2Proof.Machine.execBridgeDelete sess rest s
  | .bridgeFlush sess rest => Sys2Proof.Machine.execBridgeFlush sess rest s
  | .routeInsert sess rest => Sys2Proof.Machine.execRouteInsert sess rest s
  | .routeDelete sess rest => Sys2Proof.Machine.execRouteDelete sess rest s
  | .flowInsert sess rest => Sys2Proof.Machine.execFlowInsert sess rest s
  | .flowDelete sess rest => Sys2Proof.Machine.execFlowDelete sess rest s
  | .flowFlush sess rest => Sys2Proof.Machine.execFlowFlush sess rest s
  | .frameEnqueue f => Sys2Proof.Machine.execFrameEnqueue f s
  | .egressRequest e named ac ecc badCells => Sys2Proof.Machine.execEgressRequest e named ac ecc badCells s
  | .refill => Sys2Proof.Machine.execRefill s
  | .gateEntryChange g => Sys2Proof.Machine.execGateEntryChange g s
  | .dramReturn q => Sys2Proof.Machine.execDramReturn q s
  | .ethFrameReceive p f => Sys2Proof.Machine.execEthFrameReceive p f s
  | .linkDown p => Sys2Proof.Machine.execLinkDown p s
  | .linkUp p fecLock an speed width => Sys2Proof.Machine.execLinkUp p fecLock an speed width s
  | .statsRead sess idx el => Sys2Proof.Machine.execStatsRead sess idx el s
  | .pauseReceive p pfc vector quanta => Sys2Proof.Machine.execPauseReceive p pfc vector quanta s
  | .pauseExpiry p c => Sys2Proof.Machine.execPauseExpiry p c s
  | .pauseRefresh p c => Sys2Proof.Machine.execPauseRefresh p c s
  | .ringRxDeliver take => Sys2Proof.Machine.execRingRxDeliver take s
  | .txRingDoorbell ring tail words bufs bad => Sys2Proof.Machine.execTxRingDoorbell ring tail words bufs bad s
  | .plcaLost => Sys2Proof.Machine.execPlcaLost s
  | .plcaRestored => Sys2Proof.Machine.execPlcaRestored s
  | .pcieCfgRead sess rest env => Sys2Proof.Machine.execPcieCfgRead sess rest env s
  | .pcieCfgWrite sess rest env => Sys2Proof.Machine.execPcieCfgWrite sess rest env s
  | .i2cXfer sess v env => Sys2Proof.Machine.execI2cXfer sess v env s
  | .uartDataWrite core v => Sys2Proof.Machine.execUartDataWrite core v s
  | .uartDataRead core => Sys2Proof.Machine.execUartDataRead core s
  | .uartRxByte b => Sys2Proof.Machine.execUartRxByte b s
  | .gpioOutWrite sess v => Sys2Proof.Machine.execGpioOutWrite sess v s
  | .datumIncrWrite sess v => Sys2Proof.Machine.execDatumIncrWrite sess v s
  | .datumIncrApply => Sys2Proof.Machine.execDatumIncrApply s
  | .stepRelative sess rest => Sys2Proof.Machine.execStepRelative sess rest s
  | .stepAbsolute sess rest => Sys2Proof.Machine.execStepAbsolute sess rest s
  | .stepApply => Sys2Proof.Machine.execStepApply s
  | .dtmSnapRead core => Sys2Proof.Machine.execDtmSnapRead core s
  | .tpoCfgWrite sess el v => Sys2Proof.Machine.execTpoCfgWrite sess el v s
  | .tpoEdge o => Sys2Proof.Machine.execTpoEdge o s
  | .captureEdge line rising sinceLastNs highNs => Sys2Proof.Machine.execCaptureEdge line rising sinceLastNs highNs s
  | .capturePop sess v => Sys2Proof.Machine.execCapturePop sess v s
  | .aonCalCount c => Sys2Proof.Machine.execAonCalCount c s
  | .datumAdvance edges => Sys2Proof.Machine.execDatumAdvance edges s
  | .followStep => Sys2Proof.Machine.execFollowStep s
  | .cipherJobStart l key => Sys2Proof.Machine.execCipherJobStart l key s
  | .cipherJobDone l tagOk => Sys2Proof.Machine.execCipherJobDone l tagOk s
  | .laneParity l => Sys2Proof.Machine.execLaneParity l s
  | .install sess rest => Sys2Proof.Machine.execInstall sess rest s
  | .erase sess rest => Sys2Proof.Machine.execErase sess rest s
  | .rekeyPop sess v => Sys2Proof.Machine.execRekeyPop sess v s
  | .attest sess v => Sys2Proof.Machine.execAttest sess v s
  | .attestDone => Sys2Proof.Machine.execAttestDone s
  | .extend sess v => Sys2Proof.Machine.execExtend sess v s
  | .program sess rest env => Sys2Proof.Machine.execProgram sess rest env s
  | .revoke sess rest env => Sys2Proof.Machine.execRevoke sess rest env s
  | .debugDisable sess rest env => Sys2Proof.Machine.execDebugDisable sess rest env s
  | .challenge sess rest => Sys2Proof.Machine.execChallenge sess rest s
  | .respond sess rest env => Sys2Proof.Machine.execRespond sess rest env s
  | .entropyFail => Sys2Proof.Machine.execEntropyFail s
  | .mcInit core => Sys2Proof.Machine.execMcInit core s
  | .initDone => Sys2Proof.Machine.execInitDone s
  | .initTimeout => Sys2Proof.Machine.execInitTimeout s
  | .mcService core => Sys2Proof.Machine.execMcService core s
  | .trnStart core v => Sys2Proof.Machine.execTrnStart core v s
  | .trnDone laneFail errBeats => Sys2Proof.Machine.execTrnDone laneFail errBeats s
  | .mrw core v => Sys2Proof.Machine.execMrw core v s
  | .mrr core v data => Sys2Proof.Machine.execMrr core v data s
  | .laneDelayWrite core addr v => Sys2Proof.Machine.execLaneDelayWrite core addr v s
  | .dramRead addr len => Sys2Proof.Machine.execDramRead addr len s
  | .dramWrite addr data => Sys2Proof.Machine.execDramWrite addr data s
  | .dramIssue sc flips => Sys2Proof.Machine.execDramIssue sc flips s
  | .rowIdleClose cs sc bank => Sys2Proof.Machine.execRowIdleClose cs sc bank s
  | .refresh cs => Sys2Proof.Machine.execRefresh cs s
  | .tempPoll over85 => Sys2Proof.Machine.execTempPoll over85 s
  | .caParityAlert sc executed => Sys2Proof.Machine.execCaParityAlert sc executed s
  | .migrationBlock poisoned => Sys2Proof.Machine.execMigrationBlock poisoned s
  | .migrateStart sess rest => Sys2Proof.Machine.execMigrateStart sess rest s
  | .migrateResume sess rest => Sys2Proof.Machine.execMigrateResume sess rest s
  | .dmaDoorbell core ch tail => Sys2Proof.Machine.execDmaDoorbell core ch tail s
  | .dmaBurst data => Sys2Proof.Machine.execDmaBurst data s
  | .dmaDescriptorDone ch => Sys2Proof.Machine.execDmaDescriptorDone ch s
  | .dmaStop core ch => Sys2Proof.Machine.execDmaStop core ch s
  | .dmaStopRelease core ch => Sys2Proof.Machine.execDmaStopRelease core ch s
  | .dmaResume core ch => Sys2Proof.Machine.execDmaResume core ch s
  | .create core op arg => Sys2Proof.Machine.execCreate core op arg s
  | .wait core op arg => Sys2Proof.Machine.execWait core op arg s
  | .yield core => Sys2Proof.Machine.execYield core s
  | .exit core => Sys2Proof.Machine.execExit core s
  | .post core op arg => Sys2Proof.Machine.execPost core op arg s
  | .setPriority core op => Sys2Proof.Machine.execSetPriority core op s
  | .threadAbort core op => Sys2Proof.Machine.execThreadAbort core op s
  | .dspNextRead core => Sys2Proof.Machine.execDspNextRead core s
  | .waitTimeout t => Sys2Proof.Machine.execWaitTimeout t s
  | .migrateExpiry t => Sys2Proof.Machine.execMigrateExpiry t s
  | .powerCmdStandby sess rest => Sys2Proof.Machine.execPowerCmdStandby sess rest s
  | .powerCmdHibernate sess rest => Sys2Proof.Machine.execPowerCmdHibernate sess rest s
  | .entryDone => Sys2Proof.Machine.execEntryDone s
  | .entryAborted unit step => Sys2Proof.Machine.execEntryAborted unit step s
  | .wake source => Sys2Proof.Machine.execWake source s
  | .powerRequest q => Sys2Proof.Machine.execPowerRequest q s
  | .vidChange cpu => Sys2Proof.Machine.execVidChange cpu s
  | .coreDvfsWrite sess el v => Sys2Proof.Machine.execCoreDvfsWrite sess el v s
  | .beaconBooking r b => Sys2Proof.Machine.execBeaconBooking r b s
  | .supplyFailAssert lowNs => Sys2Proof.Machine.execSupplyFailAssert lowNs s
  | .supplyRestore => Sys2Proof.Machine.execSupplyRestore s
  | .heartbeatSend => Sys2Proof.Machine.execHeartbeatSend s
  | .heartbeatReceive h => Sys2Proof.Machine.execHeartbeatReceive h s
  | .heartbeatMissed => Sys2Proof.Machine.execHeartbeatMissed s
  | .mirror cls seq item crcOk => Sys2Proof.Machine.execMirror cls seq item crcOk s
  | .mirrorAck seq => Sys2Proof.Machine.execMirrorAck seq s
  | .mirrorResend => Sys2Proof.Machine.execMirrorResend s
  | .resyncReq => Sys2Proof.Machine.execResyncReq s
  | .resyncData cls seq item crcOk last progress => Sys2Proof.Machine.execResyncData cls seq item crcOk last progress s
  | .switchover => Sys2Proof.Machine.execSwitchover s
  | .stakeMirrorTimeout slot => Sys2Proof.Machine.execStakeMirrorTimeout slot s
  | .waitExpiry => Sys2Proof.Machine.execWaitExpiry s
  | .claimSample => Sys2Proof.Machine.execClaimSample s
  | .peerActiveChange level => Sys2Proof.Machine.execPeerActiveChange level s
  | .pairKick core v => Sys2Proof.Machine.execPairKick core v s
  | .kickTimeout => Sys2Proof.Machine.execKickTimeout s
  | .pairSwitchover sess => Sys2Proof.Machine.execPairSwitchover sess s
  | .resync sess => Sys2Proof.Machine.execResync sess s
  | .logDeliver rec => Sys2Proof.Machine.execLogDeliver rec s
  | .logCommit => Sys2Proof.Machine.execLogCommit s
  | .logAck sess v => Sys2Proof.Machine.execLogAck sess v s
  | .begin sess rest env => Sys2Proof.Machine.execBegin sess rest env s
  | .updateData sess v => Sys2Proof.Machine.execUpdateData sess v s
  | .finish sess rest env => Sys2Proof.Machine.execFinish sess rest env s
  | .activate sess rest => Sys2Proof.Machine.execActivate sess rest s
  | .updateDiscard sess rest => Sys2Proof.Machine.execUpdateDiscard sess rest s
  | .revert sess rest => Sys2Proof.Machine.execRevert sess rest s
  | .benchmark sess v => Sys2Proof.Machine.execBenchmark sess v s
  | .trialWindowExpiry => Sys2Proof.Machine.execTrialWindowExpiry s
  | .profileApply => Sys2Proof.Machine.execProfileApply s
  | .resetN lowNs => Sys2Proof.Machine.execResetN lowNs s
  | .powerGood rail => Sys2Proof.Machine.execPowerGood rail s
  | .pgLost rail => Sys2Proof.Machine.execPgLost rail s
  | .pllLost domain => Sys2Proof.Machine.execPllLost domain s
  | .refWindow edges => Sys2Proof.Machine.execRefWindow edges s
  | .startupStepTimeout lastWindow => Sys2Proof.Machine.execStartupStepTimeout lastWindow s
  | .pllLock => Sys2Proof.Machine.execPllLock s
  | .resetRelease b => Sys2Proof.Machine.execResetRelease b s
  | .failRetryExpiry => Sys2Proof.Machine.execFailRetryExpiry s
  | .rcTrim v => Sys2Proof.Machine.execRcTrim v s
  | .limpRefCheck w1 w2 => Sys2Proof.Machine.execLimpRefCheck w1 w2 s
  | .thermReading sensor v => Sys2Proof.Machine.execThermReading sensor v s
  | .thermTrip sensor => Sys2Proof.Machine.execThermTrip sensor s
  | .datumTick => Sys2Proof.Machine.execDatumTick s
  | .aonPowerOn => Sys2Proof.Machine.execAonPowerOn s
  | .powerLoss => Sys2Proof.Machine.execPowerLoss s
  | .supplyBack => Sys2Proof.Machine.execSupplyBack s
  | .entropyRestored => Sys2Proof.Machine.execEntropyRestored s
  | .peerActiveHeld => Sys2Proof.Machine.execPeerActiveHeld s
  | .fwDeclare objs => Sys2Proof.Machine.execFwDeclare objs s
  | .coreLoad core addr width fetch flips => Sys2Proof.Machine.execCoreLoad core addr width fetch flips s
  | .inboundRequest q => Sys2Proof.Machine.execInboundRequest q s
  | .enableReassert => Sys2Proof.Machine.execEnableReassert s
  | .aerUncorrectable => Sys2Proof.Machine.execAerUncorrectable s

end Sys2Proof.Machine
end

