-- ==== Sys2Proof/WellFormed.lean ====
section
/-! DEFINITION. Which commands are well formed: every operand has a value that the field it stands for can carry. -/

namespace Sys2Proof

/-- A session number of *Session numbers* that a PDU of an open session carries. -/
def sessionOk (n : Nat) : Bool :=
  decide ((1 ≤ n ∧ n ≤ 0xFF) ∨ (0xFF00 ≤ n ∧ n ≤ 0xFF07) ∨ n = 0xFF10)

/-- INDEX, ELEMENT and every other U16. -/
def u16Ok (n : Nat) : Bool := decide (n < 2 ^ 16)

/-- A value's length fits VLEN. -/
def valueOk (v : Bytes) : Bool := decide (v.length < 2 ^ 16)

/-- A register access of a core: a 64-bit address, a width of 1, 2, 4 or 8 bytes. -/
def accessOk (addr width : Nat) : Bool := decide (addr < 2 ^ 64) && [1, 2, 4, 8].contains width

/-- A number that fits so many bits. -/
def fitsOk (bits n : Nat) : Bool := decide (n < 2 ^ bits)

/-- A write of a whole value in a session. -/
def writeOk (sess : Nat) (v : Bytes) : Bool := sessionOk sess && valueOk v

/-- A write of a command object whose operation byte the row fixes. -/
def restOk (sess : Nat) (rest : Bytes) : Bool := sessionOk sess && decide (rest.length + 1 < 2 ^ 16)

/-- The well-formed commands. -/
def Instr.wellFormed (i : Instr) : Bool :=
  match i with
  | .flagClear idx el ones setLast => u16Ok idx && u16Ok el && fitsOk 32 ones && fitsOk 32 setLast
  | .registerWrite _ addr width value => accessOk addr width && fitsOk (8 * width) value
  | .pduReceive _ head body plain _ => valueOk (head ++ body) && valueOk plain
  | .pduExecute sess _ => sessionOk sess
  | .seqWaitExpiry sess => sessionOk sess
  | .read sess idx el ask => sessionOk sess && u16Ok idx && u16Ok el && (match ask.count with | none => true | some n => u16Ok n)
  | .write sess idx el v _ => writeOk sess v && u16Ok idx && u16Ok el
  | .stage sess idx el v => writeOk sess v && u16Ok idx && u16Ok el
  | .close sess => sessionOk sess
  | .stake sess v _ => writeOk sess v
  | .abort sess => sessionOk sess
  | .subscribe sess idx el v => writeOk sess v && u16Ok idx && u16Ok el
  | .open1 _ nm k em => nm.length == 32 && decide (1 ≤ k ∧ k ≤ 8) && em.length == 56
  | .open3 sess _ => sessionOk sess
  | .endSession sess => sessionOk sess
  | .sessionIdleTimeout sess => sessionOk sess
  | .fwAnswer _ code detail v => u16Ok code && fitsOk 32 detail && valueOk v
  | .describe sess idx el => sessionOk sess && u16Ok idx && u16Ok el
  | .staAlloc sess v => writeOk sess v
  | .staEntryWrite sess el v => writeOk sess v && u16Ok el
  | .staFree sess v => writeOk sess v
  | .diagTxStop sess rest => restOk sess rest
  | .diagTxCw sess rest => restOk sess rest
  | .diagTxPacket sess rest => restOk sess rest
  | .diagTxMask sess rest => restOk sess rest
  | .addRx sess rest => restOk sess rest
  | .addTx sess rest => restOk sess rest
  | .deleteRx sess rest => restOk sess rest
  | .deleteTx sess rest => restOk sess rest
  | .twtAdd sess rest => restOk sess rest
  | .twtDelete sess rest => restOk sess rest
  | .memberJoin sess rest => restOk sess rest
  | .memberReject sess rest => restOk sess rest
  | .memberRemove sess rest => restOk sess rest
  | .ppModeWrite sess v => writeOk sess v
  | .tableEntryWrite sess idx el v => writeOk sess v && u16Ok idx && u16Ok el
  | .commit sess => sessionOk sess
  | .discard sess => sessionOk sess
  | .ruleInsert sess rest => restOk sess rest
  | .ruleDelete sess rest => restOk sess rest
  | .bridgeInsert sess rest => restOk sess rest
  | .bridgeDelete sess rest => restOk sess rest
  | .bridgeFlush sess rest => restOk sess rest
  | .routeInsert sess rest => restOk sess rest
  | .routeDelete sess rest => restOk sess rest
  | .flowInsert sess rest => restOk sess rest
  | .flowDelete sess rest => restOk sess rest
  | .flowFlush sess rest => restOk sess rest
  | .statsRead sess idx el => sessionOk sess && u16Ok idx && u16Ok el
  | .pcieCfgRead sess rest _ => restOk sess rest
  | .pcieCfgWrite sess rest _ => restOk sess rest
  | .i2cXfer sess v _ => writeOk sess v
  | .uartDataWrite _ v => fitsOk 32 v
  | .gpioOutWrite sess v => writeOk sess v
  | .datumIncrWrite sess v => writeOk sess v
  | .stepRelative sess rest => restOk sess rest
  | .stepAbsolute sess rest => restOk sess rest
  | .tpoCfgWrite sess el v => writeOk sess v && u16Ok el
  | .capturePop sess v => writeOk sess v
  | .install sess rest => restOk sess rest
  | .erase sess rest => restOk sess rest
  | .rekeyPop sess v => writeOk sess v
  | .attest sess v => writeOk sess v
  | .extend sess v => writeOk sess v
  | .program sess rest _ => restOk sess rest
  | .revoke sess rest _ => restOk sess rest
  | .debugDisable sess rest _ => restOk sess rest
  | .challenge sess rest => restOk sess rest
  | .respond sess rest _ => restOk sess rest
  | .trnStart _ v => fitsOk 32 v
  | .mrw _ v => fitsOk 32 v
  | .mrr _ v data => fitsOk 32 v && fitsOk 8 data
  | .laneDelayWrite _ addr v => fitsOk 64 addr && fitsOk 32 v
  | .migrateStart sess rest => restOk sess rest
  | .migrateResume sess rest => restOk sess rest
  | .dmaDoorbell _ _ tail => fitsOk 32 tail
  | .create _ op arg => fitsOk 64 op && fitsOk 64 arg
  | .wait _ op arg => fitsOk 64 op && fitsOk 64 arg
  | .post _ op arg => fitsOk 64 op && fitsOk 64 arg
  | .setPriority _ op => fitsOk 64 op
  | .threadAbort _ op => fitsOk 64 op
  | .powerCmdStandby sess rest => restOk sess rest
  | .powerCmdHibernate sess rest => restOk sess rest
  | .coreDvfsWrite sess el v => writeOk sess v && u16Ok el
  | .pairKick _ v => fitsOk 32 v
  | .pairSwitchover sess => sessionOk sess
  | .resync sess => sessionOk sess
  | .logAck sess v => writeOk sess v
  | .begin sess rest _ => restOk sess rest
  | .updateData sess v => writeOk sess v
  | .finish sess rest _ => restOk sess rest
  | .activate sess rest => restOk sess rest
  | .updateDiscard sess rest => restOk sess rest
  | .revert sess rest => restOk sess rest
  | .benchmark sess v => writeOk sess v
  | .coreLoad _ addr width _ flips => accessOk addr width && flips.all fun b => decide (b < 72)
  | .inboundRequest q => accessOk q.addr q.width && fitsOk (8 * q.width) q.value
  | .txRingDoorbell _ tail _ _ _ => fitsOk 32 tail
  | .mtxDoorbell _ _ tail => fitsOk 32 tail
  | .mpduReceive _ m => decide (m.kind ≤ 4 ∧ m.tid < 16 ∧ m.sn < 4096)
  | .blockAckReq _ sta tid sn => u16Ok sta && decide (tid < 16 ∧ sn < 4096)
  | .chainFrameReceive _ f => decide (f.kind ≤ 6) && u16Ok f.srcShort && f.srcExt.length == 8
  | .packetIngress p => decide (p.kind ≤ 3) && u16Ok p.bytes.length
  | _ => true

end Sys2Proof
end

