-- ==== Sys2Proof/Safety.lean ====
section
/-! DEFINITION. What the claims say of runs: runs of so many commands, states whose tables and queue are in their canonical
form, and the commands that a device in reset still takes. -/

namespace Sys2Proof.Machine
open Sys2Proof

/-- The state after `n` steps, none when a step does not answer a next state. -/
def runs : Nat → State → Option State
  | 0, s => some s
  | n + 1, s =>
    match step s with
    | .next t => runs n t
    | _ => none

/-- Every waiting command is well formed. -/
def queueOk (s : State) : Bool := s.pending.all Instr.wellFormed

/-- No entry of a table has the value an absent key has. -/
def noDefault (t : Tab Nat) (d : Nat → Nat) : Bool := t.all fun p => decide (p.2 ≠ d p.1)

/-- Memory in its canonical form: addresses rise, nothing listed that equals what an unlisted byte reads as. -/
def memOk (s : State) : Bool := memWf s.mem

/-- The register table in its canonical form. -/
def regOk (s : State) : Bool := tabWf s.reg && noDefault s.reg regDefault

/-- The object store's keys rise strictly, so an object has one value. -/
def objOk (s : State) : Bool := tabWf s.obj

/-- The three stores of the device are in their canonical form, so that equal contents are equal data. -/
def Canon (s : State) : Prop := memOk s = true ∧ regOk s = true ∧ objOk s = true

/-- The device is released from reset and runs: a command reaches its unit (R473). -/
abbrev Up (s : State) : Prop := s.start.phase = .released

/-- Session `n`, whose record is `x`, may write: the device runs, the session is open with FULL rights and executes nothing,
and no reset is due (R47, R48, R49). -/
def Sender (s : State) (n : Nat) (x : Session) : Prop :=
  Up s ∧ sessOf s n = some x ∧ x.opened = true ∧ x.exec = none ∧ x.rights = 2 ∧ s.upd.resetDue = false

/-- A value passes the checks that the dictionary engine makes for its object: length, type and ranges (R37, R501). -/
def passes (s : State) (idx el : Nat) (v : Bytes) : Bool :=
  match objRow? idx el with
  | some r => engineRes s r idx el v == ok
  | none => false

/-- The value as the unit gets it: reserved fields read as zero (R5). -/
def taken (idx el : Nat) (v : Bytes) : Bytes := match objRow? idx el with | some r => scrub r v | none => v

/-- The last response is that of a write of an object, with this result. -/
def answered (t : State) (idx el : Nat) (r : Res) : Prop :=
  t.lastResp = some { opcode := 2, flags := 0, idx, el, abort := r.1, detail := if r.1 = 0 then 0 else r.2, value := [] }

/-- Every object reads as before, but for what a post to an operand slot may change of the cores' objects: the preemption
count, the flag of a slot whose count cannot rise and that flag's counter (R402, R407). -/
def objsButPosts (s t : State) : Prop :=
  ∀ i e, okey i e ≠ okey 0x6820 0 → okey i e ≠ okey 0x6821 0 → okey i e ≠ okey 0x6822 1 → t.objB i e = s.objB i e

/-- The commands that the AON domain, the clocks and the pins give a device that is held in reset or off (R473 to R482). -/
def inAon : Instr → Bool
  | .resetN _ => true
  | .powerGood _ => true
  | .pgLost _ => true
  | .refWindow _ => true
  | .startupStepTimeout _ => true
  | .pllLock => true
  | .resetRelease _ => true
  | .failRetryExpiry => true
  | .datumTick => true
  | .aonPowerOn => true
  | .powerLoss => true
  | .enableReassert => true
  | .wake _ => true
  | .peerActiveChange _ => true
  | _ => false

end Sys2Proof.Machine
end

