-- ==== Sys2Proof/Certificates/Slice0/Obligations.lean ====
section
/-! DEFINITION. The statements for the provers. Each `Claim.…` says of one command, or of a few of one shape, that it answers a
next state and what that state holds; each `Obligations.…` is one statement of OBLIGATIONS.json. -/

open Sys2Proof Sys2Proof.Machine

/-! ### What each command does -/

/-- CREATE (R401, R409). -/
def Claim.Create : Prop := ∀ (c : CoreId) (op arg k : Nat) (s : State), Up s → bits op 24 8 ≠ 0 → lowestFree s = some k →
  ∃ t, exec (.create c op arg) s = .next t ∧ (t.thread k).st = .ready ∧ (t.thread k).prio = bits op 16 5 ∧
    (t.thread k).mask = bits op 24 8 ∧ (t.core c).result = handleOf k (s.thread k) ∧ t.mem = s.mem

/-- WAIT (R401, R402). -/
def Claim.Wait : Prop := ∀ (c : CoreId) (op arg k : Nat) (s : State), Up s → (s.core c).running = some k →
  1 ≤ bits arg 48 3 → bits arg 48 3 ≤ 4 → (∀ i < bits arg 48 3, (s.opnd (bits arg (12 * i) 12)).waiter = none) →
  (∃ i < bits arg 48 3, (s.opnd (bits arg (12 * i) 12)).count = 0) →
  ∃ t, exec (.wait c op arg) s = .next t ∧ (t.thread k).st = .waiting ∧ (t.core c).running = none ∧ (t.core c).result = 0 ∧
    (∀ i < bits arg 48 3, (t.opnd (bits arg (12 * i) 12)).waiter = some k) ∧
    (t.thread k).deadline = (if bits op 0 32 = 0 then 0 else s.now + bits op 0 32 * 1000) ∧ t.mem = s.mem

/-- WAIT (R401). -/
def Claim.WaitPresent : Prop := ∀ (c : CoreId) (op arg k : Nat) (s : State), Up s → (s.core c).running = some k →
  1 ≤ bits arg 48 3 → bits arg 48 3 ≤ 4 →
  (∀ i < bits arg 48 3, 0 < (s.opnd (bits arg (12 * i) 12)).count ∧
    ((s.opnd (bits arg (12 * i) 12)).waiter = none ∨ (s.opnd (bits arg (12 * i) 12)).waiter = some k)) →
  ∃ t, exec (.wait c op arg) s = .next t ∧ (t.thread k).st = .ready ∧ (t.core c).running = none ∧ (t.core c).result = 0 ∧
    (∀ j, j ≠ k → t.thread j = s.thread j) ∧ t.cores.opnds = s.cores.opnds ∧ t.mem = s.mem

/-- WAIT (R402). -/
def Claim.WaitRefused : Prop := ∀ (c : CoreId) (op arg k : Nat) (s : State), Up s → (s.core c).running = some k →
  (bits arg 48 3 = 0 ∨ 4 < bits arg 48 3 → exec (.wait c op arg) s = .next (dspResult (s.setReg (dspBase c + 0x18) arg) c 4 0)) ∧
  (1 ≤ bits arg 48 3 → bits arg 48 3 ≤ 4 →
    (∃ i < bits arg 48 3, ∃ j, (s.opnd (bits arg (12 * i) 12)).waiter = some j ∧ j ≠ k) →
    exec (.wait c op arg) s = .next (dspResult (s.setReg (dspBase c + 0x18) arg) c 3 0))

/-- YIELD, EXIT (R408). -/
def Claim.NoThread : Prop := ∀ (c : CoreId) (s : State), Up s → (s.core c).running = none →
  ((s.core c).aborted = false → exec (.yield c) s = .next (dspResult s c 5 0) ∧ exec (.exit c) s = .next (dspResult s c 5 0)) ∧
  ((s.core c).aborted = true → exec (.yield c) s = .next (dspStale s c) ∧ exec (.exit c) s = .next (dspStale s c))

/-- YIELD (R401). -/
def Claim.Yield : Prop := ∀ (c : CoreId) (k : Nat) (s : State), Up s → (s.core c).running = some k →
  ∃ t, exec (.yield c) s = .next t ∧ (t.thread k).st = .ready ∧ (t.thread k).since = s.cores.stamp ∧
    (t.core c).running = none ∧ (t.core c).result = 0 ∧ (∀ j, j ≠ k → t.thread j = s.thread j) ∧ t.mem = s.mem

/-- EXIT (R400, R401). -/
def Claim.Exit : Prop := ∀ (c : CoreId) (k : Nat) (s : State), Up s → (s.core c).running = some k →
  ∃ t, exec (.exit c) s = .next t ∧ t.thread k = { gen := ((s.thread k).gen + 1) % 128 } ∧
    (∀ j, j ≠ k → t.thread j = s.thread j) ∧ t.mem = s.mem

/-- POST (R402, R404). -/
def Claim.Post : Prop := ∀ (c : CoreId) (op arg : Nat) (s : State), Up s → 16 ≤ bits op 0 12 →
  ∃ t, exec (.post c op arg) s = .next t ∧ (t.opnd (bits op 0 12)).value = bits arg 0 32 ∧
    (t.opnd (bits op 0 12)).count = (if (s.opnd (bits op 0 12)).count < 65535 then (s.opnd (bits op 0 12)).count + 1 else (s.opnd (bits op 0 12)).count) ∧
    (∀ o, o ≠ bits op 0 12 → t.opnd o = s.opnd o) ∧ t.mem = s.mem

/-- POST (R404). -/
def Claim.PostFixed : Prop := ∀ (c : CoreId) (op arg : Nat) (s : State), Up s → bits op 0 12 < 16 →
  exec (.post c op arg) s = .next (dspResult (s.setReg (dspBase c + 0x18) arg) c 4 0)

/-- SET_PRIORITY. -/
def Claim.SetPriority : Prop := ∀ (c : CoreId) (op : Nat) (s : State), Up s → handleLive s (bits op 0 16) = true → bits op 24 8 ≠ 0 →
  ∃ t, exec (.setPriority c op) s = .next t ∧
    t.thread (bits op 0 9) = { s.thread (bits op 0 9) with prio := bits op 16 5, mask := bits op 24 8 } ∧
    (∀ j, j ≠ bits op 0 9 → t.thread j = s.thread j) ∧ (t.core c).result = 0 ∧ t.mem = s.mem

/-- SET_PRIORITY, THREAD_ABORT (R400). -/
def Claim.StaleHandle : Prop := ∀ (c : CoreId) (op : Nat) (s : State), Up s → handleLive s (bits op 0 16) = false →
  exec (.setPriority c op) s = .next (dspStale s c) ∧ exec (.threadAbort c op) s = .next (dspStale s c)

/-- THREAD_ABORT (R408, R400). -/
def Claim.ThreadAbort : Prop := ∀ (c : CoreId) (op : Nat) (s : State), Up s → handleLive s (bits op 0 16) = true →
  ∃ t, exec (.threadAbort c op) s = .next t ∧
    t.thread (bits op 0 9) = { gen := ((s.thread (bits op 0 9)).gen + 1) % 128 } ∧
    (∀ j, j ≠ bits op 0 9 → t.thread j = s.thread j) ∧ bit (t.objN 0x6821 0) 2 = true ∧ t.mem = s.mem

/-- DSP_NEXT_READ. -/
def Claim.DspNextRead : Prop := ∀ (c : CoreId) (k : Nat) (s : State), Up s → (s.core c).reserved = some k → (s.core c).running = none →
  ∃ t, exec (.dspNextRead c) s = .next t ∧ (t.core c).running = some k ∧ (t.core c).reserved = none ∧
    (t.thread k).st = .running ∧ (t.thread k).lastCore = some c.val ∧ 2 ^ 63 ≤ (t.core c).readData ∧
    (t.core c).readData % 2 ^ 16 = handleOf k (s.thread k) % 2 ^ 16 ∧ (∀ j, j ≠ k → t.thread j = s.thread j) ∧ t.mem = s.mem

/-- DSP_NEXT_READ. -/
def Claim.DspNextEmpty : Prop := ∀ (c : CoreId) (s : State), Up s → ((s.core c).reserved = none ∨ (s.core c).running ≠ none) →
  exec (.dspNextRead c) s = .next (s.modCore c fun k => { k with readData := 0 })

/-- WAIT_TIMEOUT (R401). -/
def Claim.WaitTimeout : Prop := ∀ (k : Fin 512) (s : State), Up s → (s.thread k).st = .waiting → (s.thread k).deadline ≠ 0 →
  (s.thread k).deadline ≤ s.now →
  ∃ t, exec (.waitTimeout k) s = .next t ∧ (t.thread k).st = .ready ∧ (t.thread k).timedOut = true ∧
    (t.thread k).waits = [] ∧ (t.thread k).deadline = 0 ∧
    (∀ j, j ≠ k.val → t.thread j = s.thread j) ∧ t.mem = s.mem

/-- MIGRATE_EXPIRY (R405). -/
def Claim.MigrateExpiry : Prop := ∀ (k : Fin 512) (n : Nat) (s : State), Up s → (s.thread k).lastCore = some n → (s.thread k).st = .ready →
  (s.thread k).anyCore = false → (s.thread k).mask.testBit n = true → isReserved s k = false → runsAtLeast s n (s.thread k).prio = true →
  (s.thread k).readyAt + s.objN 0x6802 0 * 1000 ≤ s.now →
  ∃ t, exec (.migrateExpiry k) s = .next t ∧ t.thread k = { s.thread k with anyCore := true } ∧
    (∀ j, j ≠ k.val → t.thread j = s.thread j) ∧ bit (t.objN 0x6821 0) 4 = true ∧ t.mem = s.mem

/-- DATUM_TICK (R313). -/
def Claim.DatumTick : Prop := ∀ s : State, datumRuns s = true →
  ∃ t, exec .datumTick s = .next t ∧ t.datum = { s.datum with t := datumOf (s.datum.t.units + s.datum.incr) } ∧
    t.now = s.now + 4 ∧ t.mem = s.mem ∧ t.obj = s.obj ∧ t.cores = s.cores

/-- DATUM_INCR_APPLY (R314). -/
def Claim.DatumIncrApply : Prop := ∀ (i : Nat) (s : State), Up s → s.datum.incrPend = some i → s.datum.running = true →
  ∃ t, exec .datumIncrApply s = .next t ∧
    t.datum = { s.datum with t := datumOf (s.datum.t.units + i), incr := i, incrPend := none } ∧ t.mem = s.mem ∧ t.obj = s.obj

/-- TPO_EDGE (R322). -/
def Claim.TpoEdge : Prop := ∀ (o : Fin 4) (e : DatumVal) (s : State), Up s → (s.tpo o).next = some e → s.datum.running = true →
  e.units < s.datum.t.units + s.datum.incr →
  ∃ t, exec (.tpoEdge o) s = .next t ∧ t.tpo o = { next := nextEdge s o e.units, pulses := ((s.tpo o).pulses + 1) % 2 ^ 32, late := (s.tpo o).late, pulse := some { endAt := s.now + s.objF 0x1210 (o + 1) 24 4, low := tpoLow s o } } ∧
    (∀ p, p ≠ o → t.tpo p = s.tpo p) ∧ t.datum.t = s.datum.t ∧ t.mem = s.mem ∧ t.obj = s.obj

/-- DTM_SNAP_READ (R316). -/
def Claim.DtmSnapRead : Prop := ∀ (c : CoreId) (s : State), Up s →
  ∃ t, exec (.dtmSnapRead c) s = .next t ∧ t.datum.snaps[c] = { t := s.datum.t, gen := s.datum.stepGen } ∧
    (t.core c).readData = s.datum.t.sec ∧ t.datum.t = s.datum.t ∧ t.mem = s.mem ∧ t.obj = s.obj

/-- CAPTURE_EDGE (R326). -/
def Claim.CaptureEdge : Prop := ∀ (i : Fin 3) (rising : Bool) (since high : Nat) (s : State), Up s → captures s i rising since high = true →
  (s.datum.fifo[i]).length < 16 →
  ∃ t, exec (.captureEdge i rising since high) s = .next t ∧ objsButPosts s t ∧ t.mem = s.mem ∧
    ∃ k ≤ 7, t.datum.fifo[i] = s.datum.fifo[i] ++ [{ falling := !rising, gen := s.datum.stepGen, stamp := datumOf (s.datum.t.units + k * 2147483648) }]

/-- AON_CAL_COUNT (R329). -/
def Claim.AonCalCount : Prop := ∀ (n : Nat) (s : State), Up s → s.datum.running = true →
  exec (.aonCalCount n) s = .next { s with datum := { s.datum with aonCal := n * 25 * s.datum.incr / (32768 * 4) } }

/-- VID_CHANGE (R18, R20, R421). -/
def Claim.VidChangeFab : Prop := ∀ s : State, Up s →
  (settled s s.power.vidFabAt = true → fabCode s ≠ s.power.vidFab →
    ∃ t, exec (.vidChange false) s = .next t ∧ t.power.vidFab = (if s.power.fabHeld then 70 else min 70 (max s.power.targetFab (vidOf (s.objN 0x1102 0)))) ∧
      t.power.vidFabAt = some s.now ∧ grantUnits t 1 0 = fabricCharge (500 + 5 * t.power.vidFab) ∧ t.power.vidCpu = s.power.vidCpu ∧
      t.mem = s.mem ∧ t.obj = s.obj ∧ t.cores = s.cores) ∧
  (settled s s.power.vidFabAt = false ∨ fabCode s = s.power.vidFab → exec (.vidChange false) s = .next s)

/-- VID_CHANGE (R421). -/
def Claim.VidChangeCpu : Prop := ∀ s : State, Up s →
  (settled s s.power.vidCpuAt = false → exec (.vidChange true) s = .next s) ∧
  (settled s s.power.vidCpuAt = true → s.power.pendingCore = [] → pointVid (topPoint s) ≠ s.power.vidCpu →
    ∃ t, exec (.vidChange true) s = .next t ∧ t.power.vidCpu = pointVid (topPoint s) ∧ t.power.vidCpuAt = some s.now ∧
      t.power.vidFab = s.power.vidFab ∧ t.cores = s.cores ∧ t.obj = s.obj ∧ t.mem = s.mem) ∧
  (∀ (c : CoreId) (p : Nat), settled s s.power.vidCpuAt = true → s.power.pendingCore = [(c.val, p)] →
    (s.power.vidCpu < pointVid p → (∀ d : CoreId, (s.core d).point ≤ p) →
      ∃ t, exec (.vidChange true) s = .next t ∧ t.power.vidCpu = pointVid p ∧ t.power.vidCpuAt = some s.now ∧
        t.power.pendingCore = [(c.val, p)] ∧ t.power.vidFab = s.power.vidFab ∧ t.cores = s.cores ∧ t.obj = s.obj ∧ t.mem = s.mem) ∧
    (pointVid p ≤ s.power.vidCpu →
      ∃ t, exec (.vidChange true) s = .next t ∧ (t.core c).point = p ∧ (∀ d, d ≠ c → t.core d = s.core d) ∧ t.power.pendingCore = [] ∧
        t.power.vidFab = s.power.vidFab ∧ t.obj = s.obj ∧ t.mem = s.mem))

/-- MONITOR_REFRESH (R18, R19, R20). -/
def Claim.MonitorRefresh : Prop := ∀ (rs : List Nat) (s : State), Up s → rs.length = 8 → (∀ x ∈ rs, x < 65536) →
  ∃ t, exec (.monitorRefresh rs) s = .next t ∧ (∀ i < 8, t.objN 0x1101 (i + 1) = rs[i]?.getD 0) ∧ t.mem = s.mem ∧ t.power.vidFab = s.power.vidFab ∧
    ((rs.filter (readingValid (median2 rs))).length < 8 → bit (t.objN 0x1104 0) 1 = true) ∧
    ((rs.filter (readingValid (median2 rs))).length < 6 → t.power.fabHeld = true ∧ t.power.targetFab = 70) ∧
    (6 ≤ (rs.filter (readingValid (median2 rs))).length → t.power.fabHeld = false ∧ t.power.targetFab = vidOf (t.objN 0x1102 0))

/-- MONITOR_REFRESH (R18, R20). -/
def Claim.MonitorFloor : Prop := ∀ (rs : List Nat) (low : Nat) (s : State), Up s → rs.length = 8 → (∀ x ∈ rs, x < 65536) →
  10 ≤ s.power.vidFab → s.power.vidFab ≤ 70 → rs.filter (readingValid (median2 rs)) ≠ [] → low = (rs.filter (readingValid (median2 rs))).foldl min 2500 →
  ∃ t, exec (.monitorRefresh rs) s = .next t ∧ 550 ≤ t.objN 0x1102 0 ∧ t.objN 0x1102 0 ≤ 850 ∧
    (105 * guaranteedRate s ≤ 10 * low → t.objN 0x1102 0 ≤ fabVoltage s) ∧
    (10 * low < 105 * guaranteedRate s → fabVoltage s < t.objN 0x1102 0 ∨ t.objN 0x1102 0 = 850) ∧
    (fabVoltage s = 850 → low < 10 * guaranteedRate s → s.power.rateShort = false → bit (t.objN 0x1104 0) 0 = true ∧ t.power.rateShort = true)

/-- POWER_REQUEST (R420, R423). -/
def Claim.PowerRequest : Prop := ∀ (r : Radio) (units id : Nat) (s : State), Up s → units ≠ 0 → units ≤ roomFor s 10 (bookKey r.val 5 id) true →
  ∃ t, exec (.powerRequest (.booking r units id)) s = .next t ∧ grantUnits t 10 (bookKey r.val 5 id) = units ∧
    (∀ g ∈ s.power.grants, ¬ (g.kind = 10 ∧ g.inst = bookKey r.val 5 id) → g ∈ t.power.grants) ∧ t.mem = s.mem ∧ t.obj = s.obj

/-- POWER_REQUEST (R420). -/
def Claim.PowerFixed : Prop := ∀ s : State, Up s →
  (∃ t, exec (.powerRequest .floor) s = .next t ∧ grantUnits t 0 0 = 32 ∧ t.obj = s.obj ∧ t.mem = s.mem) ∧
  (∃ t, exec (.powerRequest .dram) s = .next t ∧ grantUnits t 2 0 = dramCharge s.dram.st ∧ t.obj = s.obj ∧ t.mem = s.mem) ∧
  (∀ mv, ∃ t, exec (.powerRequest (.fabric mv)) s = .next t ∧ t.power.targetFab = min 70 (vidOf (max mv (s.objN 0x1102 0))) ∧
    t.power.grants = s.power.grants ∧ t.obj = s.obj ∧ t.mem = s.mem) ∧
  (∀ (r : Radio) (units id : Nat), ∃ t, exec (.powerRequest (.contention r units id)) s = .next t ∧
    grantUnits t 4 r.val = min units (roomFor s 4 r.val false) ∧ t.mem = s.mem)

/-- POWER_REQUEST (R420, R425). -/
def Claim.PowerUnits : Prop := ∀ s : State, Up s →
  (∀ x : Trx, isReclaimed s 3 x.val = false → trxCharge s x.val ≤ roomFor s 3 x.val false →
    ∃ t, exec (.powerRequest (.trx x)) s = .next t ∧ grantUnits t 3 x.val = trxCharge s x.val ∧ (t.trx x).powered = true ∧ t.obj = s.obj ∧ t.mem = s.mem) ∧
  (∀ l : Fin 12, isReclaimed s 9 l.val = false → 2 ≤ roomFor s 9 l.val false →
    ∃ t, exec (.powerRequest (.cipherLane l)) s = .next t ∧ grantUnits t 9 l.val = 2 ∧ (t.lane l).enabled = true ∧ t.obj = s.obj ∧ t.mem = s.mem) ∧
  (∀ n : Nat, isReclaimed s 7 0 = false → 6 * n ≤ roomFor s 7 0 false →
    ∃ t, exec (.powerRequest (.pcieLane n)) s = .next t ∧ grantUnits t 7 0 = 6 * n ∧ t.obj = s.obj ∧ t.mem = s.mem) ∧
  (∀ n : Nat, isReclaimed s 8 0 = false → 16 * n ≤ roomFor s 8 0 false →
    ∃ t, exec (.powerRequest (.baseLane n)) s = .next t ∧ grantUnits t 8 0 = 16 * n ∧ t.obj = s.obj ∧ t.mem = s.mem) ∧
  (∀ p : Fin 2, isReclaimed s 6 p.val = false → portCharge (s.objF 0x5800 (p.val + 1) 0 1) ≤ roomFor s 6 p.val false →
    ∃ t, exec (.powerRequest (.port p)) s = .next t ∧ grantUnits t 6 p.val = portCharge (s.objF 0x5800 (p.val + 1) 0 1) ∧ t.obj = s.obj ∧ t.mem = s.mem) ∧
  (∀ (c : CoreId) (p : Nat), p ≤ ((coresReady s).core c).point → p ≤ pointOf (coreCap s) →
    ∃ t, exec (.powerRequest (.corePoint c p)) s = .next t ∧ (t.core c).point = p ∧ grantUnits t 5 c.val = pointCharge p ∧ t.obj = s.obj ∧ t.mem = s.mem) ∧
  (∀ (c : CoreId) (p : Nat), ((coresReady s).core c).point < p → p ≤ pointOf (coreCap s) → pointCharge p ≤ roomFor s 5 c.val false →
    ∃ t, exec (.powerRequest (.corePoint c p)) s = .next t ∧ (c.val, p) ∈ t.power.pendingCore ∧ t.core c = (coresReady s).core c ∧
      grantUnits t 5 c.val = pointCharge p ∧ t.obj = s.obj ∧ t.mem = s.mem) ∧
  (∀ n : Nat, grantUnits s 7 0 < 6 * n → (roomFor s 7 0 false < 6 * n ∨ isReclaimed s 7 0 = true) →
    ∃ t, exec (.powerRequest (.pcieLane n)) s = .next t ∧ t.power.grants = s.power.grants ∧ bit (t.objN 0x1330 0) 6 = true ∧ t.mem = s.mem)

/--  (R26, R60). -/
def Claim.EdgeNothing : Prop := (∀ s : State, s.rf.deferred = [] → takeDeferred s = s) ∧
  (∀ s : State, (takeDeferred s).mem = s.mem ∧ (takeDeferred s).flash = s.flash ∧ (takeDeferred s).pp = s.pp ∧ (takeDeferred s).dma = s.dma ∧
    (takeDeferred s).datum.t = s.datum.t ∧ (takeDeferred s).now = s.now) ∧
  (∀ (s : State) (p : Nat × Nat × Bytes), p ∈ (takeDeferred s).rf.deferred → p ∈ s.rf.deferred ∧ atBoundaries s p = false)

/-- TRX_JOIN_CAL_DONE (R86, R108). -/
def Claim.TrxJoinCalDone : Prop := ∀ (x : Trx) (temp : Int) (s : State), Up s → (s.trx x).joining = true →
  ∃ t, exec (.trxJoinCalDone x temp) s = .next t ∧ t.trx x = { s.trx x with joining := false, calibrated := true, temp := temp } ∧
    (∀ y, y ≠ x → t.trx y = s.trx y) ∧ (∀ r, t.fe r = s.fe r) ∧ t.mem = s.mem ∧
    ((∀ r, radioOf s x = some r → (s.fe r).path ≠ .fallback) → t.obj = s.obj) ∧
    (∀ r, radioOf s x = some r → (s.fe r).st = .ready → (s.fe r).path = .fallback →
      (chains t r).any (fun y => !coeffCurrent t r y) = true → bit (t.objN 0x2040 0) 2 = true)

/-- What a command of the radios ends in: the boundaries it makes count after it (R60). -/
def Claim.edge (s t : State) : State := s.keepQueue (takeDeferred t)

/-- CHANNEL_CHANGE (R102, R104, R70). -/
def Claim.ChannelChange : Prop := ∀ (r : Radio) (c : Chan) (s w : State), Up s → w = takeDeferred s → (w.fe r).pending = some c →
  (w.fe r).st = .ready → radioBoundary w r = true →
  ∃ t, exec (.channelChange r) s = .next (Claim.edge s t) ∧ (t.fe r).st = .changing ∧ (t.fe r).chan = some c ∧ (t.fe r).pending = none ∧
    (t.fe r).plan = (selectPlan (sliceOf c)).1 ∧ (t.fe r).attempts = 0 ∧ gateOpen (t.fe r) = false ∧ (t.fe r).rx = none ∧
    (t.fe r).ddc = some (ddcOf c (t.fe r).plan (t.fe r).path (w.objN 0x2011 (r + 1))) ∧ (t.fe r).lo = loOf c (w.objN 0x2011 (r + 1)) ∧
    (t.fe r).dac = (if zoneTwo (t.fe r).plan c then .mixed else .nrz) ∧ (∀ x ∈ assigned w r, (t.trx x).lnaByp = false) ∧
    (∀ q, q ≠ r → t.fe q = w.fe q) ∧ t.mem = s.mem

/-- CHANNEL_CHANGE (R102). -/
def Claim.ChannelChangeWaits : Prop := ∀ (r : Radio) (s w : State), Up s → w = takeDeferred s →
  ((w.fe r).pending = none ∨ (w.fe r).st ≠ .ready ∨ radioBoundary w r = false) → exec (.channelChange r) s = .next (Claim.edge s w)

/-- LO_LOCKED (R103, R75). -/
def Claim.LoLocked : Prop := ∀ (r : Radio) (s : State), Up s → (s.fe r).st ≠ .off →
  ∃ t, exec (.loLocked r) s = .next t ∧
    t.fe r = { s.fe r with loLocked := true, rxFrom := if (s.fe r).path = .fallback ∧ gateOpen (s.fe r) = true then s.now else (s.fe r).rxFrom } ∧
    (∀ q, q ≠ r → t.fe q = s.fe q) ∧ (∀ x, t.trx x = s.trx x) ∧ ((s.fe r).path ≠ .fallback → t.obj = s.obj) ∧ t.mem = s.mem

/-- LOCK_TIMEOUT (R103). -/
def Claim.LockTimeout : Prop := ∀ (r : Radio) (s : State), Up s → (s.fe r).st = .changing ∨ (s.fe r).st = .relock →
  ∃ t, exec (.lockTimeout r) s = .next t ∧ (t.fe r).attempts = (s.fe r).attempts + 1 ∧
    (t.fe r).timeouts = ((s.fe r).timeouts + 1) % 2 ^ 32 ∧
    (t.fe r).st = (if 3 ≤ (s.fe r).attempts + 1 then .fault else (s.fe r).st) ∧ t.mem = s.mem ∧
    (3 ≤ (s.fe r).attempts + 1 → (t.fe r).held = []) ∧ bit (t.objN 0x2051 (r + 1)) 3 = true

/-- OVERRANGE_WINDOW (R78). -/
def Claim.OverrangeWindow : Prop := ∀ (r : Radio) (x : TrxWindow) (c : Chan) (s : State), Up s → trxAssign s x.trx = r.val + 1 →
  (s.fe r).path = .sampling → (s.fe r).chan = some c → c.bw ≤ 160000 → s.objN 0x2010 (r + 1) ≠ 1 → windowQualifies s r x = true →
  ∃ t, exec (.overrangeWindow r [x]) s = .next t ∧ (t.trx x.trx).qualified = true ∧
    (t.trx x.trx).overrange = ((s.trx x.trx).overrange + x.overs) % 2 ^ 32 ∧
    ((s.trx x.trx).qualified = true → (t.fe r).switchPending = some .fallback) ∧
    ((s.trx x.trx).qualified = false → t.fe r = s.fe r) ∧ t.mem = s.mem

/-- PATH_SWITCH (R79). -/
def Claim.PathSwitch : Prop := ∀ (r : Radio) (s w : State), Up s → w = takeDeferred s → (w.fe r).switchPending ≠ none →
  (w.fe r).switching = false → (w.fe r).st = .ready → allowedBoundary w r (w.fe r).switchAsked = true →
  ∃ t, exec (.pathSwitch r) s = .next (Claim.edge s t) ∧
    t.fe r = { w.fe r with switching := true, switches := ((w.fe r).switches + 1) % 2 ^ 32, rx := none } ∧
    (∀ q, q ≠ r → t.fe q = w.fe q) ∧ t.obj = w.obj ∧ t.mem = s.mem

/-- PATH_SWITCH_DONE (R80, R78). -/
def Claim.PathSwitchDone : Prop := ∀ (r : Radio) (p : PathState) (s : State), Up s → (s.fe r).switchPending = some p →
  (s.fe r).switching = true →
  ∃ t, exec (.pathSwitchDone r) s = .next t ∧ (t.fe r).path = p ∧ (t.fe r).switching = false ∧ (t.fe r).switchPending = none ∧
    (t.fe r).rxFrom = s.now ∧
    (t.fe r).hold = (if p = .fallback ∧ (s.fe r).path = .sampling ∧ (s.fe r).switchWhy = 1 then blockHold s r else (s.fe r).hold) ∧
    (∀ c, (s.fe r).chan = some c → (t.fe r).ddc = some (ddcOf c (s.fe r).plan p (s.objN 0x2011 (r + 1)))) ∧
    (t.fe r).st = (s.fe r).st ∧ (∀ q, q ≠ r → t.fe q = s.fe q) ∧ (∀ x, x ∉ assigned s r → t.trx x = s.trx x) ∧
    (∀ x ∈ assigned s r, t.trx x = { s.trx x with lnaByp := false }) ∧ t.mem = s.mem

/-- BLOCK_HOLD_EXPIRY (R78). -/
def Claim.BlockHoldExpiry : Prop := ∀ (r : Radio) (s : State), Up s → (s.fe r).path = .fallback → (s.fe r).reason = 1 →
  ∃ t, exec (.blockHoldExpiry r) s = .next t ∧ t.fe r = { s.fe r with switchPending := some .probe, switchWhy := 1, switchAsked := s.now } ∧
    (∀ q, q ≠ r → t.fe q = s.fe q) ∧ t.obj = s.obj ∧ t.mem = s.mem

/-- PROBE_EXPIRY (R78). -/
def Claim.ProbeExpiry : Prop := ∀ (r : Radio) (s : State), Up s → (s.fe r).path = .probe → (s.fe r).switchPending = none →
  ∃ t, exec (.probeExpiry r) s = .next t ∧ t.fe r = { s.fe r with path := .sampling, reason := 0, hold := blockHold s r } ∧
    (∀ q, q ≠ r → t.fe q = s.fe q) ∧ t.obj = s.obj ∧ t.mem = s.mem

/-- IMAGE_RECAL_TIMER (R75). -/
def Claim.ImageRecalTimer : Prop := ∀ (r : Radio) (db : List Nat) (s : State), Up s → (s.fe r).path ≠ .fallback → (s.fe r).st ≠ .off →
  db.length = (assigned s r).length →
  ∃ t, exec (.imageRecalTimer r db) s = .next t ∧ (∀ x ∈ assigned s r, (t.trx x).coeffLo = some (s.fe r).lo) ∧
    (∀ x, x ∉ assigned s r → t.trx x = s.trx x) ∧ (∀ q, t.fe q = s.fe q) ∧ t.obj = s.obj ∧ t.mem = s.mem

/-- FALLBACK_CAL_STEP (R75, R76). -/
def Claim.FallbackCalStep : Prop := ∀ (r : Radio) (x : Trx) (db : Nat) (s : State), Up s → radioOf s x = some r →
  (s.fe r).path = .fallback → (s.fe r).st = .ready → (s.fe r).rx = none → (s.fe r).tx = none → onAir s r = false → ccaAll s r = false →
  quietSlot s r = true →
  (∃ t, exec (.fallbackCalStep x ⟨db, true⟩) s = .next t ∧
    t.trx x = { s.trx x with coeffLo := some (s.fe r).lo, rejection := db, blindTo := s.now + 20000 } ∧
    (∀ y, y ≠ x → t.trx y = s.trx y) ∧ (∀ q, t.fe q = s.fe q) ∧ t.obj = s.obj ∧ t.mem = s.mem) ∧
  exec (.fallbackCalStep x ⟨db, false⟩) s = .next s

/-- RFFE_WRITE (R96, R97). -/
def Claim.RffeWrite : Prop := ∀ (b : Fin 3) (s : State), Up s →
  (s.rf.rffe[b] = [] → exec (.rffeWrite b) s = .next s) ∧
  (∀ x l, s.rf.rffe[b] = x :: l → s.now ≤ x.due →
    ∃ t, exec (.rffeWrite b) s = .next t ∧ t.rf.rffe[b] = l ∧ t.rf.rffeLast[b] = some (x.usid, x.cmd) ∧
      (∀ c : Fin 3, c ≠ b → t.rf.rffe[c] = s.rf.rffe[c]) ∧ t.rf.fe = s.rf.fe ∧ t.rf.trx = s.rf.trx ∧ t.obj = s.obj ∧ t.mem = s.mem)

/-- RFFE_WRITE (R97). -/
def Claim.RffeWriteLate : Prop := ∀ (b : Fin 3) (x : Machine.RffeWrite) (l : List Machine.RffeWrite) (r : Radio) (s : State), Up s → s.rf.rffe[b] = x :: l →
  x.due < s.now → x.radio = r.val → (s.fe r).air.any (fun a => a.id == x.req && decide (s.now < a.e)) = true →
  ∃ t, exec (.rffeWrite b) s = .next t ∧ t.rf.rffeLast[b] = some (x.usid, x.cmd) ∧ bit (t.objN 0x2040 0) 3 = true ∧
    (x.req, 0xFF) ∈ (t.fe r).returned ∧ (t.fe r).air.length + 1 = (s.fe r).air.length ∧ t.mem = s.mem

/-- DUTY_BUCKET_ROLL (R115). -/
def Claim.DutyBucketRoll : Prop := ∀ (b : Fin 16) (x : Nat) (l : List Nat) (s : State), Up s → s.rf.duty[b] = x :: l →
  ∃ t, exec (.dutyBucketRoll b) s = .next t ∧ t.rf.duty[b] = 0 :: (x :: l).take 60 ∧
    (∀ c : Fin 16, c ≠ b → t.rf.duty[c] = s.rf.duty[c]) ∧ t.rf.fe = s.rf.fe ∧ t.obj = s.obj ∧ t.mem = s.mem

/-- DIAG_TIMEOUT_EXPIRY (R120, R121). -/
def Claim.DiagTimeoutExpiry : Prop := ∀ (r : Radio) (s : State), Up s → (s.fe r).st = .diag → (s.fe r).diag.running = true →
  ∃ t, exec (.diagTimeoutExpiry r) s = .next t ∧ (t.fe r).st = .off ∧
    (t.fe r).diag = { (s.fe r).diag with running := false, ended := 2, remaining := 0 } ∧ bit (t.objN 0x2051 (r + 1)) 8 = true ∧ t.mem = s.mem

/-- DIAG_DURATION_END (R121). -/
def Claim.DiagDurationEnd : Prop := ∀ (r : Radio) (s : State), Up s → (s.fe r).st = .diag → (s.fe r).diag.running = true →
  ∃ t, exec (.diagDurationEnd r) s = .next t ∧ (t.fe r).st = .off ∧
    (t.fe r).diag = { (s.fe r).diag with running := false, ended := 1, remaining := 0 } ∧ t.mem = s.mem

/-- PREAMBLE_DETECT (R80, R137). -/
def Claim.PreambleDetect : Prop := ∀ (r : Radio) (p : Preamble) (s w : State), Up s → w = takeDeferred s →
  ((w.fe r).st = .ready → (w.fe r).switching = true → exec (.preambleDetect r p.toCorrelation p.toTracking) s = .next (Claim.edge s (w.setFlag 0x2040 0 0))) ∧
  (((w.fe r).st ≠ .ready ∨ (w.fe r).switching = false) → (hears w r = false ∨ acquires w r p = false) →
    exec (.preambleDetect r p.toCorrelation p.toTracking) s = .next (Claim.edge s w)) ∧
  (hears w r = true → acquires w r p = true → (w.fe r).rx = none →
    ∃ t, exec (.preambleDetect r p.toCorrelation p.toTracking) s = .next (Claim.edge s t) ∧ t.fe r = { w.fe r with rx := some (receptionOf w r p), rxAt := w.datum.t } ∧
      (∀ x ∈ chains w r, t.trx x = { w.trx x with lnaByp := p.byp }) ∧ (∀ x, x ∉ chains w r → t.trx x = w.trx x) ∧
      (∀ q, q ≠ r → t.fe q = w.fe q) ∧ t.mem = s.mem)

/-- PREAMBLE_DETECT, RESTART (R138, R139, R140). -/
def Claim.NewCorrelation : Prop := ∀ (r : Radio) (p : Preamble) (rc : Reception) (s w : State), Up s → w = takeDeferred s →
  (w.fe r).rx = some rc → hears w r = true → acquires w r p = true →
  (p.power - rc.refPower < (if rc.sigOk then 100 else 60) →
    exec (.preambleDetect r p.toCorrelation p.toTracking) s = .next (Claim.edge s w) ∧ exec (.restart r p) s = .next (Claim.edge s w)) ∧
  ((if rc.sigOk then 100 else 60) ≤ p.power - rc.refPower →
    ∃ t, exec (.restart r p) s = .next (Claim.edge s t) ∧ exec (.preambleDetect r p.toCorrelation p.toTracking) s = .next (Claim.edge s t) ∧
      t.fe r = { w.fe r with rx := some (receptionOf w r p), rxAt := w.datum.t } ∧ (∀ q, q ≠ r → t.fe q = w.fe q) ∧
      bit (t.objN 0x2150 (r + 1)) 0 = true ∧ (rc.sigOk = true → bit (t.objN 0x2150 (r + 1)) 1 = true) ∧ t.mem = s.mem)

/-- RESTART (R140). -/
def Claim.RestartNone : Prop := ∀ (r : Radio) (p : Preamble) (s w : State), Up s → w = takeDeferred s →
  ((w.fe r).rx = none ∨ hears w r = false ∨ acquires w r p = false) → exec (.restart r p) s = .next (Claim.edge s w)

/-- SIGNAL_FIELD_DECODE (R125, R126, R128, R137). -/
def Claim.SignalFieldDecode : Prop := ∀ (r : Radio) (sf : SigField) (fm : Option Nat) (us : List RxUser) (s w : State), Up s → w = takeDeferred s →
  (((w.fe r).rx = none ∨ (∃ rc, (w.fe r).rx = some rc ∧ rc.sigOk = true)) → exec (.signalFieldDecode r sf fm us) s = .next (Claim.edge s w)) ∧
  (∀ rc, (w.fe r).rx = some rc → rc.sigOk = false →
    ∃ t, exec (.signalFieldDecode r sf fm us) s = .next (Claim.edge s t) ∧
      (sigDecoded rc sf = false → t.fe r = { w.fe r with rx := none } ∧ bit (t.objN 0x2150 (r + 1)) 2 = true) ∧
      (sigDecoded rc sf = true → ∀ en, en = (match fm with | some k => isChain w r || formatEnabled w r k | none => isChain w r) →
        t.fe r = { w.fe r with rx := some { sigNoted w.now rc sf with
          sigOk := true, format := if en then some (fm.getD 0) else none, users := (bccFit us).1, kept := bccKeep 0 us } } ∧
        (en = true → 0 < (bccFit us).2 → bit (t.objN 0x2150 (r + 1)) 3 = true)) ∧
      (∀ q, q ≠ r → t.fe q = w.fe q) ∧ (∀ x, t.trx x = w.trx x) ∧ t.mem = s.mem)

/-- NF_INTERVAL_END (R144, R145). -/
def Claim.NfIntervalEnd : Prop := ∀ (r : Radio) (x : Trx) (c : Chan) (win : List NfWindow) (ws : List Int) (s : State), Up s → trxAssign s x = r.val + 1 →
  (s.fe r).chan = some c → ws = (win.filter qualifies).map (normalised s x (sliceOf c)) →
  ∃ t, exec (.nfIntervalEnd r x win) s = .next t ∧
    t.objB 0x2131 (x + 1) = nfEnc (noiseFloor ws) ++ le 4 ws.length ++ s.datum.t.enc ∧ t.rf = s.rf ∧ t.mem = s.mem ∧
    (noiseFloor ws = none → bit (t.objN 0x2150 (r + 1)) 5 = true)

/-- SENTINEL_DWELL_END (R88, R89, R147). -/
def Claim.SentinelDwellEnd : Prop := ∀ (x : Trx) (pw : List Int) (mv : List Nat) (e : Nat) (ws : List Int) (s : State), Up s → trxAssign s x = 0 →
  0 < scanCount s x → (s.trx x).powered = true → (s.trx x).dwellFrom + 1000000 * s.objF 0x2030 (x + 1) 2 2 ≤ s.now →
  e = (s.trx x).scanAt % scanCount s x → ws = ((dwellWindows pw mv).filter fun o => !o.change).map (normalised s x (scanChan s x e)) →
  ∃ t, exec (.sentinelDwellEnd x pw mv) s = .next t ∧
    ((clockDead s x = true ∨ planUsable (clockFe s x).plan (scanChan s x e) = false) →
      t.objB 0x2031 (16 * x + e + 1) = le 4 (scanChan s x e).centre ++ le 2 0 ++ le 2 0 ++ le 2 0x8000 ++ [0] ++ [1] ++ s.datum.t.enc) ∧
    (clockDead s x = false → planUsable (clockFe s x).plan (scanChan s x e) = true →
      t.objB 0x2031 (16 * x + e + 1) = le 4 (scanChan s x e).centre ++ leInt 2 (Int.fdiv (meanOf ws) 10) ++ leInt 2 (Int.fdiv (peakOf ws) 10) ++
        nfEnc (noiseFloor ws) ++ le 1 (occupancy ws (noiseFloor ws)) ++ [0] ++ s.datum.t.enc) ∧
    (t.trx x).dwellFrom = s.now ∧ (clockDead s x = true → (t.trx x).scanAt = (e + 1) % scanCount s x) ∧
    (clockDead s x = false → (t.trx x).scanAt = (skipUnusable x (scanCount s x) s ((e + 1) % scanCount s x)).2) ∧
    (∀ y, y ≠ x → t.trx y = s.trx y) ∧ (∀ q, t.fe q = s.fe q) ∧ t.mem = s.mem

/-- CHANNEL_CHANGE_DONE (R102, R101). -/
def Claim.ChannelChangeDone : Prop := ∀ (r : Radio) (temps : List Int) (us : Nat) (s : State), Up s → (s.fe r).st = .changing →
  diagPending (s.fe r) = false → (s.fe r).pending = none → (s.fe r).held = [] → (s.cr r).due = false →
  ∃ t, exec (.channelChangeDone r temps us) s = .next t ∧ (t.fe r).st = .ready ∧ gateOpen (t.fe r) = true ∧
    (t.fe r).chan = (s.fe r).chan ∧ (t.fe r).lastUs = us % 65536 ∧ (t.fe r).attempts = 0 ∧
    ((s.fe r).path ≠ .fallback ∨ (s.fe r).loLocked = true → (t.fe r).rxFrom = s.now) ∧
    (∀ x ∈ assigned s r, (t.trx x).lnaByp = false ∧ (t.trx x).calibrated = (s.trx x).powered) ∧
    (∀ q, q ≠ r → t.fe q = s.fe q) ∧ t.mem = s.mem

/-- LOCK_LOST (R106, R110). -/
def Claim.LockLost : Prop := ∀ (r : Radio) (s w : State), Up s → w = takeDeferred s → (w.fe r).st ≠ .off → (w.fe r).st ≠ .fault →
  (w.fe r).st ≠ .diag → diagPending (w.fe r) = false →
  ∃ t, exec (.lockLost r) s = .next (Claim.edge s t) ∧ (t.fe r).st = .relock ∧ (t.fe r).rx = none ∧ gateOpen (t.fe r) = false ∧
    (∀ a ∈ (w.fe r).air, w.now < a.e → (a.id, 0x20) ∈ (t.fe r).returned) ∧
    bit (t.objN 0x2051 (r + 1)) 2 = true ∧ (∀ q, q ≠ r → t.fe q = w.fe q) ∧ t.mem = s.mem

/-- LOCK_LOST (R106, R121). -/
def Claim.LockLostDiag : Prop := ∀ (r : Radio) (s w : State), Up s → w = takeDeferred s → (w.fe r).st = .diag →
  ∃ t, exec (.lockLost r) s = .next (Claim.edge s t) ∧ (t.fe r).st = .off ∧ (t.fe r).diag.ended = 6 ∧ (t.fe r).diag.running = false ∧ t.mem = s.mem

/-- RELOCK_DONE (R106). -/
def Claim.RelockDone : Prop := ∀ (r : Radio) (temps : List Int) (s : State), Up s → (s.fe r).st = .relock →
  diagPending (s.fe r) = false → (s.fe r).pending = none → (s.fe r).held = [] → (s.cr r).due = false →
  ∃ t, exec (.relockDone r temps) s = .next t ∧ (t.fe r).st = .ready ∧ (t.fe r).chan = (s.fe r).chan ∧
    (∀ q, q ≠ r → t.fe q = s.fe q) ∧ t.mem = s.mem

/-- FAULT_RETRY (R107). -/
def Claim.FaultRetry : Prop := ∀ (r : Radio) (locks : Bool) (temps : List Int) (s : State), Up s → (s.fe r).st = .fault →
  diagPending (s.fe r) = false → (s.fe r).pending = none → (s.fe r).held = [] → (s.cr r).due = false →
  ∃ t, exec (.faultRetry r locks temps) s = .next t ∧ (t.fe r).st = (if locks then .ready else .fault) ∧
    (locks = false → (t.fe r).timeouts = ((s.fe r).timeouts + 1) % 2 ^ 32 ∧ bit (t.objN 0x2051 (r + 1)) 3 = true) ∧
    (∀ q, q ≠ r → t.fe q = s.fe q) ∧ t.mem = s.mem

/-- RECAL_START (R108). -/
def Claim.RecalStart : Prop := ∀ (r : Radio) (temps : List Int) (s w : State), Up s → w = takeDeferred s → (w.fe r).st = .ready →
  allowedBoundary w r w.now = true → drifted w r temps = true →
  ∃ t, exec (.recalStart r temps) s = .next (Claim.edge s t) ∧ t.fe r = { w.fe r with st := .recal } ∧ gateOpen (t.fe r) = false ∧
    (∀ q, q ≠ r → t.fe q = w.fe q) ∧ t.obj = w.obj ∧ t.mem = s.mem

/-- RECAL_DONE (R108). -/
def Claim.RecalDone : Prop := ∀ (r : Radio) (temps : List Int) (s : State), Up s → (s.fe r).st = .recal →
  diagPending (s.fe r) = false → (s.fe r).pending = none → (s.fe r).held = [] → (s.cr r).due = false →
  ∃ t, exec (.recalDone r temps) s = .next t ∧ (t.fe r).st = .ready ∧ (∀ q, q ≠ r → t.fe q = s.fe q) ∧ t.mem = s.mem

/-- HELD_REQUEST_DEADLINE (R109). -/
def Claim.HeldRequestDeadline : Prop := ∀ (r : Radio) (p : PpduReq) (l : List PpduReq) (s : State), Up s → gateOpen (s.fe r) = false →
  (s.fe r).held = p :: l → p.deadline ≠ none → p.kind ≠ 2 →
  ∃ t, exec (.heldRequestDeadline r p.id) s = .next t ∧
    t.fe r = { s.fe r with held := l, returned := (s.fe r).returned ++ [(p.id, 0x20)] } ∧
    bit (t.objN 0x2051 (r + 1)) 1 = true ∧ (∀ q, q ≠ r → t.fe q = s.fe q) ∧ t.mem = s.mem

/-- ABORT_RADIO_TX (R64). -/
def Claim.AbortRadioTx : Prop := ∀ (r : Radio) (s w : State), Up s → w = takeDeferred s →
  ∃ t, exec (.abortRadioTx r) s = .next (Claim.edge s t) ∧ t.dict.lastAbort = [1, 0] ++ le 2 r.val ∧ t.dict.abortCode = 0 ∧
    t.dict.abortNs ≤ 6000 ∧ t.mem = s.mem ∧
    ((w.fe r).diag.running = true → (t.fe r).st = .off ∧ (t.fe r).diag.running = false ∧ (t.fe r).diag.ended = 4) ∧
    ((w.fe r).diag.running = false → onAir w r = false → t.rf.fe = w.rf.fe ∧ t.dict.abortNs = 0)

/-- ABORT_RADIO_RX (R64). -/
def Claim.AbortRadioRx : Prop := ∀ (r : Radio) (s w : State), Up s → w = takeDeferred s →
  ∃ t, exec (.abortRadioRx r) s = .next (Claim.edge s t) ∧ t.fe r = { w.fe r with rx := none } ∧ (∀ q, q ≠ r → t.fe q = w.fe q) ∧
    t.dict.lastAbort = [2, 0] ++ le 2 r.val ∧ t.dict.abortCode = 0 ∧ t.dict.abortNs ≤ 4000 ∧ t.mem = s.mem ∧ t.obj = w.obj

/-- CIPHER_JOB_START (R27, R337). -/
def Claim.CipherJobStart : Prop := ∀ (l : Fin 12) (j : Job) (key : EccObs) (s : State), Up s → (s.lane l).job = none → (s.lane l).enabled = true →
  nextJob s = some j → (keyAt s j.slot).st = 1 → acceptsType j.cls (keyAt s j.slot).typ = true → j.tx = false ∨ j.retryPn = true → key ≠ .poisoned →
  ∃ t, exec (.cipherJobStart l key) s = .next t ∧
    (t.lane l).job = some { j with typ := (keyAt s j.slot).typ, material := (keyAt s j.slot).material, salt := (keyAt s j.slot).salt } ∧
    (∀ i ∈ t.sec.waiting, i.id ≠ j.id) ∧ t.sec.slots = s.sec.slots ∧ (∀ k, k ≠ l → t.lane k = s.lane k) ∧ (key = .clean → t.obj = s.obj) ∧ t.mem = s.mem

/-- CIPHER_JOB_START (R27, R337). -/
def Claim.CipherJobStartTx : Prop := ∀ (l : Fin 12) (j : Job) (x : Nat) (s : State), Up s → (s.lane l).job = none → (s.lane l).enabled = true →
  nextJob s = some j → (keyAt s j.slot).st = 1 → acceptsType j.cls (keyAt s j.slot).typ = true → j.tx = true → j.retryPn = false →
  keyLimit s (keyAt s j.slot).typ = some x → (keyAt s j.slot).counter < x → mirroring s = false →
  ∃ t k, exec (.cipherJobStart l .clean) s = .next t ∧ (t.lane l).job = some k ∧ k.id = j.id ∧ k.counter = (keyAt s j.slot).counter ∧
    (keyAt t j.slot).counter = (keyAt s j.slot).counter + 1 ∧ t.mem = s.mem

/-- CIPHER_JOB_START (R25, R340). -/
def Claim.CipherKeyPoison : Prop := ∀ (l : Fin 12) (j : Job) (s : State), Up s →
  ((s.lane l).job.isSome = true ∨ (s.lane l).enabled = false ∨ nextJob s = none → exec (.cipherJobStart l .clean) s = .next s) ∧
  ((s.lane l).job = none → (s.lane l).enabled = true → nextJob s = some j → (keyAt s j.slot).st = 1 → acceptsType j.cls (keyAt s j.slot).typ = true →
    ∃ t, exec (.cipherJobStart l .poisoned) s = .next t ∧ (t.lane l).job = none ∧ (keyAt t j.slot).st = 3 ∧ bit (t.objN 0x6020 0) 1 = true ∧
      (∀ i ∈ t.sec.waiting, i.id ≠ j.id) ∧ t.mem = s.mem)

/-- CIPHER_JOB_DONE (R336, R341). -/
def Claim.CipherJobDone : Prop := ∀ (l : Fin 12) (tagOk : Bool) (j : Job) (s : State), Up s → (s.lane l).job = some j →
  ∃ t, exec (.cipherJobDone l tagOk) s = .next t ∧ (t.lane l).job = none ∧ (t.lane l).jobs = ((s.lane l).jobs + 1) % 2 ^ 64 ∧
    (j.owner = .dma → tget t.sec.results j.id = some (if j.tx || tagOk then 0 else 1, j)) ∧
    (∀ k, k ≠ l → t.lane k = s.lane k) ∧ ((j.tx || tagOk) = true → (∀ f, j.owner ≠ .port f) → t.obj = s.obj) ∧
    ((j.tx || tagOk) = false → bit (t.objN 0x6020 0) 5 = true ∧ (t.lane l).authFail = ((s.lane l).authFail + 1) % 2 ^ 32) ∧ t.mem = s.mem

/-- ATTEST_DONE (R355). -/
def Claim.AttestDone : Prop := ∀ (n : Bytes) (s : State), Up s → s.sec.attesting = some n →
  exec .attestDone s = .next { s with sec := { s.sec with
    attesting := none
    report := reportBody s n ++ (List.range 114).map (Config.identitySign (ascii "ATT1" ++ reportBody s n)) } }

/-- ENTROPY_FAIL (R353). -/
def Claim.EntropyFail : Prop := ∀ s : State, Up s → exec .entropyFail s = .next { s with sec := { s.sec with entropyOk := false } }

/-- ENTROPY_RESTORED (R353). -/
def Claim.EntropyRestored : Prop := ∀ s : State, Up s → exec .entropyRestored s = .next { s with sec := { s.sec with entropyOk := true } }

/-- INSTALL (R343). -/
def Claim.Install : Prop := ∀ (n : Nat) (rest : Bytes) (x : Session) (s : State), Sender s n x → passes s 0x6001 0 (1 :: rest) = true →
  let v := taken 0x6001 0 (1 :: rest)
  keyTypes.contains (fld v 1 1) = true → fld v 2 2 < 8192 → (keyAt s (fld v 2 2)).st = 0 → beyondLimit s (fld v 1 1) (fld v 4 8) = false →
  (keyLen (fld v 1 1) = 16 → fld v 32 16 = 0) →
  (s.sec.slots.any fun p => p.2.st != 0 && p.2.typ == fld v 1 1 && p.2.material == sub v 16 (keyLen (fld v 1 1))) = false →
  ∃ t, exec (.install n rest) s = .next t ∧ answered t 0x6001 0 ok ∧ (keyAt t (fld v 2 2)).st = 1 ∧
    (keyAt t (fld v 2 2)).typ = fld v 1 1 ∧ (keyAt t (fld v 2 2)).material = sub v 16 (keyLen (fld v 1 1)) ∧
    (keyAt t (fld v 2 2)).counter = (if (keyWidth (fld v 1 1)).isSome then fld v 4 8 else 0) ∧
    (∀ m, m ≠ fld v 2 2 → keyAt t m = keyAt s m) ∧ t.mem = s.mem

/-- ERASE (R344). -/
def Claim.Erase : Prop := ∀ (n : Nat) (rest : Bytes) (x : Session) (s : State), Sender s n x → passes s 0x6001 0 (2 :: rest) = true →
  let k := fld (taken 0x6001 0 (2 :: rest)) 2 2
  k < 8192 → (keyAt s k).st ≠ 0 →
  ∃ t, exec (.erase n rest) s = .next t ∧ answered t 0x6001 0 ok ∧ (keyAt t k).st = 0 ∧
    (laneHolds s k = false → keyAt t k = emptySlot) ∧ (∀ m, m ≠ k → keyAt t m = keyAt s m) ∧ t.mem = s.mem

/-- REKEY_POP (R348). -/
def Claim.RekeyPop : Prop := ∀ (n : Nat) (v : Bytes) (x : Session) (r : Rekey) (l : List Rekey) (s : State), Sender s n x → passes s 0x6004 0 v = true →
  s.sec.rekeys = r :: l →
  ∃ t, exec (.rekeyPop n v) s = .next t ∧ answered t 0x6004 0 ok ∧
    t.sec = { s.sec with rekeys := l, popped := [1] ++ le 1 r.kind ++ le 2 r.slot ++ le 8 r.counter ++ r.stamp.enc } ∧
    t.obj = s.obj ∧ t.mem = s.mem

/-- ATTEST (R355). -/
def Claim.Attest : Prop := ∀ (n : Nat) (v : Bytes) (x : Session) (s : State), Sender s n x → passes s 0x6110 0 v = true → s.sec.idFault = false →
  s.sec.entropyOk = true → s.sec.attesting = none →
  ∃ t, exec (.attest n v) s = .next t ∧ answered t 0x6110 0 ok ∧ t.sec = { s.sec with attesting := some (taken 0x6110 0 v) } ∧ t.obj = s.obj ∧ t.mem = s.mem

/-- EXTEND (R354). -/
def Claim.Extend : Prop := ∀ (n : Nat) (v : Bytes) (x : Session) (s : State), Sender s n x → passes s 0x6112 0 v = true → 0xFF00 ≤ n →
  let i := fld (taken 0x6112 0 v) 0 1
  ∃ t, exec (.extend n v) s = .next t ∧ answered t 0x6112 0 ok ∧
    t.objB 0x6111 (i + 1) = shake 64 (ascii "MREX" ++ le 1 i ++ s.objB 0x6111 (i + 1) ++ sub (taken 0x6112 0 v) 2 64) ∧
    t.sec = s.sec ∧ t.mem = s.mem

/-- PROGRAM (R356). -/
def Claim.Program : Prop := ∀ (n : Nat) (rest : Bytes) (env : Env) (x : Session) (s : State), Sender s n x → passes s 0x6122 0 (1 :: rest) = true →
  let v := taken 0x6122 0 (1 :: rest)
  fuseState s (fld v 2 1) = 1 → env.keyOk = true → env.sigOk = true → fld v 4 2 = s.part.fuseSeq →
  1 ≤ fld v 1 1 → fld v 1 1 ≤ 3 → fuseState s (fld v 1 1) = 0 → s.power.supplyLow = false →
  ∃ t, exec (.program n rest env) s = .next t ∧ answered t 0x6122 0 ok ∧ vget t.part.fuses (fld v 1 1) (0, []) = (1, sub v 8 64) ∧
    (∀ k, k ≠ fld v 1 1 → vget t.part.fuses k (0, []) = vget s.part.fuses k (0, [])) ∧
    t.part.fuseSeq = (s.part.fuseSeq + 1) % 65536 ∧ t.obj = s.obj ∧ t.mem = s.mem

/-- REVOKE (R356). -/
def Claim.Revoke : Prop := ∀ (n : Nat) (rest : Bytes) (env : Env) (x : Session) (s : State), Sender s n x → passes s 0x6122 0 (2 :: rest) = true →
  let v := taken 0x6122 0 (2 :: rest)
  fuseState s (fld v 2 1) = 1 → env.keyOk = true → env.sigOk = true → fld v 4 2 = s.part.fuseSeq →
  fld v 1 1 ≤ 3 → fuseState s (fld v 1 1) = 1 → fld v 1 1 ≠ fld v 2 1 → s.power.supplyLow = false →
  ∃ t, exec (.revoke n rest env) s = .next t ∧ answered t 0x6122 0 ok ∧ fuseState t (fld v 1 1) = 2 ∧
    (∀ k, k ≠ fld v 1 1 → vget t.part.fuses k (0, []) = vget s.part.fuses k (0, [])) ∧
    t.part.fuseSeq = (s.part.fuseSeq + 1) % 65536 ∧ t.obj = s.obj ∧ t.mem = s.mem

/-- DEBUG_DISABLE (R356). -/
def Claim.DebugDisable : Prop := ∀ (n : Nat) (rest : Bytes) (env : Env) (x : Session) (s : State), Sender s n x → passes s 0x6122 0 (3 :: rest) = true →
  let v := taken 0x6122 0 (3 :: rest)
  fuseState s (fld v 2 1) = 1 → env.keyOk = true → env.sigOk = true → fld v 4 2 = s.part.fuseSeq → s.power.supplyLow = false →
  ∃ t, exec (.debugDisable n rest env) s = .next t ∧ answered t 0x6122 0 ok ∧ t.part.debugOff = true ∧ t.part.fuses = s.part.fuses ∧
    t.part.fuseSeq = (s.part.fuseSeq + 1) % 65536 ∧ t.obj = s.obj ∧ t.mem = s.mem

/-- CHALLENGE (R358). -/
def Claim.Challenge : Prop := ∀ (n : Nat) (rest : Bytes) (x : Session) (s : State), Sender s n x → passes s 0x6130 0 (1 :: rest) = true →
  s.sec.idFault = false → s.sec.entropyOk = true →
  ∃ t c, exec (.challenge n rest) s = .next t ∧ answered t 0x6130 0 ok ∧ c.length = 32 ∧
    t.sec = { s.sec with challenge := some (c, s.now) } ∧ t.obj = s.obj ∧ t.mem = s.mem

/-- RESPOND (R358). -/
def Claim.Respond : Prop := ∀ (n : Nat) (rest : Bytes) (env : Env) (x : Session) (c : Bytes) (at_ : Nat) (s : State), Sender s n x →
  passes s 0x6130 0 (2 :: rest) = true →
  let v := taken 0x6130 0 (2 :: rest)
  s.sec.challenge = some (c, at_) → s.now ≤ at_ + 60000000000 → fuseState s (fld v 1 1) = 1 → env.keyOk = true → env.sigOk = true →
  s.part.debugOff = false →
  ∃ t, exec (.respond n rest env) s = .next t ∧ answered t 0x6130 0 ok ∧
    t.sec = { s.sec with challenge := none, unlocked := s.sec.unlocked || bit (fld v 2 1) 0 } ∧
    t.objB 0x6111 6 = shake 64 (ascii "MREX" ++ [5] ++ s.objB 0x6111 6 ++ shake 64 (ascii "DBG1" ++ s.part.serial ++ c ++ sub v 2 1)) ∧ t.mem = s.mem

/-- REFILL (R266). -/
def Claim.Refill : Prop := ∀ s : State, Up s → Canon s →
  ∃ t, exec .refill s = .next t ∧ t.tm.refills = s.tm.refills + 1 ∧
    (∀ e ∈ setElements s 0x5010, tgetD t.tm.shapers e 0 =
      min (tgetD s.tm.shapers e 0 + (refillGain (s.objF 0x5010 e 0 4) : Int)) ((s.objF 0x5010 e 4 4 * 65536 : Nat) : Int)) ∧
    t.tm.queues = s.tm.queues ∧ t.tm.nodes = s.tm.nodes ∧ t.obj = s.obj ∧ t.mem = s.mem

/-- GATE_ENTRY_CHANGE (R271, R272). -/
def Claim.GateEntryChange : Prop := ∀ (g : Fin 5) (s : State), Up s →
  ∃ t, exec (.gateEntryChange g) s = .next t ∧
    vget t.tm.gateEntry g.val 0 = entryIndex (vget t.tm.gates g.val {}) s.datum.t.units ∧
    (∀ n, vget s.tm.nextGate g.val none = some n → n.start ≤ s.datum.t.units → vget t.tm.gates g.val {} = n) ∧
    (vget s.tm.nextGate g.val none = none → t.tm.gates = s.tm.gates) ∧
    t.tm.queues = s.tm.queues ∧ t.obj = s.obj ∧ t.mem = s.mem

/-- DRAM_RETURN (R278). -/
def Claim.DramReturn : Prop := ∀ (q n : Nat) (f : QFrame) (s : State), Up s → qSta q = some n → (s.queue q).frames = [f] → f.inDram = true →
  asleepAll s n f.tid = false → f.cells ≤ s.tm.freeCells →
  ∃ t, exec (.dramReturn q) s = .next t ∧ (t.queue q).frames = [{ f with inDram := false }] ∧
    t.tm.dramCells = s.tm.dramCells - f.cells ∧ (∀ p, p ≠ q → t.queue p = s.queue p) ∧ t.mem = s.mem

/-- RING_RX_DELIVER (R296, R297). -/
def Claim.RingRxDeliver : Prop := ∀ (k : Fin 16) (q : Nat) (f : QFrame) (s : State), Up s → queueOf (.coreRx k) = some q →
  ringReady s (.coreRx k) = true → pairSends s q = true → (s.queue q).frames = [f] → f.seg = none →
  ringAvail s (ringBase (.coreRx k)) ≠ 0 → f.bytes.length ≤ ringBuf s (ringBase (.coreRx k)) →
  let b := ringBase (.coreRx k)
  let a := s.regAt b + 32 * ringHead s b
  ∃ t, exec (.ringRxDeliver ⟨.coreRx k, .clean, []⟩) s = .next t ∧ (t.queue q).frames = [] ∧ bit (readWord t (a + 8)) 0 = true ∧
    t.regAt (b + 0x10) = (ringHead s b + 1) % ringSize s b ∧
    (readWord s a + f.bytes.length ≤ a + 8 ∨ a + 32 ≤ readWord s a → readMemN t.mem (readWord s a) f.bytes.length = f.bytes) ∧
    (∀ x, (x < readWord s a ∨ readWord s a + f.bytes.length ≤ x) → (x < a + 8 ∨ a + 32 ≤ x) → readMem t.mem x = readMem s.mem x)

/-- FRAME_ENQUEUE (R267). -/
def Claim.FrameEnqueue : Prop := ∀ (f : TmFrame) (q : Nat) (s : State), Up s → f.queues = [q] → q < 8443 →
  ¬ (8296 ≤ q ∧ q < 8440 ∧ f.dst ≠ 0 ∧ s.objF 0x3810 f.dst 0 1 = 3) → policerOf s f = 0 →
  (s.queue q).frames.any (·.inDram) = false → chipCells (s.queue q) + cdiv (f.bytes.length + 4) 256 ≤ qLimit s q →
  tgetD s.tm.cellRefs f.id 0 = 0 → cdiv (f.bytes.length + 4) 256 + (if q < 8192 then s.objN 0x5041 0 else 0) ≤ s.tm.freeCells →
  ∃ t x, exec (.frameEnqueue f) s = .next t ∧ (t.queue q).frames = (s.queue q).frames ++ [x] ∧ x.id = f.id ∧ x.bytes = f.bytes ∧
    x.len = f.bytes.length + 4 ∧ x.cells = cdiv (f.bytes.length + 4) 256 ∧ x.inDram = false ∧
    t.tm.freeCells = s.tm.freeCells - cdiv (f.bytes.length + 4) 256 ∧ (∀ p, p ≠ q → t.queue p = s.queue p) ∧ t.mem = s.mem

/-- EGRESS_REQUEST (R261, R283). -/
def Claim.EgressRequest : Prop := ∀ (p : Fin 2) (named ac : Option Nat) (bad : List Nat) (q : Nat) (f : QFrame) (u s : State), Up s →
  portUp s p.val = true → selectQueue (countHolds s p.val) p.val (portEligible (countHolds s p.val) p.val) = (some q, u) →
  (u.queue q).frames = [f] → f.seg = none → f.sentSegs = 0 → f.tstamp = false → oversize u p.val f.bytes = false →
  macsecGrowth u p.val f.bytes = 0 → portFits u p.val q s.datum.t.units (f.bytes.length + 4) = true →
  ∃ t, exec (.egressRequest (.eth p) named ac .clean bad) s = .next t ∧
    t.tm.sent = { frame := f.id, port := p.val, fcsBad := f.truncated, bytes := f.bytes } :: s.tm.sent ∧
    (t.queue q).frames = [] ∧ t.mem = s.mem

/-- ETH_FRAME_RECEIVE (R284, R288). -/
def Claim.EthFrameReceive : Prop := ∀ (p : Fin 3) (f : RxFrame) (s : State), Up s → portUp s p.val = true → (p.val < 2 → macsecOn s p.val = false) →
  f.fecUncorr = 0 → f.fcsOk = true → 64 ≤ f.len → f.len ≤ (if p.val < 2 then ethMax s p.val else fieldMax s) →
  ∃ t, exec (.ethFrameReceive p f) s = .next t ∧
    t.wired.rx = s.wired.rx ++ [{ ingress := p.val, stamp := rxStamp s p.val, truncated := false, bytes := f.bytes }] ∧
    t.wired.eth = s.wired.eth ∧ t.tm = s.tm ∧ t.mem = s.mem

/-- LINK_DOWN. -/
def Claim.LinkDown : Prop := ∀ (p : Fin 4) (s : State), Up s → portUp s p.val = true →
  ∃ t, exec (.linkDown p) s = .next t ∧ portUp t p.val = false ∧ bit (t.objN 0x5860 (p.val + 1)) 0 = true ∧
    (p.val < 2 → (t.eth p.val).fecLock = false ∧ ∀ c < 8, vget (t.eth p.val).paused c 0 = 0) ∧ t.mem = s.mem

/-- LINK_UP. -/
def Claim.LinkUp : Prop := ∀ (p : Fin 4) (fec : Bool) (an speed width : Nat) (s : State), Up s → (p.val < 2 → ethMode s p.val ≠ 0) →
  (s.start.limp = true → p.val = 2) → (p.val < 2 → (portPowered s 6 p.val (portCharge (ethMode s p.val))).2 = true) →
  (p.val = 3 → (portPowered s 7 0 (6 * width)).2 = true) →
  ∃ t, exec (.linkUp p fec an speed width) s = .next t ∧ portUp t p.val = true ∧
    (p.val < 2 → (t.eth p.val).upStamp = s.datum.t ∧ (t.eth p.val).an = an ∧ (t.eth p.val).fecLock = fec) ∧
    (p.val = 3 → t.wired.pcieSpeed = speed ∧ t.wired.pcieWidth = width ∧ t.wired.vector13Owed = false) ∧
    t.tm = s.tm ∧ t.mem = s.mem

/-- LINK_UP. -/
def Claim.LinkUpRefused : Prop := ∀ (p : Fin 4) (fec : Bool) (an speed width : Nat) (s : State), Up s → s.start.limp = false →
  (p.val < 2 → ethMode s p.val ≠ 0 ∧ (portPowered s 6 p.val (portCharge (ethMode s p.val))).2 = false) → p.val ≠ 2 →
  (p.val = 3 → (portPowered s 7 0 (6 * width)).2 = false) →
  ∃ t, exec (.linkUp p fec an speed width) s = .next t ∧ t.wired = s.wired ∧ t.tm = s.tm ∧ t.mem = s.mem

/-- PAUSE_RECEIVE (R293). -/
def Claim.PauseReceive : Prop := ∀ (p : Fin 2) (k : Nat) (s : State), Up s → pauseMode s p.val = 1 → k ≠ 0 →
  ∃ t, exec (.pauseReceive p false 0 [k]) s = .next t ∧ (∀ c < 8, vget (t.eth p.val).paused c 0 = k) ∧
    (∀ c < 8, vget (t.eth p.val).pauseEnd c 0 = s.now + quantaNs s p.val k) ∧
    bit (t.objN 0x5860 (p.val + 1)) 5 = true ∧ t.tm = s.tm ∧ t.mem = s.mem

/-- PAUSE_RECEIVE (R293). -/
def Claim.PauseReceivePfc : Prop := ∀ (p : Fin 2) (vec : Nat) (ks : List Nat) (s : State), Up s → pauseMode s p.val = 2 → ks.length = 8 →
  ∃ t, exec (.pauseReceive p true vec ks) s = .next t ∧
    (∀ c < 8, vget (t.eth p.val).paused c 0 = if bit vec c then (ks[c]?).getD 0 else vget (s.eth p.val).paused c 0) ∧
    (∀ c < 8, bit vec c = true → vget (t.eth p.val).pauseEnd c 0 = s.now + quantaNs s p.val ((ks[c]?).getD 0)) ∧ t.tm = s.tm ∧ t.mem = s.mem

/-- PAUSE_EXPIRY (R292). -/
def Claim.PauseExpiry : Prop := ∀ (p : Fin 2) (c : Fin 8) (s : State), Up s → vget (s.eth p.val).pauseEnd c.val 0 ≤ s.now →
  ∃ t, exec (.pauseExpiry p c) s = .next t ∧ vget (t.eth p.val).paused c.val 0 = 0 ∧
    (∀ d, d ≠ c.val → vget (t.eth p.val).paused d 0 = vget (s.eth p.val).paused d 0) ∧
    (∀ q, q ≠ p.val → t.eth q = s.eth q) ∧ t.obj = s.obj ∧ t.mem = s.mem

/-- PAUSE_EXPIRY (R292). -/
def Claim.PauseRunning : Prop := ∀ (p : Fin 2) (c : Fin 8) (s : State), Up s → s.now < vget (s.eth p.val).pauseEnd c.val 0 →
  exec (.pauseExpiry p c) s = .next s

/-- PAUSE_REFRESH (R294). -/
def Claim.PauseRefresh : Prop := ∀ (p : Fin 2) (c : Fin 8) (s : State), Up s → pauseMode s p.val ≠ 0 →
  let b := if pauseMode s p.val = 1 then 0 else c.val
  let q := s.objF 0x5803 (p.val + 1) 2 2
  bit (s.eth p.val).pausing b = true →
  s.objF 0x5803 (p.val + 1) 8 4 < occupancyOf s p.val (if pauseMode s p.val = 1 then none else some c.val) →
  vget (s.eth p.val).pauseAt b 0 + quantaNs s p.val q / 2 ≤ s.now → 80 ≤ (s.objB 0x5802 (p.val + 1)).length →
  ∃ t x, exec (.pauseRefresh p c) s = .next t ∧ (t.eth p.val).pauses = x :: (s.eth p.val).pauses ∧ x.quanta = q ∧
    x.pfc = (pauseMode s p.val == 2) ∧ x.classes = (if pauseMode s p.val = 2 then 2 ^ b else 255) ∧
    vget (t.eth p.val).pauseAt b 0 = s.now ∧
    t.objF 0x5802 (p.val + 1) 72 8 = min (s.objF 0x5802 (p.val + 1) 72 8 + 1) (2 ^ 64 - 1) ∧
    (∀ k, k ≠ p.val → t.eth k = s.eth k) ∧ t.tm = s.tm ∧ t.mem = s.mem

/-- TX_RING_DOORBELL (R298). -/
def Claim.TxRingDoorbell : Prop := ∀ (j : Fin 4) (tail : Nat) (words : List Nat) (bufs : List Bytes) (bad : List Nat) (d : TxDesc) (s : State), Up s →
  ringOn s (ringBase (.coreTx j)) = true →
  txDescs (s.setReg (ringBase (.coreTx j) + 0xC) (tail % 4096)) (.coreTx j) words bufs bad = [d] →
  d.isSeg = false → d.sop = true → d.eop = true → d.bytes ≠ 0 → d.bad = false → bits d.w1 8 8 = 0xFF →
  ∃ t x, exec (.txRingDoorbell (.coreTx j) tail words bufs bad) s = .next t ∧ t.wired.rx = s.wired.rx ++ [x] ∧ x.ingress = 4 ∧
    x.bytes = d.data ∧ x.stamp = s.datum.t ∧ t.regAt (ringBase (.coreTx j) + 0xC) = tail % 4096 ∧
    t.regAt (ringBase (.coreTx j) + 0x10) = (ringHead s (ringBase (.coreTx j)) + 1) % ringSize s (ringBase (.coreTx j)) ∧
    (∀ a, (a < s.regAt (ringBase (.coreTx j)) + 32 * d.idx + 8 ∨ s.regAt (ringBase (.coreTx j)) + 32 * d.idx + 16 ≤ a) →
      readMem t.mem a = readMem s.mem a)

/-- PLCA_LOST. -/
def Claim.PlcaLost : Prop := ∀ s : State, Up s → plcaFollower s = true → s.wired.plcaOk = true →
  ∃ t, exec .plcaLost s = .next t ∧ t.wired = { s.wired with plcaOk := false, beaconsLost := (s.wired.beaconsLost + 1) % 2 ^ 32 } ∧
    bit (t.objN 0x5860 3) 6 = true ∧ t.tm = s.tm ∧ t.mem = s.mem

/-- PLCA_RESTORED. -/
def Claim.PlcaRestored : Prop := ∀ s : State, Up s → s.objF 0x5820 0 0 1 = 1 →
  exec .plcaRestored s = .next { s with wired := { s.wired with plcaOk := true } }

/-- UART_DATA_WRITE (R308). -/
def Claim.UartDataWrite : Prop := ∀ (c : CoreId) (v : Nat) (s : State), Up s → (uartDrain s).wired.uartTx.length < 64 →
  ∃ t, exec (.uartDataWrite c v) s = .next t ∧ t.wired.uartTx = (uartDrain s).wired.uartTx ++ [BitVec.ofNat 8 v] ∧
    t.wired.uartSent = (uartDrain s).wired.uartSent ∧ t.obj = s.obj ∧ t.reg = s.reg ∧ t.mem = s.mem

/-- UART_DATA_READ (R308). -/
def Claim.UartDataRead : Prop := ∀ (c : CoreId) (x : Byte) (l : Bytes) (s : State), Up s → s.wired.uartRx = x :: l →
  ∃ t, exec (.uartDataRead c) s = .next t ∧ t.wired = { s.wired with uartRx := l } ∧ (t.core c).readData = 256 + x.toNat ∧
    t.obj = s.obj ∧ t.reg = s.reg ∧ t.mem = s.mem

/-- UART_RX_BYTE (R308). -/
def Claim.UartRxByte : Prop := ∀ (b : Byte) (s : State), Up s →
  ∃ t, exec (.uartRxByte b) s = .next t ∧ (s.wired.uartRx.length < 64 → t.wired.uartRx = s.wired.uartRx ++ [b]) ∧
    (64 ≤ s.wired.uartRx.length → t.wired = s.wired ∧ bit (t.regAt uartStatusAt) 2 = true) ∧ t.mem = s.mem

/-- AER_UNCORRECTABLE (R303). -/
def Claim.AerUncorrectable : Prop := ∀ s : State, Up s →
  ∃ t, exec .aerUncorrectable s = .next t ∧ t.wired.aerUncorr = (s.wired.aerUncorr + 1) % 2 ^ 32 ∧ bit (t.objN 0x5860 4) 8 = true ∧
    (s.wired.pcieRoot = false → bit t.wired.msix 13 = true) ∧ t.tm = s.tm ∧ t.mem = s.mem

/-- GPIO_OUT_WRITE (R310). -/
def Claim.GpioOutWrite : Prop := ∀ (n : Nat) (v : Bytes) (x : Session) (s : State), Sender s n x → passes s 0x5842 0 v = true →
  reservedBy s none 0x5842 0 = false →
  ∃ t, exec (.gpioOutWrite n v) s = .next t ∧ answered t 0x5842 0 ok ∧
    (∀ i < 32, bit (t.objN 0x5842 0) i = if gpioDir s i = 0 then bit (s.objN 0x5842 0) i else bit (leNat v) i) ∧ t.wired = s.wired ∧ t.mem = s.mem

/-- PCIE_CFG_READ (R312). -/
def Claim.PcieCfgRead : Prop := ∀ (n : Nat) (rest : Bytes) (env : Env) (x : Session) (d : Nat) (s : State), Sender s n x →
  passes s 0x5832 0 (1 :: rest) = true → s.wired.pcieRoot = true → s.wired.pcieLink = true → env.pcie = some d →
  ∃ t, exec (.pcieCfgRead n rest env) s = .next t ∧ answered t 0x5832 0 ok ∧ (tgetD t.dict.cmds (okey 0x5832 0) {}).out = le 4 d ∧
    t.wired = s.wired ∧ t.obj = s.obj ∧ t.mem = s.mem

/-- PCIE_CFG_WRITE (R312). -/
def Claim.PcieCfgWrite : Prop := ∀ (n : Nat) (rest : Bytes) (env : Env) (x : Session) (d : Nat) (s : State), Sender s n x →
  passes s 0x5832 0 (2 :: rest) = true → s.wired.pcieRoot = true → s.wired.pcieLink = true → env.pcie = some d →
  ∃ t, exec (.pcieCfgWrite n rest env) s = .next t ∧ answered t 0x5832 0 ok ∧ t.wired = s.wired ∧ t.obj = s.obj ∧ t.mem = s.mem

/-- I2C_XFER (R309). -/
def Claim.I2cXfer : Prop := ∀ (n : Nat) (v : Bytes) (env : Env) (x : Session) (rd : Bytes) (s : State), Sender s n x →
  passes s 0x5851 0 v = true → (taken 0x5851 0 v).length = 4 + fld (taken 0x5851 0 v) 2 1 → env.i2c = .acked rd →
  ∃ t, exec (.i2cXfer n v env) s = .next t ∧ answered t 0x5851 0 ok ∧
    (tgetD t.dict.cmds (okey 0x5851 0) {}).out = rd.take (fld (taken 0x5851 0 v) 3 1) ∧ t.wired = s.wired ∧ t.obj = s.obj ∧ t.mem = s.mem

/-- BLOCKACKREQ (R164). -/
def Claim.BlockAckReq : Prop := ∀ (r : Radio) (sta tid sn i : Nat) (c : RxCtx) (s : State), Up s → isWlan s r = true → delivers s r 0 = true →
  rxCtx s sta tid = some (i, c) →
  ∃ t, exec (.blockAckReq r sta tid sn) s = .next t ∧ t.mem = s.mem ∧
    (snLess c.wstart sn = true → c.held = [] → tget t.mac.rxBa i = some { c with wstart := sn } ∧
      (∀ k, k ≠ i → tget t.mac.rxBa k = tget s.mac.rxBa k) ∧ t.mac.toPp = s.mac.toPp) ∧
    (snLess c.wstart sn = false → t.mac.rxBa = s.mac.rxBa ∧ t.mac.toPp = s.mac.toPp) ∧
    (gateOpen (s.fe r) = false → (t.fe r).returned = (s.fe r).returned ++ [(sta, 0x20)] ∧ bit (t.objN 0x2051 (r + 1)) 1 = true)

/-- REORDER_TIMEOUT (R165). -/
def Claim.ReorderTimeout : Prop := ∀ (ctx : Nat) (c : RxCtx) (h : HeldMpdu) (s : State), Up s → tget s.mac.rxBa ctx = some c → c.held = [h] →
  (h.since + s.objN 0x3021 0 * 1000000 ≤ s.now → h.m.protect = false → h.m.snap = true → h.m.more = [] →
    ∃ t x, exec (.reorderTimeout ctx) s = .next t ∧ t.mac.toPp = s.mac.toPp ++ [x] ∧
      tget t.mac.rxBa ctx = some { c with held := [], wstart := snAdd h.sn 1 } ∧ x.source = h.m.sta ∧ x.radio = h.radio ∧ x.bss = h.bss ∧ x.kind = h.kind ∧ x.vlan = h.vlan ∧ x.tid = h.m.tid ∧
      bit (t.objN 0x3401 (lowLink s c.sta + 1)) 1 = true ∧ t.mem = s.mem) ∧
  (s.now < h.since + s.objN 0x3021 0 * 1000000 → exec (.reorderTimeout ctx) s = .next s)

/-- MPDU_RECEIVE (R164, R174). -/
def Claim.MpduReceive : Prop := ∀ (r : Radio) (m : RxMpdu) (s w : State), Up s → w = takeDeferred s → isWlan w r = true → delivers w r m.user = true →
  m.fcsOk = true → m.ackReq = false → m.kind = 0 → 1 ≤ m.sta → m.sta ≤ 2048 → (w.objB 0x3100 m.sta).length = 144 → staState w m.sta = 3 →
  linkUp w m.sta r.val = true → m.endsExchange = false → m.report = none → m.fourAddr = false → m.protect = false → m.retry = false →
  mapBit (ulTtlm w m.sta) m.tid r.val = true → rxCtx w m.sta m.tid = none → m.snap = true → m.more = [] →
  ∃ t x, exec (.mpduReceive r m) s = .next (Claim.edge s t) ∧ t.mac.toPp = w.mac.toPp ++ [x] ∧ x.source = m.sta ∧ x.radio = r.val ∧ x.tid = m.tid ∧
    x.sn = m.sn ∧ x.etherType = m.etherType ∧ x.vlan = w.objF 0x3100 m.sta 24 2 ∧ t.mac.rxBa = w.mac.rxBa ∧ (∀ q, q ≠ r → t.fe q = w.fe q) ∧ t.mem = s.mem

/-- MPDU_RECEIVE (R164, R174). -/
def Claim.MpduBad : Prop := ∀ (r : Radio) (m : RxMpdu) (s w : State), Up s → w = takeDeferred s →
  (m.fcsOk = false ∨ isWlan w r = false ∨ delivers w r m.user = false) → exec (.mpduReceive r m) s = .next (Claim.edge s w)

/-- AID_RELEASE (R157). -/
def Claim.AidRelease : Prop := ∀ (pool : Fin 3) (aid : Nat) (tenSeconds : Bool) (s : State), Up s →
  ∃ t, exec (.aidRelease pool aid tenSeconds) s = .next t ∧
    t.mac = { s.mac with quar := s.mac.quar.filter fun q => !(q.pool == pool.val && q.aid == aid && (q.left.isEmpty || tenSeconds)) } ∧
    (∀ el < 65536, t.objB 0x3100 el = s.objB 0x3100 el) ∧ t.mem = s.mem

/-- MTX_DOORBELL (R177). -/
def Claim.MtxDoorbell : Prop := ∀ (c : CoreId) (r : Radio) (tail : Nat) (s : State), Up s →
  let b := radioWindow r.val + 0x20
  let a := s.regAt b / 64 * 64 + 32 * ringTail s b
  let w := readWord s (a + 8)
  ringOn s b = true → (tail % ringSize s b + ringSize s b - ringTail s b) % ringSize s b = 1 →
  24 ≤ bits w 32 16 → bits w 32 16 ≤ 4096 → bits w 26 2 = 0 → bits w 48 16 = 0xFFFF →
  ∃ t d, exec (.mtxDoorbell c r tail) s = .next t ∧ t.mac.mtx[r] = s.mac.mtx[r] ++ [d] ∧ d.idx = ringTail s b ∧ d.len = bits w 32 16 ∧
    d.sta = 0xFFFF ∧ t.regAt (b + 0xC) = tail % 4096 ∧ (∀ k, k ≠ r → t.mac.mtx[k] = s.mac.mtx[k]) ∧ t.obj = s.obj ∧ t.mem = s.mem

/-- Descriptor `desc` of a radio's MTX ring has completed with a status: it is off the ring, DONE and the status are in its word 1,
and no byte outside its words 1 and 3 has changed (R177). -/
def Claim.mtxDone (r : Radio) (desc status : Nat) (s t : State) : Prop :=
  let a := s.regAt (radioWindow r.val + 0x20) / 64 * 64 + 32 * desc
  t.mac.mtx[r] = (s.mac.mtx[r]).filter (fun d => d.idx != desc) ∧ (∀ k, k ≠ r → t.mac.mtx[k] = s.mac.mtx[k]) ∧
    bits (readWord t (a + 8)) 8 8 = status % 256 ∧ bit (readWord t (a + 8)) 0 = true ∧
    (∀ x, (x < a + 8 ∨ a + 16 ≤ x) → (x < a + 24 ∨ a + 32 ≤ x) → readMem t.mem x = readMem s.mem x)

/-- MTX_COMPLETE (R177). -/
def Claim.MtxComplete : Prop := ∀ (r : Radio) (desc status : Nat) (d : MtxDesc) (s : State), Up s →
  (s.mac.mtx[r]).find? (fun d => d.idx == desc) = some d →
  let expired := d.since + 1000 * (if d.life = 0 then 1000000 else d.life) ≤ s.now
  let gone := d.sta ≠ 0xFFFF ∧ staState s d.sta = 0
  let q := mtxRadio s r d
  (gone → ∃ t, exec (.mtxComplete r desc status) s = .next t ∧ Claim.mtxDone r desc 3 s t) ∧
  (¬ gone → expired → ∃ t, exec (.mtxComplete r desc status) s = .next t ∧ Claim.mtxDone r desc 2 s t) ∧
  (¬ gone → ¬ expired → status ≤ 1 → (s.fe q).st = .fault → ∃ t, exec (.mtxComplete r desc status) s = .next t ∧ Claim.mtxDone r desc 0x20 s t) ∧
  (¬ gone → ¬ expired → (1 < status ∨ ((s.fe q).st ≠ .fault ∧ (gateOpen (s.fe q) = false ∨ mtxHeld s r q d = true))) →
    exec (.mtxComplete r desc status) s = .next s)

/-- MTX_COMPLETE (R106, R111, R114, R180). -/
def Claim.MtxSent : Prop := ∀ (r : Radio) (desc status : Nat) (d : MtxDesc) (a : State) (s : State), Up s →
  (s.mac.mtx[r]).find? (fun d => d.idx == desc) = some d → (d.sta = 0xFFFF ∨ staState s d.sta ≠ 0) →
  s.now < d.since + 1000 * (if d.life = 0 then 1000000 else d.life) → status ≤ 1 →
  let q := mtxRadio s r d
  gateOpen (s.fe q) = true → (ctlFamily s q).isSome = true → mtxHeld s r q d = false →
  (∀ code, mtxAir s q d = (a, .error code) → ∃ t, exec (.mtxComplete r desc status) s = .next t ∧ Claim.mtxDone r desc code s t) ∧
  (∀ start b pn, mtxAir s q d = (a, .ok start) → mtxPlace a r q d = (b, .value pn) →
    ∃ t, exec (.mtxComplete r desc status) s = .next t ∧ Claim.mtxDone r desc (if d.noAck then 0 else status) s t) ∧
  (∀ start b, mtxAir s q d = (a, .ok start) → mtxPlace a r q d = (b, .exhausted) →
    ∃ t, exec (.mtxComplete r desc status) s = .next t ∧ Claim.mtxDone r desc 0x30 s t)

/-- STA_ALLOC (R154). -/
def Claim.StaAlloc : Prop := ∀ (n : Nat) (v : Bytes) (x : Session) (i a : Nat) (s : State), Sender s n x → passes s 0x3102 0 v = true →
  let u := taken 0x3102 0 v
  fld u 2 1 ≠ 2 → (findLt 2048 fun k => staState s (k + 1) == 0) = some i →
  (findLt 2007 fun k => !aidTaken s (bssPool s (fld u 0 1) (fld u 1 1)) (k + 1)) = some a → bssOn s (fld u 0 1) (fld u 1 1) = true →
  ((setElements s 0x3100).any fun m => decide (1 ≤ m) && staState s m != 0 && sub (s.objB 0x3100 m) 6 6 == sub u 4 6) = false →
  ∃ t, exec (.staAlloc n v) s = .next t ∧ answered t 0x3102 0 ok ∧ (tgetD t.dict.cmds (okey 0x3102 0) {}).out = le 2 (i + 1) ++ le 2 (a + 1) ∧
    staState t (i + 1) = 1 ∧ staAid t (i + 1) = a + 1 ∧ (∀ m < 65536, m ≠ i + 1 → t.objB 0x3100 m = s.objB 0x3100 m) ∧
    t.mac.aids = s.mac.aids ++ [2048 * bssPool s (fld u 0 1) (fld u 1 1) + (a + 1)] ∧ t.mem = s.mem

/-- STA_ENTRY_WRITE (R156). -/
def Claim.StaEntryWrite : Prop := ∀ (n el : Nat) (v : Bytes) (x : Session) (s : State), Sender s n x → passes s 0x3100 el v = true →
  let u := taken 0x3100 el v
  reservedBy s none 0x3100 el = false → 1 ≤ el → staState s el ≠ 0 → sub u 1 2 = sub (s.objB 0x3100 el) 1 2 → sub u 4 8 = sub (s.objB 0x3100 el) 4 8 →
  fld u 0 1 ≠ 0 → staGroupOk s (fld u 26 2) = true → fld u 26 2 = staGroup s el → mapsServed u (fld u 16 3) = true → mapsServed u (fld u 19 3) = true →
  (∀ r < 3, linkUp s el r = true → fld u (linkOff r 6) 1 ≠ 0) →
  ∃ t, exec (.staEntryWrite n el v) s = .next t ∧ answered t 0x3100 el ok ∧
    t.objB 0x3100 el = (List.range 3).foldl (fun v r => patch v (linkOff r 7) (sub (s.objB 0x3100 el) (linkOff r 7) 1)) u ∧
    (∀ m < 65536, m ≠ el → t.objB 0x3100 m = s.objB 0x3100 m) ∧ t.mac = s.mac ∧ t.mem = s.mem

/-- STA_FREE (R157). -/
def Claim.StaFree : Prop := ∀ (n : Nat) (v : Bytes) (x : Session) (s : State), Sender s n x → passes s 0x3103 0 v = true →
  let k := fld (taken 0x3103 0 v) 0 2
  1 ≤ k → k ≤ 2048 → staState s k ≠ 0 → s.mac.rxBa = [] → s.mac.txBa = [] → twtSet s = [] → (∀ r : Radio, s.mac.mtx[r] = []) → staAid s k ≠ 0 →
  ∃ t, exec (.staFree n v) s = .next t ∧ answered t 0x3103 0 ok ∧ staState t k = 0 ∧ (2048 * staMld s k + staAid s k) ∉ t.mac.aids ∧
    (∀ m < 65536, m ≠ k → t.objB 0x3100 m = s.objB 0x3100 m) ∧ t.mem = s.mem

/-- ADD_RX (R162). -/
def Claim.AddRx : Prop := ∀ (n : Nat) (rest : Bytes) (x : Session) (i : Nat) (s : State), Sender s n x → passes s 0x3202 0 (1 :: rest) = true →
  let u := taken 0x3202 0 (1 :: rest)
  1 ≤ fld u 6 2 → fld u 6 2 ≤ 1024 → fld u 8 2 ≤ 4095 → rxCtx s (fld u 2 2) (fld u 4 1) = none → freeCtx s.mac.rxBa = some i →
  ∃ t, exec (.addRx n rest) s = .next t ∧ answered t 0x3202 0 ok ∧ (tgetD t.dict.cmds (okey 0x3202 0) {}).out = le 2 (i + 1) ∧
    tget t.mac.rxBa i = some { sta := fld u 2 2, tid := fld u 4 1, win := fld u 6 2, wstart := fld u 8 2 } ∧
    (∀ k, k ≠ i → tget t.mac.rxBa k = tget s.mac.rxBa k) ∧ t.mac.txBa = s.mac.txBa ∧ t.mem = s.mem

/-- ADD_TX (R162). -/
def Claim.AddTx : Prop := ∀ (n : Nat) (rest : Bytes) (x : Session) (i : Nat) (s : State), Sender s n x → passes s 0x3202 0 (2 :: rest) = true →
  let u := taken 0x3202 0 (2 :: rest)
  1 ≤ fld u 6 2 → fld u 6 2 ≤ 1024 → fld u 8 2 ≤ 4095 → txCtx s (fld u 2 2) (fld u 4 1) = none → freeCtx s.mac.txBa = some i →
  ∃ t, exec (.addTx n rest) s = .next t ∧ answered t 0x3202 0 ok ∧ (tgetD t.dict.cmds (okey 0x3202 0) {}).out = le 2 (i + 1) ∧
    tget t.mac.txBa i = some { sta := fld u 2 2, tid := fld u 4 1, win := fld u 6 2, wstart := fld u 8 2 } ∧
    (∀ k, k ≠ i → tget t.mac.txBa k = tget s.mac.txBa k) ∧ t.mac.rxBa = s.mac.rxBa ∧ t.mem = s.mem

/-- DELETE_RX (R162). -/
def Claim.DeleteRx : Prop := ∀ (n : Nat) (rest : Bytes) (x : Session) (i : Nat) (c : RxCtx) (s : State), Sender s n x → passes s 0x3202 0 (3 :: rest) = true →
  let u := taken 0x3202 0 (3 :: rest)
  rxCtx s (fld u 2 2) (fld u 4 1) = some (i, c) → c.held = [] →
  ∃ t, exec (.deleteRx n rest) s = .next t ∧ answered t 0x3202 0 ok ∧ tget t.mac.rxBa i = none ∧
    (∀ k, k ≠ i → tget t.mac.rxBa k = tget s.mac.rxBa k) ∧ t.mac.txBa = s.mac.txBa ∧ t.mac.toPp = s.mac.toPp ∧ t.mem = s.mem

/-- DELETE_TX (R162). -/
def Claim.DeleteTx : Prop := ∀ (n : Nat) (rest : Bytes) (x : Session) (i : Nat) (c : TxCtx) (s : State), Sender s n x → passes s 0x3202 0 (4 :: rest) = true →
  let u := taken 0x3202 0 (4 :: rest)
  txCtx s (fld u 2 2) (fld u 4 1) = some (i, c) →
  ∃ t, exec (.deleteTx n rest) s = .next t ∧ answered t 0x3202 0 ok ∧ tget t.mac.txBa i = none ∧
    (∀ k, k ≠ i → tget t.mac.txBa k = tget s.mac.txBa k) ∧ t.mac.rxBa = s.mac.rxBa ∧ t.mac.toPp = s.mac.toPp ∧ t.mem = s.mem

/-- PLAN_SNAPSHOT (R182, R189). -/
def Claim.PlanSnapshot : Prop := ∀ (r : Radio) (ul : Bool) (ac : Nat) (s : State), Up s → isWlan s r = true →
  planFlagOn s r.val (if ul then 1 else 0) = true → ac < 4 → (s.fe r).st ≠ .off →
  ∃ t, exec (.planSnapshot r ul ac) s = .next t ∧ t.mac.planning[r] = some (takeSnapshot s r ul ac) ∧
    (∀ k, k ≠ r → t.mac.planning[k] = s.mac.planning[k]) ∧ t.mac.plan = s.mac.plan ∧ t.obj = s.obj ∧ t.tm = s.tm ∧ t.mem = s.mem

/-- PLAN_DONE (R189). -/
def Claim.PlanDone : Prop := ∀ (r : Radio) (ns : Nat) (p : Plan) (s : State), Up s → s.mac.planning[r] = some p →
  ∃ t, exec (.planDone r ns) s = .next t ∧ t.mac.planning[r] = none ∧ t.mac.plan[r] = some p ∧
    t.objB 0x3501 (r.val + 1) = p.stamp.enc ++ le 2 p.cands ++ le 2 p.users.length ++ le 2 0 ++ le 1 (min 255 p.units) ++ le 2 (min ns 40000) ∧
    (∀ k, k ≠ r → t.mac.planning[k] = s.mac.planning[k] ∧ t.mac.plan[k] = s.mac.plan[k]) ∧ t.tm = s.tm ∧ t.mem = s.mem

/-- BOOKING_RETRY (R196, R423). -/
def Claim.BookingRetry : Prop := ∀ (r : Radio) (s : State), Up s →
  ((s.fe r).st = .off → exec (.bookingRetry r) s = .next s) ∧
  (∀ u, (s.fe r).st ≠ .off → (isWlan s r = false ∨ planFlagOn s r.val 3 = false) → grantUnits s 10 (bookKey r.val 0 0) = 0 →
    highestUnits s r = some u → u ≠ 0 → u ≤ roomFor s 10 (bookKey r.val 0 0) true →
    ∃ t, exec (.bookingRetry r) s = .next t ∧ grantUnits t 10 (bookKey r.val 0 0) = u ∧
      (∀ g ∈ s.power.grants, ¬ (g.kind = 10 ∧ g.inst = bookKey r.val 0 0) → g ∈ t.power.grants) ∧ t.obj = s.obj ∧ t.mem = s.mem) ∧
  (0 < grantUnits s 10 (bookKey r.val 0 0) → (isWlan s r = false ∨ planFlagOn s r.val 3 = false ∨ 0 < grantUnits s 10 (bookKey r.val 0 1)) →
    exec (.bookingRetry r) s = .next s)

/-- TWT_SP_START (R198). -/
def Claim.TwtSpStart : Prop := ∀ (a : Fin 1024) (s : State), Up s →
  (∀ x, twtActive s a.val = true → s.mac.spOpen.contains a.val = false → spPhase s a.val = some x → x ≤ 4 →
    ∃ t, exec (.twtSpStart a) s = .next t ∧ t.mac.spOpen = s.mac.spOpen ++ [a.val] ∧ (twtFlag s a.val 1 = false → twtAwake t a.val = true) ∧
      (twtFlag s a.val 1 = true → twtAwake t a.val = false) ∧ t.obj = s.obj ∧ t.mem = s.mem) ∧
  ((twtActive s a.val = false ∨ s.mac.spOpen.contains a.val = true ∨ spPhase s a.val = none ∨ ∃ x, spPhase s a.val = some x ∧ 4 < x) →
    exec (.twtSpStart a) s = .next s)

/-- TWT_SP_END (R200). -/
def Claim.TwtSpEnd : Prop := ∀ (a : Fin 1024) (s : State), Up s → s.mac.spOpen.contains a.val = true →
  (spPhase s a.val = none ∨ (∃ x, spPhase s a.val = some x ∧ (twtF s a.val 6 2 * 256 ≤ x ∨ twtF s a.val 16 4 ≤ twtF s a.val 6 2 * 256)) →
    ∃ t, exec (.twtSpEnd a) s = .next t ∧ t.mac.spOpen = s.mac.spOpen.filter (· != a.val) ∧ twtAwake t a.val = false ∧ t.mem = s.mem ∧
      (twtActive s a.val = true → twtFlag s a.val 0 = true → s.mac.spTrig.contains a.val = false →
        bit (t.objN 0x3503 (twtRadio s a.val + 1)) 3 = true) ∧
      (twtFlag s a.val 0 = false ∨ s.mac.spTrig.contains a.val = true → t.obj = s.obj)) ∧
  (∀ x, spPhase s a.val = some x → x < twtF s a.val 6 2 * 256 → twtF s a.val 6 2 * 256 < twtF s a.val 16 4 → exec (.twtSpEnd a) s = .next s)

/-- TWT_ADD (R197). -/
def Claim.TwtAdd : Prop := ∀ (n : Nat) (rest : Bytes) (x : Session) (a : Nat) (s : State), Sender s n x → passes s 0x3601 0 (1 :: rest) = true →
  let u := taken 0x3601 0 (1 :: rest)
  1 ≤ fld u 2 2 → fld u 2 2 ≤ 2048 → fld u 4 1 ≤ 2 → fld u 5 1 ≤ 7 → fld u 6 1 ≤ 3 → fld u 8 2 ≠ 0 → fld u 8 2 ≤ 255 → 1024 ≤ fld u 18 4 →
  fld u 8 2 * 256 ≤ fld u 18 4 → (findLt 1024 fun a => !twtActive s a) = some a →
  (twtSet s).filter (fun a => twtActive s a && twtSta s a == fld u 2 2) = [] → staState s (fld u 2 2) = 3 → linkUp s (fld u 2 2) (fld u 4 1) = true →
  ∃ t, exec (.twtAdd n rest) s = .next t ∧ answered t 0x3601 0 ok ∧ (tgetD t.dict.cmds (okey 0x3601 0) {}).out = le 2 (a + 1) ∧
    t.objB 0x3600 (a + 1) = sub u 2 5 ++ [1] ++ sub u 8 14 ++ zeros 4 ∧ (∀ b < 65536, b ≠ a + 1 → t.objB 0x3600 b = s.objB 0x3600 b) ∧
    ((s.objB 0x3100 (fld u 2 2)).length = 144 → staKind s (fld u 2 2) ≠ 2 → linkPs t (fld u 2 2) (fld u 4 1) = 2) ∧ t.mac = s.mac ∧ t.mem = s.mem

/-- TWT_DELETE (R197, R201). -/
def Claim.TwtDelete : Prop := ∀ (n : Nat) (rest : Bytes) (x : Session) (a : Nat) (s : State), Sender s n x → passes s 0x3601 0 (2 :: rest) = true →
  let u := taken 0x3601 0 (2 :: rest)
  (findLt 1024 fun a => twtActive s a && twtSta s a == fld u 2 2 && twtF s a 3 1 == fld u 4 1) = some a →
  ∃ t, exec (.twtDelete n rest) s = .next t ∧ answered t 0x3601 0 ok ∧ (tgetD t.dict.cmds (okey 0x3601 0) {}).out = le 2 (a + 1) ∧
    twtActive t a = false ∧ t.mac.spOpen = s.mac.spOpen.filter (· != a) ∧ (∀ b < 65536, b ≠ a + 1 → t.objB 0x3600 b = s.objB 0x3600 b) ∧ t.mem = s.mem

/-- ACK_RECEIVE (R163). -/
def Claim.AckReceive : Prop := ∀ (r : Radio) (acked : List (Nat × Nat × Nat)) (m : TxMpdu) (s w : State), Up s → w = takeDeferred s →
  (w.fe r).tx.isSome = true → (w.fe r).held = [] → w.mac.inFlight[r] = [m] → (w.objB 0x3400 (r.val + 1)).length = 52 →
  ∃ t, exec (.ackReceive r acked) s = .next (Claim.edge s t) ∧ (t.fe r).tx = none ∧ t.mac.inFlight[r] = [] ∧ (∀ k, k ≠ r → t.fe k = w.fe k) ∧
    (acked.contains (m.sta, m.tid, m.sn) = true → t.mac.retry = w.mac.retry ∧
      t.objF 0x3400 (r.val + 1) 0 4 = (w.objF 0x3400 (r.val + 1) 0 4 + 1) % 2 ^ 32) ∧
    (acked.contains (m.sta, m.tid, m.sn) = false → mpduSpent w r.val m = false → t.mac.retry = w.mac.retry ++ [m]) ∧ t.mem = s.mem

/-- ACK_RECEIVE, ACK_TIMEOUT (R163). -/
def Claim.AckNone : Prop := ∀ (r : Radio) (acked : List (Nat × Nat × Nat)) (s w : State), Up s → w = takeDeferred s → (w.fe r).tx = none →
  exec (.ackReceive r acked) s = .next (Claim.edge s w) ∧ exec (.ackTimeout r) s = .next (Claim.edge s w)

/-- ACK_TIMEOUT (R163). -/
def Claim.AckTimeout : Prop := ∀ (r : Radio) (m : TxMpdu) (x : Transmission) (s w : State), Up s → w = takeDeferred s → (w.fe r).tx = some x →
  (w.fe r).held = [] → w.mac.inFlight[r] = [m] →
  ∃ t, exec (.ackTimeout r) s = .next (Claim.edge s t) ∧ (t.fe r).tx = none ∧ t.mac.inFlight[r] = [] ∧ (∀ k, k ≠ r → t.fe k = w.fe k) ∧
    grantUnits t 10 (bookKey r.val 3 0) = 0 ∧
    (asleep w m.sta r.val = true → x.req.form ≠ 5 → t.mac.retry = { m with tries := m.tries - 1 } :: w.mac.retry) ∧
    ((asleep w m.sta r.val = false ∨ x.req.form = 5) → mpduSpent w r.val m = false → t.mac.retry = w.mac.retry ++ [m]) ∧
    ((asleep w m.sta r.val = false ∨ x.req.form = 5) → mpduSpent w r.val m = true → t.mac.retry = w.mac.retry) ∧ t.mem = s.mem

/-- TBTT (R151). -/
def Claim.Tbtt : Prop := ∀ (r : Radio) (b : Fin 16) (v w : State) (c : Chan) (x : Int) (s : State), Up s → w = takeDeferred s → isWlan w r = true →
  bssOn w r.val b.val = true → pairSends w 0 = true → w.mac.tsf % (bssF w r.val b.val 10 2 * 1024) = 16 * bssF w r.val b.val 12 2 →
  gateOpen (w.fe r) = true → 0 < grantUnits w 10 (bookKey r.val 1 b.val) →
  powered w.draw.2 r (ownReq 2 b.val 3 0 w.draw.1 none) = (v, some (c, x)) → bit (bssF w r.val b.val 14 1) 0 = false →
  tgetD w.mac.dtimCount (bssEl r.val b.val) 0 ≠ 0 →
  ∃ t, exec (.tbtt r b true) s = .next (Claim.edge s t) ∧
    tget t.mac.lastBeacon (bssEl r.val b.val) = some (beaconBytes w r.val b.val (tgetD w.mac.dtimCount (bssEl r.val b.val) 0)
      (reqStart w r c (ownReq 2 b.val 3 0 w.draw.1 none))) ∧
    tgetD t.mac.beacons (bssEl r.val b.val) 0 = tgetD w.mac.beacons (bssEl r.val b.val) 0 + 1 ∧
    tgetD t.mac.dtimCount (bssEl r.val b.val) 0 = tgetD w.mac.dtimCount (bssEl r.val b.val) 0 - 1 ∧
    grantUnits t 10 (bookKey r.val 1 b.val) = 0 ∧ t.tm = w.tm ∧ t.mem = s.mem

/-- TBTT (R151). -/
def Claim.TbttBusy : Prop := ∀ (r : Radio) (b : Fin 16) (s w : State), Up s → w = takeDeferred s → isWlan w r = true → bssOn w r.val b.val = true →
  pairSends w 0 = true → w.mac.tsf % (bssF w r.val b.val 10 2 * 1024) = 16 * bssF w r.val b.val 12 2 →
  (∃ t, exec (.tbtt r b false) s = .next (Claim.edge s t) ∧ bit (t.objN 0x3401 (r.val + 1)) 6 = true ∧ grantUnits t 10 (bookKey r.val 1 b.val) = 0 ∧
    t.mac = w.mac ∧ t.mem = s.mem) ∧
  (gateOpen (w.fe r) = false → (w.fe r).st ≠ .fault → ∃ t p, exec (.tbtt r b true) s = .next (Claim.edge s t) ∧ (t.fe r).held = (w.fe r).held ++ [p] ∧
    p.kind = 2 ∧ p.id = b.val ∧ p.deadline = some (w.datum.t.nanos + bssF w r.val b.val 10 2 * 1024 * 1000) ∧ bit (t.objN 0x2051 (r + 1)) 0 = true ∧
    t.mac = w.mac ∧ t.mem = s.mem)

/-- TBTT (R151). -/
def Claim.TbttNot : Prop := ∀ (r : Radio) (b : Fin 16) (free : Bool) (s w : State), Up s → w = takeDeferred s →
  (isWlan w r = false ∨ bssOn w r.val b.val = false ∨ pairSends w 0 = false ∨
    w.mac.tsf % (bssF w r.val b.val 10 2 * 1024) ≠ 16 * bssF w r.val b.val 12 2) → exec (.tbtt r b free) s = .next (Claim.edge s w)

/-- PROBE_REQUEST (R153). -/
def Claim.ProbeRequest : Prop := ∀ (r : Radio) (b : Fin 16) (p : ProbeReq) (v : State) (c : Chan) (x : Int) (s : State), Up s → isWlan s r = true →
  bssOn s r.val b.val = true → delivers s r 0 = true → pairSends s 0 = true → s.objB 0x3012 (bssEl r.val b.val) ≠ [] → p.ssid = [] →
  p.bssid = List.replicate 6 0xFF → gateOpen (s.fe r) = true → (s.fe r).tx = none →
  powered s.draw.2 r (ownReq 1 b.val 3 4 s.draw.1 none) = (v, some (c, x)) → bit (bssF s r.val b.val 14 1) 2 = false →
  ∃ t, exec (.probeRequest r b p) s = .next t ∧ (let z := s.objB 0x3012 (bssEl r.val b.val)
      tget t.mac.lastProbe (bssEl r.val b.val) = some (le 8 (tsfAt v (reqStart v r c (ownReq 1 b.val 3 4 s.draw.1 none))) ++ (sub z 36 (fld z 34 2)).drop 8)) ∧
    t.tm = s.tm ∧ t.mem = s.mem

/-- PROBE_REQUEST (R153). -/
def Claim.ProbeNotMine : Prop := ∀ (r : Radio) (b : Fin 16) (p : ProbeReq) (s : State), Up s →
  (isWlan s r = false ∨ bssOn s r.val b.val = false ∨ delivers s r 0 = false ∨
    (p.bssid ≠ List.replicate 6 0xFF ∧ p.bssid ≠ sub (s.objB 0x3010 (bssEl r.val b.val)) 1 6)) → exec (.probeRequest r b p) s = .next s

/-- PPDU_ASSEMBLY (R158, R172). -/
def Claim.PpduAssembly : Prop := ∀ (r : Radio) (p : PpduReq) (n : Nat) (f : QFrame) (v : State) (c : Chan) (x : Int) (s w : State), Up s →
  w = takeDeferred s → isWlan w r = true → (w.fe r).tx = none → onAir w r = false → (w.fe r).st = .ready → pairSends w 0 = true →
  p.kind = 1 → p.form = 0 → p.mpdus = 1 → p.sta = some n → powered w r p = (v, some (c, x)) → userOk w r.val n p = true → isGroup n = false →
  w.mac.retry = [] → w.mac.barOwed = [] → (∀ k : Radio, w.mac.inFlight[k] = []) → w.mac.fetched[r] = [f] →
  (∀ k : Radio, k ≠ r → w.mac.fetched[k] = []) → f.dst = n → acOf f.tid = p.ac → mapBit (dlTtlm w n) f.tid r.val = true → f.len ≤ 2 ^ 32 →
  txCtx w n f.tid = none → staCipher w n = 0 → staFlag w n 0 = true → mirroring w = false →
  ∃ t m, exec (.ppduAssembly r p) s = .next (Claim.edge s t) ∧ t.mac.inFlight[r] = [m] ∧ m.sta = n ∧ m.tid = f.tid ∧ m.sn = snAt w n f.tid ∧ m.frame = f ∧
    m.tries = 1 ∧ snAt t n f.tid = snAdd (snAt w n f.tid) 1 ∧ t.mac.fetched[r] = [] ∧ (t.fe r).tx.isSome = true ∧ t.mem = s.mem

/-- PPDU_ASSEMBLY (R109, R172). -/
def Claim.PpduHeld : Prop := ∀ (r : Radio) (p : PpduReq) (s w : State), Up s → w = takeDeferred s →
  ((isWlan w r = false ∨ (w.fe r).tx.isSome = true ∨ onAir w r = true ∨ pairSends w 0 = false ∨ p.kind = 4) →
    exec (.ppduAssembly r p) s = .next (Claim.edge s w)) ∧
  (isWlan w r = true → (w.fe r).tx = none → onAir w r = false → gateOpen (w.fe r) = false → pairSends w 0 = true → p.kind ≠ 4 →
    (p.kind ≠ 0 → (w.fe r).st ≠ .fault → ∃ t, exec (.ppduAssembly r p) s = .next (Claim.edge s t) ∧ t.fe r = { w.fe r with held := (w.fe r).held ++ [p] } ∧
      bit (t.objN 0x2051 (r + 1)) 0 = true ∧ t.mac = w.mac ∧ t.mem = s.mem) ∧
    (p.kind = 0 → ∃ t, exec (.ppduAssembly r p) s = .next (Claim.edge s t) ∧ t.fe r = { w.fe r with returned := (w.fe r).returned ++ [(p.id, 0x20)] } ∧
      bit (t.objN 0x2051 (r + 1)) 1 = true ∧ t.mac = w.mac ∧ t.mem = s.mem))

/-- PS_POLL (R170). -/
def Claim.PsPoll : Prop := ∀ (r : Radio) (n a : Nat) (l : List Nat) (m : TxMpdu) (v : State) (c : Chan) (x : Int) (s : State), Up s → isWlan s r = true →
  delivers s r 0 = true → staState s n = 3 → linkUp s n r.val = true → heldAcs s r.val n [0, 1, 2, 3] = a :: l → gateOpen (s.fe r) = true →
  (s.fe r).tx = none → nstrBlocked s.draw.2 r.val n { ownReq 1 0 a 5 s.draw.1 none with sta := some n, busy := 15 } = false →
  powered s.draw.2 r { ownReq 1 0 a 5 s.draw.1 none with sta := some n, busy := 15 } = (v, some (c, x)) → isGroup n = false →
  (s.queue (qStation n a)).frames = [] → s.mac.retry = [m] → (∀ k : Radio, s.mac.inFlight[k] = []) → m.sta = n → acOf m.tid = a →
  mpduSpent s r.val m = false → m.frame.len ≤ 2 ^ 32 → mapBit (dlTtlm s n) m.tid r.val = true → txCtx s n m.tid = none → 8192 ≤ m.slot →
  ∃ t b, exec (.psPoll r n) s = .next t ∧
    t.mac.inFlight[r] = [{ m with tries := m.tries + 1, more := b, eosp := s.mac.uapsd.contains (n, r.val) }] ∧ t.mac.retry = [] ∧ t.mem = s.mem

/-- PS_POLL, UAPSD_TRIGGER (R170). -/
def Claim.PowerSaveNot : Prop := ∀ (r : Radio) (n k : Nat) (acs : List Nat) (s : State), Up s →
  (isWlan s r = false ∨ delivers s r 0 = false ∨ staState s n ≠ 3 ∨ linkUp s n r.val = false) →
  exec (.psPoll r n) s = .next s ∧ exec (.uapsdTrigger r n ⟨k, acs⟩) s = .next s

/-- UAPSD_TRIGGER (R170). -/
def Claim.UapsdTrigger : Prop := ∀ (r : Radio) (n k : Nat) (acs : List Nat) (s : State), Up s → isWlan s r = true → delivers s r 0 = true →
  staState s n = 3 → linkUp s n r.val = true → linkCaps s n r.val 5 = true →
  (heldAcs s r.val n acs = [] → exec (.uapsdTrigger r n ⟨k, acs⟩) s = .next s) ∧
  (∀ a l, heldAcs s r.val n acs = a :: l → (gateOpen (s.fe r) = true → (s.fe r).tx.isSome = true) → (s.fe r).st ≠ .fault →
    ∃ t p, exec (.uapsdTrigger r n ⟨k, acs⟩) s = .next t ∧ (t.fe r).held = (s.fe r).held ++ [p] ∧
      t.mac.uapsd = s.mac.uapsd.filter (· != (n, r.val)) ++ [(n, r.val)] ∧ p.sta = some n ∧ p.form = 5 ∧ p.mpdus = k ∧ p.ac = a ∧ t.tm = s.tm ∧ t.mem = s.mem)

/-- TB_PPDU_RECEIVE (R192). -/
def Claim.TbPpduReceive : Prop := ∀ (r : Radio) (start : Nat) (u : TbUser) (x : Transmission) (s w : State), Up s → w = takeDeferred s →
  (w.fe r).tx = some x → (w.fe r).held = [] → x.req.form ≠ 3 → tbInTime w r start = true → u.valid = true →
  (u.bcc = true → u.rate ≤ 3467 ∧ u.nss ≤ 4) → u.sta < 65536 → u.ac < 4 → u.bytes < 2 ^ 32 → (w.objB 0x3510 u.sta).length = 64 →
  ∃ t, exec (.tbPpduReceive r ⟨start, [u]⟩) s = .next (Claim.edge s t) ∧ (t.fe r).tx = none ∧ ulBytes t u.sta u.ac = u.bytes ∧ u.sta ∉ t.mac.excluded ∧
    tget t.mac.heard (4 * u.sta + r.val) = some w.now ∧ (t.fe r).tbLoops = [(u.ru, u.freq, u.sfo)] ∧
    grantUnits t 10 (bookKey r.val 3 0) = 0 ∧ t.tm = w.tm ∧ t.mem = s.mem

/-- TB_PPDU_RECEIVE (R192). -/
def Claim.TbMissed : Prop := ∀ (r : Radio) (start : Nat) (u : TbUser) (x : Transmission) (s w : State), Up s → w = takeDeferred s →
  (w.fe r).tx = some x → (w.fe r).held = [] → (u.valid = false ∨ tbInTime w r start = false) →
  ∃ t, exec (.tbPpduReceive r ⟨start, [u]⟩) s = .next (Claim.edge s t) ∧ (t.fe r).tx = none ∧ tgetD t.mac.missRun u.sta 0 = tgetD w.mac.missRun u.sta 0 + 1 ∧
    (2 ≤ tgetD w.mac.missRun u.sta 0 → t.mac.excluded.contains u.sta = true) ∧ bit (t.objN 0x3503 (r.val + 1)) 1 = true ∧
    grantUnits t 10 (bookKey r.val 3 0) = 0 ∧ t.tm = w.tm ∧ t.mem = s.mem

/-- TB_PPDU_RECEIVE (R192). -/
def Claim.TbNone : Prop := ∀ (r : Radio) (start : Nat) (us : List TbUser) (s w : State), Up s → w = takeDeferred s → (w.fe r).tx = none →
  exec (.tbPpduReceive r ⟨start, us⟩) s = .next (Claim.edge s w)

/-- PEER_TRIGGER (R194). -/
def Claim.PeerTrigger : Prop := ∀ (r : Radio) (n dur fam i start : Nat) (cs busy : Bool) (c : Chan) (e : RegChan) (s : State), Up s → isWlan s r = true →
  delivers s r 0 = true → planFlagOn s r.val 3 = true → staKind s n = 2 → staState s n = 3 → (cs && busy) = false → gateOpen (s.fe r) = true →
  peerBooked s r.val = true → (s.fe r).chan = some c → ctlFamily s r = some fam → start = max (startOf s r c) (s.now + sifs c) →
  regJudge s r c 600 start (dur + rampDown s r fam) = .ok e → (grantedPower s r e c 600 (grantUnits s 10 (bookKey r.val 0 1))).isSome = true →
  dutyBands s c = [i] → i < 16 →
  ∃ t, exec (.peerTrigger r n cs busy dur) s = .next t ∧ dutyUsed t i = dutyUsed s i + (dur + rampDown s r fam) ∧
    (∃ a ∈ (t.fe r).air, a.s = start ∧ a.e = start + dur + rampDown s r fam) ∧ t.obj = s.obj ∧ t.mac = s.mac ∧ t.mem = s.mem

/-- PEER_TRIGGER (R194). -/
def Claim.PeerTriggerNot : Prop := ∀ (r : Radio) (n dur : Nat) (cs busy : Bool) (s : State), Up s →
  (isWlan s r = false ∨ delivers s r 0 = false ∨ planFlagOn s r.val 3 = false ∨ staKind s n ≠ 2 ∨ staState s n ≠ 3 ∨ (cs && busy) = true) →
  exec (.peerTrigger r n cs busy dur) s = .next s

/-- LANE_PARITY (R181, R338). -/
def Claim.LaneParity : Prop := ∀ (l : Fin 12) (j : Job) (s : State), Up s → (s.lane l).job = some j →
  ∃ t, exec (.laneParity l) s = .next t ∧ (t.lane l).job = none ∧ (t.lane l).parity = ((s.lane l).parity + 1) % 2 ^ 32 ∧ (t.lane l).reload = true ∧
    bit (t.objN 0x6020 0) 0 = true ∧ (j.owner = .dma → tget t.sec.results j.id = some (2, j)) ∧ (∀ k, k ≠ l → t.lane k = s.lane k) ∧
    (j.owner ≠ .mpdu → t.mac = s.mac) ∧ t.mem = s.mem

/-- LANE_PARITY (R181, R338). -/
def Claim.ParityRetry : Prop := ∀ (l : Fin 12) (j : Job) (m : TxMpdu) (s : State), Up s → (s.lane l).job = some j → j.owner = .mpdu →
  s.mac.inFlight[(0 : Radio)] = [m] → s.mac.inFlight[(1 : Radio)] = [] → s.mac.inFlight[(2 : Radio)] = [] → m.pn = j.counter → m.slot = j.slot →
  ∃ t, exec (.laneParity l) s = .next t ∧ t.mac.inFlight[(0 : Radio)] = [] ∧ t.mac.retry = { m with tries := m.tries - 1 } :: s.mac.retry

/-- ABORT_CIPHER_LANE (R64, R339). -/
def Claim.AbortCipherLane : Prop := ∀ (l : Fin 12) (s : State), Up s →
  (∀ j, (s.lane l).job = some j → ∃ t, exec (.abortCipherLane l) s = .next t ∧ (t.lane l).job = none ∧
    (t.lane l).aborts = ((s.lane l).aborts + 1) % 2 ^ 32 ∧ (j.owner = .dma → tget t.sec.results j.id = some (6, j)) ∧
    t.dict.lastAbort = le 1 3 ++ [0] ++ le 2 l.val ∧ t.dict.abortCode = 0 ∧ t.dict.abortNs ≤ 2000 ∧
    (∀ k, k ≠ l → t.lane k = s.lane k) ∧ (j.owner = .dma ∨ j.owner = .reception → t.obj = s.obj ∧ t.mac = s.mac) ∧ t.mem = s.mem) ∧
  ((s.lane l).job = none → ∃ t, exec (.abortCipherLane l) s = .next t ∧ t.sec = s.sec ∧ t.dict.lastAbort = le 1 3 ++ [0] ++ le 2 l.val ∧
    t.dict.abortCode = 0 ∧ t.dict.abortNs = 0 ∧ t.obj = s.obj ∧ t.mac = s.mac ∧ t.mem = s.mem)

/-- CHAIN_HEAD (R228). -/
def Claim.ChainHead : Prop := ∀ (r : Radio) (s : State), Up s →
  (isCoordinator s r = true → (s.cr r).running = true → chainPast s r ((s.cr r).sched.len - (s.cr r).sched.window) = true →
    ∃ t, exec (.chainHead r) s = .next t ∧ (t.cr r).nextSched = some (latchSched s r) ∧ (t.cr r).announce = announcements s r ∧
      (t.cr r).number = (s.cr r).number ∧ (slotChanges s r = [] → (t.cr r).schedVer = (s.cr r).schedVer) ∧
      (slotChanges s r ≠ [] → (t.cr r).schedVer = ((s.cr r).schedVer + 1) % 65536) ∧ (∀ k, k ≠ r → t.cr k = s.cr k) ∧ t.tm = s.tm ∧ t.mem = s.mem) ∧
  ((isCoordinator s r = false ∨ (s.cr r).running = false ∨ chainPast s r ((s.cr r).sched.len - (s.cr r).sched.window) = false) →
    exec (.chainHead r) s = .next s)

/-- CHAIN_START (R204, R228). -/
def Claim.ChainStart : Prop := ∀ (r : Radio) (s w : State), Up s → w = takeDeferred (slotEdge s r) → (w.fe r).st ≠ .off → isCoordinator w r = true →
  ((w.cr r).running = true → chainPast w r (w.cr r).sched.len = true →
    ∃ t, exec (.chainStart r) s = .next (Claim.edge s t) ∧ (t.cr r).number = ((w.cr r).number + 1) % 2 ^ 32 ∧ (t.cr r).running = true ∧ (t.cr r).slot = 0 ∧
      (t.cr r).inSlot = none ∧ (t.cr r).group = 0 ∧ (t.cr r).sched = ((w.cr r).nextSched.getD (w.cr r).sched) ∧
      (t.cr r).bTick = (w.cr r).bTick + unitTicks (w.cr r).sched.len ∧ (t.cr r).slotAt = chainNow w r (w.cr r).sched.len ∧
      (∀ k, k ≠ r → t.cr k = w.cr k) ∧ (membersOf w r.val = [] → t.tm = w.tm) ∧ t.mem = s.mem) ∧
  ((w.cr r).running = false → firstBegin w r (latchSched w r).len = true →
    ∃ t, exec (.chainStart r) s = .next (Claim.edge s t) ∧ (t.cr r).number = (w.cr r).number ∧ (t.cr r).running = true ∧ (t.cr r).slot = 0 ∧
      (t.cr r).inSlot = none ∧ (t.cr r).sched = latchSched w r ∧ (t.cr r).bTick = w.chain.ticks ∧ (t.cr r).bStamp = w.datum.t ∧
      (∀ k, k ≠ r → t.cr k = w.cr k) ∧ t.tm = w.tm ∧ t.mem = s.mem) ∧
  (((w.cr r).running = true ∧ chainPast w r (w.cr r).sched.len = false) ∨ ((w.cr r).running = false ∧ firstBegin w r (latchSched w r).len = false) →
    exec (.chainStart r) s = .next (Claim.edge s w))

/-- SLOT_START (R205). -/
def Claim.SlotStart : Prop := ∀ (r : Radio) (rffe : Bool) (late : List Nat) (s w : State), Up s → w = takeDeferred (slotEdge s r) → isChain w r = true →
  (w.cr r).running = true → (w.cr r).slot < (slotList (w.cr r).sched.runs).length → (w.fe r).st ≠ .off →
  chainPast w r (slotBegin (w.cr r).sched (w.cr r).slot) = true →
  ∃ t, exec (.slotStart ⟨r, rffe, late⟩) s = .next (Claim.edge s t) ∧ (t.cr r).inSlot = some (w.cr r).slot ∧ (t.cr r).slot = (w.cr r).slot + 1 ∧
    (t.cr r).group = slotGroup (w.cr r).sched (w.cr r).slot ∧ (t.cr r).slotAt = chainNow w r (slotBegin (w.cr r).sched (w.cr r).slot) ∧
    (isCoordinator w r = true → slotKind (w.cr r).sched (w.cr r).slot ≠ some 3 →
      (∃ b, t.cr r = { w.cr r with inSlot := some (w.cr r).slot, slot := (w.cr r).slot + 1, used := 0, group := slotGroup (w.cr r).sched (w.cr r).slot, slotAt := chainNow w r (slotBegin (w.cr r).sched (w.cr r).slot), rffeDone := rffe, late := late, due := b }) ∧ t.tm = w.tm) ∧
    (∀ k, k ≠ r → t.cr k = w.cr k) ∧ t.mem = s.mem

/-- SLOT_START (R205). -/
def Claim.SlotStartNot : Prop := ∀ (r : Radio) (rffe : Bool) (late : List Nat) (s w : State), Up s → w = takeDeferred (slotEdge s r) →
  (isChain w r = false ∨ (w.cr r).running = false ∨ (slotList (w.cr r).sched.runs).length ≤ (w.cr r).slot ∨ (w.fe r).st = .off ∨
    chainPast w r (slotBegin (w.cr r).sched (w.cr r).slot) = false) → exec (.slotStart ⟨r, rffe, late⟩) s = .next (Claim.edge s w)

/-- SHARED_POSITION (R220, R222). -/
def Claim.SharedPosition : Prop := ∀ (r : Radio) (k i u : Nat) (cca : List CcaObs) (x : ChainTx) (v y : State) (cp : Chan × Int) (c : Nat) (s : State), Up s →
  isMember s r = true → (s.cr r).running = true → (s.cr r).inSlot = some i → slotKind (s.cr r).sched i = some 2 → (s.cr r).await = none →
  (s.cr r).mst = .joining → joinTx s r = some x → (s.cr r).sched.persist = 0 →
  let cfg := s.objB 0x3801 (r.val + 1)
  let rate := cfgBeaconRate cfg
  let ns := chainAir s r rate (chainOctets s r x.kind x.body.length)
  let w := s.draw.2.draw.2
  let o := 400000 + k * (s.cr r).sched.step * 1000000 + s.draw.2.draw.1 % 8 * ccaWindow w r
  fitsAt (s.cr r) (400000 + k * (s.cr r).sched.step * 1000000) ns (ackAir s r rate (x.kind == 4)) (chainRamp s r rate) = true →
  fitsAt (s.cr r) o ns (ackAir s r rate (x.kind == 4)) (chainRamp s r rate) = true → chainIdle w r cca = true →
  highestUnits w r = some u →
  let g := w.requestUpTo 4 r.val u
  let a := g.1.grant 10 (bookKey r.val 5 0) g.2
  chainMay a r (bookKey r.val 5 0) { start := (a.cr r).slotAt + o, ns := chainAir a r rate (chainOctets a r x.kind x.body.length), rate := rate } = (v, some cp) →
  takeCounter v (cfgJoinKey cfg) = (y, .value c) →
  ∃ t, exec (.sharedPosition r k cca) s = .next t ∧ (x.kind = 4 → (t.cr r).joinDue = false) ∧
    (t.cr r).await = some { x with seq := if x.tries = 0 then seqAt v r 0 else x.seq, tries := x.tries + 1 } ∧
    grantUnits t 4 r.val = 0 ∧ grantUnits t 10 (bookKey r.val 5 0) = 0 ∧ t.mem = s.mem

/-- SHARED_POSITION (R220). -/
def Claim.SharedNot : Prop := ∀ (r : Radio) (k : Nat) (cca : List CcaObs) (s : State), Up s →
  (isMember s r = false ∨ (s.cr r).running = false ∨ (s.cr r).inSlot = none ∨ (s.cr r).await.isSome = true ∨ (s.cr r).mst = .scan ∨
    ((s.cr r).mst = .joining ∧ joinTx s r = none)) → exec (.sharedPosition r k cca) s = .next s

/-- BEACON_FORM (R213, R214). -/
def Claim.BeaconForm : Prop := ∀ (r : Radio) (u w : State) (n : Nat) (cp : Chan × Int) (s : State), Up s → isCoordinator s r = true → (s.cr r).running = true →
  (s.cr r).inSlot = some 0 → (s.cr r).formed = none → (s.cr r).slotAt + 400000 ≤ s.now + 40000 →
  let start := (s.cr r).slotAt + 400000
  let sy := s.objN 0x1203 0 == 1
  let t0 := s.datum.t.addNs (start - s.now)
  let body := beaconBody s r t0 sy
  let cfg := (s.cr r).sched.cfg
  (grantUnits s 10 (bookKey r.val 2 0) = 0 → ∃ t, exec (.beaconForm r) s = .next t ∧ bit (t.objN 0x3841 (r.val + 1)) 6 = true ∧ t.chain = s.chain ∧ t.mem = s.mem) ∧
  (grantUnits s 10 (bookKey r.val 2 0) ≠ 0 →
    chainMay s r (bookKey r.val 2 0) { start := start, ns := chainAir s r (cfgBeaconRate cfg) (chainOctets s r 0 body.length), rate := cfgBeaconRate cfg } = (u, some cp) →
    takeCounter u (cfgNetKey cfg) = (w, .value n) →
    ∃ t f, exec (.beaconForm r) s = .next t ∧ (t.cr r).sent = f :: (s.cr r).sent ∧ (t.cr r).formed = some (t0, sy, start) ∧
      f.kind = 0 ∧ f.seq = seqAt s r 0x10000 ∧ f.counter = n ∧ f.body = body ∧
      (t.cr r).stepped = false ∧ (t.cr r).number = (s.cr r).number ∧ (∀ k, k ≠ r → t.cr k = s.cr k) ∧ t.mem = s.mem)

/-- BEACON_FORM (R211). -/
def Claim.BeaconFormNot : Prop := ∀ (r : Radio) (s : State), Up s →
  (isCoordinator s r = false ∨ (s.cr r).running = false ∨ (s.cr r).inSlot ≠ some 0 ∨ (s.cr r).formed.isSome = true ∨
    s.now + 40000 < (s.cr r).slotAt + 400000) → exec (.beaconForm r) s = .next s

/-- CHAIN_FRAME_RECEIVE (R216, R224). -/
def Claim.ChainFrameReceive : Prop := ∀ (r : Radio) (f : ChainFrame) (n : Nat) (s w : State), Up s → w = takeDeferred s → isCoordinator w r = true →
  delivers w r 0 = true → f.fcsOk = true → f.pan = cfgPan (chainCfg w r) → f.micOk = true → f.keyIndex = 1 → memberByShort w r.val f.srcShort = some n →
  servesRx w 2 (mKey w n) = true → (mF w n 32 4 = 0 ∨ mF w n 20 4 < f.counter) → f.ar = false → f.retry = false → f.kind = 1 → (w.cr r).inSlot = none →
  ∃ t x, exec (.chainFrameReceive r f) s = .next (Claim.edge s t) ∧ t.mac.toPp = w.mac.toPp ++ [x] ∧ x.source = n ∧ x.radio = r.val ∧ x.kind = 3 ∧ x.sn = f.seq ∧
    (t.cr r).contact.contains n = true ∧ (t.fe r).rx = none ∧ (∀ k, k ≠ r → t.cr k = w.cr k) ∧ t.tm = w.tm ∧ t.mem = s.mem

/-- CHAIN_FRAME_RECEIVE (R216, R224). -/
def Claim.ChainReplay : Prop := ∀ (r : Radio) (f : ChainFrame) (n : Nat) (s w : State), Up s → w = takeDeferred s → isCoordinator w r = true →
  delivers w r 0 = true → f.fcsOk = true → f.pan = cfgPan (chainCfg w r) → f.keyIndex = 1 → memberByShort w r.val f.srcShort = some n →
  (f.micOk = true → servesRx w 2 (mKey w n) = true → mF w n 32 4 ≠ 0 → f.counter ≤ mF w n 20 4 →
    ∃ t, exec (.chainFrameReceive r f) s = .next (Claim.edge s t) ∧ bit (t.objN 0x3841 (r.val + 1)) 4 = true ∧ t.mac = w.mac ∧ t.chain = w.chain ∧
      (∀ m < 65536, t.objB 0x3810 m = w.objB 0x3810 m) ∧ t.tm = w.tm ∧ t.mem = s.mem) ∧
  ((f.micOk = false ∨ servesRx w 2 (mKey w n) = false) →
    ∃ t, exec (.chainFrameReceive r f) s = .next (Claim.edge s t) ∧ bit (t.objN 0x3841 (r.val + 1)) 5 = true ∧ t.mac = w.mac ∧ t.chain = w.chain ∧
      (∀ m < 65536, t.objB 0x3810 m = w.objB 0x3810 m) ∧ t.tm = w.tm ∧ t.mem = s.mem)

/-- CHAIN_FRAME_RECEIVE (R212). -/
def Claim.ChainNotOurs : Prop := ∀ (r : Radio) (f : ChainFrame) (s w : State), Up s → w = takeDeferred s →
  (isChain w r = false ∨ delivers w r 0 = false ∨ f.fcsOk = false ∨ f.pan ≠ cfgPan (chainCfg w r)) →
  exec (.chainFrameReceive r f) s = .next (Claim.edge s (w.modFe r fun x => { x with rx := none }))

/-- CHAIN_ACK_TIMEOUT (R218). -/
def Claim.ChainAckTimeout : Prop := ∀ (r : Radio) (s : State), Up s →
  ((s.cr r).await = none → exec (.chainAckTimeout r) s = .next s) ∧
  (∀ a, (s.cr r).await = some a → a.tries ≤ cfgRetry (chainCfg s r) →
    ∃ t, exec (.chainAckTimeout r) s = .next t ∧ t.cr r = { s.cr r with await := none, retry := (s.cr r).retry ++ [a] } ∧
      (∀ k, k ≠ r → t.cr k = s.cr k) ∧ t.obj = s.obj ∧ t.tm = s.tm ∧ t.mem = s.mem) ∧
  (∀ a, (s.cr r).await = some a → cfgRetry (chainCfg s r) < a.tries → (s.cr r).inSlot = none →
    ∃ t, exec (.chainAckTimeout r) s = .next t ∧ t.cr r = { s.cr r with await := none } ∧
      t.objF 0x3840 (r.val + 1) 28 4 = (s.objF 0x3840 (r.val + 1) 28 4 + 1) % 2 ^ 32 ∧ (∀ k, k ≠ r → t.cr k = s.cr k) ∧ t.tm = s.tm ∧ t.mem = s.mem)

/-- BEACON_MISSED (R223). -/
def Claim.BeaconMissed : Prop := ∀ (r : Radio) (s : State), Up s → isMember s r = true → (s.cr r).mst = .synced ∨ (s.cr r).mst = .holdover →
  ∃ t, exec (.beaconMissed r) s = .next t ∧ (t.cr r).missed = (s.cr r).missed + 1 ∧
    ((s.cr r).mst = .synced → (s.cr r).missed < 2 → (t.cr r).mst = .synced) ∧
    ((s.cr r).mst = .synced → 2 ≤ (s.cr r).missed → (t.cr r).mst = .holdover ∧ bit (t.objN 0x3841 (r.val + 1)) 2 = true) ∧
    ((s.cr r).mst = .holdover → (s.cr r).missed < 7 → (t.cr r).mst = .holdover) ∧
    ((s.cr r).mst = .holdover → 7 ≤ (s.cr r).missed → (t.cr r).mst = .scan ∧ (t.cr r).running = false ∧ bit (t.objN 0x3841 (r.val + 1)) 3 = true) ∧
    (∀ k, k ≠ r → t.cr k = s.cr k) ∧ t.tm = s.tm ∧ t.mem = s.mem

/-- JOIN_TIMEOUT (R222). -/
def Claim.JoinTimeout : Prop := ∀ (r : Radio) (s : State), Up s →
  (isMember s r = true → (s.cr r).mst = .joining → (s.cr r).backoff = 0 → (s.cr r).joinDue = false → 4 ≤ joinChains s r →
    ∃ t, exec (.joinTimeout r) s = .next t ∧ (t.cr r).await = none ∧ (t.cr r).joinDue = false ∧ 1 ≤ (t.cr r).backoff ∧
      (t.cr r).backoff ≤ 2 ^ (s.cr r).backoffK ∧ (t.cr r).backoffK = min ((s.cr r).backoffK + 1) 10 ∧ (∀ k, k ≠ r → t.cr k = s.cr k) ∧ t.obj = s.obj ∧ t.mem = s.mem) ∧
  ((isMember s r = false ∨ (s.cr r).mst ≠ .joining ∨ (s.cr r).backoff ≠ 0 ∨ (s.cr r).joinDue = true ∨ joinChains s r < 4) → exec (.joinTimeout r) s = .next s)

/-- JOIN_BACKOFF_EXPIRY (R222). -/
def Claim.JoinBackoffExpiry : Prop := ∀ (r : Radio) (s : State), Up s →
  (isMember s r = true → (s.cr r).mst = .joining → (s.cr r).backoff ≠ 0 → (s.cr r).backoff ≤ joinChains s r →
    ∃ t, exec (.joinBackoffExpiry r) s = .next t ∧ t.cr r = { s.cr r with backoff := 0, joinDue := true } ∧ (∀ k, k ≠ r → t.cr k = s.cr k) ∧ t.obj = s.obj ∧ t.mem = s.mem) ∧
  ((isMember s r = false ∨ (s.cr r).mst ≠ .joining ∨ (s.cr r).backoff = 0 ∨ joinChains s r < (s.cr r).backoff) → exec (.joinBackoffExpiry r) s = .next s)

/-- SCAN_ADVANCE (R222). -/
def Claim.ScanAdvance : Prop := ∀ (r : Radio) (s : State), Up s →
  (isMember s r = true → (s.cr r).mst = .scan → (s.cr r).scanAt + ((latchSched s r).m + 1) * (latchSched s r).len * 250000 ≤ s.now →
    ∃ t, exec (.scanAdvance r) s = .next t ∧ t.cr r = { s.cr r with scanChan := ((s.cr r).scanChan + 1) % max 1 (latchSched s r).m, scanAt := s.now } ∧
      (∀ k, k ≠ r → t.cr k = s.cr k) ∧ t.tm = s.tm ∧ t.mem = s.mem) ∧
  ((isMember s r = false ∨ (s.cr r).mst ≠ .scan ∨ s.now < (s.cr r).scanAt + ((latchSched s r).m + 1) * (latchSched s r).len * 250000) →
    exec (.scanAdvance r) s = .next s)

/-- JOIN_PENDING_EXPIRY (R225). -/
def Claim.JoinPendingExpiry : Prop := ∀ (i : Fin 16) (s : State), Up s →
  ∃ t, exec (.joinPendingExpiry i) s = .next t ∧ t.chain.pending[i] = none ∧ (∀ k : Fin 16, k ≠ i → t.chain.pending[k] = s.chain.pending[k]) ∧
    t.chain.radios = s.chain.radios ∧ t.obj = s.obj ∧ t.mem = s.mem

/-- MEMBER_JOIN (R225, R226). -/
def Claim.MemberJoin : Prop := ∀ (n : Nat) (rest : Bytes) (x : Session) (m : Nat) (j : JoinRec) (h : j.radio < 3) (s : State), Sender s n x →
  passes s 0x3812 0 (1 :: rest) = true →
  let u := taken 0x3812 0 (1 :: rest)
  ¬ (bit (fld u 10 1) 7 = true ∧ fld u 10 1 % 8 = 7) → (findLt 1024 fun n => mState s (n + 1) == 0) = some m →
  fld u 2 2 ≤ 16 → pendingAt s (fld u 2 2) = some j → slotTaken s ⟨j.radio, h⟩ (fld u 8 2) = false → isCoordinator s ⟨j.radio, h⟩ = true →
  fld u 4 2 ≠ 0 → fld u 4 2 ≤ 0xFFFD → memberByShort s j.radio (fld u 4 2) = none → j.ext.length = 8 →
  ∃ t, exec (.memberJoin n rest) s = .next t ∧ answered t 0x3812 0 ok ∧ (tgetD t.dict.cmds (okey 0x3812 0) {}).out = le 2 (m + 1) ∧
    mState t (m + 1) = 1 ∧ mRadio t (m + 1) = j.radio ∧ mShort t (m + 1) = fld u 4 2 ∧ mExt t (m + 1) = j.ext ∧ t.objN 0x3811 (m + 1) = fld u 8 2 ∧
    pendingAt t (fld u 2 2) = none ∧ (∀ k < 65536, k ≠ m + 1 → t.objB 0x3810 k = s.objB 0x3810 k) ∧ t.mem = s.mem

/-- MEMBER_REJECT (R225, R226). -/
def Claim.MemberReject : Prop := ∀ (n : Nat) (rest : Bytes) (x : Session) (j : JoinRec) (h : j.radio < 3) (s : State), Sender s n x →
  passes s 0x3812 0 (2 :: rest) = true →
  let u := taken 0x3812 0 (2 :: rest)
  fld u 1 1 ≤ 4 → fld u 2 2 ≤ 16 → pendingAt s (fld u 2 2) = some j →
  ∃ t, exec (.memberReject n rest) s = .next t ∧ answered t 0x3812 0 ok ∧ pendingAt t (fld u 2 2) = none ∧
    (t.cr ⟨j.radio, h⟩).resps = (s.cr ⟨j.radio, h⟩).resps ++ [{ kind := 5, ext := j.ext, entry := 0, status := fld u 1 1 }] ∧
    (∀ m < 65536, t.objB 0x3810 m = s.objB 0x3810 m) ∧ t.mem = s.mem

/-- MEMBER_REMOVE (R225, R226). -/
def Claim.MemberRemove : Prop := ∀ (n : Nat) (rest : Bytes) (x : Session) (s : State), Sender s n x → passes s 0x3812 0 (3 :: rest) = true →
  let k := fld (taken 0x3812 0 (3 :: rest)) 2 2
  1 ≤ k → k ≤ 1024 → mState s k ≠ 0 → ∀ h : mRadio s k < 3,
  ∃ t, exec (.memberRemove n rest) s = .next t ∧ answered t 0x3812 0 ok ∧
    (t.cr ⟨mRadio s k, h⟩).resps = (s.cr ⟨mRadio s k, h⟩).resps ++ [{ kind := 6, ext := mExt s k, entry := k }] ∧ t.obj = s.obj ∧ t.mem = s.mem

/-- PACKET_INGRESS (R230, R248). -/
def Claim.PacketIngress : Prop := ∀ (p : Packet) (u : State) (e : Entered) (s : State), Up s → s.pp.ctxs.length < 1024 → takeEntered s p = (u, e) →
  p.poisonHeader = false → steered u p = false → standsBy u = false → (u.objN 0x4000 0 ≠ 1 ∨ u.pp.committed ≠ 0) → p.poisonEntry = none →
  olderThan u e.stamp = [] →
  let w := match p.corrEntry with | some (idx, el) => u.corrected 0x10 0xFF (65536 * idx + el) | none => u
  ∃ t c, exec (.packetIngress p) s = .next t ∧ tget t.pp.ctxs s.pp.ctxNext = some c ∧ t.pp.ctxs = tput s.pp.ctxs s.pp.ctxNext c ∧ c.ingress = p.ingress ∧ c.version = s.pp.committed ∧
    c.order = orderOf (parsePacket w p).key ∧ c.truncated = p.truncated ∧ t.pp.ctxNext = s.pp.ctxNext + 1 ∧ t.tm = s.tm ∧ t.mem = s.mem

/-- PACKET_INGRESS (R230, R248). -/
def Claim.PacketFull : Prop := ∀ (p : Packet) (s : State), Up s → 1024 ≤ s.pp.ctxs.length →
  ∃ t, exec (.packetIngress p) s = .next t ∧ bit (t.objN 0x4701 0) 2 = true ∧ t.pp = s.pp ∧ t.wired = s.wired ∧ t.tm = s.tm ∧ t.mem = s.mem

/-- PACKET_INGRESS (R230, R248). -/
def Claim.PacketNoVersion : Prop := ∀ (p : Packet) (u : State) (e : Entered) (s : State), Up s → s.pp.ctxs.length < 1024 → takeEntered s p = (u, e) →
  p.poisonHeader = false → steered u p = false → standsBy u = false → u.objN 0x4000 0 = 1 → u.pp.committed = 0 →
  ∃ t, exec (.packetIngress p) s = .next t ∧ bit (t.objN 0x4701 0) 3 = true ∧ t.pp = s.pp ∧ t.tm = s.tm ∧ t.mem = s.mem

/-- PACKET_INGRESS (R230, R248). -/
def Claim.PacketBridged : Prop := ∀ (p : Packet) (u : State) (e : Entered) (el : Nat) (b : Bytes) (s : State), Up s → s.pp.ctxs.length < 1024 →
  takeEntered s p = (u, e) → p.poisonHeader = false → steered u p = false → standsBy u = false → (u.objN 0x4000 0 ≠ 1 ∨ u.pp.committed ≠ 0) →
  p.poisonEntry = none → p.corrEntry = none → olderThan u e.stamp = [] → p.truncated = false → p.ingress < 4 → e.cls = none →
  let k := (parsePacket u p).key
  validEls u 0x4100 = [] → flowFind u (flowKey k) = none → bit k.flags 5 = false → bit k.flags 6 = false → bit k.flags 7 = false →
  bridgeOf u k.dmac k.vlan0 = some (el, b) → fld b 9 1 = 0 → fld b 10 2 ≤ 3 →
  ∃ t c, exec (.packetIngress p) s = .next t ∧ tget t.pp.ctxs s.pp.ctxNext = some c ∧ c.outs.map (·.queues) = [[qPort (fld b 10 2) k.pcp0]] ∧
    c.outs.map (·.bytes) = [p.bytes] ∧ t.mem = s.mem

/-- PACKET_HANDOFF (R248). -/
def Claim.PacketHandoff : Prop := ∀ (n : Nat) (c : PpCtx) (s : State), Up s → tget s.pp.ctxs n = some c →
  (s.pp.ctxs.any fun e => decide (e.1 < n) && e.2.order == c.order) = false →
  ∃ t, exec (.packetHandoff n) s = .next t ∧ t.pp = { s.pp with ctxs := tdel s.pp.ctxs n, frames := s.pp.frames + c.outs.length } ∧ t.mem = s.mem

/-- PACKET_HANDOFF (R248). -/
def Claim.PacketOrder : Prop := ∀ (n : Nat) (c : PpCtx) (s : State), Up s → tget s.pp.ctxs n = some c →
  (s.pp.ctxs.any fun e => decide (e.1 < n) && e.2.order == c.order) = true → exec (.packetHandoff n) s = .next s

/-- BRIDGE_AGE_EXPIRY (R242). -/
def Claim.BridgeAgeExpiry : Prop := ∀ (el : Nat) (s : State), Up s → 1 ≤ el → el < 65536 → recValid 0x4200 (s.objB 0x4200 el) = true →
  bit (fld (s.objB 0x4200 el) 8 1) 1 = false → lastHit s 0x4200 el + s.objN 0x4007 0 * 1000000000 ≤ s.now →
  ∃ t, exec (.bridgeAgeExpiry el) s = .next t ∧ t.objB 0x4200 el = zeros 14 ∧ tget t.pp.hitAt (okey 0x4200 el) = none ∧
    (∀ m, m ≠ el → m < 65536 → t.objB 0x4200 m = s.objB 0x4200 m) ∧ t.tm = s.tm ∧ t.mem = s.mem

/-- BRIDGE_AGE_EXPIRY (R242). -/
def Claim.BridgeStatic : Prop := ∀ (el : Nat) (s : State), Up s →
  (bit (fld (s.objB 0x4200 el) 8 1) 1 = true ∨ s.now < lastHit s 0x4200 el + s.objN 0x4007 0 * 1000000000) → exec (.bridgeAgeExpiry el) s = .next s

/-- FLOW_IDLE_EXPIRY (R246). -/
def Claim.FlowIdleExpiry : Prop := ∀ (e : Nat) (s : State), Up s → e < 131072 → flowValid s e = true → bit (fld (flowRec s e) 44 1) 2 = false →
  lastHit s (entryAt 0x4400 e).1 (entryAt 0x4400 e).2 + flowIdle s e * 1000000000 ≤ s.now →
  ∃ t, exec (.flowIdleExpiry e) s = .next t ∧ flowRec t e = zeros 72 ∧ (∀ p ∈ t.pp.cache, e ∉ p.2) ∧ e ∉ t.pp.finSeen ∧
    (∀ f, f < 131072 → f ≠ e → flowRec t f = flowRec s f) ∧ t.tm = s.tm ∧ t.mem = s.mem

/-- PP_MODE_WRITE (R251). -/
def Claim.PpModeWrite : Prop := ∀ (n : Nat) (v : Bytes) (x : Session) (s : State), Sender s n x → passes s 0x4000 0 v = true → reservedBy s none 0x4000 0 = false →
  (s.pp.openCh = [] → ∃ t, exec (.ppModeWrite n v) s = .next t ∧ answered t 0x4000 0 ok ∧ t.objB 0x4000 0 = taken 0x4000 0 v ∧ t.pp = s.pp ∧ t.mem = s.mem) ∧
  (s.pp.openCh ≠ [] → ∃ t, exec (.ppModeWrite n v) s = .next t ∧ answered t 0x4000 0 (ppRefuse aState 0x1007) ∧ t.obj = s.obj ∧ t.pp = s.pp ∧ t.mem = s.mem)

/-- TABLE_ENTRY_WRITE (R250, R254). -/
def Claim.TableEntryWrite : Prop := ∀ (n idx el : Nat) (v : Bytes) (x : Session) (s : State), Sender s n x → passes s idx el v = true →
  reservedBy s none idx el = false → idx ∈ [0x4100, 0x4200, 0x4300, 0x4301] → 1 ≤ el → inService s = true → recValid idx (taken idx el v) = true →
  duplicates s idx el (taken idx el v) = false →
  ∃ t, exec (.tableEntryWrite n idx el v) s = .next t ∧ answered t idx el ok ∧ t.objB idx el = taken idx el v ∧
    (∀ m, m ≠ el → m < 65536 → el < 65536 → t.objB idx m = s.objB idx m) ∧ t.tm = s.tm ∧ t.mem = s.mem

/-- COMMIT (R251). -/
def Claim.Commit : Prop := ∀ (n : Nat) (i e : Nat) (v : Bytes) (x : Session) (s : State), Sender s n x → passes s 0x4002 0 [1] = true →
  canCommit s = true → s.pp.openCh = [(i, e, v)] → e < 65536 → tableOf i ≠ none → recValid i v = true →
  ∃ t, exec (.commit n) s = .next t ∧ answered t 0x4002 0 ok ∧ t.pp.openCh = [] ∧ t.pp.committed = s.pp.committed + 1 ∧
    t.pp.live = s.pp.live ++ [s.pp.committed + 1] ∧ t.objB i e = v ∧ t.tm = s.tm ∧ t.mem = s.mem

/-- DISCARD (R251). -/
def Claim.Discard : Prop := ∀ (n : Nat) (x : Session) (s : State), Sender s n x → passes s 0x4002 0 [2] = true →
  ∃ t, exec (.discard n) s = .next t ∧ answered t 0x4002 0 ok ∧ t.pp = { s.pp with openCh := [] } ∧ t.obj = s.obj ∧ t.mem = s.mem

/-- RULE_INSERT (R254). -/
def Claim.RuleInsert : Prop := ∀ (n el : Nat) (rest b : Bytes) (x : Session) (s : State), Sender s n x → passes s 0x4101 0 (1 :: rest) = true →
  let u := taken 0x4101 0 (1 :: rest)
  tableRec 0x4100 (u.drop 4) = some b → inService s = true → u.length = 180 → recValid 0x4100 b = true → freeView s 0x4100 4096 = some el →
  ∃ t, exec (.ruleInsert n rest) s = .next t ∧ answered t 0x4101 0 ok ∧ (tgetD t.dict.cmds (okey 0x4101 0) {}).out = le 2 el ∧
    t.objB 0x4100 el = b ∧ (∀ m, m ≠ el → m < 65536 → t.objB 0x4100 m = s.objB 0x4100 m) ∧ t.mem = s.mem

/-- RULE_DELETE (R254). -/
def Claim.RuleDelete : Prop := ∀ (n : Nat) (rest : Bytes) (x : Session) (s : State), Sender s n x → passes s 0x4101 0 (2 :: rest) = true →
  let el := fld (taken 0x4101 0 (2 :: rest)) 2 2
  inService s = true → 1 ≤ el → el ≤ 4096 → recValid 0x4100 (s.objB 0x4100 el) = true →
  ∃ t, exec (.ruleDelete n rest) s = .next t ∧ answered t 0x4101 0 ok ∧ t.objB 0x4100 el = zeros 176 ∧
    (∀ m, m ≠ el → m < 65536 → t.objB 0x4100 m = s.objB 0x4100 m) ∧ t.mem = s.mem

/-- BRIDGE_INSERT (R254). -/
def Claim.BridgeInsert : Prop := ∀ (n el : Nat) (rest r : Bytes) (x : Session) (s : State), Sender s n x → passes s 0x4201 0 (1 :: rest) = true →
  let u := taken 0x4201 0 (1 :: rest)
  let b := setFld (setFld r 8 1 3) 12 2 0
  tableRec 0x4200 (u.drop 2) = some r → inService s = true → u.length = 16 → findKey s 0x4200 (sub b 0 8) = none → freeView s 0x4200 32768 = some el →
  ∃ t, exec (.bridgeInsert n rest) s = .next t ∧ answered t 0x4201 0 ok ∧ (tgetD t.dict.cmds (okey 0x4201 0) {}).out = le 2 el ∧
    t.objB 0x4200 el = b ∧ (∀ m, m ≠ el → m < 65536 → t.objB 0x4200 m = s.objB 0x4200 m) ∧ t.mem = s.mem

/-- BRIDGE_DELETE (R254). -/
def Claim.BridgeDelete : Prop := ∀ (n i el : Nat) (b rest : Bytes) (x : Session) (s : State), Sender s n x → passes s 0x4201 0 (2 :: rest) = true →
  let u := taken 0x4201 0 (2 :: rest)
  inService s = true → u.length = 16 → findKey s 0x4200 (sub (u.drop 2) 0 8) = some (i, el, b) →
  ∃ t, exec (.bridgeDelete n rest) s = .next t ∧ answered t 0x4201 0 ok ∧ (tgetD t.dict.cmds (okey 0x4201 0) {}).out = le 2 el ∧
    t.objB 0x4200 el = zeros 14 ∧ (∀ m, m ≠ el → m < 65536 → t.objB 0x4200 m = s.objB 0x4200 m) ∧ t.mem = s.mem

/-- BRIDGE_FLUSH (R254). -/
def Claim.BridgeFlush : Prop := ∀ (n : Nat) (rest : Bytes) (x : Session) (s : State), Sender s n x → passes s 0x4201 0 (3 :: rest) = true →
  fld (taken 0x4201 0 (3 :: rest)) 0 1 = 3 → inService s = true →
  ∃ t, exec (.bridgeFlush n rest) s = .next t ∧ answered t 0x4201 0 ok ∧ (∀ p ∈ validEls t 0x4200, bit (fld p.2 8 1) 1 = true) ∧
    (∀ m, m < 65536 → bit (fld (s.objB 0x4200 m) 8 1) 1 = true → t.objB 0x4200 m = s.objB 0x4200 m) ∧ t.mem = s.mem

/-- ROUTE_INSERT (R245, R254). -/
def Claim.RouteInsert : Prop := ∀ (n el : Nat) (rest r : Bytes) (x : Session) (s : State), Sender s n x → passes s 0x4310 0 (1 :: rest) = true →
  let u := taken 0x4310 0 (1 :: rest)
  let b := setFld r 17 1 (setBit (fld r 17 1) 0 true)
  tableRec 0x4300 (u.drop 2) = some r → inService s = true → findKey s 0x4300 (sub b 0 17) = none → freeView s 0x4300 32768 = some el →
  ∃ t, exec (.routeInsert n rest) s = .next t ∧ answered t 0x4310 0 ok ∧ (tgetD t.dict.cmds (okey 0x4310 0) {}).out = le 2 el ∧
    t.objB 0x4300 el = b ∧ t.pp.routeGen = (s.pp.routeGen + 1) % 2 ^ 32 ∧ (∀ m, m ≠ el → m < 65536 → t.objB 0x4300 m = s.objB 0x4300 m) ∧ t.mem = s.mem

/-- ROUTE_DELETE (R245, R254). -/
def Claim.RouteDelete : Prop := ∀ (n i el : Nat) (b rest : Bytes) (x : Session) (s : State), Sender s n x → passes s 0x4310 0 (2 :: rest) = true →
  let u := taken 0x4310 0 (2 :: rest)
  inService s = true → findKey s 0x4300 (sub (u.drop 2) 0 17) = some (i, el, b) →
  ∃ t, exec (.routeDelete n rest) s = .next t ∧ answered t 0x4310 0 ok ∧ (tgetD t.dict.cmds (okey 0x4310 0) {}).out = le 2 el ∧
    t.objB i el = zeros 32 ∧ t.pp.routeGen = (s.pp.routeGen + 1) % 2 ^ 32 ∧ t.mem = s.mem

/-- FLOW_INSERT (R244, R254). -/
def Claim.FlowInsert : Prop := ∀ (n e : Nat) (rest r : Bytes) (x : Session) (s : State), Sender s n x → passes s 0x4410 0 (1 :: rest) = true →
  let u := taken 0x4410 0 (1 :: rest)
  let b := setFld (setFld r 44 1 5) 60 4 0xFFFFFFFF
  tableRec 0x4400 (u.drop 2 ++ zeros 8) = some r → inService s = true → u.length = 66 → flowFindView s (sub u 2 44) = none →
  flowSlotView s (sub u 2 44) = some e →
  ∃ t, exec (.flowInsert n rest) s = .next t ∧ answered t 0x4410 0 ok ∧ (tgetD t.dict.cmds (okey 0x4410 0) {}).out = le 4 e ∧
    flowRec t e = b ∧ t.pp.routeGen = s.pp.routeGen ∧ t.mem = s.mem

/-- FLOW_DELETE (R244, R254). -/
def Claim.FlowDelete : Prop := ∀ (n e : Nat) (rest : Bytes) (x : Session) (s : State), Sender s n x → passes s 0x4410 0 (2 :: rest) = true →
  let u := taken 0x4410 0 (2 :: rest)
  inService s = true → u.length = 66 → flowFindView s (sub u 2 44) = some e →
  ∃ t, exec (.flowDelete n rest) s = .next t ∧ answered t 0x4410 0 ok ∧ (tgetD t.dict.cmds (okey 0x4410 0) {}).out = le 4 e ∧
    flowRec t e = zeros 72 ∧ (∀ p ∈ t.pp.cache, e ∉ p.2) ∧ t.mem = s.mem

/-- FLOW_FLUSH (R244, R254). -/
def Claim.FlowFlush : Prop := ∀ (n : Nat) (rest : Bytes) (x : Session) (s : State), Sender s n x → passes s 0x4410 0 (3 :: rest) = true →
  fld (taken 0x4410 0 (3 :: rest)) 0 1 = 3 → inService s = true →
  (∀ i ∈ [0x4400, 0x4401, 0x4402, 0x4403], ∀ el ∈ setElements s i, el ≤ 32768) →
  ∃ t, exec (.flowFlush n rest) s = .next t ∧ answered t 0x4410 0 ok ∧
    (∀ i ∈ [0x4400, 0x4401, 0x4402, 0x4403], ∀ p ∈ validEls t i, bit (fld p.2 44 1) 2 = true) ∧ t.mem = s.mem

/-- DRAM_READ (R365, R367). -/
def Claim.DramRead : Prop := ∀ (addr len l off n : Nat) (s : State), Up s → s.dram.st = .service → len ≠ 0 → dramHas s addr = true →
  dramHas s (addr + len - 1) = true → linesOf addr len = [(l, off, n)] → s.dram.held = [] → 1 ≤ readsFree s → unissued s l = none →
  ∃ t e, exec (.dramRead addr len) s = .next t ∧ t.dram.rds = s.dram.rds ++ [e] ∧ e.line = l ∧ e.off = off ∧
    e.data = readMemN s.mem (64 * l + off) n ∧ e.waitWrite = false ∧ e.merge = false ∧ t.dram.held = [] ∧ t.dram.wrs = s.dram.wrs ∧ t.reg = s.reg ∧ t.mem = s.mem

/-- DRAM_READ (R365, R367). -/
def Claim.DramForward : Prop := ∀ (addr len l off n : Nat) (w : WrEnt) (s : State), Up s → s.dram.st = .service → len ≠ 0 → dramHas s addr = true →
  dramHas s (addr + len - 1) = true → linesOf addr len = [(l, off, n)] → s.dram.held = [] → 1 ≤ readsFree s → unissued s l = some w →
  ((List.range n).all fun i => w.offs.contains (off + i)) = true → s.dram.poison = [] →
  ∃ t, exec (.dramRead addr len) s = .next t ∧ t.dram.replies = s.dram.replies ++ [(64 * l + off, readMemN s.mem (64 * l + off) n, false)] ∧
    t.dram.rds = s.dram.rds ∧ t.dram.wrs = s.dram.wrs ∧ t.mem = s.mem

/-- DRAM_READ (R365, R367). -/
def Claim.DramReadHeld : Prop := ∀ (addr len l off n : Nat) (s : State), Up s → len ≠ 0 → dramHas s addr = true → dramHas s (addr + len - 1) = true →
  linesOf addr len = [(l, off, n)] → s.dram.held = [] → (s.dram.st = .selfRefresh ∨ s.dram.st = .service ∧ readsFree s = 0) →
  exec (.dramRead addr len) s = .next { s with dram := { s.dram with held := [{ line := l, off := off, len := n, data := none }] } }

/-- DRAM_WRITE (R365, R366). -/
def Claim.DramWrite : Prop := ∀ (addr : Nat) (data : Bytes) (s : State), Up s → s.dram.st = .service → addr % 64 = 0 → data.length = 64 →
  dramHas s addr = true → dramHas s (addr + 63) = true → s.dram.held = [] → 1 ≤ writesFree s → unissued s (addr / 64) = none →
  ∃ t w, exec (.dramWrite addr data) s = .next t ∧ t.dram.wrs = s.dram.wrs ++ [w] ∧ w.line = addr / 64 ∧ w.merging = false ∧
    t.dram.rds = s.dram.rds ∧ readMemN t.mem addr 64 = data ∧ (∀ x, (x < addr ∨ addr + 64 ≤ x) → readMem t.mem x = readMem s.mem x) ∧ t.reg = s.reg

/-- DRAM_WRITE (R365, R366). -/
def Claim.DramWriteHeld : Prop := ∀ (addr l off n : Nat) (data : Bytes) (s : State), Up s → data ≠ [] → dramHas s addr = true →
  dramHas s (addr + data.length - 1) = true → linesOf addr data.length = [(l, off, n)] → s.dram.held = [] →
  (s.dram.st = .selfRefresh ∨ s.dram.st = .service ∧ writesFree s = 0 ∧ unissued s l = none) →
  exec (.dramWrite addr data) s = .next { s with dram := { s.dram with held := [{ line := l, off := off, len := n, data := some (data.take n) }] } }

/-- DRAM_ISSUE (R368). -/
def Claim.DramIssue : Prop := ∀ (sc : Fin 2) (e : RdEnt) (s : State), Up s → s.dram.st = .service → s.dram.held = [] → s.dram.drain = false → s.dram.wrs = [] →
  0 < s.objF 0x6401 0 0 1 → s.dram.rds = [e] → readReady s sc.val e = true → e.merge = false → s.dram.poison = [] →
  ∃ t, exec (.dramIssue sc []) s = .next t ∧ t.dram.rds = [] ∧ t.dram.replies = s.dram.replies ++ [(64 * e.line + e.off, e.data, false)] ∧ t.reg = s.reg ∧ t.mem = s.mem

/-- DRAM_ISSUE (R368). -/
def Claim.DramIssueWrite : Prop := ∀ (sc : Fin 2) (w : WrEnt) (s : State), Up s → s.dram.st = .service → s.dram.held = [] → s.dram.drain = false → s.dram.rds = [] →
  1 < s.objF 0x6401 0 0 1 → s.dram.wrs = [w] → writeReady s sc.val w = true →
  ∃ t, exec (.dramIssue sc []) s = .next t ∧ t.dram.wrs = [] ∧ t.dram.rds = [] ∧ t.dram.replies = s.dram.replies ∧ t.reg = s.reg ∧ t.mem = s.mem

/-- ROW_IDLE_CLOSE (R370). -/
def Claim.RowIdleClose : Prop := ∀ (cs : Fin 4) (sc : Fin 2) (bank : Nat) (s : State), Up s →
  let key := (cs.val * 2 + sc.val) * 32 + bank % 32
  (tgetD s.dram.banks key {}).used + 1000 ≤ s.now →
  ∃ t, exec (.rowIdleClose cs sc bank) s = .next t ∧ tgetD t.dram.banks key {} = { tgetD s.dram.banks key {} with row := none } ∧
    (∀ k, k ≠ key → tgetD t.dram.banks k {} = tgetD s.dram.banks k {}) ∧ t.obj = s.obj ∧ t.reg = s.reg ∧ t.mem = s.mem

/-- ROW_IDLE_CLOSE (R370). -/
def Claim.RowInUse : Prop := ∀ (cs : Fin 4) (sc : Fin 2) (bank : Nat) (s : State), Up s →
  s.now < (tgetD s.dram.banks ((cs.val * 2 + sc.val) * 32 + bank % 32) {}).used + 1000 → exec (.rowIdleClose cs sc bank) s = .next s

/-- REFRESH (R371). -/
def Claim.Refresh : Prop := ∀ (cs : Fin 4) (s : State), Up s → s.dram.st = .service → (vget s.dram.ranks cs.val {}).st ≠ 0 →
  vget s.dram.refreshAt cs.val 0 + refreshNs s ≤ s.now → s.dram.drain = false → s.dram.rds = [] →
  ∃ t, exec (.refresh cs) s = .next t ∧ vget t.dram.postponed cs.val 9 = 0 ∧ vget t.dram.refreshAt cs.val 0 = s.now ∧ (∀ b ∈ t.dram.banks, b.1 / 64 = cs.val → b.2.row = none) ∧
    t.dram.ranks = s.dram.ranks ∧ t.obj = s.obj ∧ t.reg = s.reg ∧ t.mem = s.mem

/-- REFRESH (R371). -/
def Claim.RefreshPostponed : Prop := ∀ (cs : Fin 4) (s : State), Up s → s.dram.st = .service → (vget s.dram.ranks cs.val {}).st ≠ 0 → s.dram.rds ≠ [] →
  vget s.dram.refreshAt cs.val 0 + refreshNs s ≤ s.now → vget s.dram.postponed cs.val 0 < 4 →
  ∃ t, exec (.refresh cs) s = .next t ∧ vget t.dram.postponed cs.val 9 = vget s.dram.postponed cs.val 0 + 1 ∧ t.dram.banks = s.dram.banks ∧ t.obj = s.obj ∧ t.mem = s.mem

/-- REFRESH (R371). -/
def Claim.RefreshNotDue : Prop := ∀ (cs : Fin 4) (s : State), Up s → s.now < vget s.dram.refreshAt cs.val 0 + refreshNs s → exec (.refresh cs) s = .next s

/-- TEMP_POLL (R371). -/
def Claim.TempPoll : Prop := ∀ (b : Bool) (s : State), Up s → s.dram.st = .service → exec (.tempPoll b) s = .next { s with dram := { s.dram with hot := b } }

/-- CA_PARITY_ALERT (R376). -/
def Claim.CaParityAlert : Prop := ∀ (sc : Fin 2) (k cs : Nat) (s : State), Up s → s.dram.st = .service → (vget s.dram.cmds sc.val [])[k]? = some cs → cs < 4 →
  cfgSpare s = false →
  ∃ t, exec (.caParityAlert sc k) s = .next t ∧ (vget t.dram.ranks cs {}).ca = ((vget s.dram.ranks cs {}).ca + 1) % 2 ^ 32 ∧
    bit (t.objN 0x6407 0) 2 = true ∧ (∀ c < 4, c ≠ cs → vget t.dram.ranks c {} = vget s.dram.ranks c {}) ∧ t.dram.wrs = s.dram.wrs ∧ t.dram.rds = s.dram.rds ∧ t.mem = s.mem

/-- MIGRATION_BLOCK (R378). -/
def Claim.MigrationBlock : Prop := ∀ s : State, Up s → s.dram.mig.st = 1 → s.dram.mig.blockAt + blockNs s ≤ s.now →
  s.dram.mig.blocks + 1 < s.dram.mig.total →
  ∃ t, exec (.migrationBlock 0) s = .next t ∧ t.dram.mig = { s.dram.mig with blocks := s.dram.mig.blocks + 1, poison := s.dram.mig.poison % 2 ^ 32, blockAt := s.now } ∧
    t.dram.ranks = s.dram.ranks ∧ t.dram.rankMap = s.dram.rankMap ∧ t.dram.poison = s.dram.poison ∧ t.obj = s.obj ∧ t.mem = s.mem

/-- MIGRATION_BLOCK (R378). -/
def Claim.MigrationLast : Prop := ∀ (l : Nat) (s : State), Up s → s.dram.mig.st = 1 → s.dram.mig.blockAt + blockNs s ≤ s.now → s.dram.mig.total ≤ s.dram.mig.blocks + 1 → s.dram.mig.src < 4 →
  s.dram.mig.spare < 4 → s.dram.mig.src ≠ s.dram.mig.spare →
  (findLt 4 fun l => vget s.dram.rankMap l 0 == s.dram.mig.src && decide (l < activeRanks s)) = some l →
  ∃ t, exec (.migrationBlock 0) s = .next t ∧ t.dram.mig.st = 3 ∧ vget t.dram.rankMap l 9 = s.dram.mig.spare ∧
    (vget t.dram.ranks s.dram.mig.src {}).st = 5 ∧ (vget t.dram.ranks s.dram.mig.spare {}).st = 1 ∧
    (vget t.dram.ranks s.dram.mig.spare {}).logical = l ∧ bit (t.objN 0x6405 0) s.dram.mig.src = true ∧ t.mem = s.mem

/-- MIGRATION_BLOCK (R378). -/
def Claim.MigrationNotDue : Prop := ∀ (k : Nat) (s : State), Up s → s.now < s.dram.mig.blockAt + blockNs s → exec (.migrationBlock k) s = .next s

/-- ABORT_DRAM_MIGRATION (R381). -/
def Claim.AbortDramMigration : Prop := ∀ s : State, Up s → s.dram.mig.st = 1 → s.dram.mig.blocks + 1 < s.dram.mig.total →
  ∃ t, exec .abortDramMigration s = .next t ∧ t.dram.mig.st = 2 ∧ t.dram.mig.blocks = s.dram.mig.blocks + 1 ∧ t.dict.lastAbort = le 1 7 ++ [0] ++ le 2 0 ∧
    t.dict.abortCode = 0 ∧ t.dict.abortNs ≤ 1000000 ∧ t.dram.ranks = s.dram.ranks ∧ t.obj = s.obj ∧ t.mem = s.mem

/-- MC_INIT (R363). -/
def Claim.McInit : Prop := ∀ (c : CoreId) (s : State), Up s →
  (s.dram.st = .off → ∃ t, exec (.mcInit c) s = .next t ∧ t.dram.st = .init ∧ t.dram.rds = [] ∧ t.dram.wrs = [] ∧ t.dram.banks = [] ∧
    grantUnits t 2 0 = 32 ∧ t.obj = s.obj ∧ t.reg = s.reg ∧ t.mem = s.mem) ∧
  (s.dram.st ≠ .off → exec (.mcInit c) s = .next s)

/-- INIT_DONE (R363). -/
def Claim.InitDone : Prop := ∀ s : State, Up s → s.dram.st = .init →
  ∃ t, exec .initDone s = .next t ∧ t.dram = { s.dram with st := .training } ∧ t.obj = s.obj ∧ t.reg = s.reg ∧ t.mem = s.mem

/-- INIT_TIMEOUT (R363). -/
def Claim.InitTimeout : Prop := ∀ s : State, Up s → s.dram.st = .init →
  ∃ t, exec .initTimeout s = .next t ∧ t.dram = { s.dram with st := .fault } ∧ grantUnits t 2 0 = 0 ∧ t.reg = s.reg ∧ t.mem = s.mem

/-- MC_SERVICE (R363). -/
def Claim.McService : Prop := ∀ (c : CoreId) (s : State), Up s →
  (s.dram.st = .training → ∃ t, exec (.mcService c) s = .next t ∧ t.dram = { s.dram with st := .service } ∧ t.obj = s.obj ∧ t.reg = s.reg ∧ t.mem = s.mem) ∧
  (s.dram.st ≠ .training → exec (.mcService c) s = .next s)

/-- TRN_START. -/
def Claim.TrnStart : Prop := ∀ (c : CoreId) (v : Nat) (s : State), Up s → v < 2 ^ 32 → bit v 31 = true → s.dram.st = .training →
  bit (s.regAt (mcReg 0x14)) 0 = false → bits v 20 4 ≤ 4 → 1 ≤ bits v 0 16 →
  ∃ t, exec (.trnStart c v) s = .next t ∧ bit (t.regAt (mcReg 0x14)) 0 = true ∧ bits (t.regAt (mcReg 0x10)) 0 16 = bits v 0 16 ∧
    (∀ a, a ≠ mcReg 0x10 → a ≠ mcReg 0x14 → t.regAt a = s.regAt a) ∧ t.dram = s.dram ∧ t.obj = s.obj ∧ t.mem = s.mem

/-- TRN_DONE. -/
def Claim.TrnDone : Prop := ∀ (f e : Nat) (s : State), Up s → bit (s.regAt (mcReg 0x14)) 0 = true →
  ∃ t, exec (.trnDone f e) s = .next t ∧ t.regAt (mcReg 0x14) = 2 ∧ t.regAt (mcReg 0x20) = f % 2 ^ 36 ∧ t.regAt (mcReg 0x28) = e % 2 ^ 32 ∧
    (∀ a, a ≠ mcReg 0x14 → a ≠ mcReg 0x20 → a ≠ mcReg 0x28 → t.regAt a = s.regAt a) ∧ t.dram = s.dram ∧ t.obj = s.obj ∧ t.mem = s.mem

/-- MRW (R373). -/
def Claim.Mrw : Prop := ∀ (c : CoreId) (v : Nat) (s : State), Up s → v < 2 ^ 32 → bit v 30 = false → bit v 31 = true → s.dram.st = .init ∨ s.dram.st = .training →
  ∃ t, exec (.mrw c v) s = .next t ∧ tget t.dram.modeRegs (bits v 27 3 * 256 + bits v 8 8) = some (v % 256) ∧ bit (t.regAt (mcReg 0x34)) 8 = true ∧
    (∀ k, k ≠ bits v 27 3 * 256 + bits v 8 8 → tget t.dram.modeRegs k = tget s.dram.modeRegs k) ∧ t.obj = s.obj ∧ t.mem = s.mem

/-- MRR (R373). -/
def Claim.Mrr : Prop := ∀ (c : CoreId) (v d : Nat) (s : State), Up s → v < 2 ^ 32 → bit v 30 = true → bit v 31 = true →
  s.dram.st = .init ∨ s.dram.st = .training ∨ s.dram.st = .service →
  ∃ t, exec (.mrr c v d) s = .next t ∧ t.regAt (mcReg 0x34) = 256 + d % 256 ∧
    (∀ a, a ≠ mcReg 0x30 → a ≠ mcReg 0x34 → t.regAt a = s.regAt a) ∧ t.dram = s.dram ∧ t.obj = s.obj ∧ t.mem = s.mem

/-- LANE_DELAY_WRITE (R372). -/
def Claim.LaneDelayWrite : Prop := ∀ (c : CoreId) (a v : Nat) (s : State), Up s → isLaneDelay a = true →
  (s.dram.st = .training → ∃ t, exec (.laneDelayWrite c a v) s = .next t ∧ t.regAt a = bits v 16 10 * 2 ^ 16 + v % 1024 ∧
    (∀ x, x ≠ a → t.regAt x = s.regAt x) ∧ t.dram = s.dram ∧ t.obj = s.obj ∧ t.mem = s.mem) ∧
  (s.dram.st ≠ .training → ∃ t, exec (.laneDelayWrite c a v) s = .next t ∧ bit (t.objN 0x6407 0) 5 = true ∧ t.reg = s.reg ∧ t.dram = s.dram ∧ t.mem = s.mem)

/-- MIGRATE_START (R377, R381). -/
def Claim.MigrateStart : Prop := ∀ (n : Nat) (rest : Bytes) (x : Session) (s : State), Sender s n x → passes s 0x6404 0 (1 :: rest) = true →
  let cs := fld (taken 0x6404 0 (1 :: rest)) 1 1
  cs ≤ 3 → migrating s = false → cfgSpare s = true → (vget s.dram.ranks (spareCs s) {}).st = 2 → (vget s.dram.ranks cs {}).st = 1 →
  ∃ t, exec (.migrateStart n rest) s = .next t ∧ answered t 0x6404 0 ok ∧
    t.dram.mig = { st := 1, src := cs, spare := spareCs s, cause := 3, blocks := 0, total := rankCap s / 4096, poison := 0, stamp := s.datum.t, blockAt := s.now } ∧
    (vget t.dram.ranks cs {}).st = 3 ∧ (spareCs s < 4 → (vget t.dram.ranks (spareCs s) {}).st = 4) ∧ t.obj = s.obj ∧ t.mem = s.mem

/-- MIGRATE_RESUME (R377, R381). -/
def Claim.MigrateResume : Prop := ∀ (n : Nat) (rest : Bytes) (x : Session) (s : State), Sender s n x → passes s 0x6404 0 (2 :: rest) = true →
  fld (taken 0x6404 0 (2 :: rest)) 0 1 = 2 → s.dram.mig.st = 2 →
  ∃ t, exec (.migrateResume n rest) s = .next t ∧ answered t 0x6404 0 ok ∧ t.dram = { s.dram with mig := { s.dram.mig with st := 1, blockAt := s.now } } ∧ t.obj = s.obj ∧ t.mem = s.mem

/-- DMA_DOORBELL (R386). -/
def Claim.DmaDoorbell : Prop := ∀ (k : CoreId) (c : Fin 64) (tail : Nat) (s : State), Up s → chState s c.val = 0 → chOn s c.val = true → chStop s c.val = false →
  chHead s c.val ≠ tail % 4096 % chSize s c.val →
  ∃ t, exec (.dmaDoorbell k c tail) s = .next t ∧ t.regAt (chBase c.val + 0xC) = tail % 4096 ∧ chState t c.val = 1 ∧
    (∀ a, a ≠ chBase c.val + 0xC → a ≠ chBase c.val + 0x14 → t.regAt a = s.regAt a) ∧ t.dma = s.dma ∧ t.obj = s.obj ∧ t.mem = s.mem

/-- DMA_STOP (R393). -/
def Claim.DmaStop : Prop := ∀ (k : CoreId) (c : Fin 64) (s : State), Up s →
  ∃ t, exec (.dmaStop k c) s = .next t ∧ chStop t c.val = true ∧
    (chState s c.val = 0 → chState t c.val = 3) ∧ (chState s c.val = 1 → chState t c.val = if (dmaCur s c).isSome then 2 else 3) ∧
    (∀ a, a ≠ chBase c.val + 8 → a ≠ chBase c.val + 0x14 → t.regAt a = s.regAt a) ∧ t.dma = s.dma ∧ t.obj = s.obj ∧ t.mem = s.mem

/-- DMA_STOP_RELEASE (R393). -/
def Claim.DmaStopRelease : Prop := ∀ (k : CoreId) (c : Fin 64) (s : State), Up s → chState s c.val = 3 → chOn s c.val = true →
  ∃ t, exec (.dmaStopRelease k c) s = .next t ∧ chStop t c.val = false ∧ chState t c.val = (if chWork s c.val then 1 else 0) ∧
    (∀ a, a ≠ chBase c.val + 8 → a ≠ chBase c.val + 0x14 → t.regAt a = s.regAt a) ∧ t.dma = s.dma ∧ t.obj = s.obj ∧ t.mem = s.mem

/-- DMA_RESUME (R391). -/
def Claim.DmaResume : Prop := ∀ (k : CoreId) (c : Fin 64) (s : State), Up s → chState s c.val = 4 → chOn s c.val = true → chStop s c.val = false →
  ∃ t, exec (.dmaResume k c) s = .next t ∧ chState t c.val = (if chWork s c.val then 1 else 0) ∧
    (∀ a, a ≠ chBase c.val + 0x14 → t.regAt a = s.regAt a) ∧ t.dma = s.dma ∧ t.obj = s.obj ∧ t.mem = s.mem

/-- ABORT_DMA_CHANNEL (R394). -/
def Claim.AbortDmaChannel : Prop := ∀ (c : Fin 64) (x : DmaCur) (s : State), Up s → chState s c.val = 1 → dmaCur s c = some x → x.job = none →
  allMemory s x.d.addr 32 = true → x.d.notify = false →
  ∃ t, exec (.abortDmaChannel c) s = .next t ∧ chState t c.val = 4 ∧ dmaCur t c = none ∧ bits (readWord t (x.d.addr + 16)) 8 8 = 6 ∧
    bit (readWord t (x.d.addr + 16)) 0 = true ∧ t.regAt (chBase c.val + 0x10) = (chHead s c.val + 1) % chSize s c.val ∧
    t.dict.lastAbort = le 1 4 ++ [0] ++ le 2 c.val ∧ t.dict.abortCode = 0 ∧ t.dict.abortNs ≤ 20000 ∧ (∀ k, k ≠ c → dmaCur t k = dmaCur s k) ∧
    (∀ a, (a < x.d.addr + 16 ∨ x.d.addr + 32 ≤ a) → readMem t.mem a = readMem s.mem a)

/-- DMA_BURST (R385). -/
def Claim.DmaBurst : Prop := ∀ (c : Fin 64) (x : DmaCur) (s : State), Up s → nextChannel s = some c.val → dmaCur s c = some x → x.d.op = 1 → x.d.dstPcie = false →
  x.d.dstW = 8 → x.d.len = 8 → x.pos = 0 → x.poisoned = false → x.d.dst % 8 = 0 → 0x08000000 ≤ x.d.dst → x.d.dst + 8 ≤ 0x08000000 + 1024 * s.objN 0x6801 1 →
  inUnitWindow x.d.dst = false →
  ∃ t, exec (.dmaBurst ⟨none, .clean⟩) s = .next t ∧ dmaCur t c = some { x with pos := 8, ready := true, status := 0 } ∧ t.dma.rr = c.val ∧
    readMemN t.mem x.d.dst 8 = le 8 x.d.src ∧ (∀ a, (a < x.d.dst ∨ x.d.dst + 8 ≤ a) → readMem t.mem a = readMem s.mem a) ∧
    (∀ k, k ≠ c → dmaCur t k = dmaCur s k) ∧ t.reg = s.reg ∧ (s.dram.poison = [] → t.obj = s.obj)

/-- DMA_DESCRIPTOR_DONE (R386). -/
def Claim.DmaDescriptorDone : Prop := ∀ (c : Fin 64) (x : DmaCur) (s : State), Up s → dmaCur s c = some x → x.ready = true → x.status = 0 → x.d.notify = false →
  allMemory s x.d.addr 32 = true → chState s c.val = 1 →
  ∃ t, exec (.dmaDescriptorDone c) s = .next t ∧ dmaCur t c = none ∧ bits (readWord t (x.d.addr + 16)) 8 8 = 0 ∧ bit (readWord t (x.d.addr + 16)) 0 = true ∧
    t.regAt (chBase c.val + 0x10) = (chHead s c.val + 1) % chSize s c.val ∧ bit (t.regAt (chBase c.val + 0x14)) 0 = true ∧
    (∀ k, k ≠ c → dmaCur t k = dmaCur s k) ∧ (∀ a, (a < x.d.addr + 16 ∨ x.d.addr + 32 ≤ a) → readMem t.mem a = readMem s.mem a)

/-- BEACON_BOOKING (R423). -/
def Claim.BeaconBooking : Prop := ∀ (r : Radio) (b : Fin 16) (u : Nat) (s : State), Up s → isWlan s r = true → bssOn s r.val b.val = true → (s.fe r).st ≠ .off →
  (16 * bssF s r.val b.val 12 2 + bssF s r.val b.val 10 2 * 1024 - s.mac.tsf % (bssF s r.val b.val 10 2 * 1024)) % (bssF s r.val b.val 10 2 * 1024) ≤ 1000 →
  highestUnits s r = some u → u ≠ 0 → u ≤ roomFor s 10 (bookKey r.val 1 b.val) true →
  ∃ t, exec (.beaconBooking r b) s = .next t ∧ grantUnits t 10 (bookKey r.val 1 b.val) = u ∧
    (∀ g ∈ s.power.grants, ¬ (g.kind = 10 ∧ g.inst = bookKey r.val 1 b.val) → g ∈ t.power.grants) ∧ t.obj = s.obj ∧ t.mem = s.mem

/-- SUPPLY_FAIL_ASSERT (R424). -/
def Claim.SupplyFailAssert : Prop := ∀ (low : Nat) (s : State), Up s → 200 ≤ low → s.power.supplyLow = false → committed s ≤ s.objF 0x1310 0 2 2 →
  ∃ t, exec (.supplyFailAssert low) s = .next t ∧ t.power = { s.power with supplyLow := true, restoring := false } ∧
    bit (t.objN 0x1330 0) 0 = true ∧ budget t = t.objF 0x1310 0 2 2 ∧ t.reg = s.reg ∧ t.mem = s.mem

/-- SUPPLY_FAIL_ASSERT (R424). -/
def Claim.SupplyGlitch : Prop := ∀ (low : Nat) (s : State), Up s → low < 200 → exec (.supplyFailAssert low) s = .next s

/-- SUPPLY_BACK (R425). -/
def Claim.SupplyBack : Prop := ∀ s : State, Up s → s.power.supplyLow = true →
  exec .supplyBack s = .next { s with power := { s.power with supplyLow := false, restoring := true, supplyShort := false, backAt := s.now } }

/-- SUPPLY_RESTORE (R425). -/
def Claim.SupplyRestore : Prop := ∀ (g : Grant) (s : State), Up s → s.power.restoring = true → s.power.supplyLow = false →
  (s.datum.running = false ∨ s.power.backAt + 1000000000 ≤ s.now) → s.power.reclaimed = [g] → g.kind = 6 →
  g.units ≠ 0 → g.units ≤ roomFor { s with power := { s.power with restoring := false, reclaimed := [] } } 6 g.inst false →
  ∃ t, exec .supplyRestore s = .next t ∧ t.power.restoring = false ∧ t.power.reclaimed = [] ∧ grantUnits t 6 g.inst = g.units ∧ t.obj = s.obj ∧ t.mem = s.mem

/-- SUPPLY_RESTORE (R425). -/
def Claim.SupplyWaits : Prop := ∀ s : State, Up s → s.datum.running = true → s.now < s.power.backAt + 1000000000 → exec .supplyRestore s = .next s

/-- POWER_CMD_STANDBY (R416). -/
def Claim.PowerCmdStandby : Prop := ∀ (n : Nat) (rest : Bytes) (x : Session) (s : State), Sender s n x → passes s 0x1301 0 (1 :: rest) = true →
  let u := taken 0x1301 0 (1 :: rest)
  let mask := if fld u 2 2 = 0 then s.objN 0x1304 0 else fld u 2 2
  fld u 0 1 = 1 → fld u 2 2 < 64 → entryRefusers s false mask = [] →
  ∃ t, exec (.powerCmdStandby n rest) s = .next t ∧ answered t 0x1301 0 ok ∧
    t.power = { s.power with entry := some { hibernate := false, mask := mask, stamp := s.datum.t, alarm := sub u 4 12 }, latch := 0 } ∧ t.obj = s.obj ∧ t.mem = s.mem

/-- POWER_CMD_HIBERNATE (R416). -/
def Claim.PowerCmdHibernate : Prop := ∀ (n : Nat) (rest : Bytes) (x : Session) (s : State), Sender s n x → passes s 0x1301 0 (2 :: rest) = true →
  let u := taken 0x1301 0 (2 :: rest)
  let mask := if fld u 2 2 = 0 then s.objN 0x1304 0 else fld u 2 2
  fld u 0 1 = 2 → fld u 2 2 < 64 → entryRefusers s true mask = [] →
  ∃ t, exec (.powerCmdHibernate n rest) s = .next t ∧ answered t 0x1301 0 ok ∧
    t.power = { s.power with entry := some { hibernate := true, mask := mask, stamp := s.datum.t, alarm := sub u 4 12 }, latch := 0 } ∧ t.obj = s.obj ∧ t.mem = s.mem

/-- POWER_CMD_STANDBY (R416). -/
def Claim.PowerRefused : Prop := ∀ (n unit sub_ : Nat) (l : List (Nat × Nat)) (rest : Bytes) (x : Session) (s : State), Sender s n x → passes s 0x1301 0 (1 :: rest) = true →
  let u := taken 0x1301 0 (1 :: rest)
  fld u 0 1 = 1 → fld u 2 2 < 64 → entryRefusers s false (if fld u 2 2 = 0 then s.objN 0x1304 0 else fld u 2 2) = (unit, sub_) :: l →
  ∃ t, exec (.powerCmdStandby n rest) s = .next t ∧ answered t 0x1301 0 (aRefused, det unit sub_) ∧ t.power = s.power ∧ bit (t.objN 0x1330 0) 3 = true ∧ t.mem = s.mem

/-- LOG_DELIVER (R448). -/
def Claim.LogDeliver : Prop := ∀ (r : LogIn) (s : State), Up s → r.cls ≤ 4 → r.cls ≠ 1 → unitIds.contains (r.unit % 256) = true →
  ∃ t, exec (.logDeliver r) s = .next t ∧ t.log.waiting = s.log.waiting ++ [{ unit := r.unit % 256, cls := r.cls, code := r.code % 65536, stamp := { sec := r.sec, ns := r.ns }, gen := r.stepGen, unitSeq := unitSeqOf s (r.unit % 256), inst := r.inst % 256, detail := r.detail % 2 ^ 64 }] ∧
    t.log.recs = s.log.recs ∧ t.log.nextSeq = s.log.nextSeq ∧ t.obj = s.obj ∧ t.mem = s.mem

/-- LOG_DELIVER (R448). -/
def Claim.LogUnlisted : Prop := ∀ (r : LogIn) (s : State), Up s → (4 < r.cls ∨ unitIds.contains (r.unit % 256) = false) → exec (.logDeliver r) s = .next s

/-- LOG_COMMIT (R454, R455). -/
def Claim.LogCommit : Prop := ∀ (r : LogRec) (s : State), Up s → s.log.waiting = [r] → recDue s r = true →
  ∃ t, exec .logCommit s = .next t ∧ t.log.waiting = [] ∧ t.log.nextSeq = s.log.nextSeq + 1 ∧
    t.log.recs = (s.log.recs.filter fun y => y.seq % 1024 ≠ s.log.nextSeq % 1024) ++ [{ r with seq := s.log.nextSeq }] ∧
    (r.cls = 4 → r.acked = false → faultN t = true) ∧ t.mem = s.mem

/-- LOG_ACK (R456, R457). -/
def Claim.LogAck : Prop := ∀ (n : Nat) (v : Bytes) (x : Session) (s : State), Sender s n x → passes s 0x7F02 0 v = true →
  ∃ t, exec (.logAck n v) s = .next t ∧ answered t 0x7F02 0 ok ∧ t.log.unacked = s.log.unacked.filter (fun q => leNat (taken 0x7F02 0 v) < q) ∧
    t.log.recs = s.log.recs.map (ackRec (leNat (taken 0x7F02 0 v))) ∧ t.log.nextSeq = s.log.nextSeq ∧ t.obj = s.obj ∧ t.mem = s.mem

/-- RESET_N (R473). -/
def Claim.ResetN : Prop := ∀ (low : Nat) (s : State), s.start.phase ≠ .off →
  (1000 ≤ low → ∃ t, exec (.resetN low) s = .next t ∧ (t.start.phase = .stepA ∨ t.start.phase = .stepB) ∧ t.start.cause = 1 ∧ t.start.enHold = true ∧
    t.mem = [] ∧ t.obj = State.reset.obj ∧ t.reg = State.reset.reg ∧ t.tm = State.reset.tm ∧ t.datum.running = false ∧ t.flash = flashAcross s ∧
    t.part = s.part ∧ t.pending = s.pending) ∧
  (low < 1000 → exec (.resetN low) s = .next s)

/-- POWER_GOOD (R473, R476). -/
def Claim.PowerGood : Prop := ∀ (i : Fin 8) (s : State), s.start.phase ≠ .off →
  ∃ t, exec (.powerGood i) s = .next t ∧ t = { s with start := advanceStart { s.start with pg := setBit s.start.pg i true } } ∧
    (s.start.phase = .stepA → s.start.enHold = true → bits (setBit s.start.pg i true) 0 4 = 15 → t.start.phase = .stepB ∧ t.start.xoEn = true)

/-- PG_LOST (R480). -/
def Claim.PgLost : Prop := ∀ (i : Fin 8) (s : State), Up s → bit s.start.pg i = true → (if i.val < 4 then s.start.enHold else s.start.enMain) = true →
  ∃ t f, exec (.pgLost i) s = .next t ∧ t.start.faults.getLast? = some f ∧ t.start.phase = .reassert ∧ t.start.enHold = false ∧ t.start.enMain = false ∧ t.start.cause = 4 ∧ f.code = 4 ∧ f.detail = i.val ∧ faultN t = true ∧ t.mem = [] ∧ t.obj = State.reset.obj

/-- PLL_LOST (R480). -/
def Claim.PllLost : Prop := ∀ (d : Fin 14) (s : State), Up s → fatalPll d.val = true → s.power.now_ ≤ 2 → s.start.limp = false →
  ∃ t f, exec (.pllLost d) s = .next t ∧ t.start.faults.getLast? = some f ∧ t.start.phase = .reassert ∧ t.start.enHold = false ∧ t.start.enMain = false ∧ t.start.cause = 5 ∧ f.code = 5 ∧ f.detail = d.val ∧ faultN t = true ∧ t.mem = [] ∧ t.obj = State.reset.obj

/-- REF_WINDOW (R475). -/
def Claim.RefWindow : Prop := ∀ (n : Nat) (s : State), s.start.phase = .stepB → s.start.xoEn = true →
  ∃ t, exec (.refWindow n) s = .next t ∧ t = { s with start := t.start } ∧
    (windowGood n = true → 1 ≤ s.start.refRun → mainGood s.start = false → t.start.phase = .stepC ∧ t.start.enMain = true ∧ t.start.attempts = 0) ∧
    (windowGood n = true → s.start.refRun = 0 → t.start.phase = .stepB ∧ t.start.refRun = 1) ∧
    (windowGood n = false → t.start.phase = .stepB ∧ t.start.refRun = 0)

/-- STARTUP_STEP_TIMEOUT (R476, R478). -/
def Claim.StartupStepTimeout : Prop := ∀ (w : Nat) (s : State), s.start.phase = .stepA → s.start.enHold = true → s.start.fromStandby = false →
  ∃ t, exec (.startupStepTimeout w) s = .next t ∧ t.mem = s.mem ∧ t.obj = s.obj ∧ t.start.enHold = false ∧
    (s.start.attempts < 3 → t.start.phase = .stepA ∧ t.start.attempts = s.start.attempts + 1) ∧
    (3 ≤ s.start.attempts → t.start.phase = .failed ∧ t.power.now_ = 4 ∧ t.start.enMain = false ∧ faultN t = true)

/-- ENABLE_REASSERT (R476, R480). -/
def Claim.EnableReassert : Prop := ∀ s : State, holdGood s.start = false →
  (s.start.phase = .stepA → s.start.enHold = false → exec .enableReassert s = .next { s with start := { s.start with enHold := true } }) ∧
  (s.start.phase = .reassert → ∃ t, exec .enableReassert s = .next t ∧ t.start.phase = .stepA ∧ t.start.enHold = true ∧ t.start.cause = s.start.cause ∧
    t = { s with start := t.start })

/-- FAIL_RETRY_EXPIRY (R478). -/
def Claim.FailRetryExpiry : Prop := ∀ s : State, s.start.phase = .failed → s.start.failRetry ≠ 0 → holdGood s.start = false →
  ∃ t, exec .failRetryExpiry s = .next t ∧ t.start.phase = .stepA ∧ t.start.enHold = true ∧ t.start.cause = s.start.cause ∧ t = { s with start := t.start }

/-- RC_TRIM (R484). -/
def Claim.RcTrim : Prop := ∀ (v : Nat) (s : State), Up s → s.start.limp = true → exec (.rcTrim v) s = .next { s with start := { s.start with rcTrim := v % 65536 } }

/-- LIMP_REF_CHECK (R484). -/
def Claim.LimpRefCheck : Prop := ∀ (a b : Nat) (s : State), Up s → s.start.limp = true →
  ∃ t, exec (.limpRefCheck a b) s = .next t ∧ t.start = { s.start with lastWindow := b, refRun := if windowGood a && windowGood b then 2 else 0 } ∧
    (windowGood a = true → windowGood b = true → s.start.refRun < 2 → bit (t.objN 0x1005 0) 1 = true) ∧ (windowGood b = false → t.obj = s.obj) ∧ t.mem = s.mem

/-- THERM_READING (R497). -/
def Claim.ThermReading : Prop := ∀ (i : Fin 9) (v : Int) (s : State), Up s →
  ∃ t, exec (.thermReading i v) s = .next t ∧
    (-500 ≤ v → v ≤ 1500 → t.objB 0x1700 (i + 1) = leInt 2 v ∧ bit t.start.thermValid i = true ∧
      (thermHigh s = false → thermHigh t = true → bit (t.objN 0x1703 0) 0 = true)) ∧
    (v < -500 ∨ 1500 < v → t.objB 0x1700 (i + 1) = le 2 0x8000 ∧ bit t.start.thermValid i = false ∧ bit (t.objN 0x1703 0) 1 = true) ∧ t.reg = s.reg ∧ t.mem = s.mem

/-- THERM_TRIP (R497). -/
def Claim.ThermTrip : Prop := ∀ (i : Fin 9) (s : State), Up s → bit s.start.thermValid i = true → 1220 ≤ s.objI 0x1700 (i + 1) 0 2 →
  ∃ t f, exec (.thermTrip i) s = .next t ∧ t.start.faults.getLast? = some f ∧ t.start.phase = .failed ∧ t.start.enHold = false ∧ t.start.enMain = false ∧ t.power.now_ = 4 ∧ f.code = 7 ∧ f.detail = i.val ∧ t.mem = [] ∧ t.obj = State.reset.obj

/-- AON_POWER_ON (R316, R473). -/
def Claim.AonPowerOn : Prop := ∀ s : State,
  ∃ t, exec .aonPowerOn s = .next t ∧ t.start.phase = .stepA ∧ t.start.enHold = true ∧ t.start.cause = 0 ∧ t.datum.t = {} ∧ t.now = 0 ∧ t.mem = [] ∧
    t.obj = State.reset.obj ∧ t.flash = flashAcross s ∧ t.part = s.part ∧ t.pending = s.pending

/-- POWER_LOSS (R63, R473). -/
def Claim.PowerLoss : Prop := ∀ s : State,
  ∃ t, exec .powerLoss s = .next t ∧ t.start.phase = .off ∧ t.power.grants = [] ∧ t.mem = [] ∧ t.obj = State.reset.obj ∧ t.flash = flashAcross s ∧
    t.flash.saving = none ∧ t.part = s.part ∧ t.pending = s.pending

/-- TRIAL_WINDOW_EXPIRY (R467). -/
def Claim.TrialWindowExpiry : Prop := ∀ s : State, Up s → s.upd.st = .trial →
  ∃ t, exec .trialWindowExpiry s = .next t ∧ (t.start.phase = .stepA ∨ t.start.phase = .stepB) ∧ t.start.cause = 3 ∧ t.upd.fallCause = 1 ∧
    t.upd.trial = s.upd.trial ∧ t.mem = [] ∧ t.obj = State.reset.obj

/-- PROFILE_APPLY (R471). -/
def Claim.ProfileApply : Prop := ∀ (i e slot : Nat) (v : Bytes) (d : DatumVal) (s : State), Up s → s.upd.scheduled = some ([(i, e, v)], d, slot) → d.le s.datum.t = true →
  0x7003 ≤ i → i ≤ 0x70FF → e < 65536 →
  let h := ((vget s.upd.profiles slot {}).header).getD []
  ∃ t, exec .profileApply s = .next t ∧ t.upd.scheduled = none ∧ t.upd.inForce = slot ∧ t.objB i e = v ∧ t.objN 0x7002 0 = fld h 24 1 ∧
    t.objN 0x7001 0 = fld h 16 4 ∧ t.mem = s.mem

/-- ABORT_UPDATE (R64, R468). -/
def Claim.AbortUpdate : Prop := ∀ s : State, Up s → s.upd.st = .receiving ∨ s.upd.st = .ready →
  ∃ t, exec .abortUpdate s = .next t ∧ t.upd.st = .idle ∧ t.upd.result = aAborted ∧ t.upd.received = [] ∧
    (s.upd.profile = false → s.upd.target < 2 → (vget t.upd.images s.upd.target {}).header = none) ∧
    t.dict.lastAbort = le 1 8 ++ [0] ++ le 2 0 ∧ t.dict.abortCode = 0 ∧ t.dict.abortNs ≤ 50000000 ∧ t.obj = s.obj ∧ t.mem = s.mem

/-- BEGIN (R462, R464). -/
def Claim.Begin : Prop := ∀ (n : Nat) (rest : Bytes) (env : Env) (x : Session) (s : State), Sender s n x → passes s 0x1601 0 (1 :: rest) = true →
  let u := taken 0x1601 0 (1 :: rest)
  let h := u.drop 4
  fld u 0 1 = 1 → u.length = 516 → updRefusal s = none → s.upd.st = .idle → verifyHeader env h s = 0 → hdrType h = 1 → s.pair.en = false → s.upd.running ≤ 1 →
  ∃ t, exec (.begin n rest env) s = .next t ∧ answered t 0x1601 0 ok ∧ t.upd.st = .receiving ∧ t.upd.header = h ∧ t.upd.received = [] ∧
    t.upd.target = 1 - s.upd.running ∧ (vget t.upd.images (1 - s.upd.running) {}).header = none ∧
    vget t.upd.images s.upd.running {} = vget s.upd.images s.upd.running {} ∧ t.obj = s.obj ∧ t.mem = s.mem

/-- UPDATE_DATA (R463). -/
def Claim.UpdateData : Prop := ∀ (n : Nat) (v : Bytes) (x : Session) (s : State), Sender s n x → passes s 0x1602 0 v = true → reservedBy s none 0x1602 0 = false →
  let u := taken 0x1602 0 v
  updRefusal s = none → s.upd.st = .receiving → fld u 0 4 = s.upd.received.length → fld u 0 4 + (u.length - 4) ≤ hdrLen s.upd.header →
  ∃ t, exec (.updateData n v) s = .next t ∧ answered t 0x1602 0 ok ∧ t.upd = { s.upd with received := s.upd.received ++ u.drop 4 } ∧ t.obj = s.obj ∧ t.mem = s.mem

/-- FINISH (R462). -/
def Claim.Finish : Prop := ∀ (n : Nat) (rest : Bytes) (env : Env) (x : Session) (s : State), Sender s n x → passes s 0x1601 0 (2 :: rest) = true →
  let u := taken 0x1601 0 (2 :: rest)
  fld u 0 1 = 2 → u.length ≠ 516 → updRefusal s = none → s.upd.st = .receiving → s.upd.received.length = hdrLen s.upd.header → s.upd.profile = false → s.upd.target < 2 →
  (env.digestOk = true → ∃ t, exec (.finish n rest env) s = .next t ∧ answered t 0x1601 0 ok ∧ t.upd.st = .ready ∧
    vget t.upd.images s.upd.target {} = { header := some s.upd.header, payload := s.upd.received } ∧ t.obj = s.obj ∧ t.mem = s.mem) ∧
  (env.digestOk = false → ∃ t, exec (.finish n rest env) s = .next t ∧ answered t 0x1601 0 (updRefused 0x127) ∧ t.upd.st = .idle ∧
    t.upd.images = s.upd.images ∧ t.obj = s.obj ∧ t.mem = s.mem)

/-- ACTIVATE (R466). -/
def Claim.Activate : Prop := ∀ (n : Nat) (rest : Bytes) (x : Session) (s : State), Sender s n x → passes s 0x1601 0 (3 :: rest) = true →
  let u := taken 0x1601 0 (3 :: rest)
  fld u 0 1 = 3 → u.length ≠ 516 → updRefusal s = none → s.upd.st = .ready → s.upd.profile = false →
  ∃ t, exec (.activate n rest) s = .next t ∧ answered t 0x1601 0 ok ∧ t.upd.trial = some s.upd.target ∧ t.upd.trialBooted = false ∧
    (t.start.phase = .stepA ∨ t.start.phase = .stepB) ∧ t.start.cause = 3 ∧ t.mem = [] ∧ t.obj = State.reset.obj

/-- UPDATE_DISCARD (R464). -/
def Claim.UpdateDiscard : Prop := ∀ (n : Nat) (rest : Bytes) (x : Session) (s : State), Sender s n x → passes s 0x1601 0 (4 :: rest) = true →
  let u := taken 0x1601 0 (4 :: rest)
  fld u 0 1 = 4 → u.length ≠ 516 → s.upd.st = .receiving ∨ s.upd.st = .ready →
  ∃ t, exec (.updateDiscard n rest) s = .next t ∧ answered t 0x1601 0 ok ∧ t.upd.st = .idle ∧ t.upd.received = [] ∧ t.obj = s.obj ∧ t.mem = s.mem

/-- REVERT (R467). -/
def Claim.Revert : Prop := ∀ (n : Nat) (rest : Bytes) (x : Session) (s : State), Sender s n x → passes s 0x1601 0 (5 :: rest) = true →
  let u := taken 0x1601 0 (5 :: rest)
  fld u 0 1 = 5 → u.length ≠ 516 → s.upd.st = .trial →
  ∃ t, exec (.revert n rest) s = .next t ∧ answered t 0x1601 0 ok ∧ t.upd.fallCause = 3 ∧ (t.start.phase = .stepA ∨ t.start.phase = .stepB) ∧ t.start.cause = 3 ∧ t.mem = []

/-- BENCHMARK (R468). -/
def Claim.Benchmark : Prop := ∀ (n : Nat) (v : Bytes) (k : Nat) (x : Session) (s : State), Sender s n x → passes s 0x1600 0 v = true → 0xFF00 ≤ n →
  leNat (taken 0x1600 0 v) = s.part.fwVersion → s.upd.st = .trial → s.upd.trial = some k → s.power.supplyLow = false →
  ∃ t, exec (.benchmark n v) s = .next t ∧ answered t 0x1600 0 ok ∧ t.upd.st = .idle ∧ t.upd.confirmed = k ∧ t.upd.trial = none ∧
    t.upd.floor = max s.upd.floor (min s.part.secVersion 128) ∧ bit (t.objN 0x1630 0) 1 = true ∧ t.mem = s.mem

/-- RESET_RELEASE (R477, R483). -/
def Claim.ResetRelease : Prop := ∀ (b : BootIn) (s : State), s.start.phase = .pll → s.start.locked ≠ 0 → s.start.fromStandby = false → s.start.limp = false →
  s.upd.trial = none → b.confirmedChecksOk = true →
  ∃ t, exec (.resetRelease b) s = .next t ∧ Up t ∧ t.start.boots = s.start.boots + 1 ∧ t.start.booted = true ∧ t.datum.running = true ∧
    t.upd.running = s.upd.confirmed ∧ t.upd.st = .idle ∧ t.start.rescue = s.start.rescue ∧ t.pending = s.pending ∧ t.mem = s.mem

/-- STAKE_INSTANT (R59, R60). -/
def Claim.StakeInstant : Prop := ∀ (k : Fin 4) (s : State), Up s → (travAt s k).st = .armed → (travAt s k).t.units ≤ s.datum.t.units → s.rf.deferred = [] →
  (∀ p ∈ (travAt s k).staged, p.1 = 0x3020 ∧ 1 ≤ p.2.1 ∧ p.2.1 ≤ 3 ∧ ∀ r : Radio, r.val = p.2.1 - 1 → radioBoundary s r = true) →
  ∃ t, exec (.stakeInstant k) s = .next t ∧ t.obj = ((travAt s k).staged.foldl (fun s p => s.setObj p.1 p.2.1 p.2.2) s).obj ∧
    (travAt t k).st = .applying ∧ (travAt t k).late = false ∧ (travAt t k).staged = (travAt s k).staged ∧ t.rf.deferred = [] ∧ t.reg = s.reg ∧ t.mem = s.mem

/-- STAKE_INSTANT (R59, R60). -/
def Claim.StakeWaits : Prop := ∀ (k : Fin 4) (s : State), Up s → (travAt s k).st = .armed → (travAt s k).t.units ≤ s.datum.t.units → s.rf.deferred = [] →
  (∀ p ∈ (travAt s k).staged, p.1 = 0x3020 ∧ 1 ≤ p.2.1 ∧ p.2.1 ≤ 3 ∧ ∀ r : Radio, r.val = p.2.1 - 1 → radioBoundary s r = false) →
  ∃ t, exec (.stakeInstant k) s = .next t ∧ t.rf.deferred = (travAt s k).staged ∧ (travAt t k).st = .applying ∧ t.obj = s.obj ∧ t.reg = s.reg ∧ t.mem = s.mem

/-- STAKE_INSTANT (R59, R60). -/
def Claim.StakeEarly : Prop := ∀ (k : Fin 4) (s : State), Up s → (travAt s k).st ≠ .armed ∨ s.datum.t.units < (travAt s k).t.units → exec (.stakeInstant k) s = .next s

/-- HEARTBEAT_SEND (R431, R434). -/
def Claim.HeartbeatSend : Prop := ∀ s : State, Up s → s.pair.st ≠ .solo → s.pair.st ≠ .fenced → s.pair.link = true → s.power.now_ ≤ 2 →
  ∃ t, exec .heartbeatSend s = .next t ∧ t.pair.hbSent = s.pair.hbSent + 1 ∧ (mirroring s = false → t = { s with pair := { s.pair with hbSent := s.pair.hbSent + 1 } }) ∧
    t.obj = s.obj ∧ t.reg = s.reg ∧ t.mem = s.mem

/-- HEARTBEAT_RECEIVE (R429, R431). -/
def Claim.HeartbeatReceive : Prop := ∀ (h : Heartbeat) (s : State), Up s → s.pair.st = .active → s.pair.link = true → s.pair.handing = false → s.upd.peerTie = false →
  (h.pairId ≠ s.pair.id → h.state = 2 ∨ h.state = 3 →
    exec (.heartbeatReceive h) s = .next { s with pair := { s.pair with
      partner := h.state, partnerHealth := h.health, partnerBusy := h.updating || h.trial, heard := true, missed := 0 } }) ∧
  (h.pairId ≠ s.pair.id → h.state ≠ 2 → h.state ≠ 3 →
    exec (.heartbeatReceive h) s = .next { s with pair := { s.pair with
      partner := h.state, partnerHealth := h.health, partnerBusy := h.updating || h.trial, heard := true, missed := 0, unacked := [], keyRes := [], snRes := [] } }) ∧
  (h.pairId = s.pair.id → ∃ t, exec (.heartbeatReceive h) s = .next t ∧ t.pair = s.pair ∧ bit (t.objN 0x1405 0) 5 = true ∧ t.mem = s.mem)

/-- HEARTBEAT_RECEIVE (R429, R431). -/
def Claim.HeartbeatActive : Prop := ∀ (h : Heartbeat) (s : State), Up s → s.pair.st = .wait → s.pair.link = true → s.upd.peerTie = false → h.pairId ≠ s.pair.id →
  h.state = 4 → s.start.limp = false →
  ∃ t, exec (.heartbeatReceive h) s = .next t ∧ t.pair.st = .syncing ∧ t.pair.claiming = false ∧ t.pair.activeOut = false ∧ t.pair.inSeq = 1 ∧
    t.pair.copyDone = false ∧ t.sec.slots = [] ∧ t.datum.followRun = 0

/-- HEARTBEAT_MISSED (R431, R441). -/
def Claim.HeartbeatMissed : Prop := ∀ s : State, Up s → s.upd.peerTie = false →
  (s.pair.st = .active → 2 ≤ s.pair.missed → ∃ t, exec .heartbeatMissed s = .next t ∧ t = { s.stat 0x1404 0 0 1 with pair := { s.pair with
      missed := s.pair.missed + 1, heard := false, partner := 0, unacked := [], keyRes := [], snRes := [] } }) ∧
  (s.pair.st = .standby → s.pair.missed < 2 → ∃ t, exec .heartbeatMissed s = .next t ∧ t = { s.stat 0x1404 0 0 1 with pair := { s.pair with
      missed := s.pair.missed + 1, heard := false } }) ∧
  (s.pair.st = .syncing → 2 ≤ s.pair.missed → ∃ t, exec .heartbeatMissed s = .next t ∧ t.pair.st = .wait ∧ t.pair.missed = 0 ∧ t.sec.slots = [] ∧ t.mac.snCtr = [] ∧ t.mem = s.mem)

/-- MIRROR (R430, R436). -/
def Claim.Mirror : Prop := ∀ (c : Nat) (idx el : Nat) (v : Bytes) (s : State), Up s → standsBy s = true → el < 65536 → idx ≠ 0x1201 → idx ≠ 0x1300 → idx ≠ 0x2004 → idx ≠ 0x0110 → idx ≠ 0x0111 →
  exec (.mirror c s.pair.inSeq (.object idx el v) true) s = .next { s.setObj idx el v with pair := { s.pair with inSeq := (s.pair.inSeq + 1) % 2 ^ 32, ackOut := s.pair.inSeq } }

/-- MIRROR (R430, R436). -/
def Claim.MirrorBad : Prop := ∀ (c q : Nat) (x : MirrorItem) (ok : Bool) (s : State), Up s → standsBy s = true →
  (ok = false → exec (.mirror c q x ok) s = .next (s.stat 0x1404 0 2 1)) ∧ (ok = true → q ≠ s.pair.inSeq → exec (.mirror c q x ok) s = .next s)

/-- MIRROR_ACK (R430, R437). -/
def Claim.MirrorAck : Prop := ∀ (u : MirrorFrame) (s : State), Up s → s.pair.unacked = [u] → s.pair.handing = false →
  (∀ i e v, u.item = .object i e v → exec (.mirrorAck u.seq) s = .next { s with pair := { s.pair with unacked := [] } }) ∧
  (∀ n st ty ctr m sa, u.item = .key n st ty ctr m sa → exec (.mirrorAck u.seq) s = .next { s with pair := { s.pair with unacked := [], keyRes := tput s.pair.keyRes n ctr } }) ∧
  (∀ sta tid sn, u.item = .seqCounter sta tid sn → exec (.mirrorAck u.seq) s = .next { s with pair := { s.pair with unacked := [], snRes := tput s.pair.snRes (16 * sta + tid) sn } })

/-- MIRROR_RESEND (R430). -/
def Claim.MirrorResend : Prop := ∀ s : State, Up s → exec .mirrorResend s = .next (s.stat 0x1404 0 1 s.pair.unacked.length)

/-- RESYNC_REQ (R445). -/
def Claim.ResyncReq : Prop := ∀ s : State, Up s → s.pair.st = .active →
  ∃ t, exec .resyncReq s = .next t ∧ t.pair.partner = 2 ∧ t.pair.unacked.map (·.item) = (fullCopy s).map (·.2) ∧ t.pair.unacked.map (·.cls) = (fullCopy s).map (·.1) ∧
    t.obj = (s.stat 0x1404 0 5 1).obj ∧ t.reg = s.reg ∧ t.mem = s.mem

/-- RESYNC_DATA (R445). -/
def Claim.ResyncData : Prop := ∀ (c p idx el : Nat) (v : Bytes) (last : Bool) (s : State), Up s → s.pair.st = .syncing → el < 65536 → idx ≠ 0x1201 → idx ≠ 0x1300 → idx ≠ 0x2004 → idx ≠ 0x0110 → idx ≠ 0x0111 →
  ∃ t, exec (.resyncData c s.pair.inSeq (.object idx el v) true last p) s = .next t ∧ t = { s.setObj idx el v with pair := t.pair } ∧
    t.pair.inSeq = (s.pair.inSeq + 1) % 2 ^ 32 ∧ t.pair.ackOut = s.pair.inSeq ∧ t.pair.copyDone = (s.pair.copyDone || last) ∧
    t.pair.st = (if (s.pair.copyDone || last) = true ∧ 16 ≤ s.datum.followRun then .standby else .syncing)

/-- STAKE_MIRROR_TIMEOUT (R438). -/
def Claim.StakeMirrorTimeout : Prop := ∀ (k : Fin 4) (s : State), Up s → (travAt s k).mirroring = true → (∀ x ∈ s.dict.sessions, x.exec = none) →
  ∃ t, exec (.stakeMirrorTimeout k) s = .next t ∧ (travAt t k).mirroring = false ∧ (travAt t k).st = (travAt s k).st ∧ t.pair.partner = 1 ∧ t.pair.unacked = [] ∧
    t.obj = s.obj ∧ t.reg = s.reg ∧ t.mem = s.mem

/-- WAIT_EXPIRY (R433). -/
def Claim.WaitExpiry : Prop := ∀ s : State, Up s → s.pair.st = .wait → s.pair.claiming = false → s.start.limp = false →
  (s.pair.peerIn = false → exec .waitExpiry s = .next { s with pair := { s.pair with claiming := true, activeOut := true } }) ∧
  (s.pair.peerIn = true → ∃ t, exec .waitExpiry s = .next t ∧ t.pair = s.pair ∧ bit (t.objN 0x1405 0) 1 = true ∧ t.mem = s.mem)

/-- CLAIM_SAMPLE (R433). -/
def Claim.ClaimSample : Prop := ∀ s : State, Up s → s.pair.claiming = true → s.pair.retryClaim = false → s.pair.peerIn = true →
  (s.pair.id = 1 → exec .claimSample s = .next { s with pair := { s.pair with claiming := false, activeOut := false } }) ∧
  (s.pair.id ≠ 1 → exec .claimSample s = .next { s with pair := { s.pair with retryClaim := true } })

/-- CLAIM_SAMPLE (R433). -/
def Claim.ClaimWon : Prop := ∀ s : State, Up s → s.pair.claiming = true → s.pair.retryClaim = false → s.pair.peerIn = false →
  ∃ t, exec .claimSample s = .next t ∧ t.pair.st = .active ∧ t.pair.activeOut = true ∧ t.pair.claiming = false ∧ t.mem = s.mem

/-- PEER_ACTIVE_CHANGE (R432, R433). -/
def Claim.PeerActiveChange : Prop := ∀ (level : Bool) (s : State), s.pair.retryClaim = false → s.pair.switchHeld = false → s.pair.heard = false →
  exec (.peerActiveChange level) s = .next { s with pair := { s.pair with peerIn := level } }

/-- PEER_ACTIVE_HELD (R432, R434). -/
def Claim.PeerActiveHeld : Prop := ∀ s : State, Up s → s.pair.peerIn = true →
  (s.pair.retryClaim = true → exec .peerActiveHeld s = .next { s with pair := { s.pair with claiming := false, retryClaim := false, activeOut := false } }) ∧
  (s.pair.retryClaim = false → s.pair.st = .active → s.pair.id = 1 →
    ∃ t, exec .peerActiveHeld s = .next t ∧ t.pair.st = .fenced ∧ t.pair.activeOut = false ∧ t.pair.unacked = [] ∧ (∀ r : Radio, (t.fe r).st = .off))

/-- SWITCHOVER (R444). -/
def Claim.Switchover : Prop := ∀ s : State, Up s → s.pair.st = .standby →
  (s.pair.peerIn = false → ∃ t, exec .switchover s = .next t ∧ t.pair.st = .active ∧ t.pair.activeOut = true ∧ t.pair.takeovers = (s.pair.takeovers + 1) % 2 ^ 32) ∧
  (s.pair.peerIn = true → ∃ t, exec .switchover s = .next t ∧ t = { s.stat 0x1404 0 6 1 with pair := { s.pair with switchHeld := true } })

/-- HEARTBEAT_MISSED (R441, R443). -/
def Claim.Failover : Prop := ∀ s : State, Up s → s.upd.peerTie = false → s.pair.st = .standby → 2 ≤ s.pair.missed → s.pair.peerIn = false →
  ∃ t, exec .heartbeatMissed s = .next t ∧ t.pair.st = .active ∧ t.pair.activeOut = true ∧ t.pair.partner = 0 ∧ t.pair.takeovers = (s.pair.takeovers + 1) % 2 ^ 32 ∧
    t.pair.lastTakeover = s.datum.t ∧ t.mac.snCtr = s.mac.snCtr.map fun p => (p.1, snAdd p.2 512)

/-- PAIR_KICK (R434). -/
def Claim.PairKick : Prop := ∀ (c : CoreId) (v : Nat) (s : State), Up s → bit v 0 = true → s.pair.st = .active →
  exec (.pairKick c v) s = .next { s with pair := { s.pair with kickAt := s.now + s.pair.kickMs * 1000000 } }

/-- KICK_TIMEOUT (R434). -/
def Claim.KickTimeout : Prop := ∀ s : State, Up s → s.pair.st = .active → s.pair.kickAt ≤ s.now →
  ∃ t, exec .kickTimeout s = .next t ∧ t.pair.st = .fenced ∧ t.pair.activeOut = false ∧ t.pair.unacked = [] ∧ (∀ r : Radio, (t.fe r).st = .off)

/-- KICK_TIMEOUT (R434). -/
def Claim.KickRunning : Prop := ∀ s : State, Up s → s.now < s.pair.kickAt → exec .kickTimeout s = .next s

/-- PAIR_SWITCHOVER (R444). -/
def Claim.PairSwitchover : Prop := ∀ (n : Nat) (x : Session) (s : State), Sender s n x → s.pair.st = .active → s.pair.partner = 3 →
  reservationsAcked s = false →
  ∃ t, exec (.pairSwitchover n) s = .next t ∧ answered t 0x1402 0 ok ∧ t.pair = { s.pair with handing := true } ∧ t.obj = s.obj ∧ t.mem = s.mem

/-- PAIR_SWITCHOVER (R444). -/
def Claim.SwitchReasons : Prop := ∀ (n : Nat) (x : Session) (s : State), Sender s n x →
  (s.pair.st ≠ .active → ∃ t, exec (.pairSwitchover n) s = .next t ∧ answered t 0x1402 0 (aState, det 0x60 0x601) ∧ t.pair = s.pair ∧ t.mem = s.mem) ∧
  (s.pair.st = .active → s.pair.partner ≠ 3 → ∃ t, exec (.pairSwitchover n) s = .next t ∧ answered t 0x1402 0 (aState, det 0x60 0x602) ∧ t.pair = s.pair ∧ t.mem = s.mem)

/-- PAIR_SWITCHOVER (R444). -/
def Claim.SwitchDone : Prop := ∀ (n : Nat) (x : Session) (s : State), Sender s n x → s.pair.st = .active → s.pair.partner = 3 → reservationsAcked s = true →
  ∃ t, exec (.pairSwitchover n) s = .next t ∧ answered t 0x1402 0 ok ∧ t.pair.st = .wait ∧ t.pair.activeOut = false ∧ t.pair.handing = false ∧ (∀ r : Radio, (t.fe r).st = .off)

/-- RESYNC (R432, R445). -/
def Claim.Resync : Prop := ∀ (n : Nat) (x : Session) (s : State), Sender s n x → s.pair.st = .standby →
  ∃ t, exec (.resync n) s = .next t ∧ answered t 0x1402 0 ok ∧ t.pair.st = .syncing ∧ t.pair.copyDone = false ∧ t.pair.inSeq = 1 ∧ t.sec.slots = [] ∧ t.mac.snCtr = [] ∧
    t.datum.followRun = 0

/-- STEP_APPLY (R317). -/
def Claim.StepApply : Prop := ∀ (q : StepReq) (s : State), Up s → s.datum.steps = [q] → q.follow = false → q.sess = none → s.datum.running = true → (∀ k : Fin 4, (travAt s k).st ≠ .armed) →
  0 ≤ stepResult s q → stepResult s q < (datumLimit : Int) →
  ∃ t, exec .stepApply s = .next t ∧ t.datum.t = datumOf (stepResult s q).toNat ∧ t.datum.stepGen = (s.datum.stepGen + 1) % 2 ^ 32 ∧ t.datum.lastStep = t.datum.t ∧
    t.datum.steps = []

/-- FOLLOW_STEP (R334). -/
def Claim.FollowStep : Prop := ∀ (q : StepReq) (s : State), Up s → s.datum.steps = [q] → q.follow = true → s.datum.running = true → (∀ k : Fin 4, (travAt s k).st ≠ .armed) →
  0 ≤ stepResult s q → stepResult s q < (datumLimit : Int) →
  ∃ t, exec .followStep s = .next t ∧ t.datum.t = datumOf (stepResult s q).toNat ∧ t.datum.stepGen = (s.datum.stepGen + 1) % 2 ^ 32 ∧ t.datum.steps = []

/-- DATUM_ADVANCE (R331). -/
def Claim.DatumAdvance : Prop := ∀ (n : Nat) (d0 : DatumVal) (r : Option Nat) (s : State), Up s → s.datum.running = true → s.datum.restored = false → s.datum.d0 = some (d0, r) →
  s.power.asleep = none →
  ∃ t, exec (.datumAdvance n) s = .next t ∧ t.datum.t = datumOf (d0.units + advanceBy s.datum r n) ∧ t.datum.restored = true ∧ t.datum.d0 = none ∧
    t.start.rrStamp = t.datum.t ∧ t.datum.running = true ∧ t.mem = s.mem

/-- ENTRY_DONE (R415). -/
def Claim.Standby : Prop := ∀ (e : SleepEntry) (s : State), Up s → s.power.entry = some e → e.hibernate = false → s.power.latch = 0 →
  ∃ t, exec .entryDone s = .next t ∧ t.start.phase = .asleep ∧ t.start.enMain = false ∧ t.power.now_ = 3 ∧ t.power.asleep = some e ∧ t.power.entry = none ∧
    (∀ p ∈ t.tm.queues, p.2.frames = []) ∧ t.pp.ctxs = []

/-- ENTRY_DONE (R415). -/
def Claim.Hibernate : Prop := ∀ (e : SleepEntry) (s : State), Up s → s.power.entry = some e → e.hibernate = true → s.power.latch = 0 →
  ∃ t, exec .entryDone s = .next t ∧ t.start.phase = .asleep ∧ t.start.enMain = false ∧ t.start.enHold = false ∧ t.power.now_ = 4 ∧ t.power.asleep = some e ∧
    t.obj = State.reset.obj ∧ t.reg = State.reset.reg ∧ t.mem = []

/-- ENTRY_ABORTED (R417). -/
def Claim.EntryAborted : Prop := ∀ (u k : Nat) (e : SleepEntry) (s : State), Up s → s.power.entry = some e → unitIds.contains u = true → k ≤ 2 →
  ∃ t, exec (.entryAborted u k) s = .next t ∧ t.power = { s.power with entry := none, latch := 0 } ∧ bit (t.objN 0x1330 0) 4 = true ∧ t.mem = s.mem

/-- ENTRY_ABORTED (R417). -/
def Claim.EntryUnlisted : Prop := ∀ (u k : Nat) (s : State), Up s → unitIds.contains u = false → exec (.entryAborted u k) s = .next s

/-- WAKE (R418, R478). -/
def Claim.Wake : Prop := ∀ (i : Fin 6) (e : SleepEntry) (s : State), bit e.mask i = true → (e.hibernate = true → i.val < 3) → wakeCounts s e i = true →
  (s.start.phase ≠ .failed → s.power.entry = some e → exec (.wake i) s = .next { s with power := { s.power with latch := setBit s.power.latch i true } }) ∧
  (s.start.phase = .asleep → s.power.entry = none → s.power.asleep = some e → ∃ t, exec (.wake i) s = .next t ∧ (t.start.phase = .stepA ∨ t.start.phase = .stepB) ∧
    t.start.enHold = true ∧ bit t.power.latch i = true ∧ t.start.fromStandby = decide (s.power.now_ = 3) ∧ t.obj = s.obj ∧ t.mem = s.mem)

/-- WAKE (R418, R478). -/
def Claim.WakeNot : Prop := ∀ (i : Fin 6) (e : SleepEntry) (s : State), s.start.phase ≠ .failed → s.power.entry = some e → wakeCounts s e i = false →
  exec (.wake i) s = .next s

/-- PLL_LOCK (R477). -/
def Claim.PllLock : Prop := ∀ s : State, s.start.phase = .pll →
  (s.start.fromStandby = false → exec .pllLock s = .next { s with start := { s.start with locked := startPlls s.start.limp } }) ∧
  (s.start.fromStandby = true → ∃ t, exec .pllLock s = .next t ∧ Up t ∧ t.power.asleep = none ∧
    t.power.now_ = (if s.start.limp then 5 else s.power.before) ∧ t.start.fromStandby = false)

/-- READ (R37, R331). -/
def Claim.Read : Prop := ∀ (n el : Nat) (env : Env) (x : Session) (s : State), Sender s n x → env.poisoned = false → 1 ≤ el → el ≤ 3 → applyingSlot s 0x3020 el 1 = none → (s.objB 0x3020 el).length ≤ 1000 →
  ∃ t, exec (.read n 0x3020 el ⟨none, env⟩) s = .next t ∧
    t.lastResp = some { opcode := 1, flags := 0, idx := 0x3020, el, abort := 0, detail := 0, value := s.objB 0x3020 el } ∧ t.obj = s.obj ∧ t.reg = s.reg ∧ t.mem = s.mem

/-- READ (R37, R331). -/
def Claim.ReadPoisoned : Prop := ∀ (n el : Nat) (env : Env) (x : Session) (s : State), Sender s n x → env.poisoned = true → 1 ≤ el → el ≤ 3 → applyingSlot s 0x3020 el 1 = none →
  ∃ t, exec (.read n 0x3020 el ⟨none, env⟩) s = .next t ∧
    t.lastResp = some { opcode := 1, flags := 0, idx := 0x3020, el, abort := aAborted, detail := det 0x70 0xC, value := [] } ∧ t.obj = s.obj ∧ t.reg = s.reg ∧ t.mem = s.mem

/-- READ (R37, R331). -/
def Claim.ReadDatum : Prop := ∀ (n : Nat) (env : Env) (x : Session) (s : State), Sender s n x → env.poisoned = false → applyingSlot s 0x1200 0 1 = none →
  (s.datum.restored = true → ∃ t, exec (.read n 0x1200 0 ⟨none, env⟩) s = .next t ∧
    t.lastResp = some { opcode := 1, flags := 0, idx := 0x1200, el := 0, abort := 0, detail := 0, value := s.datum.t.enc } ∧ t.obj = s.obj ∧ t.mem = s.mem) ∧
  (s.datum.restored = false → ∃ t, exec (.read n 0x1200 0 ⟨none, env⟩) s = .next t ∧
    t.lastResp = some { opcode := 1, flags := 0, idx := 0x1200, el := 0, abort := aBusy, detail := det 0x51 1, value := [] } ∧ t.obj = s.obj ∧ t.mem = s.mem)

/-- READ (R37, R331). -/
def Claim.ReadNone : Prop := ∀ (n idx el : Nat) (env : Env) (x : Session) (s : State), Sender s n x → isFwIdx idx = false → objRow? idx el = none →
  ∃ t, exec (.read n idx el ⟨none, env⟩) s = .next t ∧
    t.lastResp = some { opcode := 1, flags := 0, idx, el, abort := if hasIndex idx then aNoElement else aNoObject, detail := if hasIndex idx then det 0x70 0x11 else det 0x70 0x10, value := [] } ∧
    t.obj = s.obj ∧ t.mem = s.mem

/-- RW objects whose write stores the value and does nothing else. -/
def Claim.plainRw (idx : Nat) : Bool :=
  !isFlagObj idx && !(tableOf idx).isSome && !([0x1602, 0x3100, 0x4000, 0x1201, 0x1210, 0x1312, 0x5842].contains idx) && !isFwIdx idx

/-- WRITE (R10, R37). -/
def Claim.Write : Prop := ∀ (n idx el : Nat) (v : Bytes) (env : Env) (x : Session) (row : ObjRow) (s : State), Sender s n x → objRow? idx el = some row → row.acc = .rw → Claim.plainRw idx = true →
  passes s idx el v = true → reservedBy s none idx el = false →
  ∃ t, exec (.write n idx el v env) s = .next t ∧ answered t idx el ok ∧ t.objB idx el = taken idx el v ∧ (∀ i e, okey i e ≠ okey idx el → t.objB i e = s.objB i e) ∧
    t.reg = s.reg ∧ t.mem = s.mem

/-- WRITE (R10, R37). -/
def Claim.WriteRefused : Prop := ∀ (n idx el : Nat) (v : Bytes) (env : Env) (x : Session) (row : ObjRow) (s : State), Sender s n x → isFwIdx idx = false → objRow? idx el = some row →
  (row.acc = .ro → ∃ t, exec (.write n idx el v env) s = .next t ∧ answered t idx el (aAccess, det 0x70 0x12) ∧ t.obj = s.obj ∧ t.mem = s.mem) ∧
  (row.acc = .rs → ∃ t, exec (.write n idx el v env) s = .next t ∧ answered t idx el (aStageOnly, det 0x70 0x15) ∧ t.obj = s.obj ∧ t.mem = s.mem) ∧
  (row.acc = .rl → ∃ t, exec (.write n idx el v env) s = .next t ∧ answered t idx el (aLocked, det 0x70 0x16) ∧ t.obj = s.obj ∧ t.mem = s.mem)

/-- STAGE (R54, R55). -/
def Claim.Stage : Prop := ∀ (n el k : Nat) (v : Bytes) (x : Session) (s : State), Sender s n x → 1 ≤ el → el ≤ 3 → passes s 0x3020 el v = true → n ≠ 0 → travOf s n = none →
  findLt 4 (fun k => (travAt s k).st == .idle) = some k → reservedBy s none 0x3020 el = false →
  ∃ t, exec (.stage n 0x3020 el v) s = .next t ∧ t.lastResp = some { opcode := 3, flags := 0, idx := 0x3020, el, abort := 0, detail := 0, value := [] } ∧
    (travAt t k).st = .opened ∧ (travAt t k).owner = n ∧ (travAt t k).staged = [(0x3020, el, taken 0x3020 el v)] ∧ t.objB 0x3020 el = s.objB 0x3020 el ∧ t.reg = s.reg ∧ t.mem = s.mem

/-- CLOSE (R51, R56). -/
def Claim.Close : Prop := ∀ (n k : Nat) (x : Session) (s : State), Sender s n x → travOf s n = some k → (travAt s k).st = .opened → closureFailing s (travAt s k).staged = none →
  fwWanted s (travAt s k).staged [] = [] →   reserving s (some k) = [] →
  ∃ t, exec (.close n) s = .next t ∧ t.lastResp = some { opcode := 4, flags := 0, idx := 0, el := 0, abort := 0, detail := 0, value := [] } ∧
    (travAt t k).st = .closed ∧ (travAt t k).staged = (travAt s k).staged ∧ (travAt t k).readSet = readSetOf s (travAt s k).staged ∧ t.obj = s.obj ∧ t.mem = s.mem

/-- CLOSE (R51, R56). -/
def Claim.CloseFails : Prop := ∀ (n k u id ord : Nat) (x : Session) (s : State), Sender s n x → travOf s n = some k → (travAt s k).st = .opened →
  closureFailing s (travAt s k).staged = some (u, id, ord) →
  fwWanted s (travAt s k).staged [] = [] →
  ∃ t, exec (.close n) s = .next t ∧ t.lastResp = some { opcode := 4, flags := 0, idx := 0, el := 0, abort := aClosure, detail := u * 0x1000000 + id, value := [] } ∧
    (travAt t k).st = .opened ∧ (travAt t k).failing = ord ∧ t.obj = s.obj ∧ t.mem = s.mem

/-- CLOSE (R51, R56). -/
def Claim.CloseAsks : Prop := ∀ (n k : Nat) (x : Session) (s : State), Sender s n x → travOf s n = some k → (travAt s k).st = .opened → fwWanted s (travAt s k).staged [] ≠ [] →
  ∃ t y, exec (.close n) s = .next t ∧ t.dict.fwReqs.length = s.dict.fwReqs.length + (fwWanted s (travAt s k).staged []).length ∧
    sessOf t n = some y ∧ waitsFor y (.closure k) = true ∧ (travAt t k) = travAt s k ∧ t.lastResp = s.lastResp ∧ objsButPosts s t ∧ t.mem = s.mem

/-- STAKE (R58). -/
def Claim.Stake : Prop := ∀ (n k : Nat) (x : Session) (s : State), Sender s n x → travOf s n = some k → (travAt s k).st = .closed → (travAt s k).staged.all (fun p => p.1 == 0x3020) = true → mirroring s = false →
  let tm := datumOf (s.datum.t.units + 2000000 * 4294967296)
  ∃ t, exec (.stake n (zeros 16) false) s = .next t ∧ t.lastResp = some { opcode := 5, flags := 0, idx := 0, el := 0, abort := 0, detail := 0, value := tm.enc } ∧
    (travAt t k).st = .armed ∧ (travAt t k).t = tm ∧ (travAt t k).persist = false ∧ (travAt t k).staged = (travAt s k).staged ∧ t.obj = s.obj ∧ t.mem = s.mem

/-- ABORT (R54, R64, R65). -/
def Claim.Abort : Prop := ∀ (n k : Nat) (x : Session) (s : State), Sender s n x → travOf s n = some k → (travAt s k).st ≠ .applying →
  ∃ t, exec (.abort n) s = .next t ∧ t.lastResp = some { opcode := 6, flags := 0, idx := 0, el := 0, abort := 0, detail := 0, value := [] } ∧
    (travAt t k).st = .idle ∧ (travAt t k).staged = [] ∧ (travAt t k).result = aAborted ∧ t.dict.lastAbort = le 1 6 ++ [0] ++ le 2 (k + 1) ∧ t.reg = s.reg ∧ t.mem = s.mem

/-- ABORT_TRAVERSE (R54, R64, R65). -/
def Claim.AbortTraverse : Prop := ∀ (k : Fin 4) (s : State), Up s →
  ((travAt s k).st = .opened ∨ (travAt s k).st = .closed ∨ (travAt s k).st = .armed → ∃ t, exec (.abortTraverse k false) s = .next t ∧
    (travAt t k).st = .idle ∧ (travAt t k).staged = [] ∧ (travAt t k).result = aAborted ∧ t.dict.lastAbort = le 1 6 ++ [0] ++ le 2 (k.val + 1) ∧ t.dict.abortCode = 0 ∧
    t.dict.abortNs ≤ 100000 ∧ t.reg = s.reg ∧ t.mem = s.mem) ∧
  ((travAt s k).st = .applying → ∃ t, exec (.abortTraverse k false) s = .next t ∧ (travAt t k).st = .applying ∧ t.dict.abortCode = aState ∧ t.obj = s.obj ∧ t.mem = s.mem)

/-- SUBSCRIBE (R52, R53). -/
def Claim.Subscribe : Prop := ∀ (n el : Nat) (v : Bytes) (x : Session) (s : State), Sender s n x → 1 ≤ el → el ≤ 3 → v.length = 8 → subRangeOk v = true → fld v 0 1 ≠ 0 → s.dict.subs = [] →
  ∃ t u, exec (.subscribe n 0x3020 el v) s = .next t ∧ t.lastResp = some { opcode := 7, flags := 0, idx := 0x3020, el, abort := 0, detail := 0, value := [] } ∧
    t.dict.subs = [u] ∧ u.sess = n ∧ u.idx = 0x3020 ∧ u.el = el ∧ u.mode = fld v 0 1 ∧ u.minMs = fld v 2 2 ∧ u.periodMs = fld v 4 4 ∧ u.nseq = 1 ∧ u.lastVal = some (s.objB 0x3020 el) ∧
    t.dict.sent.length = s.dict.sent.length + 1 ∧ t.obj = s.obj ∧ t.mem = s.mem

/-- SUBSCRIBE (R52, R53). -/
def Claim.Unsubscribe : Prop := ∀ (n el : Nat) (v : Bytes) (x : Session) (s : State), Sender s n x → 1 ≤ el → el ≤ 3 → v.length = 8 → fld v 0 1 = 0 →
  ∃ t, exec (.subscribe n 0x3020 el v) s = .next t ∧ t.lastResp = some { opcode := 7, flags := 0, idx := 0x3020, el, abort := 0, detail := 0, value := [] } ∧
    t.dict.subs = s.dict.subs.filter (fun u => !(u.sess == n && u.idx == 0x3020 && u.el == el)) ∧ t.dict.sent = s.dict.sent ∧ t.obj = s.obj ∧ t.mem = s.mem

/-- NOTIFY (R53). -/
def Claim.Notify : Prop := ∀ (i : Nat) (u : Sub) (x : Session) (s : State), Up s → s.dict.subs[i]? = some u → u.idx = 0x3020 → 1 ≤ u.el → u.el ≤ 3 → subDue s u = true → isLocal u.sess = true →
  sessOf s u.sess = some x →
  ∃ t w b, exec (.notify i) s = .next t ∧ w ∈ t.dict.subs ∧ w.sess = u.sess ∧ w.idx = u.idx ∧ w.el = u.el ∧ w.nseq = (u.nseq + 1) % 2 ^ 32 ∧ w.lastAt = s.now ∧
    w.lastVal = some (s.objB 0x3020 u.el) ∧ w.owed = false ∧ t.dict.sent = s.dict.sent ++ [(x.tr, b)] ∧ t.obj = s.obj ∧ t.mem = s.mem

/-- END (R47). -/
def Claim.EndSession : Prop := ∀ (n : Nat) (x : Session) (s : State), Sender s n x →
  ∃ t, exec (.endSession n) s = .next t ∧ t.lastResp = some { opcode := 0x13, flags := 0, idx := 0, el := 0, abort := 0, detail := 0, value := [] } ∧
    t.dict.subs = s.dict.subs.filter (fun u => u.sess != n) ∧ (isLocal n = false → sessOf t n = none) ∧
    (isLocal n = true → ∃ y, sessOf t n = some y ∧ y.nextSeq = 1 ∧ y.waiting = [] ∧ y.stored = [] ∧ y.exec = none) ∧
    (∀ k, travOf s n = some k → (travAt s k).st = .opened ∨ (travAt s k).st = .closed → (travAt t k).st = .idle ∧ (travAt t k).result = aAborted) ∧ t.reg = s.reg ∧ t.mem = s.mem

/-- SESSION_IDLE_TIMEOUT (R47). -/
def Claim.SessionIdleTimeout : Prop := ∀ (n : Nat) (s : State), Up s →
  (isLocal n = true → exec (.sessionIdleTimeout n) s = .next s) ∧
  (isLocal n = false → ∃ t, exec (.sessionIdleTimeout n) s = .next t ∧ sessOf t n = none ∧ t.dict.subs = s.dict.subs.filter (fun u => u.sess != n) ∧
    (∀ m, m ≠ n → sessOf t m = sessOf s m) ∧ t.reg = s.reg ∧ t.mem = s.mem)

/-- STATS_READ (R290). -/
def Claim.StatsRead : Prop := ∀ (n el : Nat) (x : Session) (s : State), Sender s n x → 1 ≤ el → el ≤ 2 → applyingSlot s 0x5802 el 1 = none → (s.objB 0x5802 el).length ≤ 1000 →
  ∃ t, exec (.statsRead n 0x5802 el) s = .next t ∧
    t.lastResp = some { opcode := 1, flags := 0, idx := 0x5802, el, abort := 0, detail := 0, value := s.objB 0x5802 el } ∧ t.objB 0x5802 el = zeros 144 ∧
    (∀ i e, okey i e ≠ okey 0x5802 el → t.objB i e = s.objB i e) ∧ t.mem = s.mem

/-- FW_ANSWER, FW_TIMEOUT (R38). -/
def Claim.FwAnswer : Prop := ∀ (r c d : Nat) (v : Bytes) (q : FwReq) (x : Session) (e : Exec) (o : Op) (s : State), Up s → s.dict.fwReqs = [q] → q.id = r → q.op = o → q.sess ≠ 0 →
  s.dict.sessions.filter (fun x => waitsFor x (.firmware r)) = [x] → sessOf s x.num = some x → x.exec = some e → e.todo = [o] → e.direct = true → e.ending = false → o.opcode = 1 → s.upd.resetDue = false →
  (c < 65536 → d < 2 ^ 32 → (c = 0 ∨ unitIds.contains (d / 0x1000000 % 256) = true) → 14 + (if c = 0 then (answerValue s q v).length else 0) ≤ e.room →
    ∃ t, exec (.fwAnswer r c d v) s = .next t ∧ t.dict.fwReqs = [] ∧
    t.lastResp = some { opcode := 1, flags := o.flags, idx := o.idx, el := o.el, abort := c, detail := if c = 0 then 0 else d, value := if c = 0 then answerValue s q v else [] } ∧ t.obj = s.obj ∧ t.mem = s.mem) ∧
  (14 ≤ e.room → ∃ t, exec (.fwTimeout r) s = .next t ∧ t.dict.fwReqs = [] ∧
    t.lastResp = some { opcode := 1, flags := o.flags, idx := o.idx, el := o.el, abort := aTimeout, detail := det 0x70 3, value := [] } ∧ t.obj = s.obj ∧ t.mem = s.mem)

/-- FW_ANSWER (R38). -/
def Claim.FwUnlisted : Prop := ∀ (r c d : Nat) (v : Bytes) (s : State), Up s → c % 65536 ≠ 0 → unitIds.contains (d / 0x1000000 % 256) = false → exec (.fwAnswer r c d v) s = .next s

/-- FW_ANSWER, FW_TIMEOUT (R38). -/
def Claim.FwLate : Prop := ∀ (r c d : Nat) (v : Bytes) (s : State), Up s → (∀ q ∈ s.dict.fwReqs, q.id ≠ r) → exec (.fwAnswer r c d v) s = .next s ∧ exec (.fwTimeout r) s = .next s

/-- FW_DECLARE (R38). -/
def Claim.FwDeclare : Prop := ∀ (l : List FwObject) (s : State), Up s → s.dict.declared = none → s.start.rescue = false →
  exec (.fwDeclare l) s = .next { s with dict := { s.dict with declared := some (l.filter fun o => isFwIdx o.idx) } }

/-- STAKE_LATCHED (R62, R63). -/
def Claim.StakeLatched : Prop := ∀ (k : Fin 4) (s : State), Up s → (travAt s k).st = .applying → (travAt s k).waitReclaim = false → (∀ x ∈ s.dict.sessions, x.exec = none) →
  ∃ t, exec (.stakeLatched k) s = .next t ∧ (travAt t k).st = .idle ∧ (travAt t k).result = 0 ∧ (travAt t k).t = (travAt s k).t ∧ (travAt t k).staged = [] ∧
    ((travAt s k).persist = false → t.flash = s.flash) ∧
    ((travAt s k).persist = true → persistentOf s (travAt s k).staged ≠ [] → t.flash.saving.isSome = true) ∧ t.reg = s.reg ∧ t.mem = s.mem

/-- PERSIST_SAVE (R63). -/
def Claim.PersistSave : Prop := ∀ (a : Tab Bytes) (s : State), Up s → s.flash.saving = some a →
  (∃ t, exec (.persistSave false) s = .next t ∧ t.flash.saved = a ∧ t.flash.saved2 = a ∧ t.flash.saving = none ∧ t.flash.gen = s.flash.gen + 1 ∧ t.flash.gen2 = s.flash.gen + 1 ∧ t.obj = s.obj ∧ t.mem = s.mem) ∧
  (∃ t, exec (.persistSave true) s = .next t ∧ t.flash.saved = s.flash.saved ∧ t.flash.saving = none ∧ t.flash.gen = s.flash.gen ∧ t.mem = s.mem)

/-- VERSION_RECLAIM (R253). -/
def Claim.VersionReclaim : Prop := ∀ (n : Nat) (s : State), Up s → reclaimable s n = true → (∀ x ∈ s.dict.sessions, x.exec = none) → (∀ k : Fin 4, (travAt s k).st ≠ .applying) →
  exec (.versionReclaim n) s = .next { s with pp := { s.pp with live := s.pp.live.filter (· != n), olds := s.pp.olds.filter fun o => o.version != n } }

/-- VERSION_LIVE_TIMEOUT (R253). -/
def Claim.VersionLiveTimeout : Prop := ∀ (x : Session) (e : Exec) (o : Op) (s : State), Up s → s.dict.sessions.filter (fun x => waitsFor x .reclaim) = [x] → sessOf s x.num = some x →
  x.exec = some e → e.todo = [o] → e.direct = true → e.ending = false → o.opcode = 2 → 14 ≤ e.room → s.upd.resetDue = false →
  ∃ t, exec .versionLiveTimeout s = .next t ∧ t.pp = s.pp ∧
    t.lastResp = some { opcode := 2, flags := o.flags, idx := o.idx, el := o.el, abort := aBusy, detail := det 0x10 0x1005, value := [] } ∧ t.obj = s.obj ∧ t.mem = s.mem

/-- ABORT_THREAD (R64, R65). -/
def Claim.AbortThread : Prop := ∀ (k : Fin 512) (s : State), Up s →
  ((s.thread k).st ≠ .free → ∃ t, exec (.abortThread k) s = .next t ∧ t.thread k = { gen := ((s.thread k).gen + 1) % 128 } ∧ bit (t.objN 0x6821 0) 2 = true ∧
    t.dict.lastAbort = le 1 5 ++ [0] ++ le 2 k.val ∧ t.dict.abortCode = 0 ∧ t.dict.abortNs ≤ 10000 ∧ t.mem = s.mem) ∧
  ((s.thread k).st = .free → ∃ t, exec (.abortThread k) s = .next t ∧ t.cores = s.cores ∧ t.dict.lastAbort = le 1 5 ++ [0] ++ le 2 k.val ∧
    t.dict.abortCode = 0 ∧ t.dict.abortNs = 0 ∧ t.obj = s.obj ∧ t.mem = s.mem)

/-- The answer of a port to a PDU with one READ of SILICON_REV. -/
def Claim.revPdu (s : State) (n k : Nat) : Bytes :=
  plainPdu 0x80 n k 1 (encResp { opcode := 1, flags := 0, idx := 1, el := 0, abort := 0, detail := 0, value := le 2 s.part.siliconRev })

/-- A PDU with one READ of SILICON_REV. -/
def Claim.askPdu (n k : Nat) : Bytes := plainPdu 0 n k 1 (le 1 1 ++ le 1 0 ++ le 2 1 ++ le 2 0 ++ le 2 0)

/-- A dictionary port whose session is idle with FULL rights. -/
def Claim.PortIdle (s : State) (c : Fin 8) (x : Session) : Prop :=
  Up s ∧ sessOf s (0xFF00 + c.val) = some x ∧ x.exec = none ∧ x.held = [] ∧ x.rights = 2 ∧ 0 < x.nextSeq ∧ x.nextSeq < 0xFFFFFFFF ∧
    s.upd.resetDue = false ∧ applyingSlot s 1 0 1 = none

/-- PDU_RECEIVE (R42, R43, R49). -/
def Claim.PduReceive : Prop := ∀ (c : Fin 8) (head body p : Bytes) (env : Env) (x : Session) (s : State), Claim.PortIdle s c x → (vget s.dict.chans c.val {}).busy = false →
  head ++ body = Claim.askPdu (0xFF00 + c.val) x.nextSeq →
  ∃ t y, exec (.pduReceive (.port c) head body p env) s = .next t ∧ (vget t.dict.chans c.val {}).busy = false ∧ (vget t.dict.chans c.val {}).done = true ∧
    (vget t.dict.chans c.val {}).rspBuf = Claim.revPdu s (0xFF00 + c.val) x.nextSeq ∧ sessOf t (0xFF00 + c.val) = some y ∧ y.nextSeq = x.nextSeq + 1 ∧ y.exec = none ∧ t.obj = s.obj ∧ t.mem = s.mem

/-- PDU_RECEIVE (R42, R43, R49). -/
def Claim.PduBusy : Prop := ∀ (c : Fin 8) (head body p : Bytes) (env : Env) (s : State), Up s → (vget s.dict.chans c.val {}).busy = true → exec (.pduReceive (.port c) head body p env) s = .next s

/-- DP_GO (R43). -/
def Claim.DpGo : Prop := ∀ (c : Fin 8) (env : Env) (x : Session) (s : State), Claim.PortIdle s c x → (vget s.dict.chans c.val {}).busy = false →
  ((vget s.dict.chans c.val {}).reqBuf ++ zeros 4096).take 20 = Claim.askPdu (0xFF00 + c.val) x.nextSeq →
  ∃ t y, exec (.dpGo (c.castLE (by omega)) env) s = .next t ∧ (vget t.dict.chans c.val {}).busy = false ∧ (vget t.dict.chans c.val {}).done = true ∧
    (vget t.dict.chans c.val {}).rspBuf = Claim.revPdu s (0xFF00 + c.val) x.nextSeq ∧ sessOf t (0xFF00 + c.val) = some y ∧ y.nextSeq = x.nextSeq + 1 ∧ t.obj = s.obj ∧ t.mem = s.mem

/-- PDU_EXECUTE (R49). -/
def Claim.PduExecute : Prop := ∀ (c : Fin 8) (env : Env) (x : Session) (s : State), Claim.PortIdle s c x →
  x.waiting = [{ seq := x.nextSeq, enc := false, ops := [reqOp 1 0 1 0 []] }] →
  ∃ t y, exec (.pduExecute (0xFF00 + c.val) env) s = .next t ∧ (vget t.dict.chans c.val {}).rspBuf = Claim.revPdu s (0xFF00 + c.val) x.nextSeq ∧
    sessOf t (0xFF00 + c.val) = some y ∧ y.nextSeq = x.nextSeq + 1 ∧ y.waiting = [] ∧ y.exec = none ∧ t.obj = s.obj ∧ t.mem = s.mem

/-- SEQ_WAIT_EXPIRY (R49). -/
def Claim.SeqWaitExpiry : Prop := ∀ (n : Nat) (p : Pdu) (x : Session) (s : State), Up s → sessOf s n = some x → x.waiting = [p] → x.nextSeq < p.seq →
  ∃ t, exec (.seqWaitExpiry n) s = .next t ∧ sessOf t n = some { x with nextSeq := p.seq } ∧ t.obj = (s.addObjF 0x0112 3 0 4 (p.seq - x.nextSeq)).obj ∧ t.reg = s.reg ∧ t.mem = s.mem

/-- OPEN_1 (R44, R46). -/
def Claim.Open1 : Prop := ∀ (k : Nat) (nm em : Bytes) (s : State), Up s → transportOn s .field = true → nm.length = 32 → em.length = 56 → k < 256 → s.dict.open1Count = 0 → s.sec.entropyOk = true →
  s.sec.idFault = false → slotRights s k ≠ 0 → (∀ x ∈ s.dict.sessions, isLocal x.num = true) → (∀ x ∈ s.dict.sessions, x.opened = true) →
  ∃ t x b, exec (.open1 .field nm k em) s = .next t ∧ t.dict.sessions = s.dict.sessions ++ [x] ∧ x.num = 1 ∧ x.opened = false ∧ x.tr = .field ∧ x.rights = slotRights s k ∧ x.keySlot = k ∧
    x.nm = nm ∧ x.em = em ∧ x.openedAt = s.now ∧ t.dict.sent = s.dict.sent ++ [(.field, b)] ∧ t.obj = s.obj ∧ t.mem = s.mem

/-- OPEN_3 (R44, R46). -/
def Claim.Open3 : Prop := ∀ (n : Nat) (env : Env) (x : Session) (s : State), Up s → sessOf s n = some x → 0 < n → n < 256 → x.opened = false → x.tr = .field → transportOn s .field = true →
  s.now ≤ x.openedAt + 5000000000 → openRemote s < 16 →
  (env.sigOk = true → ∃ t y b, exec (.open3 n env) s = .next t ∧ sessOf t n = some y ∧ y.opened = true ∧ y.nextSeq = 2 ∧ y.rights = x.rights ∧ y.keys = sessionKeys x ∧
    t.dict.sent = s.dict.sent ++ [(.field, b)] ∧ t.obj = s.obj ∧ t.mem = s.mem) ∧
  (env.sigOk = false → ∃ t b, exec (.open3 n env) s = .next t ∧ sessOf t n = some x ∧ t.dict.sent = s.dict.sent ++ [(.field, b)] ∧ t.obj = (s.addObjF 0x0112 0 0 4 1).obj ∧ t.mem = s.mem)

/-- FLAG_CLEAR (R32, R33). -/
def Claim.FlagClear : Prop := ∀ (idx el ones b : Nat) (s : State), Up s → isFlagObj idx = true → b < 32 →
  (∃ t, exec (.flagClear idx el ones 0) s = .next t ∧ bit (t.objN idx el) b = (bit (s.objN idx el) b && !bit ones b) ∧
    (∀ i e, okey i e ≠ okey idx el → t.objB i e = s.objB i e) ∧ t.reg = s.reg ∧ t.mem = s.mem) ∧
  (okey (counterOf idx el b).1 (counterOf idx el b).2 ≠ okey idx el → ∃ t, exec (.flagClear idx el ones (2 ^ b)) s = .next t ∧ bit (t.objN idx el) b = true ∧ t.reg = s.reg ∧ t.mem = s.mem)

/-- REGISTER_WRITE (R29, R30). -/
def Claim.RegisterWrite : Prop := ∀ (c : CoreId) (a w v : Nat) (s : State), Up s → inUnitWindow a = false →
  (allMemory s a w = true → ∃ t, exec (.registerWrite c a w v) s = .next t ∧ readMemN t.mem a w = le w v ∧
    (∀ b, b < a ∨ a + w ≤ b → readMem t.mem b = readMem s.mem b) ∧ t.reg = s.reg ∧ (s.dram.poison = [] → t.obj = s.obj)) ∧
  (allMemory s a w = false → exec (.registerWrite c a w v) s = .next (s.fault c a 0))

/-- REGISTER_WRITE (R29, R30). -/
def Claim.RegisterAlign : Prop := ∀ (c : CoreId) (a w v : Nat) (s : State), Up s → inUnitWindow a = true → (w ≠ 4 ∧ w ≠ 8) ∨ a % w ≠ 0 →
  exec (.registerWrite c a w v) s = .next (s.fault c a 0)

/-- REGISTER_WRITE, DMA_DOORBELL (R29, R30). -/
def Claim.RegisterDma : Prop := ∀ (c : CoreId) (ch : Fin 64) (v : Nat) (s : State), Up s →
  ∃ t, exec (.registerWrite c (chBase ch.val + 0xC) 4 v) s = .next t ∧ exec (.dmaDoorbell c ch v) s = .next t ∧ t.regAt (chBase ch.val + 0xC) = v % 4096

/-- REGISTER_WRITE, YIELD (R29, R30). -/
def Claim.RegisterDsp : Prop := ∀ (c : CoreId) (v : Nat) (s : State), Up s → bits v 60 4 = 3 →
  ∃ t, exec (.registerWrite c (dspBase c + 0x20) 8 v) s = .next t ∧ exec (.yield c) s = .next t

/-- REGISTER_WRITE (R29, R30). -/
def Claim.RegisterForeign : Prop := ∀ (c d : CoreId) (k v : Nat) (s : State), Up s → c ≠ d → k < 32 →
  exec (.registerWrite c (dspBase d + 8 * k) 8 v) s = .next (s.fault c (dspBase d + 8 * k) 0)

/-- REGISTER_WRITE, UART_DATA_WRITE (R29, R30). -/
def Claim.RegisterUart : Prop := ∀ (c : CoreId) (v : Nat) (s : State), Up s →
  ∃ t, exec (.registerWrite c 0x10040000 4 v) s = .next t ∧ exec (.uartDataWrite c v) s = .next t

/-- REGISTER_WRITE (R29, R30). -/
def Claim.CrossingSent : Prop := ∀ (c : CoreId) (v : Nat) (s : State), Up s → (tgetD s.start.crossings 0x14000000 {}).ackAt ≤ s.now →
  ∃ t x, exec (.registerWrite c 0x14000000 4 v) s = .next t ∧ tget t.start.crossings 0x14000000 = some x ∧
    x.toggle = !(tgetD s.start.crossings 0x14000000 {}).toggle ∧ x.held = v ∧ s.now < x.ackAt ∧
    t.pair.kickAt = (if bit v 0 = true ∧ s.pair.st = .active then s.now + s.pair.kickMs * 1000000 else s.pair.kickAt) ∧ t.obj = s.obj ∧ t.mem = s.mem

/-- REGISTER_WRITE (R29, R30). -/
def Claim.CrossingEarly : Prop := ∀ (c : CoreId) (v : Nat) (s : State), Up s → s.now < (tgetD s.start.crossings 0x14000000 {}).ackAt →
  ∃ t, exec (.registerWrite c 0x14000000 4 v) s = .next t ∧ bit (t.objN 0x1005 0) 0 = true ∧ t.objB 0x1004 0 = le 1 7 ++ le 1 10 ++ s.datum.t.enc ∧
    t.pair = s.pair ∧ t.start = s.start ∧ t.mem = s.mem

/-- CORE_LOAD (R29, R399). -/
def Claim.CoreLoad : Prop := ∀ (c : CoreId) (a w : Nat) (f : Bool) (flips : List Nat) (s : State), Up s → inUnitWindow a = false → allMemory s a w = true →
  (loadOut s a flips = .clean → exec (.coreLoad c a w f flips) s = .next (s.modCore c fun k => { k with readData := leNat (readMemN s.mem a w) })) ∧
  (loadOut s a flips = .checkBit ∨ (∃ i, loadOut s a flips = .dataBit i) → ∃ t, exec (.coreLoad c a w f flips) s = .next t ∧
    (t.core c).readData = leNat (readMemN s.mem a w) ∧ bit (t.objN 0x1104 0) 2 = true ∧ (t.core c).accessFault = (s.core c).accessFault ∧ t.mem = s.mem) ∧
  (loadOut s a flips = .uncorrectable → f = true → ∃ t, exec (.coreLoad c a w f flips) s = .next t ∧
    (t.core c).readData = leNat (readMemN s.mem a w) ∧ bit (t.objN 0x1104 0) 3 = true ∧ t.mem = s.mem) ∧
  (loadOut s a flips = .uncorrectable → f = false → ∃ t, exec (.coreLoad c a w f flips) s = .next t ∧ (t.core c).accessFault = some (a, 1) ∧
    (t.core c).readData = (s.core c).readData ∧ bit (t.objN 0x1104 0) 3 = true ∧ t.mem = s.mem) ∧
  (loadOut s a flips = .poison → ∃ t, exec (.coreLoad c a w f flips) s = .next t ∧ (t.core c).accessFault = some (a, if f then 2 else 1) ∧
    (t.core c).readData = (s.core c).readData ∧ bit (t.objN 0x1104 0) 3 = true ∧ t.mem = s.mem)

/-- CORE_LOAD (R29, R399). -/
def Claim.LoadRom : Prop := ∀ (c : CoreId) (a w : Nat) (f : Bool) (flips : List Nat) (s : State), Up s → a + w ≤ 0x10000 → 1 ≤ w → loadOut s a flips = .clean →
  exec (.coreLoad c a w f flips) s = .next (s.modCore c fun k => { k with readData := leNat ((List.range w).map fun i => Config.romByte (a + i)) })

/-- CORE_LOAD, DSP_NEXT_READ (R29, R399). -/
def Claim.LoadDsp : Prop := ∀ (c : CoreId) (f : Bool) (flips : List Nat) (s : State), Up s →
  ∃ t u, exec (.coreLoad c (dspBase c) 8 f flips) s = .next t ∧ exec (.dspNextRead c) s = .next u ∧ (t.core c).readData = (u.core c).readData ∧
    (t.core c).opnds = (u.core c).opnds ∧ t.cores.threads = u.cores.threads ∧ t.obj = u.obj ∧ t.mem = s.mem

/-- CORE_LOAD (R29, R399). -/
def Claim.LoadAlign : Prop := ∀ (c : CoreId) (a w : Nat) (f : Bool) (flips : List Nat) (s : State), Up s → inUnitWindow a = true → (w ≠ 4 ∧ w ≠ 8) ∨ a % w ≠ 0 →
  exec (.coreLoad c a w f flips) s = .next (s.fault c a 0)

/-- CORE_LOAD (R29, R399). -/
def Claim.LoadFault : Prop := ∀ (c : CoreId) (a w : Nat) (f : Bool) (flips : List Nat) (s : State), Up s → inUnitWindow a = false → allMemory s a w = false → (inRom a && inRom (a + w - 1)) = false →
  exec (.coreLoad c a w f flips) s = .next (s.fault c a 0)

/-- INBOUND_REQUEST (R304, R305). -/
def Claim.InboundRequest : Prop := ∀ (q : PcieIn) (s : State), Up s → s.wired.pcieRoot = true → q.bar0 = false → inInbound s q.addr q.width = true →
  (List.range q.width).all (fun i => dramHas s (q.addr + i)) = true →
  (q.write = true → q.poisoned = false → ∃ t, exec (.inboundRequest q) s = .next t ∧ readMemN t.mem q.addr q.width = le q.width q.value ∧
    (∀ b, b < q.addr ∨ q.addr + q.width ≤ b → readMem t.mem b = readMem s.mem b) ∧ t.reg = s.reg ∧ (s.dram.poison = [] → t.obj = s.obj)) ∧
  (q.write = false → q.ecc = .clean → memPoisoned s q.addr q.width = false → ∃ t, exec (.inboundRequest q) s = .next t ∧
    t.wired.completion = some (leNat (readMemN s.mem q.addr q.width), false, false) ∧ t.mem = s.mem ∧ t.obj = s.obj ∧ t.reg = s.reg) ∧
  (q.write = false → q.ecc = .poisoned ∨ memPoisoned s q.addr q.width = true → ∃ t, exec (.inboundRequest q) s = .next t ∧
    t.wired.completion = some (leNat (readMemN s.mem q.addr q.width), true, false) ∧ bit (t.objN 0x1104 0) 3 = true ∧ t.mem = s.mem ∧ t.reg = s.reg)

/-- INBOUND_REQUEST (R304, R305). -/
def Claim.InboundUnsupported : Prop := ∀ (q : PcieIn) (s : State), Up s → s.wired.pcieRoot = q.bar0 → exec (.inboundRequest q) s = .next { s with wired := { s.wired with completion := some (0, false, true) } }

/-- DESCRIBE (R37). -/
def Claim.Describe : Prop := ∀ (n i e : Nat) (x : Session) (row : ObjRow) (s : State), Sender s n x → i < 65536 → e < 65536 → isFwIdx i = false → objRow? i e = some row →
  ∃ t, exec (.describe n i e) s = .next t ∧ answered t 0x11 0 ok ∧
    (tgetD t.dict.cmds (okey 0x11 0) {}).out = Config.describeRecord row.typ (Acc.code row.acc) row.pers (Len.max row.len) (s.dflt i e) ∧ t.obj = s.obj ∧ t.mem = s.mem

/-- DIAG_TX_STOP (R121). -/
def Claim.DiagTxStop : Prop := ∀ (n : Nat) (r : Radio) (rest : Bytes) (x : Session) (s : State), Sender s n x → passes s 0x7F80 0 (0 :: rest) = true →
  let v := taken 0x7F80 0 (0 :: rest)
  fld v 0 1 = 0 → fld v 1 1 = r.val → (s.fe r).diag.running = true →
  ∃ t, exec (.diagTxStop n rest) s = .next t ∧ answered t 0x7F80 0 ok ∧ (t.fe r).diag.running = false ∧ (t.fe r).diag.ended = 3 ∧ (t.fe r).st = .off ∧ t.mem = s.mem

/-- What R112, R114, R118 and R119 ask of a diagnostic transmission of mode `m` before it starts. -/
def Claim.DiagOk (s : State) (n : Nat) (r : Radio) (v : Bytes) (m : Nat) (e : RegChan) (u : Nat) : Prop :=
  let c := chanOf (fld v 4 4) (bwKhz (fld v 8 1))
  let ts := maskTrx (fld v 2 2)
  let req (t : Trx) : Int := 10 * fldI v 10 2 - chainLoss ts.length - 10 * s.objI 0x7010 (t + 1) (2 * bandOf c) 2
  isLocal n = true ∧ fld v 0 1 = m ∧ fld v 1 1 = r.val ∧ (s.fe r).st = .off ∧ s.objN 0x7000 0 ≠ 0 ∧ permits s c = some e ∧ fld v 2 2 ≠ 0 ∧ ts.all (fun t => trxAssign s t == r.val + 1) = true ∧
    fld v 12 4 ≤ s.objN 0x7F81 0 ∧ diagRange v = false ∧ txUnits s ts (fun t => dacPower s e c ts.length (req t) t) = some u ∧ u ≤ roomFor s 4 r.val false

/-- DIAG_TX_CW (R118). -/
def Claim.DiagTxCw : Prop := ∀ (n u : Nat) (r : Radio) (e : RegChan) (rest : Bytes) (x : Session) (s : State), Sender s n x → passes s 0x7F80 0 (1 :: rest) = true →
  let v := taken 0x7F80 0 (1 :: rest)
  Claim.DiagOk s n r v 1 e u →
  ∃ t, exec (.diagTxCw n rest) s = .next t ∧ answered t 0x7F80 0 ok ∧ (t.fe r).diag.mode = 1 ∧ (t.fe r).diag.chan = some (chanOf (fld v 4 4) (bwKhz (fld v 8 1))) ∧ (t.fe r).diag.durMs = fld v 12 4 ∧
    (t.fe r).diag.running = false ∧ grantUnits t 4 r.val = u ∧ t.mem = s.mem

/-- DIAG_TX_PACKET (R118). -/
def Claim.DiagTxPacket : Prop := ∀ (n u : Nat) (r : Radio) (e : RegChan) (rest : Bytes) (x : Session) (s : State), Sender s n x → passes s 0x7F80 0 (2 :: rest) = true →
  let v := taken 0x7F80 0 (2 :: rest)
  Claim.DiagOk s n r v 2 e u →
  ∃ t, exec (.diagTxPacket n rest) s = .next t ∧ answered t 0x7F80 0 ok ∧ (t.fe r).diag.mode = 2 ∧ (t.fe r).diag.chan = some (chanOf (fld v 4 4) (bwKhz (fld v 8 1))) ∧ (t.fe r).diag.durMs = fld v 12 4 ∧
    (t.fe r).diag.running = false ∧ grantUnits t 4 r.val = u ∧ t.mem = s.mem

/-- DIAG_TX_MASK (R118). -/
def Claim.DiagTxMask : Prop := ∀ (n u : Nat) (r : Radio) (e : RegChan) (rest : Bytes) (x : Session) (s : State), Sender s n x → passes s 0x7F80 0 (3 :: rest) = true →
  let v := taken 0x7F80 0 (3 :: rest)
  Claim.DiagOk s n r v 3 e u →
  ∃ t, exec (.diagTxMask n rest) s = .next t ∧ answered t 0x7F80 0 ok ∧ (t.fe r).diag.mode = 3 ∧ (t.fe r).diag.chan = some (chanOf (fld v 4 4) (bwKhz (fld v 8 1))) ∧ (t.fe r).diag.durMs = fld v 12 4 ∧
    (t.fe r).diag.running = false ∧ grantUnits t 4 r.val = u ∧ t.mem = s.mem

/-- DATUM_INCR_WRITE (R318). -/
def Claim.DatumIncrWrite : Prop := ∀ (n : Nat) (v : Bytes) (x : Session) (s : State), Sender s n x → passes s 0x1201 0 v = true → reservedBy s none 0x1201 0 = false →
  ∃ t, exec (.datumIncrWrite n v) s = .next t ∧ answered t 0x1201 0 ok ∧ t.datum = { s.datum with incrPend := some (leNat (taken 0x1201 0 v)) } ∧ t.objB 0x1201 0 = taken 0x1201 0 v ∧ t.mem = s.mem

/-- STEP_RELATIVE (R317). -/
def Claim.StepRelative : Prop := ∀ (n : Nat) (rest : Bytes) (x : Session) (s : State), Sender s n x → passes s 0x1202 0 (0 :: rest) = true → s.datum.restored = true →
  let v := taken 0x1202 0 (0 :: rest)
  fld v 0 1 = 0 →
  ∃ t y, exec (.stepRelative n rest) s = .next t ∧ t.datum = { s.datum with steps := s.datum.steps ++ [{ absolute := false, units := fldI v 4 8 * 65536, follow := false, sess := some n }] } ∧
    sessOf t n = some y ∧ waitsFor y .datumStep = true ∧ t.lastResp = s.lastResp ∧ t.obj = s.obj ∧ t.mem = s.mem

/-- STEP_ABSOLUTE (R317). -/
def Claim.StepAbsolute : Prop := ∀ (n : Nat) (rest : Bytes) (x : Session) (s : State), Sender s n x → passes s 0x1202 0 (1 :: rest) = true → s.datum.restored = true →
  let v := taken 0x1202 0 (1 :: rest)
  fld v 0 1 = 1 →
  ∃ t y, exec (.stepAbsolute n rest) s = .next t ∧ t.datum = { s.datum with steps := s.datum.steps ++ [{ absolute := true, units := (datumAt v 4).units, follow := false, sess := some n }] } ∧
    sessOf t n = some y ∧ waitsFor y .datumStep = true ∧ t.lastResp = s.lastResp ∧ t.obj = s.obj ∧ t.mem = s.mem

/-- STEP_RELATIVE (R317). -/
def Claim.StepNotRestored : Prop := ∀ (n : Nat) (rest : Bytes) (x : Session) (s : State), Sender s n x → passes s 0x1202 0 (0 :: rest) = true → s.datum.restored = false →
  ∃ t, exec (.stepRelative n rest) s = .next t ∧ answered t 0x1202 0 (aBusy, det 0x51 1) ∧ t.datum = s.datum ∧ t.mem = s.mem

/-- TPO_CFG_WRITE (R322). -/
def Claim.TpoCfgWrite : Prop := ∀ (n : Nat) (o : Fin 4) (v : Bytes) (x : Session) (s : State), Sender s n x → passes s 0x1210 (o.val + 1) v = true → reservedBy s none 0x1210 (o.val + 1) = false →
  ∃ t, exec (.tpoCfgWrite n (o.val + 1) v) s = .next t ∧ answered t 0x1210 (o.val + 1) ok ∧ t.objB 0x1210 (o.val + 1) = taken 0x1210 (o.val + 1) v ∧
    (tpoMode t o = 0 → (t.tpo o).next = none) ∧
    (tpoMode t o = 1 → s.datum.t.units ≤ tpoStart t o → (t.tpo o).next = some (datumOf (tpoStart t o))) ∧
    (tpoMode t o = 1 → tpoStart t o < s.datum.t.units → (t.tpo o).next = none ∧ bit (t.objN 0x1250 0) 3 = true) ∧
    (tpoMode t o = 2 → (t.tpo o).next = some (datumOf (firstEdge (tpoStart t o) (tpoPeriod t o) s.datum.t.units))) ∧ t.mem = s.mem

/-- CORE_DVFS_WRITE (R420). -/
def Claim.CoreDvfsWrite : Prop := ∀ (n : Nat) (c : CoreId) (v : Bytes) (x : Session) (s : State), Sender s n x → passes s 0x1312 (c.val + 1) v = true → reservedBy s none 0x1312 (c.val + 1) = false →
  let p := pointOf (leNat (taken 0x1312 (c.val + 1) v))
  p ≤ pointOf (coreCap s) →
  (p ≤ ((coresReady s).core c).point → ∃ t, exec (.coreDvfsWrite n (c.val + 1) v) s = .next t ∧ answered t 0x1312 (c.val + 1) ok ∧ t.objB 0x1312 (c.val + 1) = taken 0x1312 (c.val + 1) v ∧
    (t.core c).point = p ∧ grantUnits t 5 c.val = pointCharge p ∧ t.mem = s.mem) ∧
  (((coresReady s).core c).point < p → pointCharge p ≤ roomFor (coresReady s) 5 c.val false → ∃ t, exec (.coreDvfsWrite n (c.val + 1) v) s = .next t ∧
    answered t 0x1312 (c.val + 1) ok ∧ (t.core c).point = ((coresReady s).core c).point ∧ (c.val, p) ∈ t.power.pendingCore ∧ grantUnits t 5 c.val = pointCharge p ∧ t.mem = s.mem)

/-- CAPTURE_POP (R327). -/
def Claim.CapturePop : Prop := ∀ (n : Nat) (v : Bytes) (i : Fin 3) (x : Session) (s : State), Sender s n x → passes s 0x1222 0 v = true → fld (taken 0x1222 0 v) 0 1 = i.val →
  (∀ r l, vget s.datum.fifo i [] = r :: l → ∃ t, exec (.capturePop n v) s = .next t ∧ answered t 0x1222 0 ok ∧ vget t.datum.fifo i [] = l ∧
    t.datum.popped = [1] ++ le 1 i.val ++ boolByte r.falling ++ [0] ++ le 4 r.gen ++ r.stamp.enc ∧ t.obj = s.obj ∧ t.mem = s.mem) ∧
  (vget s.datum.fifo i [] = [] → ∃ t, exec (.capturePop n v) s = .next t ∧ answered t 0x1222 0 ok ∧ t.datum.fifo = s.datum.fifo ∧ t.datum.popped = [0] ++ le 1 i.val ++ zeros 18 ∧ t.mem = s.mem)

/-- CREATE (R409). -/
def Claim.CreateFull : Prop := ∀ (c : CoreId) (op arg : Nat) (s : State), Up s → bits op 24 8 ≠ 0 → (∀ k, k < 512 → (s.thread k).st ≠ .free) →
  ∃ t, exec (.create c op arg) s = .next t ∧ (t.core c).result = 0x10000 ∧ bit (t.objN 0x6821 0) 1 = true ∧
    t = ((((s.setReg (dspBase c + 0x18) arg).stat 0x6820 0 6 1).setFlag 0x6821 0 1).modCore c fun k => { k with result := 0x10000 })

/-- CAPTURE_POP, READ (R327). -/
def Claim.CapturePopRead : Prop := ∀ (n : Nat) (v : Bytes) (i : Fin 3) (env : Env) (x : Session) (s : State), Sender s n x → env.poisoned = false → passes s 0x1222 0 v = true → fld (taken 0x1222 0 v) 0 1 = i.val → applyingSlot s 0x1222 0 1 = none →
  ∃ t, exec (.capturePop n v) s = .next t ∧ answered t 0x1222 0 ok ∧ ∃ u, exec (.read n 0x1222 0 ⟨none, env⟩) t = .next u ∧
    (∀ r l, vget s.datum.fifo i [] = r :: l → vget t.datum.fifo i [] = l ∧ u.lastResp = some { opcode := 1, flags := 0, idx := 0x1222, el := 0, abort := 0, detail := 0, value := [1] ++ le 1 i.val ++ boolByte r.falling ++ [0] ++ le 4 r.gen ++ r.stamp.enc }) ∧
    (vget s.datum.fifo i [] = [] → vget t.datum.fifo i [] = [] ∧ u.lastResp = some { opcode := 1, flags := 0, idx := 0x1222, el := 0, abort := 0, detail := 0, value := [0] ++ le 1 i.val ++ zeros 18 }) ∧
    (∀ k : Fin 3, k ≠ i → vget t.datum.fifo k [] = vget s.datum.fifo k [])

/-- SUBSCRIBE (R52). -/
def Claim.SubFull : Prop := ∀ (n el : Nat) (v : Bytes) (x : Session) (s : State), Sender s n x → 1 ≤ el → el ≤ 3 → v.length = 8 → subRangeOk v = true → fld v 0 1 ≠ 0 →
  let rest := s.dict.subs.filter fun u => !(u.sess == n && u.idx == 0x3020 && u.el == el)
  (64 ≤ rest.length ∨ 16 ≤ (rest.filter fun u => u.sess == n).length → ∃ t, exec (.subscribe n 0x3020 el v) s = .next t ∧ t.dict.subs = s.dict.subs ∧
    t.lastResp = some { opcode := 7, flags := 0, idx := 0x3020, el, abort := aFull, detail := 0x70000009, value := [] } ∧ t.obj = s.obj ∧ t.mem = s.mem) ∧
  (rest.length < 64 → (rest.filter fun u => u.sess == n).length < 16 → ∃ t, exec (.subscribe n 0x3020 el v) s = .next t ∧
    t.lastResp = some { opcode := 7, flags := 0, idx := 0x3020, el, abort := 0, detail := 0, value := [] } ∧ t.dict.subs.length = rest.length + 1 ∧
    (t.dict.subs.filter fun u => u.sess == n && u.idx == 0x3020 && u.el == el).map (fun u => (u.mode, u.minMs, u.periodMs)) = [(fld v 0 1, fld v 2 2, fld v 4 4)])

/-- SUBSCRIBE (R52). -/
def Claim.SubWriteOnly : Prop := ∀ (n idx el : Nat) (v : Bytes) (x : Session) (row : ObjRow) (s : State), Sender s n x → isFwIdx idx = false → objRow? idx el = some row → row.acc = .wo →
  ∃ t, exec (.subscribe n idx el v) s = .next t ∧ t.dict.subs = s.dict.subs ∧
    t.lastResp = some { opcode := 7, flags := 0, idx, el, abort := aAccess, detail := 0x70000012, value := [] } ∧ t.obj = s.obj ∧ t.mem = s.mem

/-- CLOSE, STAKE, STAGE, ABORT (R54). -/
def Claim.TraverseStates : Prop := ∀ (n : Nat) (x : Session) (s : State), Sender s n x →
  ((∀ k, travOf s n = some k → (travAt s k).st ≠ .opened) → ∃ t, exec (.close n) s = .next t ∧ t.dict.travs = s.dict.travs ∧
    t.lastResp = some { opcode := 4, flags := 0, idx := 0, el := 0, abort := aState, detail := 0x70000008, value := [] } ∧ t.obj = s.obj ∧ t.mem = s.mem) ∧
  (∀ v p, v.length = 16 → (∀ k, travOf s n = some k → (travAt s k).st ≠ .closed) → ∃ t, exec (.stake n v p) s = .next t ∧ t.dict.travs = s.dict.travs ∧
    t.lastResp = some { opcode := 5, flags := if p then 2 else 0, idx := 0, el := 0, abort := aState, detail := 0x70000008, value := [] } ∧ t.obj = s.obj ∧ t.mem = s.mem) ∧
  (∀ el v k, 1 ≤ el → el ≤ 3 → passes s 0x3020 el v = true → travOf s n = some k → (travAt s k).st = .armed ∨ (travAt s k).st = .applying →
    ∃ t, exec (.stage n 0x3020 el v) s = .next t ∧ t.dict.travs = s.dict.travs ∧
    t.lastResp = some { opcode := 3, flags := 0, idx := 0x3020, el, abort := aState, detail := 0x70000008, value := [] } ∧ t.obj = s.obj ∧ t.mem = s.mem) ∧
  (travOf s n = none → ∃ t, exec (.abort n) s = .next t ∧ t.dict.travs = s.dict.travs ∧
    t.lastResp = some { opcode := 6, flags := 0, idx := 0, el := 0, abort := 0, detail := 0, value := [] } ∧ t.obj = s.obj ∧ t.mem = s.mem) ∧
  (∀ k, travOf s n = some k → (travAt s k).st = .applying → ∃ t, exec (.abort n) s = .next t ∧ t.dict.travs = s.dict.travs ∧
    t.lastResp = some { opcode := 6, flags := 0, idx := 0, el := 0, abort := aState, detail := 0x70000008, value := [] } ∧ t.obj = s.obj ∧ t.mem = s.mem)

/-- DMA_DESCRIPTOR_DONE (R391). -/
def Claim.DmaHalts : Prop := ∀ (c : Fin 64) (x : DmaCur) (s : State), Up s → dmaCur s c = some x → x.ready = true → 2 ≤ x.status → x.status < 256 →
  allMemory s x.d.addr 32 = true →
  ∃ t, exec (.dmaDescriptorDone c) s = .next t ∧ dmaCur t c = none ∧ bits (readWord t (x.d.addr + 16)) 8 8 = x.status ∧ bit (readWord t (x.d.addr + 16)) 0 = true ∧
    chHead t c.val = (chHead s c.val + 1) % chSize s c.val ∧ chState t c.val = 4 ∧ bit (t.regAt (chBase c.val + 0x14)) 1 = true ∧ (∀ k, k ≠ c → dmaCur t k = dmaCur s k)

/-- DMA_DOORBELL, DMA_RESUME (R391). -/
def Claim.DmaHalted : Prop := ∀ (c : Fin 64) (k : CoreId) (tail : Nat) (s : State), Up s → chState s c.val = 4 →
  hasBurst s c.val = false ∧ (∃ t, exec (.dmaDoorbell k c tail) s = .next t ∧ chState t c.val = 4 ∧ t.mem = s.mem) ∧
  (chOn s c.val = true → chStop s c.val = false → ∃ t, exec (.dmaResume k c) s = .next t ∧ chState t c.val = (if chWork s c.val then 1 else 0) ∧ chHead t c.val = chHead s c.val ∧ t.mem = s.mem)

/-- REF_WINDOW (R475). -/
def Claim.RefReady : Prop := ∀ (m n : Nat) (s : State), s.start.phase = .stepB → s.start.xoEn = true → s.start.refRun = 0 →
  ∃ t, exec (.refWindow m) s = .next t ∧ t.start.phase = .stepB ∧ ∃ u, exec (.refWindow n) t = .next u ∧
    (u.start.phase ≠ .stepB ↔ (78047 ≤ m ∧ m ≤ 78203) ∧ (78047 ≤ n ∧ n ≤ 78203))

/-! ### What a command may change -/

/-- The commands whose effect reaches every unit: they serve dictionary operations, or reset or power the device down. -/
def Claim.servesAny (i : Instr) : Bool :=
  match i with
  | .registerWrite _ _ _ _ | .pduReceive _ _ _ _ _ | .dpGo _ _ | .pduExecute _ _ | .read _ _ _ _ | .write _ _ _ _ _
  | .stage _ _ _ _ | .close _ | .stake _ _ _ | .abort _ | .subscribe _ _ _ _ | .open1 _ _ _ _ | .open3 _ _ | .endSession _
  | .fwAnswer _ _ _ _ | .fwTimeout _ | .stakeLatched _ | .describe _ _ _ | .diagTxStop _ _ | .diagTxCw _ _ | .diagTxPacket _ _
  | .diagTxMask _ _ | .staAlloc _ _ | .staEntryWrite _ _ _ | .staFree _ _ | .addRx _ _ | .addTx _ _ | .deleteRx _ _
  | .deleteTx _ _ | .twtAdd _ _ | .twtDelete _ _ | .memberJoin _ _ | .memberReject _ _ | .memberRemove _ _ | .ppModeWrite _ _
  | .tableEntryWrite _ _ _ _ | .commit _ | .discard _ | .versionReclaim _ | .versionLiveTimeout | .ruleInsert _ _
  | .ruleDelete _ _ | .bridgeInsert _ _ | .bridgeDelete _ _ | .bridgeFlush _ _ | .routeInsert _ _ | .routeDelete _ _
  | .flowInsert _ _ | .flowDelete _ _ | .flowFlush _ _ | .statsRead _ _ _ | .pcieCfgRead _ _ _ | .pcieCfgWrite _ _ _
  | .i2cXfer _ _ _ | .gpioOutWrite _ _ | .datumIncrWrite _ _ | .stepRelative _ _ | .stepAbsolute _ _ | .stepApply
  | .tpoCfgWrite _ _ _ | .capturePop _ _ | .install _ _ | .erase _ _ | .rekeyPop _ _ | .attest _ _ | .extend _ _ | .program _ _ _
  | .revoke _ _ _ | .debugDisable _ _ _ | .challenge _ _ | .respond _ _ _ | .migrateStart _ _ | .migrateResume _ _
  | .dmaBurst _ | .dmaDescriptorDone _ | .powerCmdStandby _ _ | .powerCmdHibernate _ _ | .entryDone | .coreDvfsWrite _ _ _
  | .heartbeatReceive _ | .heartbeatMissed | .mirrorAck _ | .stakeMirrorTimeout _ | .pairSwitchover _ | .resync _ | .logAck _ _
  | .begin _ _ _ | .updateData _ _ | .finish _ _ _ | .activate _ _ | .updateDiscard _ _ | .revert _ _ | .benchmark _ _
  | .trialWindowExpiry | .resetN _ | .pgLost _ | .pllLost _ | .startupStepTimeout _ | .thermTrip _ | .aonPowerOn | .powerLoss
  | .inboundRequest _ => true
  | _ => false

/-- Beside `servesAny`, the commands that may change the flash. -/
def Claim.mayFlash (i : Instr) : Bool :=
  match i with
  | .persistSave _ | .abortDramMigration | .migrationBlock _ | .resetRelease _ => true
  | _ => false

/-- Beside `servesAny`, the commands that may change memory. -/
def Claim.mayMem (i : Instr) : Bool :=
  match i with
  | .abortDmaChannel _ | .probeRequest _ _ _ | .mpduReceive _ _ | .mtxDoorbell _ _ _ | .mtxComplete _ _ _
  | .egressRequest _ _ _ _ _ | .ringRxDeliver _ | .txRingDoorbell _ _ _ _ _ | .dramRead _ _ | .dramWrite _ _ | .dramIssue _ _
  | .entryAborted _ _ | .pllLock => true
  | _ => false

/-- Beside `servesAny`, the commands that may change the fuses, calibration and identity of the part. -/
def Claim.mayPart (i : Instr) : Bool :=
  match i with
  | .resetRelease _ => true
  | _ => false

/-- Beside `servesAny`, the commands that may change the packet processor. -/
def Claim.mayTables (i : Instr) : Bool :=
  match i with
  | .stakeInstant _ | .abortTraverse _ _ | .packetIngress _ | .packetHandoff _ | .bridgeAgeExpiry _ | .flowIdleExpiry _
  | .followStep | .entryAborted _ _ => true
  | _ => false

/-- Beside `servesAny`, the commands that may change the traffic manager's queues. -/
def Claim.mayQueues (i : Instr) : Bool :=
  match i with
  | .stakeInstant _ | .abortTraverse _ _ | .channelChangeDone _ _ _ | .relockDone _ _ | .faultRetry _ _ _ | .recalDone _ _
  | .tbtt _ _ _ | .probeRequest _ _ _ | .ppduAssembly _ _ | .ackReceive _ _ | .ackTimeout _ | .psPoll _ _ | .uapsdTrigger _ _ _
  | .tbPpduReceive _ _ | .chainStart _ | .slotStart _ | .sharedPosition _ _ _ | .chainFrameReceive _ _ | .chainAckTimeout _
  | .packetHandoff _ | .frameEnqueue _ | .egressRequest _ _ _ _ _ | .dramReturn _ | .linkDown _ | .ringRxDeliver _
  | .txRingDoorbell _ _ _ _ _ | .followStep | .entryAborted _ _ | .supplyFailAssert _ => true
  | _ => false

/-- Beside `servesAny`, the commands that may change the ports. -/
def Claim.mayWired (i : Instr) : Bool :=
  match i with
  | .stakeInstant _ | .abortCipherLane _ | .abortDmaChannel _ | .abortTraverse _ _ | .packetIngress _ | .packetHandoff _
  | .frameEnqueue _ | .egressRequest _ _ _ _ _ | .ethFrameReceive _ _ | .linkDown _ | .linkUp _ _ _ _ _ | .pauseReceive _ _ _ _
  | .pauseExpiry _ _ | .pauseRefresh _ _ | .ringRxDeliver _ | .txRingDoorbell _ _ _ _ _ | .plcaLost | .plcaRestored
  | .uartDataWrite _ _ | .uartDataRead _ | .uartRxByte _ | .followStep | .cipherJobStart _ _ | .cipherJobDone _ _ | .laneParity _
  | .entryAborted _ _ | .supplyFailAssert _ | .resetRelease _ | .coreLoad _ _ _ _ _ | .aerUncorrectable => true
  | _ => false

/-- Beside `servesAny`, the commands that may change Datum. -/
def Claim.mayDatum (i : Instr) : Bool :=
  match i with
  | .datumIncrApply | .datumAdvance _ | .followStep | .pllLock | .resetRelease _ | .datumTick => true
  | _ => false

/-- Beside `servesAny`, the commands that may change the DRAM controller. -/
def Claim.mayDram (i : Instr) : Bool :=
  match i with
  | .abortDmaChannel _ | .abortDramMigration | .probeRequest _ _ _ | .mpduReceive _ _ | .mtxDoorbell _ _ _ | .mtxComplete _ _ _
  | .egressRequest _ _ _ _ _ | .ringRxDeliver _ | .txRingDoorbell _ _ _ _ _ | .mcInit _ | .initDone | .initTimeout
  | .mcService _ | .mrw _ _ | .dramRead _ _ | .dramWrite _ _ | .dramIssue _ _ | .rowIdleClose _ _ _ | .refresh _ | .tempPoll _
  | .caParityAlert _ _ | .migrationBlock _ | .entryAborted _ _ | .pllLock | .resetRelease _ => true
  | _ => false

/-- Beside `servesAny`, the commands that may change the DMA engine. -/
def Claim.mayDma (i : Instr) : Bool :=
  match i with
  | .abortDmaChannel _ => true
  | _ => false

/-- Beside `servesAny`, the commands that may change the sessions. -/
def Claim.maySessions (i : Instr) : Bool :=
  match i with
  | .seqWaitExpiry _ | .sessionIdleTimeout _ | .stakeInstant _ | .abortTraverse _ _ | .followStep | .entryAborted _ _
  | .mirror _ _ _ _ | .resyncData _ _ _ _ _ _ | .switchover | .peerActiveChange _ | .kickTimeout | .peerActiveHeld => true
  | _ => false

/-- Beside `servesAny`, the commands that may change the Traverse slots. -/
def Claim.mayTraverses (i : Instr) : Bool :=
  match i with
  | .sessionIdleTimeout _ | .stakeInstant _ | .abortTraverse _ _ | .followStep | .entryAborted _ _ | .mirror _ _ _ _
  | .resyncData _ _ _ _ _ _ | .switchover | .peerActiveChange _ | .kickTimeout | .peerActiveHeld => true
  | _ => false

/-- Beside `servesAny`, the commands that may change the role in the pair. -/
def Claim.mayRole (i : Instr) : Bool :=
  match i with
  | .entryAborted _ _ | .resyncData _ _ _ _ _ _ | .switchover | .claimSample | .peerActiveChange _ | .kickTimeout | .pllLock
  | .resetRelease _ | .peerActiveHeld => true
  | _ => false

/-- Beside `servesAny`, the commands that may change ACTIVE_OUT. -/
def Claim.mayActiveOut (i : Instr) : Bool :=
  match i with
  | .entryAborted _ _ | .switchover | .waitExpiry | .claimSample | .peerActiveChange _ | .kickTimeout | .peerActiveHeld => true
  | _ => false

/-- Beside `servesAny`, the commands that may change the start-up phase. -/
def Claim.mayPhase (i : Instr) : Bool :=
  match i with
  | .wake _ | .powerGood _ | .refWindow _ | .pllLock | .resetRelease _ | .failRetryExpiry | .enableReassert => true
  | _ => false

/-- Beside `servesAny`, the commands that may change the elapsed time. -/
def Claim.mayNow (i : Instr) : Bool :=
  match i with
  | .datumIncrApply | .datumAdvance _ | .followStep | .datumTick => true
  | _ => false

/-! ### The statements -/

/-- For every command and state, the step of the state with the command at the front of its queue is exec of the command on the state with the rest of its queue. -/
def Obligations.StepTakesFront : Prop :=
  ∀ (c : Instr) (rest : List Instr) (s : State), step { s with pending := c :: rest } = exec c { s with pending := rest }

/-- With an empty queue a step answers the state unchanged: the model's choice, log entry 8. -/
def Obligations.EmptyQueueIdles : Prop :=
  ∀ s : State, s.pending = [] → step s = .next s

/-- At reset memory, registers and objects are in their canonical form and the queue is empty. -/
def Obligations.ResetIsCanonical : Prop :=
  Canon State.reset ∧ State.reset.pending = [] ∧ queueOk State.reset = true

/-- After reset the device is released and in no limp or rescue state, Datum is zero with the increment 4 ns, every radio is OFF, the packet processor is in STARTUP, no port is up, every key slot is EMPTY, no Traverse slot is taken, and the DRAM controller is OFF. -/
def Obligations.ResetValues : Prop :=
  State.reset.start.phase = .released ∧ State.reset.start.limp = false ∧ State.reset.datum.t = {} ∧ State.reset.datum.incr = 4 * 2 ^ 32 ∧
  (∀ r : Radio, (State.reset.fe r).st = .off) ∧ State.reset.objN 0x4000 0 = 1 ∧ (∀ p : Nat, p < 4 → portUp State.reset p = false) ∧
  State.reset.sec.slots = [] ∧ (∀ k : Fin 4, (travAt State.reset k).st = .idle) ∧ State.reset.dram.st = .off ∧ State.reset.mem = []

/-- From every state whose memory, register table and object store are in canonical form (keys rising strictly, no entry equal to what an absent one reads as), a step that answers a next state answers one in canonical form. -/
def Obligations.CanonicalForm : Prop :=
  ∀ s t : State, Canon s → step s = .next t → Canon t

/-- From every state a step answers a next state: no command of the table faults or is refused. The next state's queue is the rest of the queue, and a queue of well-formed commands stays one. -/
def Obligations.StepAlwaysAnswers : Prop :=
  ∀ s : State, ∃ t, step s = .next t ∧ t.pending = s.pending.tail ∧ (queueOk s = true → queueOk t = true)

/-- From every state, n steps run to their end and the first n commands of the queue have been served; if the state was canonical, the last one is. -/
def Obligations.RunsServeTheQueue : Prop :=
  ∀ (n : Nat) (s : State), ∃ t, runs n s = some t ∧ t.pending = s.pending.drop n ∧ (Canon s → Canon t)

/-- While the device is not released, every command but those of the AON domain, its clocks and pins leaves the state as it is: the model's reading of R473, log entry 7. -/
def Obligations.ResetIsolates : Prop :=
  ∀ (i : Instr) (s : State), s.start.phase ≠ .released → inAon i = false → exec i s = .next s

/-- Of the commands that serve no dictionary operation and neither reset the device nor power it down, only those named change the flash, memory, the fuses, the packet processor, the queues, the ports, Datum, the DRAM controller, the DMA engine, the sessions, the Traverse slots, the role in the pair, ACTIVE_OUT, the start-up phase or the elapsed time, and none changes the queue, the last response or the dictionary ports' windows: for every state, every byte and field of a unit that a command does not name is as before. -/
def Obligations.CommandFrames : Prop :=
  ∀ (i : Instr) (s t : State), exec i s = .next t → Claim.servesAny i = false →
    t.pending = s.pending ∧ t.lastResp = s.lastResp ∧ t.dict.chans = s.dict.chans ∧
    (Claim.mayFlash i = false → t.flash = s.flash) ∧
    (Claim.mayMem i = false → t.mem = s.mem) ∧
    (Claim.mayPart i = false → t.part = s.part) ∧
    (Claim.mayTables i = false → t.pp = s.pp) ∧
    (Claim.mayQueues i = false → t.tm.queues = s.tm.queues) ∧
    (Claim.mayWired i = false → t.wired = s.wired) ∧
    (Claim.mayDatum i = false → t.datum.t = s.datum.t) ∧
    (Claim.mayDram i = false → t.dram = s.dram) ∧
    (Claim.mayDma i = false → t.dma = s.dma) ∧
    (Claim.maySessions i = false → t.dict.sessions = s.dict.sessions) ∧
    (Claim.mayTraverses i = false → t.dict.travs = s.dict.travs) ∧
    (Claim.mayRole i = false → t.pair.st = s.pair.st) ∧
    (Claim.mayActiveOut i = false → t.pair.activeOut = s.pair.activeOut) ∧
    (Claim.mayPhase i = false → t.start.phase = s.start.phase) ∧
    (Claim.mayNow i = false → t.now = s.now)

/-- A CREATE whose thread mask is not empty, in a state in which no slot is FREE, answers a next state in which the core reads FULL, the refusal is counted, THREAD_FULL is set, and nothing else differs but the operand register the core wrote. -/
def Obligations.CreateRefusedWhenFull : Prop :=
  Claim.CreateFull

/-- A write of an input number to CAPTURE_POP completes and removes that input's oldest record only; the READ of CAPTURE_POP that follows completes and answers that record, or, when the FIFO was empty, VALID false, the input named and zeros. -/
def Obligations.CapturePopAndRead : Prop :=
  Claim.CapturePopRead

/-- A valid SUBSCRIBE with 64 other subscriptions, or 16 others of its session, is answered FULL with 7000_0009h and changes no subscription; otherwise it is answered OK and exactly one subscription of the session to the object remains, with the new mode and times; a SUBSCRIBE to a WO object is answered ACCESS with 7000_0012h. -/
def Obligations.SubscriptionLimits : Prop :=
  Claim.SubFull ∧
  Claim.SubWriteOnly

/-- CLOSE outside OPEN, STAKE outside CLOSED, and STAGE in ARMED or APPLYING are answered STATE with 7000_0008h and leave every slot as it was; ABORT with no slot (IDLE) is answered OK; ABORT in APPLYING is answered STATE. -/
def Obligations.TraverseStates : Prop :=
  Claim.TraverseStates

/-- When a descriptor ends with a status from 02h up, it is written with DONE and the status, HEAD moves past it, ERROR is set and the channel is HALTED; a HALTED channel has no burst to serve and a doorbell leaves it HALTED; RESUME lets it go on, with HEAD where it was. -/
def Obligations.DmaErrorsHalt : Prop :=
  Claim.DmaHalts ∧
  Claim.DmaHalted

/-- In step B with no good window yet, the first window leaves the step as it is, and after the second the step is complete if and only if both counted between 78,047 and 78,203 edges. -/
def Obligations.RefReady : Prop :=
  Claim.RefReady

/-- With the core released from reset: CREATE with a FREE slot makes the lowest one READY with its priority and mask and answers its handle; WAIT on one to four operands with a count makes the thread wait on them, or leaves it READY at once when all are present; YIELD, EXIT, POST, SET_PRIORITY, ABORT and DSP_NEXT each answer a next state with the thread's new state; a wait whose deadline has passed and a migration that is due make the thread ready; the abort command's function 05h frees a slot in use, its generation one higher, and does nothing to a FREE one. Every other thread and all of memory are unchanged. -/
def Obligations.DispatcherOperations : Prop :=
  Claim.Create ∧
  Claim.Wait ∧
  Claim.Yield ∧
  Claim.Exit ∧
  Claim.Post ∧
  Claim.SetPriority ∧
  Claim.ThreadAbort ∧
  Claim.DspNextRead ∧
  Claim.WaitTimeout ∧
  Claim.MigrateExpiry ∧
  Claim.AbortThread ∧
  Claim.WaitPresent

/-- WAIT on no operand, on more than four, or on one another thread waits for; YIELD and EXIT with no thread running; POST to a fixed operand; SET_PRIORITY and ABORT of a stale handle; and DSP_NEXT with nothing reserved each answer a next state that is the old one but for the code the core reads (and the operand register a WAIT or POST wrote). -/
def Obligations.DispatcherRefusals : Prop :=
  Claim.WaitRefused ∧
  Claim.NoThread ∧
  Claim.PostFixed ∧
  Claim.StaleHandle ∧
  Claim.DspNextEmpty

/-- A tick adds the increment; a written increment is pending and takes effect at its applying tick; a written step joins the steps that wait and its session is held; before Datum is restored a step is refused BUSY. -/
def Obligations.DatumTicks : Prop :=
  Claim.DatumTick ∧
  Claim.DatumIncrApply ∧
  Claim.DatumIncrWrite ∧
  Claim.StepRelative ∧
  Claim.StepAbsolute ∧
  Claim.StepNotRestored

/-- With no Traverse armed, a due step of a manager or of the pair sets Datum to its result and increments STEP_GEN; the advance after a stopped clock sets Datum to D0 plus the counted edges, and the stamp taken at Rr with it. -/
def Obligations.DatumSteps : Prop :=
  Claim.StepApply ∧
  Claim.FollowStep ∧
  Claim.DatumAdvance

/-- A pulse output's edge counts a pulse and fixes the next; a TPO_CFG write fixes the first edge by its mode, and sets TPO_LATE for a ONCE start that has passed; an accepted edge joins its input's FIFO; CAPTURE_POP takes the oldest; DTM_SNAP latches Datum for its core; an AON count sets R. -/
def Obligations.DatumPins : Prop :=
  Claim.TpoEdge ∧
  Claim.TpoCfgWrite ∧
  Claim.CaptureEdge ∧
  Claim.CapturePop ∧
  Claim.DtmSnapRead ∧
  Claim.AonCalCount

/-- A VID step, 50 us after the last, sets VDD_FAB to the target and the floor, capped at 0.85 V; eight readings leave the eight readings in their registers, MONITOR_FAULT when fewer than eight are valid, the hold at 0.85 V when fewer than six are, and a floor between 550 and 850 mV, with RATE_SHORT when 0.85 V does not carry the rate; each kind of power request within the budget answers a next state with its grant, and a lane beyond it is refused with its flag; a lower core point takes effect at once with its charge; a beacon's power is booked before its TBTT. -/
def Obligations.PowerGrants : Prop :=
  Claim.VidChangeFab ∧
  Claim.VidChangeCpu ∧
  Claim.MonitorRefresh ∧
  Claim.PowerRequest ∧
  Claim.CoreDvfsWrite ∧
  Claim.BeaconBooking ∧
  Claim.MonitorFloor ∧
  Claim.PowerFixed ∧
  Claim.PowerUnits

/-- SUPPLY_FAIL low for 200 ns puts the backup budget in force and sets its flag, and shorter lows do nothing; a second after its end what was reclaimed is restored, and not before; POWER_CMD begins an entry when no unit refuses and otherwise answers the first refuser; an entry aborted by a unit of the list leaves the running state; an enabled wake is latched during entry and starts the exit in sleep, any other does nothing. -/
def Obligations.SupplyAndEntry : Prop :=
  Claim.SupplyFailAssert ∧
  Claim.SupplyGlitch ∧
  Claim.SupplyBack ∧
  Claim.SupplyRestore ∧
  Claim.PowerCmdStandby ∧
  Claim.PowerCmdHibernate ∧
  Claim.PowerRefused ∧
  Claim.EntryAborted ∧
  Claim.Wake ∧
  Claim.SupplyWaits ∧
  Claim.EntryUnlisted ∧
  Claim.WakeNot

/-- An entry with no wake latched ends in STANDBY, with no frame queued and the main rails off, or in HIBERNATE, with nothing kept outside AON; when the PLLs have locked, a device that wakes from STANDBY runs again in the state it held before, and one that starts has its PLLs locked. -/
def Obligations.SleepStates : Prop :=
  Claim.Standby ∧
  Claim.Hibernate ∧
  Claim.PllLock

/-- A pending change begins at its boundary and ends in READY, and waits while there is none; lock and lock timeouts move the change on, the third timeout to FAULT; a loss of lock re-locks, or ends a diagnostic transmission in OFF; a FAULT retry that locks ends it. Staked values that wait for a radio's boundary change at that boundary, and nothing else does. -/
def Obligations.RadioChannels : Prop :=
  Claim.ChannelChange ∧
  Claim.ChannelChangeDone ∧
  Claim.LoLocked ∧
  Claim.LockTimeout ∧
  Claim.LockLost ∧
  Claim.LockLostDiag ∧
  Claim.RelockDone ∧
  Claim.FaultRetry ∧
  Claim.EdgeNothing ∧
  Claim.ChannelChangeWaits

/-- A qualifying overrange window asks for the fallback path; a switch begins and ends with its path; the hold's expiry starts a probe, the probe's expiry returns to sampling; image calibration and joining calibration leave what their rules name. -/
def Obligations.RadioPaths : Prop :=
  Claim.OverrangeWindow ∧
  Claim.PathSwitch ∧
  Claim.PathSwitchDone ∧
  Claim.BlockHoldExpiry ∧
  Claim.ProbeExpiry ∧
  Claim.ImageRecalTimer ∧
  Claim.FallbackCalStep ∧
  Claim.TrxJoinCalDone

/-- Recalibration starts and ends; a sentinel's dwell end records its figures and moves its scan on; a noise interval records the lower quartile; an RFFE bus sends its queued writes in order, and a write that is late skips its transmission; a duty window rolls; a held request is returned at its deadline; radio aborts end what runs. -/
def Obligations.RadioCalibration : Prop :=
  Claim.RecalStart ∧
  Claim.RecalDone ∧
  Claim.SentinelDwellEnd ∧
  Claim.NfIntervalEnd ∧
  Claim.RffeWrite ∧
  Claim.DutyBucketRoll ∧
  Claim.HeldRequestDeadline ∧
  Claim.AbortRadioTx ∧
  Claim.AbortRadioRx ∧
  Claim.RffeWriteLate

/-- On a permitted channel, with the transceivers assigned, a power grant and the radio OFF, each diagnostic mode is accepted and takes its channel, duration and units; a stop, the duration's end and the timeout each end it with its own reason and leave the radio OFF. -/
def Obligations.DiagnosticTransmit : Prop :=
  Claim.DiagTxStop ∧
  Claim.DiagTxCw ∧
  Claim.DiagTxPacket ∧
  Claim.DiagTxMask ∧
  Claim.DiagTimeoutExpiry ∧
  Claim.DiagDurationEnd

/-- A preamble that a READY radio hears and acquires starts a reception, with its reference power and the LNA as the AGC decides; one it does not hear or acquire changes nothing, and one inside a path switch only sets PATH_BLIND; during a reception a new correlation below the step leaves it, and one at the step or above abandons it for a fresh one with its flags; a signal field gives the reception its format, its users and its length, or ends it with its flag when it fails. No other radio changes. -/
def Obligations.Baseband : Prop :=
  Claim.PreambleDetect ∧
  Claim.SignalFieldDecode ∧
  Claim.NewCorrelation ∧
  Claim.RestartNone

/-- A lane takes the next job of its class, draws the counter of a transmit job, and leaves its result under the job's id; with no lane free or no job it does nothing; a poisoned key ends the job and locks its slot; a parity error ends the job LANE_PARITY and a MAC job is tried again once; an abort ends the lane's job ABORTED. -/
def Obligations.CipherLanes : Prop :=
  Claim.CipherJobStart ∧
  Claim.CipherJobStartTx ∧
  Claim.CipherJobDone ∧
  Claim.LaneParity ∧
  Claim.ParityRetry ∧
  Claim.AbortCipherLane ∧
  Claim.CipherKeyPoison

/-- INSTALL of a valid type, material and counter into an EMPTY slot makes it ACTIVE with its material and counter; ERASE makes a slot that is not EMPTY EMPTY; REKEY_POP removes the oldest rekey record and keeps it to be read. No other slot changes. -/
def Obligations.Keys : Prop :=
  Claim.Install ∧
  Claim.Erase ∧
  Claim.RekeyPop

/-- ATTEST starts a report and its end delivers it; EXTEND changes one measurement; entropy fails and returns; FUSE_CMD with a valid signature and sequence programs, revokes or disables debug for good; a challenge is drawn, and a valid response opens debug. -/
def Obligations.IdentityAndFuses : Prop :=
  Claim.Attest ∧
  Claim.AttestDone ∧
  Claim.Extend ∧
  Claim.EntropyFail ∧
  Claim.EntropyRestored ∧
  Claim.Program ∧
  Claim.Revoke ∧
  Claim.DebugDisable ∧
  Claim.Challenge ∧
  Claim.Respond

/-- Shapers refill; gates change; a frame is admitted or returns from DRAM with its cells accounted; an egress takes the scheduled queue's head; a receive ring gets its frame, descriptor and HEAD in memory, every other byte unchanged; a transmit ring's frame enters. -/
def Obligations.TrafficManager : Prop :=
  Claim.Refill ∧
  Claim.GateEntryChange ∧
  Claim.DramReturn ∧
  Claim.FrameEnqueue ∧
  Claim.EgressRequest ∧
  Claim.RingRxDeliver ∧
  Claim.TxRingDoorbell

/-- A good frame is counted and handed on; a link goes down and up with its flags, and does not come up without its power; pauses start, end when their time is over and not before, and are refreshed by class; PLCA is lost and restored. -/
def Obligations.EthernetPorts : Prop :=
  Claim.EthFrameReceive ∧
  Claim.LinkDown ∧
  Claim.LinkUp ∧
  Claim.PauseReceive ∧
  Claim.PauseReceivePfc ∧
  Claim.PauseExpiry ∧
  Claim.PauseRefresh ∧
  Claim.PlcaLost ∧
  Claim.PlcaRestored ∧
  Claim.LinkUpRefused ∧
  Claim.PauseRunning

/-- UART bytes enter and leave their FIFOs; GPIO_OUT drives output pins; configuration reads and writes and I2C transfers answer what the other side answers; an inbound request reads or writes DRAM inside PCIE_INBOUND, every other byte unchanged, with EP and DP_UNCORR for a poisoned word, and a request in the wrong role is an Unsupported Request. -/
def Obligations.SmallInterfaces : Prop :=
  Claim.UartDataWrite ∧
  Claim.UartDataRead ∧
  Claim.UartRxByte ∧
  Claim.AerUncorrectable ∧
  Claim.GpioOutWrite ∧
  Claim.PcieCfgRead ∧
  Claim.PcieCfgWrite ∧
  Claim.I2cXfer ∧
  Claim.InboundRequest ∧
  Claim.InboundUnsupported

/-- STA_ALLOC takes an entry and an AID; an entry is written; STA_FREE frees it and an AID returns to its pool; BA_CMD adds and deletes agreements. -/
def Obligations.Stations : Prop :=
  Claim.StaAlloc ∧
  Claim.StaEntryWrite ∧
  Claim.StaFree ∧
  Claim.AidRelease ∧
  Claim.AddRx ∧
  Claim.AddTx ∧
  Claim.DeleteRx ∧
  Claim.DeleteTx

/-- An MPDU with no agreement is handed on, one with a bad FCS changes nothing; BlockAckReq moves the window and the timeout delivers what is held; a PS-Poll sends a buffered MPDU; a U-APSD trigger opens a service period; neither does anything for a station that is not authorised and linked on the radio. -/
def Obligations.MacReceive : Prop :=
  Claim.BlockAckReq ∧
  Claim.ReorderTimeout ∧
  Claim.MpduReceive ∧
  Claim.MpduBad ∧
  Claim.PsPoll ∧
  Claim.UapsdTrigger ∧
  Claim.PowerSaveNot

/-- The MTX ring fetches and completes descriptors with the status their transmission earned, memory outside them unchanged; a PPDU is assembled, held or returned by the gate; acknowledged MPDUs leave and the others are retried, and nothing happens with none awaited; a beacon is sent at its TBTT and at no other time, or is skipped and flagged; a probe for this BSS is answered. -/
def Obligations.MacTransmit : Prop :=
  Claim.MtxDoorbell ∧
  Claim.MtxComplete ∧
  Claim.PpduAssembly ∧
  Claim.AckReceive ∧
  Claim.AckTimeout ∧
  Claim.Tbtt ∧
  Claim.TbttBusy ∧
  Claim.ProbeRequest ∧
  Claim.MtxSent ∧
  Claim.AckNone ∧
  Claim.TbttNot ∧
  Claim.ProbeNotMine ∧
  Claim.PpduHeld

/-- A snapshot is taken and its plan done; bookings are retried; triggered users that answer are received and others counted missed, and with no trigger outstanding nothing is received; a peer's trigger is answered when R194 allows it; TWT agreements are added and deleted, and their service periods start and end. -/
def Obligations.ScheduledAccess : Prop :=
  Claim.PlanSnapshot ∧
  Claim.PlanDone ∧
  Claim.BookingRetry ∧
  Claim.TbPpduReceive ∧
  Claim.TbMissed ∧
  Claim.PeerTrigger ∧
  Claim.TwtSpStart ∧
  Claim.TwtSpEnd ∧
  Claim.TwtAdd ∧
  Claim.TwtDelete ∧
  Claim.TbNone ∧
  Claim.PeerTriggerNot

/-- The head fixes the next chain, its start counts the chain and its beacon time; slots begin at their time and not before; in its shared position a joining member sends its JOIN request; a beacon is formed 40 us before its slot's sending point, for slot 0 of a running coordinator only; members join, are rejected, removed or expire. -/
def Obligations.ChainCoordinator : Prop :=
  Claim.ChainHead ∧
  Claim.ChainStart ∧
  Claim.SlotStart ∧
  Claim.SharedPosition ∧
  Claim.BeaconForm ∧
  Claim.MemberJoin ∧
  Claim.MemberReject ∧
  Claim.MemberRemove ∧
  Claim.JoinPendingExpiry ∧
  Claim.SlotStartNot ∧
  Claim.SharedNot ∧
  Claim.BeaconFormNot

/-- A frame with a fresh counter is received, a replayed one is dropped and counted, and one with a bad FCS or of another chain only ends the reception; an acknowledgement that does not come is counted and retried; missed beacons, join timeouts, backoffs and scans move the member's state. -/
def Obligations.ChainMember : Prop :=
  Claim.ChainFrameReceive ∧
  Claim.ChainReplay ∧
  Claim.ChainAckTimeout ∧
  Claim.BeaconMissed ∧
  Claim.JoinTimeout ∧
  Claim.JoinBackoffExpiry ∧
  Claim.ScanAdvance ∧
  Claim.ChainNotOurs

/-- A packet enters with a context and its version; with no context free, or no committed version, it is dropped and flagged; one whose destination the bridge table holds gets that port's queue and keeps its bytes; contexts hand off, and one that has an older of its flow waits; learned bridge and flow entries are removed when idle, static ones stay. -/
def Obligations.Packets : Prop :=
  Claim.PacketIngress ∧
  Claim.PacketBridged ∧
  Claim.PacketHandoff ∧
  Claim.PacketOrder ∧
  Claim.BridgeAgeExpiry ∧
  Claim.BridgeStatic ∧
  Claim.FlowIdleExpiry ∧
  Claim.PacketFull ∧
  Claim.PacketNoVersion

/-- PP_MODE changes while the open version holds no change and is refused otherwise; in SERVICE a valid entry is written; COMMIT publishes the open version, DISCARD drops it; a reclaimed version leaves the live list; a request that waited too long for a version is answered BUSY. -/
def Obligations.TableVersions : Prop :=
  Claim.PpModeWrite ∧
  Claim.TableEntryWrite ∧
  Claim.Commit ∧
  Claim.Discard ∧
  Claim.VersionReclaim ∧
  Claim.VersionLiveTimeout

/-- Each command inserts, deletes or flushes the entries it names and is answered OK. -/
def Obligations.TableCommands : Prop :=
  Claim.RuleInsert ∧
  Claim.RuleDelete ∧
  Claim.BridgeInsert ∧
  Claim.BridgeDelete ∧
  Claim.BridgeFlush ∧
  Claim.RouteInsert ∧
  Claim.RouteDelete ∧
  Claim.FlowInsert ∧
  Claim.FlowDelete ∧
  Claim.FlowFlush

/-- Reads and writes take transaction entries, or are held until one is free; a read of an unissued line gets its bytes, a write changes its 64 bytes of memory and no other; issued entries leave; rows close when idle 1 us; refreshes are issued or postponed when due; a temperature poll records whether a rank is hot. -/
def Obligations.DramAccess : Prop :=
  Claim.DramRead ∧
  Claim.DramForward ∧
  Claim.DramWrite ∧
  Claim.DramIssue ∧
  Claim.DramIssueWrite ∧
  Claim.RowIdleClose ∧
  Claim.Refresh ∧
  Claim.RefreshPostponed ∧
  Claim.TempPoll ∧
  Claim.DramReadHeld ∧
  Claim.DramWriteHeld ∧
  Claim.RowInUse ∧
  Claim.RefreshNotDue

/-- The controller goes from OFF through INIT and TRAINING to SERVICE; training, mode registers and lane delays act on their registers; a parity alert is counted against its rank and flagged; a migration starts, copies, completes, is aborted and resumes, a block only when it is due. -/
def Obligations.DramControl : Prop :=
  Claim.CaParityAlert ∧
  Claim.MigrationBlock ∧
  Claim.MigrationLast ∧
  Claim.AbortDramMigration ∧
  Claim.MigrateStart ∧
  Claim.MigrateResume ∧
  Claim.McInit ∧
  Claim.InitDone ∧
  Claim.InitTimeout ∧
  Claim.McService ∧
  Claim.TrnStart ∧
  Claim.TrnDone ∧
  Claim.Mrw ∧
  Claim.Mrr ∧
  Claim.LaneDelayWrite ∧
  Claim.MigrationNotDue

/-- A doorbell starts a channel; STOP, its release and RESUME change its state; an abort completes the descriptor ABORTED; a FILL burst writes its bytes and no others; a completed descriptor is written, HEAD moves on and every other byte stays. -/
def Obligations.DmaChannels : Prop :=
  Claim.DmaDoorbell ∧
  Claim.DmaStop ∧
  Claim.DmaStopRelease ∧
  Claim.DmaResume ∧
  Claim.AbortDmaChannel ∧
  Claim.DmaBurst ∧
  Claim.DmaDescriptorDone

/-- RESET_N low for 1 us or more empties everything outside AON and starts up; a shorter low does nothing; power-good inputs move the start-up on; VDD_AON's arrival starts Datum at zero; power loss leaves flash and fuses; a lost rail or PLL latches a fault record and resets. -/
def Obligations.ResetLines : Prop :=
  Claim.ResetN ∧
  Claim.PowerGood ∧
  Claim.AonPowerOn ∧
  Claim.PowerLoss ∧
  Claim.PgLost ∧
  Claim.PllLost

/-- Windows of REF move step B on; a step that exceeds its limit is retried three times and then fails; enables are asserted again; a failed start-up is retried; in limp the trim and the REF checks act; thermal readings are stored or marked invalid, and a trip ends in a failed start-up. -/
def Obligations.StartUp : Prop :=
  Claim.RefWindow ∧
  Claim.StartupStepTimeout ∧
  Claim.EnableReassert ∧
  Claim.FailRetryExpiry ∧
  Claim.RcTrim ∧
  Claim.LimpRefCheck ∧
  Claim.ThermReading ∧
  Claim.ThermTrip

/-- With the PLLs locked, no trial and a confirmed slot that passes its checks, reset release leaves the device released, Datum running, the confirmed slot running and the update unit IDLE. -/
def Obligations.BootRelease : Prop :=
  Claim.ResetRelease

/-- BEGIN with a verified header receives into the slot not running; data at the expected offset is kept; FINISH with a matching digest makes it READY, with another leaves IDLE; DISCARD and the abort drop it; ACTIVATE and REVERT reset the device; BENCHMARK confirms the trial; an expired trial resets; a scheduled profile comes in force at its time. -/
def Obligations.FirmwareUpdate : Prop :=
  Claim.Begin ∧
  Claim.UpdateData ∧
  Claim.Finish ∧
  Claim.UpdateDiscard ∧
  Claim.AbortUpdate ∧
  Claim.Activate ∧
  Claim.Revert ∧
  Claim.Benchmark ∧
  Claim.TrialWindowExpiry ∧
  Claim.ProfileApply

/-- A delivered record of a listed unit and class waits, any other is dropped; a due record commits under the next LOG_SEQ and replaces what its slot held, a DEVICE_FAULT asserting FAULT_N; LOG_ACK acknowledges every DEVICE_FAULT record up to a LOG_SEQ. -/
def Obligations.ErrorLog : Prop :=
  Claim.LogDeliver ∧
  Claim.LogCommit ∧
  Claim.LogAck ∧
  Claim.LogUnlisted

/-- Heartbeats are sent, received and missed with their records; mirror frames apply in order and bad ones are counted; acknowledgements settle reservations; a resynchronisation copies every class; an unmirrored stake goes on; a device in WAIT that hears an ACTIVE partner drops its claim and synchronises. -/
def Obligations.PairMirror : Prop :=
  Claim.HeartbeatSend ∧
  Claim.HeartbeatReceive ∧
  Claim.HeartbeatMissed ∧
  Claim.Mirror ∧
  Claim.MirrorBad ∧
  Claim.MirrorAck ∧
  Claim.MirrorResend ∧
  Claim.ResyncData ∧
  Claim.ResyncReq ∧
  Claim.StakeMirrorTimeout ∧
  Claim.HeartbeatActive

/-- A device that has waited claims the role or sets its flag; a claim that meets the partner's yields or waits by PAIR_ID; a level change is held; a kick restarts the timer; a switch-over waits for reservations or is refused with its reason; RESYNC discards the mirror and copies again. -/
def Obligations.PairRoles : Prop :=
  Claim.WaitExpiry ∧
  Claim.ClaimSample ∧
  Claim.PeerActiveChange ∧
  Claim.PairKick ∧
  Claim.PairSwitchover ∧
  Claim.SwitchReasons ∧
  Claim.Resync

/-- A claim that meets no partner, a SWITCHOVER heard in STANDBY, and three missed heartbeats in STANDBY with PEER_ACTIVE_IN low each leave the device ACTIVE with ACTIVE_OUT high; a takeover is counted, and every transmit sequence number moves on by 512. -/
def Obligations.PairTakeover : Prop :=
  Claim.ClaimWon ∧
  Claim.Switchover ∧
  Claim.Failover

/-- A partner seen active while ACTIVE, a kick timeout (and not a kick before its time) and a completed hand-over leave the device FENCED or in WAIT, ACTIVE_OUT low, every radio OFF. -/
def Obligations.PairYield : Prop :=
  Claim.PeerActiveHeld ∧
  Claim.KickTimeout ∧
  Claim.SwitchDone ∧
  Claim.KickRunning

/-- A READ answers the stored value or Datum, and ABORTED for a poisoned word; an object that does not exist is answered NO_OBJECT or NO_ELEMENT; a WRITE of a plain RW object stores the value and changes no other object; RO, RS and RL objects refuse it each with its code; statistics clear when read; DESCRIBE answers the record. -/
def Obligations.DictionaryAccess : Prop :=
  Claim.Read ∧
  Claim.ReadDatum ∧
  Claim.ReadNone ∧
  Claim.Write ∧
  Claim.WriteRefused ∧
  Claim.StatsRead ∧
  Claim.Describe ∧
  Claim.ReadPoisoned

/-- STAGE opens a slot; CLOSE reserves it, answers CLOSURE with the failing rule, or asks firmware for what a rule reads of its objects and waits; STAKE arms it 2 ms ahead; ABORT and function 06h free it; at T every staged value is switched, or waits for its radio's boundary; when latched the slot is free and the values to persist are being saved; a save becomes the new generation or is abandoned. -/
def Obligations.TraverseLife : Prop :=
  Claim.Stage ∧
  Claim.Close ∧
  Claim.CloseFails ∧
  Claim.Stake ∧
  Claim.Abort ∧
  Claim.AbortTraverse ∧
  Claim.StakeInstant ∧
  Claim.StakeEarly ∧
  Claim.StakeLatched ∧
  Claim.PersistSave ∧
  Claim.CloseAsks ∧
  Claim.StakeWaits

/-- A SUBSCRIBE sends its first sample; due subscriptions notify; END and the idle timeout release what a session holds; a PDU with one READ is answered on its port, from the wire, the buffer or the waiting list; missing numbers are abandoned; OPEN_1 and OPEN_3 open a session; firmware's answer or its timeout completes the request, and an answer whose detail names no listed unit is discarded. -/
def Obligations.SessionsAndPdus : Prop :=
  Claim.Subscribe ∧
  Claim.Unsubscribe ∧
  Claim.Notify ∧
  Claim.EndSession ∧
  Claim.SessionIdleTimeout ∧
  Claim.PduReceive ∧
  Claim.PduBusy ∧
  Claim.DpGo ∧
  Claim.PduExecute ∧
  Claim.SeqWaitExpiry ∧
  Claim.Open1 ∧
  Claim.Open3 ∧
  Claim.FwAnswer ∧
  Claim.FwLate ∧
  Claim.FwDeclare ∧
  Claim.FwUnlisted

/-- A write of ones clears exactly those flags and sets ordered after it stay set; a store to memory changes its bytes and no other; a store of a wrong width or alignment, to another core's dispatcher or outside every window raises an access fault and changes nothing else; a store to a register does what its command does, through the crossing where it has one, and one made before the crossing's acknowledgement is an overrun; a load returns memory, the boot ROM or the dispatcher's answer, counts a corrected error, and faults on an uncorrectable or poisoned word unless it is a fill. -/
def Obligations.CoreAccesses : Prop :=
  Claim.FlagClear ∧
  Claim.RegisterWrite ∧
  Claim.CoreLoad ∧
  Claim.LoadFault ∧
  Claim.RegisterAlign ∧
  Claim.RegisterDma ∧
  Claim.RegisterDsp ∧
  Claim.RegisterForeign ∧
  Claim.RegisterUart ∧
  Claim.CrossingSent ∧
  Claim.CrossingEarly ∧
  Claim.LoadRom ∧
  Claim.LoadDsp ∧
  Claim.LoadAlign
end

