-- ==== Sys2Proof/Laws/Tables.lean ====
section
/-! SUPPORT. Laws of the sparse tables: what a write leaves at each key, and that the canonical form is kept. -/

namespace Sys2Proof.Machine
open Sys2Proof

variable {α : Type}

@[simp] theorem tget_nil (k : Nat) : tget ([] : Tab α) k = none := rfl

theorem tget_cons (k' : Nat) (v : α) (r : Tab α) (k : Nat) :
    tget ((k', v) :: r) k = if k' = k then some v else tget r k := rfl

theorem tget_tput (t : Tab α) (k j : Nat) (v : α) : tget (tput t k v) j = if j = k then some v else tget t j := by
  induction t with
  | nil => simp [tput, tget, eq_comm]
  | cons p r ih =>
    obtain ⟨k', v'⟩ := p
    by_cases h1 : k < k'
    · simp only [tput, h1, if_true, tget]
      by_cases h : k = j <;> simp [h, eq_comm]
    · by_cases h2 : k = k'
      · subst h2
        by_cases h : k = j
        · simp [tput, tget, h]
        · simp [tput, tget, h, Ne.symm h]
      · simp only [tput, h1, h2, if_false, tget, ih]
        by_cases h : k' = j
        · have : j ≠ k := fun e => h2 (by omega)
          simp [h, this]
        · simp [h]

@[simp] theorem tget_tput_same (t : Tab α) (k : Nat) (v : α) : tget (tput t k v) k = some v := by simp [tget_tput]

theorem tget_tput_other (t : Tab α) {k j : Nat} (v : α) (h : j ≠ k) : tget (tput t k v) j = tget t j := by
  simp [tget_tput, h]

theorem tget_tdel (t : Tab α) (k j : Nat) : tget (tdel t k) j = if j = k then none else tget t j := by
  induction t with
  | nil => simp [tdel, tget]
  | cons p r ih =>
    obtain ⟨k', v'⟩ := p
    by_cases h1 : k' = k
    · simp only [tdel, h1, if_true, ih, tget]
      by_cases h : j = k
      · simp [h]
      · simp [h, Ne.symm h]
    · simp only [tdel, h1, if_false, tget, ih]
      by_cases h : k' = j
      · have : j ≠ k := fun e => h1 (by omega)
        simp [h, this]
      · simp [h]

/-- Reading a table with a default after a write. -/
theorem tgetD_tputD [DecidableEq α] (t : Tab α) (k j : Nat) (v d : α) :
    tgetD (tputD t k v d) j d = if j = k then v else tgetD t j d := by
  unfold tgetD tputD
  by_cases h : v = d
  · subst h; simp only [if_true, tget_tdel]; split <;> simp
  · simp only [h, if_false, tget_tput]; split <;> simp

theorem risesFrom_mono {t : Tab α} {b c : Nat} (hc : c ≤ b) (h : risesFrom b t = true) : risesFrom c t = true := by
  cases t with
  | nil => rfl
  | cons p r =>
    simp only [risesFrom, Bool.and_eq_true, decide_eq_true_eq] at h ⊢
    exact ⟨by omega, h.2⟩

theorem risesFrom_tput {t : Tab α} {b k : Nat} (v : α) (hk : b ≤ k) (h : risesFrom b t = true) :
    risesFrom b (tput t k v) = true := by
  induction t generalizing b with
  | nil => simp [tput, risesFrom, hk]
  | cons p r ih =>
    obtain ⟨k', v'⟩ := p
    simp only [risesFrom, Bool.and_eq_true, decide_eq_true_eq] at h
    by_cases h1 : k < k'
    · simp only [tput, h1, if_true, risesFrom, Bool.and_eq_true, decide_eq_true_eq]
      exact ⟨hk, by omega, h.2⟩
    · by_cases h2 : k = k'
      · subst h2
        simp only [tput, Nat.lt_irrefl, if_true, if_false, risesFrom, Bool.and_eq_true, decide_eq_true_eq]
        exact ⟨hk, h.2⟩
      · simp only [tput, h1, h2, if_false, risesFrom, Bool.and_eq_true, decide_eq_true_eq]
        exact ⟨h.1, ih (by omega) h.2⟩

theorem risesFrom_tdel {t : Tab α} {b : Nat} (k : Nat) (h : risesFrom b t = true) : risesFrom b (tdel t k) = true := by
  induction t generalizing b with
  | nil => rfl
  | cons p r ih =>
    obtain ⟨k', v'⟩ := p
    simp only [risesFrom, Bool.and_eq_true, decide_eq_true_eq] at h
    by_cases h1 : k' = k
    · simp only [tdel, h1, if_true]
      exact ih (risesFrom_mono (by omega) h.2)
    · simp only [tdel, h1, if_false, risesFrom, Bool.and_eq_true, decide_eq_true_eq]
      exact ⟨h.1, ih h.2⟩

theorem risesFrom_filter {t : Tab α} {b : Nat} (p : Nat × α → Bool) (h : risesFrom b t = true) :
    risesFrom b (t.filter p) = true := by
  induction t generalizing b with
  | nil => rfl
  | cons q r ih =>
    simp only [risesFrom, Bool.and_eq_true, decide_eq_true_eq] at h
    by_cases hq : p q = true
    · simp only [List.filter_cons, hq, if_true, risesFrom, Bool.and_eq_true, decide_eq_true_eq]
      exact ⟨h.1, ih h.2⟩
    · simp only [List.filter_cons, hq, if_false, Bool.false_eq_true]
      exact ih (risesFrom_mono (by omega) h.2)

theorem tabWf_tput {t : Tab α} (k : Nat) (v : α) (h : tabWf t = true) : tabWf (tput t k v) = true :=
  risesFrom_tput v (Nat.zero_le k) h

theorem tabWf_tdel {t : Tab α} (k : Nat) (h : tabWf t = true) : tabWf (tdel t k) = true := risesFrom_tdel k h

theorem tabWf_filter {t : Tab α} (p : Nat × α → Bool) (h : tabWf t = true) : tabWf (t.filter p) = true :=
  risesFrom_filter p h

theorem tabWf_tputD [DecidableEq α] {t : Tab α} (k : Nat) (v d : α) (h : tabWf t = true) :
    tabWf (tputD t k v d) = true := by
  unfold tputD; split
  · exact tabWf_tdel k h
  · exact tabWf_tput k v h

theorem all_tdel {t : Tab α} {p : Nat × α → Bool} (k : Nat) (h : t.all p = true) : (tdel t k).all p = true := by
  induction t with
  | nil => rfl
  | cons q r ih =>
    obtain ⟨k', v'⟩ := q
    simp only [List.all_cons, Bool.and_eq_true] at h
    by_cases h1 : k' = k
    · simp only [tdel, h1, if_true]; exact ih h.2
    · simp only [tdel, h1, if_false, List.all_cons, Bool.and_eq_true]; exact ⟨h.1, ih h.2⟩

theorem all_tput {t : Tab α} {p : Nat × α → Bool} {k : Nat} {v : α} (hv : p (k, v) = true) (h : t.all p = true) :
    (tput t k v).all p = true := by
  induction t with
  | nil => simp [tput, hv]
  | cons q r ih =>
    obtain ⟨k', v'⟩ := q
    simp only [List.all_cons, Bool.and_eq_true] at h
    by_cases h1 : k < k'
    · simp [tput, h1, hv, h.1]; simpa using h.2
    · by_cases h2 : k = k'
      · subst h2; simp [tput, hv]; simpa using h.2
      · simp only [tput, h1, h2, if_false, List.all_cons, Bool.and_eq_true]; exact ⟨h.1, ih h.2⟩

end Sys2Proof.Machine
end

