-- ==== Sys2Proof/Laws/Memory.lean ====
section
/-! SUPPORT. Laws of memory: a byte reads as it was last written, a write leaves every other byte alone, and the canonical
form is kept by every write. -/

namespace Sys2Proof.Machine
open Sys2Proof

theorem readMem_writeMem (m : List Host.Cell) (a j : Nat) (b : Byte) :
    readMem (writeMem m a b) j = if j = a then b else readMem m j := tgetD_tputD m a j b memDefault

@[simp] theorem readMem_writeMem_same (m : List Host.Cell) (a : Nat) (b : Byte) : readMem (writeMem m a b) a = b := by
  simp [readMem_writeMem]

theorem readMem_writeMem_other (m : List Host.Cell) {a j : Nat} (b : Byte) (h : j ≠ a) :
    readMem (writeMem m a b) j = readMem m j := by simp [readMem_writeMem, h]

theorem readMem_writeMemN (v : Bytes) (m : List Host.Cell) (a j : Nat) :
    readMem (writeMemN m a v) j = if a ≤ j ∧ j < a + v.length then v.getD (j - a) 0 else readMem m j := by
  induction v generalizing m a with
  | nil => simp only [writeMemN, List.length_nil]; split <;> first | omega | rfl
  | cons b r ih =>
    simp only [writeMemN, ih, readMem_writeMem, List.length_cons]
    by_cases h1 : j = a
    · subst h1
      rw [if_neg (by omega), if_pos rfl, if_pos (by omega)]; simp
    · by_cases h2 : a + 1 ≤ j ∧ j < a + 1 + r.length
      · rw [if_pos h2, if_pos (by omega)]
        have : j - a = (j - (a + 1)) + 1 := by omega
        simp [this]
      · rw [if_neg h2, if_neg h1, if_neg (by omega)]

/-- A run of bytes leaves every byte outside it alone. -/
theorem readMem_writeMemN_outside (v : Bytes) (m : List Host.Cell) {a j : Nat} (h : j < a ∨ a + v.length ≤ j) :
    readMem (writeMemN m a v) j = readMem m j := by
  rw [readMem_writeMemN, if_neg (by omega)]

theorem readMemN_length (m : List Host.Cell) (a n : Nat) : (readMemN m a n).length = n := by
  induction n generalizing a with
  | zero => rfl
  | succ n ih => simp [readMemN, ih]

/-- What was written is read back. -/
theorem readMemN_writeMemN (v : Bytes) (m : List Host.Cell) (a : Nat) : readMemN (writeMemN m a v) a v.length = v := by
  induction v generalizing m a with
  | nil => rfl
  | cons b r ih =>
    simp only [writeMemN, List.length_cons, readMemN, ih]
    rw [readMem_writeMemN_outside _ _ (by omega)]; simp

theorem memWf_writeMem {m : List Host.Cell} (a : Nat) (b : Byte) (h : memWf m = true) : memWf (writeMem m a b) = true := by
  simp only [memWf, Bool.and_eq_true] at h ⊢
  refine ⟨tabWf_tputD a b memDefault h.1, ?_⟩
  unfold writeMem tputD; split
  · exact all_tdel a h.2
  · rename_i hb; exact all_tput (by simpa using hb) h.2

theorem memWf_writeMemN (v : Bytes) {m : List Host.Cell} (a : Nat) (h : memWf m = true) :
    memWf (writeMemN m a v) = true := by
  induction v generalizing m a with
  | nil => exact h
  | cons b r ih => exact ih (a + 1) (memWf_writeMem a b h)

@[simp] theorem storeBytes_mem (s : State) (a : Nat) (v : Bytes) : (storeBytes s a v).mem = writeMemN s.mem a v := by
  unfold storeBytes; dsimp only; split <;> rfl

end Sys2Proof.Machine
end

