-- ==== Sys2Proof/Laws/Canon.lean ====
section
/-! SUPPORT. The canonical form of memory, registers and objects: it rests on three fields only, and each of the writes that
change one of them keeps it. -/

namespace Sys2Proof.Machine
open Sys2Proof

theorem canon_congr {s t : State} (h : Canon s) (ho : t.obj = s.obj) (hr : t.reg = s.reg) (hm : t.mem = s.mem) :
    Canon t := by
  unfold Canon memOk regOk objOk at *; rw [ho, hr, hm]; exact h

/-- A record that takes its three stores from a canonical state is canonical. -/
theorem canon_mk {s : State} {pending free now lastResp flash dict rf mac chain pp tm wired datum sec dram dma cores power
    pair log upd start part}
    (h : Canon s) : Canon (State.mk pending free now lastResp s.obj s.reg s.mem flash dict rf mac chain pp tm wired datum sec
      dram dma cores power pair log upd start part) := canon_congr h rfl rfl rfl

/-- Memory may be replaced by a canonical one. -/
theorem canon_mem {s : State} {m : List Host.Cell} (hm : memWf m = true) (h : Canon s) : Canon { s with mem := m } :=
  ⟨hm, h.2.1, h.2.2⟩

theorem canon_setObj {s : State} {idx el : Nat} {v : Bytes} (h : Canon s) : Canon (s.setObj idx el v) :=
  ⟨h.1, h.2.1, tabWf_tputD _ v _ h.2.2⟩

theorem canon_setReg {s : State} {a v : Nat} (h : Canon s) : Canon (s.setReg a v) := by
  refine ⟨h.1, ?_, h.2.2⟩
  have hr := h.2.1
  simp only [regOk, noDefault, Bool.and_eq_true] at hr ⊢
  refine ⟨tabWf_tputD a v _ hr.1, ?_⟩
  unfold State.setReg tputD; dsimp only; split
  · exact all_tdel a hr.2
  · rename_i hv; exact all_tput (by simpa using hv) hr.2

theorem canon_storeBytes {s : State} {a : Nat} {v : Bytes} (h : Canon s) : Canon (storeBytes s a v) := by
  unfold storeBytes
  extract_lets t
  have ht : Canon t := by
    show Canon (if _ then _ else _)
    split
    · exact canon_setObj (canon_setObj h)
    · exact h
  exact ⟨memWf_writeMemN v a ht.1, ht.2.1, ht.2.2⟩

/-- A fold of steps that each keep it. -/
theorem canon_foldl {β : Type} {f : State → β → State} {l : List β} {s : State}
    (hf : ∀ s x, Canon s → Canon (f s x)) (h : Canon s) : Canon (l.foldl f s) := by
  induction l generalizing s with
  | nil => exact h
  | cons x r ih => exact ih (hf s x h)

theorem canon_foldl1 {α β : Type} {f : State × α → β → State × α} {l : List β} {p : State × α}
    (hf : ∀ p x, Canon p.1 → Canon (f p x).1) (h : Canon p.1) : Canon (l.foldl f p).1 := by
  induction l generalizing p with
  | nil => exact h
  | cons x r ih => exact ih (hf p x h)

theorem canon_foldl2 {α β : Type} {f : α × State → β → α × State} {l : List β} {p : α × State}
    (hf : ∀ p x, Canon p.2 → Canon (f p x).2) (h : Canon p.2) : Canon (l.foldl f p).2 := by
  induction l generalizing p with
  | nil => exact h
  | cons x r ih => exact ih (hf p x h)

theorem canon_fst {α : Type} {p : State × α} {s : State} {a : α} (e : p = (s, a)) (h : Canon p.1) : Canon s := by
  subst e; exact h

theorem canon_snd {α : Type} {p : α × State} {s : State} {a : α} (e : p = (a, s)) (h : Canon p.2) : Canon s := by
  subst e; exact h

/-- What may be a state is canonical if it is one. -/
def CanonO (o : Option State) : Prop := ∀ t, o = some t → Canon t

/-- What may be a state with a value is canonical if it is one. -/
def CanonOP {α : Type} (o : Option (State × α)) : Prop := ∀ t a, o = some (t, a) → Canon t

theorem canonO_none : CanonO none := fun _ e => by simp at e
theorem canonO_some {s : State} (h : Canon s) : CanonO (some s) := fun _ e => by injection e with e; exact e ▸ h
theorem canonO_get {o : Option State} {s : State} (e : o = some s) (h : CanonO o) : Canon s := h s e
theorem canonO_getD {o : Option State} {s : State} (ho : CanonO o) (h : Canon s) : Canon (o.getD s) := by
  cases o with
  | none => exact h
  | some t => exact ho t rfl
theorem canonOP_none {α : Type} : CanonOP (none : Option (State × α)) := fun _ _ e => by simp at e
theorem canonOP_some {α : Type} {p : State × α} (h : Canon p.1) : CanonOP (some p) := fun _ _ e => by
  injection e with e; subst e; exact h
theorem canonOP_map {α β : Type} {o : Option (State × α)} {f : State × α → β} (h : CanonOP o) :
    CanonOP (o.map fun p => (p.1, f p)) := by
  cases o with
  | none => exact canonOP_none
  | some p => exact canonOP_some (h p.1 p.2 rfl)
theorem canonOP_get {α : Type} {o : Option (State × α)} {s : State} {a : α} (e : o = some (s, a)) (h : CanonOP o) :
    Canon s := h s a e

section
variable {c : Prop} [Decidable c] {α : Type}
theorem canon_ite {a b : State} (ha : Canon a) (hb : Canon b) : Canon (if c then a else b) := by split <;> assumption
theorem canon_ite1 {a b : State × α} (ha : Canon a.1) (hb : Canon b.1) : Canon (if c then a else b).1 := by
  split <;> assumption
theorem canon_ite2 {a b : α × State} (ha : Canon a.2) (hb : Canon b.2) : Canon (if c then a else b).2 := by
  split <;> assumption
theorem canon_iteO {a b : Option State} (ha : CanonO a) (hb : CanonO b) : CanonO (if c then a else b) := by
  split <;> assumption
theorem canon_iteOP {a b : Option (State × α)} (ha : CanonOP a) (hb : CanonOP b) : CanonOP (if c then a else b) := by
  split <;> assumption
theorem canon_dite {a : c → State} {b : ¬c → State} (ha : ∀ h, Canon (a h)) (hb : ∀ h, Canon (b h)) :
    Canon (if h : c then a h else b h) := by split <;> simp only [ha, hb]
theorem canon_dite1 {a : c → State × α} {b : ¬c → State × α} (ha : ∀ h, Canon (a h).1) (hb : ∀ h, Canon (b h).1) :
    Canon (if h : c then a h else b h).1 := by split <;> simp only [ha, hb]
theorem canon_diteO {a : c → Option State} {b : ¬c → Option State} (ha : ∀ h, CanonO (a h)) (hb : ∀ h, CanonO (b h)) :
    CanonO (if h : c then a h else b h) := by split <;> simp only [ha, hb]
theorem canon_diteOP {a : c → Option (State × α)} {b : ¬c → Option (State × α)} (ha : ∀ h, CanonOP (a h))
    (hb : ∀ h, CanonOP (b h)) : CanonOP (if h : c then a h else b h) := by split <;> simp only [ha, hb]
end

theorem canon_keepQueue {s t : State} (h : Canon t) : Canon (s.keepQueue t) := canon_congr h rfl rfl rfl

/-- Whatever state a command answers is canonical. -/
def CanonN (o : Out) : Prop := ∀ t, o = .next t → Canon t

theorem canonN_get {o : Out} {s : State} (e : o = .next s) (h : CanonN o) : Canon s := h s e

theorem canon_live {s : State} {f : State → State} (hf : ∀ s, Canon s → Canon (f s)) (h : Canon s) :
    CanonN (live s f) := by
  intro t e
  unfold live at e
  injection e with e; subst e
  split
  · exact canon_keepQueue (hf s h)
  · exact h

theorem canon_aon {s : State} {f : State → State} (hf : ∀ s, Canon s → Canon (f s)) (h : Canon s) :
    CanonN (aon s f) := by
  intro t e
  unfold aon at e
  injection e with e; subst e
  exact canon_keepQueue (hf s h)

theorem canonO_only {w n : Nat} {s : State} (h : Canon s) : CanonO (only w n s) := by
  unfold only; split
  · exact canonO_some h
  · exact canonO_none

theorem canonOP_only {w n : Nat} {α : Type} {p : State × α} (h : Canon p.1) : CanonOP (only w n p) := by
  unfold only; split
  · exact canonOP_some h
  · exact canonOP_none

theorem canon_foldr {β : Type} {f : β → State → State} {l : List β} {s : State}
    (hf : ∀ x s, Canon s → Canon (f x s)) (h : Canon s) : Canon (l.foldr f s) := by
  induction l with
  | nil => exact h
  | cons x r ih => exact hf x _ ih

theorem canon_reset : Canon State.reset := by unfold Canon; decide

end Sys2Proof.Machine
end

