-- ==== Sys2Proof/Laws/CanonRadio.lean ====
section
/-! SUPPORT. The canonical form is kept by shared operations, cores, Datum, power, radios and PHY: one lemma for each operation, which cites those
of the operations it calls. -/

namespace Sys2Proof.Machine
open Sys2Proof

theorem canon_setObjF {s : State} {a1 : Nat} {a2 : Nat} {a3 : Nat} {a4 : Nat} {a5 : Nat} (h : Canon s) : Canon (State.setObjF s a1 a2 a3 a4 a5) :=
  by
  unfold State.setObjF
  exact (canon_setObj h)

theorem canon_patchObj {s : State} {a1 : Nat} {a2 : Nat} {a3 : Nat} {a4 : Bytes} (h : Canon s) : Canon (State.patchObj s a1 a2 a3 a4) :=
  by
  unfold State.patchObj
  exact (canon_setObj h)

theorem canon_addObjF {s : State} {a1 : Nat} {a2 : Nat} {a3 : Nat} {a4 : Nat} {a5 : Nat} (h : Canon s) : Canon (State.addObjF s a1 a2 a3 a4 a5) :=
  by
  unfold State.addObjF
  exact (canon_setObjF h)

theorem canon_stat {s : State} {a1 : Nat} {a2 : Nat} {a3 : Nat} {a4 : Nat} (h : Canon s) : Canon (State.stat s a1 a2 a3 a4) :=
  by
  unfold State.stat
  exact (canon_addObjF h)

theorem canon_stat64 {s : State} {a1 : Nat} {a2 : Nat} {a3 : Nat} {a4 : Nat} (h : Canon s) : Canon (State.stat64 s a1 a2 a3 a4) :=
  by
  unfold State.stat64
  exact (canon_addObjF h)

theorem canon_draw {s : State} (h : Canon s) : Canon (State.draw s).2 := by
  unfold State.draw
  exact (canon_mk h)

theorem canon_drawIn {s : State} {a1 : Nat} {a2 : Nat} (h : Canon s) : Canon (State.drawIn s a1 a2).2 := by
  unfold State.drawIn
  exact (canon_mk h)

theorem canon_drawBytes {s : State} {a1 : Nat} (h : Canon s) : Canon (State.drawBytes s a1).2 := by
  unfold State.drawBytes
  exact (canon_mk h)

theorem canon_setFlag {s : State} {a1 : Nat} {a2 : Nat} {a3 : Nat} (h : Canon s) : Canon (State.setFlag s a1 a2 a3) :=
  by
  unfold State.setFlag
  extract_lets x0 x1
  have h2 : Canon x0 := (canon_setObj h)
  exact (canon_setObj h2)

theorem canon_radioFlag {s : State} {a1 : Nat} {a2 : Nat} {a3 : Nat} (h : Canon s) : Canon (State.radioFlag s a1 a2 a3) :=
  by
  unfold State.radioFlag
  exact (canon_setFlag h)

theorem canon_clearFlags {s : State} {a1 : Nat} {a2 : Nat} {a3 : Nat} (h : Canon s) : Canon (State.clearFlags s a1 a2 a3) :=
  by
  unfold State.clearFlags
  exact (canon_setObj h)

theorem canon_putRec {s : State} {a1 : LogRec} (h : Canon s) : Canon (putRec s a1) := by
  unfold putRec
  extract_lets x0
  exact (canon_mk h)

theorem canon_deliverRec {s : State} {a1 : LogRec} (h : Canon s) : Canon (deliverRec s a1) := by
  unfold deliverRec
  extract_lets x0
  exact (canon_ite (canon_ite (canon_putRec (canon_mk h)) (canon_addObjF h)) (canon_putRec h))

theorem canon_logEvent {s : State} {a1 : Nat} {a2 : Nat} {a3 : Nat} {a4 : Nat} {a5 : Nat} (h : Canon s) : Canon (State.logEvent s a1 a2 a3 a4 a5) :=
  by
  unfold State.logEvent
  exact (canon_deliverRec h)

theorem canon_corrected {s : State} {a1 : Nat} {a2 : Nat} {a3 : Nat} (h : Canon s) : Canon (State.corrected s a1 a2 a3) :=
  by
  unfold State.corrected
  exact (canon_logEvent (canon_setFlag h))

theorem canon_uncorrected {s : State} (h : Canon s) : Canon (State.uncorrected s) := by
  unfold State.uncorrected
  exact (canon_setFlag h)

theorem canon_poisonConsumed {s : State} {a1 : Nat} {a2 : Nat} {a3 : Nat} (h : Canon s) : Canon (State.poisonConsumed s a1 a2 a3) :=
  by
  unfold State.poisonConsumed
  exact (canon_logEvent (canon_uncorrected h))

theorem canon_watch {s : State} {a1 : Nat} {a2 : Nat} {a3 : Nat} {a4 : Nat} {a5 : Nat} (h : Canon s) : Canon (State.watch s a1 a2 a3 a4 a5) :=
  by
  unfold State.watch
  extract_lets x0 x1
  exact (canon_ite (canon_ite (canon_mk h) h) (canon_ite (canon_setFlag (canon_logEvent (canon_mk h))) h))

theorem canon_saveValues {s : State} {a1 : List (Nat × Bytes)} (h : Canon s) : Canon (State.saveValues s a1) := by
  unfold State.saveValues
  extract_lets x0 x1
  exact (canon_mk h)

theorem canon_abortDone {s : State} {a1 : Nat} {a2 : Nat} {a3 : Nat} {a4 : Bool} {a5 : Nat} (h : Canon s) : Canon (State.abortDone s a1 a2 a3 a4 a5) :=
  by
  unfold State.abortDone
  split
  · extract_lets x1
    exact (canon_mk (canon_snd ‹_› (canon_ite2 (canon_drawIn h) h)))

theorem canon_fault {s : State} {a1 : CoreId} {a2 : Nat} {a3 : Nat} (h : Canon s) : Canon (State.fault s a1 a2 a3) := by
  unfold State.fault
  extract_lets x0
  exact (canon_mk h)

theorem canon_modCore {s : State} {a1 : CoreId} {a2 : CoreSt → CoreSt} (h : Canon s) : Canon (State.modCore s a1 a2) :=
  by
  unfold State.modCore
  extract_lets x0
  exact (canon_mk h)

theorem canon_setThread {s : State} {a1 : Nat} {a2 : Thread} (h : Canon s) : Canon (State.setThread s a1 a2) := by
  unfold State.setThread
  extract_lets x0
  exact (canon_mk h)

theorem canon_setOpnd {s : State} {a1 : Nat} {a2 : Operand} (h : Canon s) : Canon (State.setOpnd s a1 a2) := by
  unfold State.setOpnd
  extract_lets x0
  exact (canon_mk h)

theorem canon_setCause {s : State} {a1 : CoreId} {a2 : Nat} (h : Canon s) : Canon (setCause s a1 a2) := by
  unfold setCause
  extract_lets x0
  have h1 : Canon x0 := (canon_setReg h)
  exact (canon_setReg h1)

theorem canon_reserve {s : State} {a1 : CoreId} {a2 : Nat} (h : Canon s) : Canon (reserve s a1 a2) := by
  unfold reserve
  exact (canon_setCause (canon_modCore h))

theorem canon_offerCore {s : State} {a1 : CoreId} (h : Canon s) : Canon (offerCore s a1) := by
  unfold offerCore
  split
  · split
    · exact (canon_reserve h)
    · exact h
  · exact h

theorem canon_offerThread {s : State} {a1 : Nat} (h : Canon s) : Canon (offerThread s a1) := by
  unfold offerThread
  extract_lets x0
  split
  · split
    · split
      · exact (canon_stat (canon_setCause (canon_modCore h)))
      · exact h
    · split
      · exact (canon_reserve (canon_snd ‹_› (canon_draw h)))
  · exact h

theorem canon_tickReady {s : State} (h : Canon s) : Canon (tickReady s) := by
  unfold tickReady
  extract_lets x0
  exact (canon_mk h)

theorem canon_makeReady {s : State} {a1 : Nat} {a2 : Thread} (h : Canon s) : Canon (makeReady s a1 a2) := by
  unfold makeReady
  exact (canon_offerThread (canon_tickReady (canon_setThread h)))

theorem canon_unbind {s : State} {a1 : Nat} (h : Canon s) : Canon (unbind s a1) := by
  unfold unbind
  exact (canon_foldl (fun _ _ h0 => (canon_ite (canon_setOpnd h0) h0)) h)

theorem canon_postOperand {s : State} {a1 : Nat} {a2 : Nat} (h : Canon s) : Canon (State.postOperand s a1 a2) := by
  unfold State.postOperand
  extract_lets x0 x1 x2
  have h3 : Canon x1 := (canon_setOpnd h)
  have h4 : Canon x2 := (canon_ite h3 (canon_setFlag h3))
  split
  · extract_lets x6
    exact (canon_ite (canon_makeReady h4) h4)
  · exact h4

theorem canon_postFixed {s : State} {a1 : Nat} (h : Canon s) : Canon (State.postFixed s a1) := by
  unfold State.postFixed
  exact (canon_postOperand h)

theorem canon_releaseCores {s : State} {a1 : Nat} {a2 : Bool} (h : Canon s) : Canon (releaseCores s a1 a2) := by
  unfold releaseCores
  exact (canon_foldl (fun _ _ h0 => (canon_ite (by
    extract_lets x1
    have h2 : Canon x1 := (canon_modCore h0)
    exact (canon_ite (canon_setCause h2) h2)) (canon_ite (canon_modCore h0) h0))) h)

theorem canon_offerCores {s : State} (h : Canon s) : Canon (offerCores s) := by
  unfold offerCores
  exact (canon_foldl (fun _ _ h0 => (canon_offerCore h0)) h)

theorem canon_freeThread {s : State} {a1 : Nat} {a2 : Bool} (h : Canon s) : Canon (freeThread s a1 a2) := by
  unfold freeThread
  extract_lets x0 x1 x2
  have h3 : Canon x0 := (canon_unbind h)
  have h4 : Canon x1 := (canon_setThread h3)
  have h5 : Canon x2 := (canon_offerCores (canon_releaseCores h4))
  exact (canon_watch h5)

theorem canon_abortThread {s : State} {a1 : Nat} (h : Canon s) : Canon (abortThread s a1) := by
  unfold abortThread
  exact (canon_setFlag (canon_stat (canon_freeThread h)))

theorem canon_dspResult {s : State} {a1 : CoreId} {a2 : Nat} {a3 : Nat} (h : Canon s) : Canon (dspResult s a1 a2 a3) :=
  by
  unfold dspResult
  exact (canon_modCore h)

theorem canon_dspStale {s : State} {a1 : CoreId} (h : Canon s) : Canon (dspStale s a1) := by
  unfold dspStale
  exact (canon_dspResult (canon_setFlag (canon_stat h)))

theorem canon_onRunning {s : State} {a1 : CoreId} {a2 : Nat → State → State} (h : Canon s) (h'1 : ∀ y00 y01, Canon y01 → Canon (a2 y00 y01)) : Canon (onRunning s a1 a2) :=
  by
  unfold onRunning
  split
  · exact (h'1 _ _ h)
  · exact (canon_ite (canon_dspStale h) (canon_dspResult h))

theorem canon_leaveCore {s : State} {a1 : CoreId} (h : Canon s) : Canon (leaveCore s a1) := by
  unfold leaveCore
  exact (canon_modCore h)

theorem canon_execCreate {a0 : CoreId} {a1 : Nat} {a2 : Nat} {s : State} (h : Canon s) : CanonN (execCreate a0 a1 a2 s) :=
  canon_live (fun s h => by
    extract_lets x1 x2
    have h3 : Canon x1 := (canon_setReg h)
    split
    · exact (canon_dspResult h3)
    · split
      · exact (canon_dspResult (canon_setFlag (canon_stat h3)))
      · extract_lets x6 x7
        have h8 : Canon x7 := (canon_makeReady (canon_stat h3))
        exact (canon_dspResult (canon_watch h8))) h

theorem canon_execWait {a0 : CoreId} {a1 : Nat} {a2 : Nat} {s : State} (h : Canon s) : CanonN (execWait a0 a1 a2 s) :=
  canon_live (fun s h => by
    extract_lets x1 x2 x3 x4
    have h5 : Canon x1 := (canon_setReg h)
    exact (canon_onRunning h5 (fun _ _ h6 => (canon_ite (canon_dspResult h6) (canon_ite (canon_dspResult h6) (by
      extract_lets x7 x8 x9 x10 x11
      have h12 : Canon x9 := (canon_leaveCore (canon_dspResult h6))
      have h13 : Canon x10 := (canon_tickReady (canon_setThread h12))
      have h14 : Canon x11 := (canon_setThread h12)
      exact (canon_ite (canon_offerThread (canon_offerCore h13)) (canon_offerCore (canon_foldl (fun _ _ h15 => (canon_setOpnd h15)) h14))))))))) h

theorem canon_execYield {a0 : CoreId} {s : State} (h : Canon s) : CanonN (execYield a0 s) :=
  canon_live (fun s h => (canon_onRunning h (fun _ _ h1 => (by
      extract_lets x2 x3 x4
      have h5 : Canon x2 := (canon_leaveCore (canon_dspResult h1))
      have h6 : Canon x4 := (canon_tickReady (canon_setThread h5))
      exact (canon_offerThread (canon_offerCore h6)))))) h

theorem canon_execExit {a0 : CoreId} {s : State} (h : Canon s) : CanonN (execExit a0 s) :=
  canon_live (fun s h => (canon_onRunning h (fun _ _ h1 => (canon_freeThread (canon_dspResult h1))))) h

theorem canon_execPost {a0 : CoreId} {a1 : Nat} {a2 : Nat} {s : State} (h : Canon s) : CanonN (execPost a0 a1 a2 s) :=
  canon_live (fun s h => by
    extract_lets x1
    have h2 : Canon x1 := (canon_setReg h)
    exact (canon_ite (canon_dspResult h2) (canon_postOperand (canon_dspResult h2)))) h

theorem canon_execSetPriority {a0 : CoreId} {a1 : Nat} {s : State} (h : Canon s) : CanonN (execSetPriority a0 a1 s) :=
  canon_live (fun s h => by
    extract_lets x1 x2
    exact (canon_ite (canon_dspStale h) (canon_ite (canon_dspResult h) (canon_offerThread (canon_setThread (canon_dspResult h)))))) h

theorem canon_execThreadAbort {a0 : CoreId} {a1 : Nat} {s : State} (h : Canon s) : CanonN (execThreadAbort a0 a1 s) :=
  canon_live (fun s h => (canon_ite (canon_abortThread (canon_dspResult h)) (canon_dspStale h))) h

theorem canon_consume {s : State} {a1 : Nat} {a2 : List Nat} {a3 : Nat} (h : Canon s) : Canon (consume s a1 a2 a3).1 :=
  by
  induction a2 generalizing s a3 with
  | nil => exact h
  | cons o r ih =>
    unfold consume
    dsimp only
    split
    · exact ih (canon_setOpnd h)
    · exact ih h

theorem canon_execDspNextRead {a0 : CoreId} {s : State} (h : Canon s) : CanonN (execDspNextRead a0 s) :=
  canon_live (fun s h => by
    split
    · extract_lets x2
      split
      · extract_lets x4 x5 x6
        have h7 : Canon x4 := (canon_unbind (canon_fst ‹_› (canon_consume h)))
        have h8 : Canon x5 := (canon_setThread h7)
        exact (canon_stat (canon_modCore h8))
    · exact (canon_modCore h)) h

theorem canon_execWaitTimeout {a0 : Fin 512} {s : State} (h : Canon s) : CanonN (execWaitTimeout a0 s) :=
  canon_live (fun s h => by
    extract_lets x1
    exact (canon_ite (canon_makeReady (canon_stat (canon_unbind h))) h)) h

theorem canon_execMigrateExpiry {a0 : Fin 512} {s : State} (h : Canon s) : CanonN (execMigrateExpiry a0 s) :=
  canon_live (fun s h => by
    extract_lets x1
    split
    · exact h
    · exact (canon_ite (canon_offerThread (canon_setFlag (canon_stat (canon_setThread h)))) h)) h

theorem canon_countTicks {s : State} {a1 : Nat} (h : Canon s) : Canon (countTicks s a1) := by
  unfold countTicks
  extract_lets x0 x1
  exact (canon_mk h)

theorem canon_setDatum {s : State} {a1 : DatumUnit} (h : Canon s) : Canon (State.setDatum s a1) := by
  unfold State.setDatum
  exact (canon_mk h)

theorem canon_tickDatum {s : State} (h : Canon s) : Canon (tickDatum s) := by
  unfold tickDatum
  extract_lets x0
  exact (canon_setDatum (canon_countTicks h))

theorem canon_execDatumTick {s : State} (h : Canon s) : CanonN (execDatumTick s) :=
  canon_aon (fun s h => (canon_ite (canon_tickDatum h) h)) h

theorem canon_incrWritten {s : State} (h : Canon s) : Canon (incrWritten s) := by
  unfold incrWritten
  extract_lets x0
  exact (canon_setDatum h)

theorem canon_execDatumIncrApply {s : State} (h : Canon s) : CanonN (execDatumIncrApply s) := canon_live (fun s h => by
    extract_lets x1
    split
    · exact (canon_ite (canon_tickDatum (canon_setDatum h)) h)
    · exact h) h

theorem canon_modTpo {s : State} {a1 : Fin 4} {a2 : Tpo → Tpo} (h : Canon s) : Canon (State.modTpo s a1 a2) := by
  unfold State.modTpo
  extract_lets x0
  exact (canon_setDatum h)

theorem canon_emitPulse {s : State} {a1 : Fin 4} (h : Canon s) : Canon (emitPulse s a1) := by
  unfold emitPulse
  exact (canon_modTpo h)

theorem canon_tpoConfigured {s : State} {a1 : Fin 4} (h : Canon s) : Canon (tpoConfigured s a1) := by
  unfold tpoConfigured
  extract_lets x0
  split
  · exact (canon_ite (canon_modTpo h) (canon_setFlag (canon_modTpo h)))
  · exact (canon_modTpo h)
  · exact (canon_modTpo h)

theorem canon_execTpoEdge {a0 : Fin 4} {s : State} (h : Canon s) : CanonN (execTpoEdge a0 s) :=
  canon_live (fun s h => by
    split
    · exact (canon_ite (canon_modTpo (canon_emitPulse h)) h)
    · exact h) h

theorem canon_tpoStepped {s : State} {a1 : Fin 4} (h : Canon s) : Canon (tpoStepped s a1) := by
  unfold tpoStepped
  split
  · exact (canon_ite (canon_setFlag (canon_modTpo (canon_emitPulse h))) h)
  · exact h

theorem canon_tpoAdvanced {s : State} {a1 : Fin 4} (h : Canon s) : Canon (tpoAdvanced s a1) := by
  unfold tpoAdvanced
  extract_lets x0
  have h1 : Canon x0 := (canon_modTpo h)
  split
  · exact (canon_ite (canon_ite (canon_setFlag h1) h1) h)
  · exact h

theorem canon_applyStep {s : State} {a1 : StepReq} (h : Canon s) : Canon (applyStep s a1).1 := by
  unfold applyStep
  extract_lets x0 x1 x2 x3 x4 x5 x6 x7
  have h8 : Canon x4 := (canon_mk h)
  have h9 : Canon x6 := (canon_setDatum (canon_countTicks h8))
  have h10 : Canon x7 := (canon_setFlag h9)
  exact (canon_ite1 (canon_foldl (fun _ _ h11 => (canon_tpoStepped h11)) h10) (canon_tickDatum h))

theorem canon_stepWrite {a0 : Nat} {a1 : Bytes} {s : State} (h : Canon s) : Canon (stepWrite a0 a1 s).1 := by
  unfold stepWrite
  extract_lets x0 x1
  exact (canon_ite1 h (canon_setDatum h))

theorem canon_execDtmSnapRead {a0 : CoreId} {s : State} (h : Canon s) : CanonN (execDtmSnapRead a0 s) :=
  canon_live (fun s h => by
    extract_lets x1
    exact (canon_modCore (canon_setDatum h))) h

theorem canon_execCaptureEdge {a0 : Fin 3} {a1 : Bool} {a2 : Nat} {a3 : Nat} {s : State} (h : Canon s) : CanonN (execCaptureEdge a0 a1 a2 a3 s) :=
  canon_live (fun s h => by
    split
    · split
      · split
        · extract_lets x4 x5
          exact (canon_postFixed (canon_setDatum (canon_snd ‹_› (canon_drawIn h))))
      · exact (canon_setFlag h)
    · exact h) h

theorem canon_capturePop {a0 : Bytes} {s : State} (h : Canon s) : Canon (capturePop a0 s).1 := by
  unfold capturePop
  extract_lets x0 x1
  split
  · exact (canon_setDatum h)
  · exact (canon_setDatum h)

theorem canon_execAonCalCount {a0 : Nat} {s : State} (h : Canon s) : CanonN (execAonCalCount a0 s) :=
  canon_live (fun s h => by
    extract_lets x1
    exact (canon_ite (canon_setDatum h) h)) h

theorem canon_advanceDatum {s : State} {a1 : Nat} (h : Canon s) : Canon (advanceDatum s a1) := by
  unfold advanceDatum
  split
  · extract_lets x1 x2 x3 x4 x5 x6 x7 x8 x9
    have h10 : Canon x5 := (canon_countTicks h)
    have h11 : Canon x7 := (canon_setDatum h10)
    have h12 : Canon x8 := (canon_setFlag (canon_setObj h11))
    have h13 : Canon x9 := (canon_setObj h12)
    exact (canon_ite (canon_foldl (fun _ _ h14 => (canon_tpoAdvanced h14)) h13) h)
  · exact h

theorem canon_pairTime {s : State} {a1 : Heartbeat} (h : Canon s) : Canon (pairTime s a1) := by
  unfold pairTime
  extract_lets x0 x1 x2
  exact (canon_setDatum h)

theorem canon_followActive {s : State} {a1 : Bool} (h : Canon s) : Canon (followActive s a1) := by
  unfold followActive
  extract_lets x0 x1 x2 x3 x4
  have h5 : Canon x4 := (canon_setDatum h)
  exact (canon_ite (canon_ite (canon_setObj (canon_setDatum h)) (canon_ite (canon_setObj h5) (canon_setObj h5))) h)

theorem canon_setPower {s : State} {a1 : Power} (h : Canon s) : Canon (State.setPower s a1) := by
  unfold State.setPower
  exact (canon_mk h)

theorem canon_release {s : State} {a1 : Nat} {a2 : Nat} (h : Canon s) : Canon (State.release s a1 a2) := by
  unfold State.release
  extract_lets x0
  exact (canon_setPower h)

theorem canon_grant {s : State} {a1 : Nat} {a2 : Nat} {a3 : Nat} (h : Canon s) : Canon (State.grant s a1 a2 a3) := by
  unfold State.grant
  extract_lets x0 x1
  have h2 : Canon x0 := (canon_release h)
  exact (canon_ite h2 (canon_setPower h2))

theorem canon_grantReduced {s : State} (h : Canon s) : Canon (grantReduced s) := by
  unfold grantReduced
  exact (canon_setFlag (canon_stat h))

theorem canon_request {s : State} {a1 : Nat} {a2 : Nat} {a3 : Nat} {a4 : Bool} (h : Canon s) : Canon (State.request s a1 a2 a3 a4).1 :=
  by
  unfold State.request
  exact (canon_ite1 (canon_grant h) (canon_grantReduced h))

theorem canon_requestUpTo {s : State} {a1 : Nat} {a2 : Nat} {a3 : Nat} (h : Canon s) : Canon (State.requestUpTo s a1 a2 a3).1 :=
  by
  unfold State.requestUpTo
  extract_lets x0 x1
  have h2 : Canon x1 := (canon_grant h)
  exact (canon_ite1 (canon_grantReduced h2) h2)

theorem canon_book {s : State} {a1 : Nat} {a2 : Nat} (h : Canon s) : Canon (State.book s a1 a2).1 := by
  unfold State.book
  exact (canon_ite1 (canon_grant h) (canon_setFlag (canon_stat (canon_grantReduced h))))

theorem canon_requestPoint {s : State} {a1 : CoreId} {a2 : Nat} (h : Canon s) : Canon (requestPoint s a1 a2) := by
  unfold requestPoint
  extract_lets x0 x1 x2 x3
  have h4 : Canon x2 := (canon_grant h)
  split
  · exact (canon_modCore (canon_setPower h4))
  · split
    · extract_lets x7
      exact (canon_ite (canon_setPower (canon_fst ‹_› (canon_request h))) (canon_fst ‹_› (canon_request h)))

theorem canon_coresReady {s : State} (h : Canon s) : Canon (coresReady s) := by
  unfold coresReady
  extract_lets x0 x1 x2
  have h3 : Canon x2 := (canon_setPower h)
  exact (canon_ite (canon_foldl (fun _ _ h4 => (canon_mk h4)) h3) h)

theorem canon_execVidChange {a0 : Bool} {s : State} (h : Canon s) : CanonN (execVidChange a0 s) :=
  canon_live (fun s h => by
    extract_lets x1 x2 x3
    have h4 : Canon x1 := (canon_coresReady h)
    exact (canon_ite (canon_ite (canon_setPower h4) h4) (canon_ite (canon_grant (canon_setPower h)) h))) h

theorem canon_coreDvfsWritten {s : State} {a1 : Nat} (h : Canon s) : Canon (coreDvfsWritten s a1) := by
  unfold coreDvfsWritten
  extract_lets x0
  have h1 : Canon x0 := (canon_coresReady h)
  exact (canon_dite (fun _ => (canon_requestPoint h1)) (fun _ => h1))

theorem canon_supplyShort {s : State} (h : Canon s) : Canon (supplyShort s) := by
  unfold supplyShort
  extract_lets x0 x1 x2
  have h3 : Canon x2 := (canon_setPower h)
  exact (canon_ite (canon_logEvent (canon_setFlag h3)) h3)

theorem canon_rateShort {s : State} {a1 : Nat} (h : Canon s) : Canon (rateShort s a1) := by
  unfold rateShort
  extract_lets x0 x1 x2
  have h3 : Canon x2 := (canon_setPower h)
  exact (canon_ite (canon_logEvent (canon_setFlag h3)) h3)

theorem canon_execMonitorRefresh {a0 : List Nat} {s : State} (h : Canon s) : CanonN (execMonitorRefresh a0 s) :=
  canon_live (fun s h => by
    extract_lets x1 x2 x3 x4 x5 x6 x7 x8 x9 x10 x11
    have h12 : Canon x2 := (canon_coresReady h)
    have h13 : Canon x3 := (canon_foldl (fun _ _ h13 => (canon_setObj h13)) h12)
    have h14 : Canon x6 := (canon_foldl (fun _ _ h14 => (canon_setFlag h14)) h13)
    have h15 : Canon x11 := (canon_setPower (canon_setObj h14))
    exact (canon_ite (canon_setPower h14) (canon_supplyShort (canon_rateShort h15)))) h

theorem canon_powerTrx {s : State} {a1 : Nat} {a2 : Bool} (h : Canon s) : Canon (powerTrx s a1 a2) := by
  unfold powerTrx
  extract_lets x0 x1
  exact (canon_mk h)

theorem canon_enableLane {s : State} {a1 : Nat} {a2 : Bool} (h : Canon s) : Canon (enableLane s a1 a2) := by
  unfold enableLane
  extract_lets x0 x1
  exact (canon_mk h)

theorem canon_unitRequest {s : State} {a1 : Nat} {a2 : Nat} {a3 : Nat} (h : Canon s) : Canon (unitRequest s a1 a2 a3).1 :=
  by
  unfold unitRequest
  exact (canon_ite1 (canon_grantReduced h) (canon_request h))

theorem canon_execPowerRequest {a0 : PowerReq} {s : State} (h : Canon s) : CanonN (execPowerRequest a0 s) :=
  canon_live (fun s h => by
    extract_lets x1 x2
    have h3 : Canon x1 := (canon_coresReady h)
    split
    · exact (canon_grant h3)
    · exact (canon_setPower h3)
    · exact (canon_grant h3)
    · exact (canon_requestPoint h3)
    · split
      · exact (canon_ite (canon_powerTrx (canon_fst ‹_› (canon_unitRequest h3))) (canon_fst ‹_› (canon_unitRequest h3)))
    · exact (canon_requestUpTo h3)
    · exact (canon_book h3)
    · exact (canon_unitRequest h3)
    · exact (canon_unitRequest h3)
    · exact (canon_unitRequest h3)
    · split
      · exact (canon_ite (canon_enableLane (canon_fst ‹_› (canon_unitRequest h3))) (canon_fst ‹_› (canon_unitRequest h3)))) h

theorem canon_setRf {s : State} {a1 : Rf} (h : Canon s) : Canon (State.setRf s a1) := by
  unfold State.setRf
  exact (canon_mk h)

theorem canon_modFe {s : State} {a1 : Radio} {a2 : FrontEnd → FrontEnd} (h : Canon s) : Canon (State.modFe s a1 a2) :=
  by
  unfold State.modFe
  extract_lets x0
  exact (canon_setRf h)

theorem canon_modTrx {s : State} {a1 : Trx} {a2 : Transceiver → Transceiver} (h : Canon s) : Canon (State.modTrx s a1 a2) :=
  by
  unfold State.modTrx
  extract_lets x0
  exact (canon_setRf h)

theorem canon_unusableResult {s : State} {a1 : Trx} {a2 : Nat} (h : Canon s) : Canon (unusableResult s a1 a2) := by
  unfold unusableResult
  exact (canon_setObj h)

theorem canon_skipUnusable {a0 : Trx} {a1 : Nat} {s : State} {a3 : Nat} (h : Canon s) : Canon (skipUnusable a0 a1 s a3).1 :=
  by
  induction a1 generalizing s a3 with
  | zero => exact h
  | succ n ih =>
    unfold skipUnusable
    split
    · exact h
    · exact ih (canon_unusableResult h)

theorem canon_beginDwell {s : State} {a1 : Trx} {a2 : Nat} (h : Canon s) : Canon (beginDwell s a1 a2) := by
  unfold beginDwell
  split
  · exact (canon_modTrx (canon_fst ‹_› (canon_ite1 h (canon_skipUnusable h))))

theorem canon_restartSentinels {s : State} {a1 : Radio} (h : Canon s) : Canon (restartSentinels s a1) := by
  unfold restartSentinels
  exact (canon_foldl (fun _ _ h0 => (canon_beginDwell h0)) h)

theorem canon_restartDwells {s : State} {a1 : Radio} (h : Canon s) : Canon (restartDwells s a1) := by
  unfold restartDwells
  exact (canon_foldl (fun _ _ h0 => (canon_beginDwell h0)) h)

theorem canon_joinTrx {s : State} {a1 : Trx} (h : Canon s) : Canon (joinTrx s a1) := by
  unfold joinTrx
  split
  · exact (canon_modTrx (canon_fst ‹_› (canon_request h)))

theorem canon_sentinelTrx {s : State} {a1 : Trx} (h : Canon s) : Canon (sentinelTrx s a1) := by
  unfold sentinelTrx
  split
  · exact (canon_beginDwell (canon_modTrx (canon_fst ‹_› (canon_request h))))

theorem canon_offTrx {s : State} {a1 : Trx} (h : Canon s) : Canon (offTrx s a1) := by
  unfold offTrx
  exact (canon_modTrx (canon_release h))

theorem canon_imageCheck {s : State} {a1 : Radio} (h : Canon s) : Canon (imageCheck s a1) := by
  unfold imageCheck
  exact (canon_ite (canon_setFlag h) h)

theorem canon_execTrxJoinCalDone {a0 : Trx} {a1 : Int} {s : State} (h : Canon s) : CanonN (execTrxJoinCalDone a0 a1 s) :=
  canon_live (fun s h => by
    extract_lets x1
    have h2 : Canon x1 := (canon_modTrx h)
    split
    · split
      · exact (canon_ite (canon_imageCheck h2) h2)
      · exact h2
    · exact h) h

theorem canon_returnReq {s : State} {a1 : Radio} {a2 : Nat} {a3 : Nat} (h : Canon s) : Canon (returnReq s a1 a2 a3) :=
  by
  unfold returnReq
  extract_lets x0
  have h1 : Canon x0 := (canon_modFe h)
  exact (canon_ite (canon_radioFlag h1) (canon_ite (canon_radioFlag h1) (canon_ite (canon_radioFlag h1) (canon_ite (canon_radioFlag h1) h1))))

theorem canon_refundDuty {s : State} {a1 : List Nat} {a2 : Nat} (h : Canon s) : Canon (refundDuty s a1 a2) := by
  unfold refundDuty
  exact (canon_foldl (fun _ _ h0 => (canon_setRf h0)) h)

theorem canon_retune {s : State} {a1 : Radio} (h : Canon s) : Canon (retune s a1) := by
  unfold retune
  extract_lets x0
  exact (canon_modFe h)

theorem canon_beginChange {s : State} {a1 : Radio} {a2 : Chan} (h : Canon s) : Canon (beginChange s a1 a2) := by
  unfold beginChange
  extract_lets x0 x1 x2 x3
  have h4 : Canon x2 := (canon_ite (canon_setFlag h) h)
  have h5 : Canon x3 := (canon_foldl (fun _ _ h5 => (canon_modTrx h5)) h4)
  split
  · split
    · extract_lets x8 x9
      have h10 : Canon x8 := (canon_modFe h5)
      have h11 : Canon x9 := (canon_retune h10)
      exact (canon_ite h11 (canon_restartDwells h11))

theorem canon_requestChannel {s : State} {a1 : Radio} {a2 : Chan} (h : Canon s) : Canon (requestChannel s a1 a2) := by
  unfold requestChannel
  exact (canon_modFe h)

theorem canon_changeAtBoundary {s : State} {a1 : Radio} (h : Canon s) : Canon (changeAtBoundary s a1) := by
  unfold changeAtBoundary
  split
  · exact (canon_ite (canon_beginChange h) h)
  · exact h

theorem canon_execLoLocked {a0 : Radio} {s : State} (h : Canon s) : CanonN (execLoLocked a0 s) :=
  canon_live (fun s h => by
    extract_lets x1 x2
    have h3 : Canon x2 := (canon_modFe h)
    exact (canon_ite h (canon_ite (canon_imageCheck h3) h3))) h

theorem canon_calibrateAll {s : State} {a1 : Radio} {a2 : List Int} (h : Canon s) : Canon (calibrateAll s a1 a2) := by
  unfold calibrateAll
  extract_lets x0 x1
  have h2 : Canon x1 := (canon_foldl (fun _ _ h2 => (canon_modTrx h2)) h)
  exact (canon_modFe h2)

theorem canon_calibrateChange {s : State} {a1 : Radio} {a2 : List Int} (h : Canon s) : Canon (calibrateChange s a1 a2) :=
  by
  unfold calibrateChange
  extract_lets x0
  have h1 : Canon x0 := (canon_foldl (fun _ _ h1 => (canon_modTrx h1)) h)
  exact (canon_calibrateAll h1)

theorem canon_feOff {s : State} {a1 : Radio} (h : Canon s) : Canon (feOff s a1) := by
  unfold feOff
  extract_lets x0
  have h1 : Canon x0 := (canon_foldl (fun _ _ h1 => (canon_modTrx h1)) h)
  exact (canon_modFe (canon_release h1))

theorem canon_blockerTrigger {s : State} {a1 : Radio} (h : Canon s) : Canon (blockerTrigger s a1) := by
  unfold blockerTrigger
  extract_lets x0 x1
  exact (canon_ite (canon_setFlag h) (canon_ite h (canon_modFe h)))

theorem canon_execOverrangeWindow {a0 : Radio} {a1 : List TrxWindow} {s : State} (h : Canon s) : CanonN (execOverrangeWindow a0 a1 s) :=
  canon_live (fun s h => by
    extract_lets x1
    have h2 : ∀ y00 y01, Canon y00.1 → Canon (x1 y00 y01).1 := by
      intro _ _ h3
      unfold x1
      extract_lets x4 x5 x6 x7 x8
      have h9 : Canon x4 := h3
      have h10 : Canon x7 := (canon_modTrx h9)
      have h11 : Canon x8 := (canon_ite (canon_setFlag h10) h10)
      exact (canon_ite1 h11 h3)
    split
    · exact (canon_ite (canon_blockerTrigger (canon_fst ‹_› (canon_foldl1 (fun _ _ h4 => (h2 _ _ h4)) h))) (canon_fst ‹_› (canon_foldl1 (fun _ _ h4 => (h2 _ _ h4)) h)))) h

theorem canon_pathSwitchAt {a0 : Radio} {s : State} (h : Canon s) : Canon (pathSwitchAt a0 s) := by
  unfold pathSwitchAt
  extract_lets x0
  exact (canon_ite (canon_modFe h) h)

theorem canon_execPathSwitchDone {a0 : Radio} {s : State} (h : Canon s) : CanonN (execPathSwitchDone a0 s) :=
  canon_live (fun s h => by
    extract_lets x1
    split
    · extract_lets x3 x4
      have h5 : Canon x3 := (canon_modFe h)
      have h6 : Canon x4 := (canon_foldl (fun _ _ h6 => (canon_modTrx h6)) h5)
      exact (canon_ite (canon_imageCheck (canon_retune h6)) h)
    · exact h) h

theorem canon_execBlockHoldExpiry {a0 : Radio} {s : State} (h : Canon s) : CanonN (execBlockHoldExpiry a0 s) :=
  canon_live (fun s h => (canon_ite (canon_modFe h) h)) h

theorem canon_execProbeExpiry {a0 : Radio} {s : State} (h : Canon s) : CanonN (execProbeExpiry a0 s) :=
  canon_live (fun s h => (canon_ite (canon_modFe h) h)) h

theorem canon_pathModeStaked {s : State} {a1 : Radio} (h : Canon s) : Canon (pathModeStaked s a1) := by
  unfold pathModeStaked
  extract_lets x0 x1
  exact (canon_ite h (canon_modFe h))

theorem canon_ifSideStaked {s : State} {a1 : Radio} (h : Canon s) : Canon (ifSideStaked s a1) := by
  unfold ifSideStaked
  exact (canon_ite h (canon_retune h))

theorem canon_execImageRecalTimer {a0 : Radio} {a1 : List Nat} {s : State} (h : Canon s) : CanonN (execImageRecalTimer a0 a1 s) :=
  canon_live (fun s h => (canon_ite h (canon_foldl (fun _ _ h1 => (canon_modTrx h1)) h))) h

theorem canon_queueRffe {s : State} {a1 : Radio} {a2 : Nat} {a3 : Nat} (h : Canon s) : Canon (queueRffe s a1 a2 a3) :=
  by
  unfold queueRffe
  exact (canon_foldl (fun _ _ h0 => (by
    extract_lets x1
    split
    · split
      · split
        · extract_lets x5 x6
          exact (canon_setRf (canon_snd ‹_› (canon_draw (canon_snd ‹_› (canon_draw h0)))))
    · exact h0)) h)

theorem canon_rffeRun {s : State} {a1 : Fin 3} (h : Canon s) : Canon (rffeRun s a1).1 := by
  unfold rffeRun
  extract_lets x0
  split
  · exact h
  · exact (canon_setRf h)

theorem canon_rffeDrop {s : State} {a1 : Nat} {a2 : Nat} (h : Canon s) : Canon (rffeDrop s a1 a2) := by
  unfold rffeDrop
  extract_lets x0
  exact (canon_setRf h)

theorem canon_accountDuty {s : State} {a1 : Chan} {a2 : Nat} (h : Canon s) : Canon (accountDuty s a1 a2) := by
  unfold accountDuty
  exact (canon_foldl (fun _ _ h0 => (canon_setRf h0)) h)

theorem canon_execDutyBucketRoll {a0 : Fin 16} {s : State} (h : Canon s) : CanonN (execDutyBucketRoll a0 s) :=
  canon_live (fun s h => by
    extract_lets x1
    exact (canon_setRf h)) h

theorem canon_countDuty {s : State} {a1 : Chan} {a2 : Nat} (h : Canon s) : Canon (countDuty s a1 a2) := by
  unfold countDuty
  split
  · exact (canon_addObjF h)
  · exact h

theorem canon_transmit {s : State} {a1 : Radio} {a2 : Nat} {a3 : Nat} {a4 : Nat} {a5 : Nat} {a6 : Nat} {a7 : Chan} {a8 : Int} (h : Canon s) : Canon (transmit s a1 a2 a3 a4 a5 a6 a7 a8) :=
  by
  unfold transmit
  extract_lets x0
  have h1 : Canon x0 := (canon_accountDuty (canon_queueRffe h))
  exact (canon_modFe h1)

theorem canon_cutAir {s : State} {a1 : Radio} (h : Canon s) : Canon (cutAir s a1).1 := by
  unfold cutAir
  extract_lets x0
  split
  · extract_lets x2
    have h3 : Canon x2 := (canon_foldl (fun _ _ h3 => (canon_refundDuty (canon_rffeDrop h3))) h)
    exact (canon_modFe h3)

theorem canon_endDiag {s : State} {a1 : Radio} {a2 : Nat} (h : Canon s) : Canon (endDiag s a1 a2) := by
  unfold endDiag
  extract_lets x0
  exact (canon_modFe (canon_feOff h))

theorem canon_diagTx {a0 : Nat} {a1 : Bytes} {s : State} (h : Canon s) : Canon (diagTx a0 a1 s).1 := by
  unfold diagTx
  extract_lets x0 x1 x2 x3 x4 x5 x6 x7
  split
  · extract_lets x9 x10
    split
    · exact (canon_ite (canon_endDiag h) h)
    · split
      · exact h
      · split
        · exact h
        · split
          · exact h
          · split
            · exact h
            · extract_lets x16 x17
              split
              · exact h
              · split
                · exact h
                · split
                  · extract_lets x21 x22
                    have h23 : Canon x21 := (canon_beginChange (canon_ite (canon_endDiag (canon_fst ‹_› (canon_request h))) (canon_fst ‹_› (canon_request h))))
                    have h24 : Canon x22 := (canon_grant h23)
                    exact (canon_ite1 (canon_modFe h24) h)
  · exact h

theorem canon_execDiagTimeoutExpiry {a0 : Radio} {s : State} (h : Canon s) : CanonN (execDiagTimeoutExpiry a0 s) :=
  canon_live (fun s h => (canon_ite (canon_radioFlag (canon_endDiag h)) h)) h

theorem canon_execDiagDurationEnd {a0 : Radio} {s : State} (h : Canon s) : CanonN (execDiagDurationEnd a0 s) :=
  canon_live (fun s h => (canon_ite (canon_endDiag h) h)) h

theorem canon_trackLoss {s : State} {a1 : Radio} {a2 : List Nat} (h : Canon s) : Canon (trackLoss s a1 a2) := by
  unfold trackLoss
  exact (canon_ite (canon_stat (canon_radioFlag h)) h)

theorem canon_trackAll {s : State} {a1 : Radio} {a2 : List (List Nat)} (h : Canon s) : Canon (trackAll s a1 a2) := by
  unfold trackAll
  exact (canon_foldl (fun _ _ h0 => (canon_trackLoss h0)) h)

theorem canon_startReception {s : State} {a1 : Radio} {a2 : Preamble} (h : Canon s) : Canon (startReception s a1 a2) :=
  by
  unfold startReception
  extract_lets x0 x1
  have h2 : Canon x0 := (canon_stat (canon_modFe h))
  have h3 : Canon x1 := (canon_foldl (fun _ _ h3 => (canon_modTrx h3)) h2)
  exact (canon_trackAll h3)

theorem canon_newCorrelation {s : State} {a1 : Radio} {a2 : Reception} {a3 : Preamble} (h : Canon s) : Canon (newCorrelation s a1 a2 a3) :=
  by
  unfold newCorrelation
  extract_lets x0 x1
  have h2 : Canon x0 := (canon_stat (canon_radioFlag h))
  have h3 : Canon x1 := (canon_ite (canon_stat (canon_radioFlag h2)) h2)
  exact (canon_ite (canon_startReception h3) h)

theorem canon_preambleDetect {a0 : Radio} {a1 : Preamble} {s : State} (h : Canon s) : Canon (preambleDetect a0 a1 s) :=
  by
  unfold preambleDetect
  extract_lets x0
  split
  · exact (canon_setFlag h)
  · split
    · split
      · exact (canon_startReception h)
      · exact (canon_newCorrelation h)
    · exact h

theorem canon_bccDrop {s : State} {a1 : Radio} {a2 : Nat} (h : Canon s) : Canon (bccDrop s a1 a2) := by
  unfold bccDrop
  exact (canon_foldl (fun _ _ h0 => (canon_stat (canon_radioFlag h0))) h)

theorem canon_signalFieldDecode {a0 : Radio} {a1 : SigField} {a2 : Option Nat} {a3 : List RxUser} {s : State} (h : Canon s) : Canon (signalFieldDecode a0 a1 a2 a3 s) :=
  by
  unfold signalFieldDecode
  extract_lets x0
  split
  · exact h
  · extract_lets x2
    split
    · exact h
    · split
      · split
        · extract_lets x6
          have h7 : Canon x6 := (canon_modFe h)
          exact (canon_ite (canon_bccDrop h7) (canon_stat h7))
      · exact (canon_stat (canon_radioFlag (canon_modFe h)))

theorem canon_restartRx {a0 : Radio} {a1 : Preamble} {s : State} (h : Canon s) : Canon (restartRx a0 a1 s) := by
  unfold restartRx
  split
  · exact h
  · exact (canon_ite (canon_newCorrelation h) h)

theorem canon_execNfIntervalEnd {a0 : Radio} {a1 : Trx} {a2 : List NfWindow} {s : State} (h : Canon s) : CanonN (execNfIntervalEnd a0 a1 a2 s) :=
  canon_live (fun s h => by
    extract_lets x1 x2 x3
    have h4 : Canon x3 := (canon_setObj h)
    exact (canon_ite (canon_ite (canon_radioFlag h4) h4) h)) h

theorem canon_execSentinelDwellEnd {a0 : Trx} {a1 : List Int} {a2 : List Nat} {s : State} (h : Canon s) : CanonN (execSentinelDwellEnd a0 a1 a2 s) :=
  canon_live (fun s h => by
    extract_lets x1 x2 x3 x4 x5 x6
    have h7 : Canon x6 := (canon_ite (canon_unusableResult h) (canon_setObj h))
    exact (canon_ite h (canon_beginDwell h7))) h

theorem canon_setSec {s : State} {a1 : Sec} (h : Canon s) : Canon (State.setSec s a1) := by
  unfold State.setSec
  exact (canon_mk h)

theorem canon_setPair {s : State} {a1 : Pair} (h : Canon s) : Canon (State.setPair s a1) := by
  unfold State.setPair
  exact (canon_mk h)

theorem canon_cmdOut {s : State} {a1 : Nat} {a2 : Nat} {a3 : Bytes} (h : Canon s) : Canon (State.cmdOut s a1 a2 a3) :=
  by
  unfold State.cmdOut
  extract_lets x0 x1
  exact (canon_mk h)

theorem canon_mirror {s : State} {a1 : Nat} {a2 : MirrorItem} (h : Canon s) : Canon (State.mirror s a1 a2) := by
  unfold State.mirror
  extract_lets x0
  exact (canon_ite (canon_setPair h) h)

theorem canon_mirrorObj {s : State} {a1 : Nat} {a2 : Nat} {a3 : Nat} (h : Canon s) : Canon (State.mirrorObj s a1 a2 a3) :=
  by
  unfold State.mirrorObj
  exact (canon_mirror h)

theorem canon_setKey {s : State} {a1 : Nat} {a2 : KeySlot} (h : Canon s) : Canon (setKey s a1 a2) := by
  unfold setKey
  extract_lets x0
  exact (canon_setSec h)

theorem canon_rekeyEvent {s : State} {a1 : Nat} {a2 : Nat} {a3 : Nat} (h : Canon s) : Canon (rekeyEvent s a1 a2 a3) :=
  by
  unfold rekeyEvent
  extract_lets x0 x1
  have h2 : Canon x0 := (canon_setFlag h)
  exact (canon_ite (canon_postFixed (canon_setSec h2)) (canon_setFlag h2))

theorem canon_judgeWarn {s : State} {a1 : Nat} (h : Canon s) : Canon (judgeWarn s a1) := by
  unfold judgeWarn
  extract_lets x0
  split
  · exact (canon_ite (canon_rekeyEvent (canon_setKey h)) h)
  · exact h

theorem canon_exhaust {s : State} {a1 : Nat} (h : Canon s) : Canon (exhaust s a1) := by
  unfold exhaust
  extract_lets x0 x1
  have h2 : Canon x1 := (canon_setKey h)
  exact (canon_mirror (canon_ite h2 (canon_rekeyEvent h2)))

theorem canon_warnFracStaked {s : State} (h : Canon s) : Canon (warnFracStaked s) := by
  unfold warnFracStaked
  exact (canon_foldl (fun _ _ h0 => (canon_judgeWarn h0)) h)

theorem canon_counterStall {s : State} (h : Canon s) : Canon (counterStall s) := by
  unfold counterStall
  exact (canon_setFlag (canon_stat h))

theorem canon_takeCounter {s : State} {a1 : Nat} (h : Canon s) : Canon (takeCounter s a1).1 := by
  unfold takeCounter
  extract_lets x0 x1 x2
  have h3 : Canon x1 := (canon_judgeWarn (canon_setKey h))
  have h4 : Canon x2 := (canon_ite (canon_mirror h3) h3)
  split
  · exact h
  · split
    · exact h
    · split
      · exact h
      · exact (canon_ite1 (canon_exhaust h) (canon_ite1 (canon_counterStall h) h4))

theorem canon_advanceKey {s : State} {a1 : Nat} {a2 : Nat} (h : Canon s) : Canon (advanceKey s a1 a2) := by
  unfold advanceKey
  extract_lets x0 x1
  have h2 : Canon x1 := (canon_judgeWarn (canon_setKey h))
  split
  · exact (canon_ite (canon_ite (canon_exhaust h2) h2) h)
  · exact h

theorem canon_keyInstall {a0 : Bytes} {s : State} (h : Canon s) : Canon (keyInstall a0 s).1 := by
  unfold keyInstall
  extract_lets x0 x1 x2 x3 x4
  split
  · exact h
  · split
    · exact h
    · split
      · exact h
      · extract_lets x8 x9
        have h10 : Canon x8 := (canon_judgeWarn (canon_setKey h))
        have h11 : Canon x9 := (canon_watch (canon_mirror h10))
        exact (canon_ite1 h (canon_ite1 h (canon_cmdOut h11)))

theorem canon_scrubSlot {s : State} {a1 : Nat} (h : Canon s) : Canon (scrubSlot s a1) := by
  unfold scrubSlot
  exact (canon_ite (canon_setKey h) h)

theorem canon_keyErase {a0 : Bytes} {s : State} (h : Canon s) : Canon (keyErase a0 s).1 := by
  unfold keyErase
  extract_lets x0 x1 x2 x3
  have h4 : Canon x2 := (canon_scrubSlot (canon_setKey h))
  have h5 : Canon x3 := (canon_watch (canon_mirror h4))
  exact (canon_ite1 h (canon_ite1 h (canon_cmdOut h5)))

theorem canon_keyCmd {a0 : Bytes} {s : State} (h : Canon s) : Canon (keyCmd a0 s).1 := by
  unfold keyCmd
  exact (canon_ite1 (canon_keyInstall h) (canon_keyErase h))

theorem canon_rekeyPop {s : State} (h : Canon s) : Canon (rekeyPop s).1 := by
  unfold rekeyPop
  extract_lets x0
  split
  · exact (canon_setSec h)
  · exact (canon_setSec h)

theorem canon_modLane {s : State} {a1 : Fin 12} {a2 : LaneSt → LaneSt} (h : Canon s) : Canon (State.modLane s a1 a2) :=
  by
  unfold State.modLane
  extract_lets x0
  exact (canon_setSec h)

theorem canon_queueJob {s : State} {a1 : Nat} {a2 : Nat} {a3 : Bool} {a4 : Option Nat} {a5 : Nat} {a6 : JobOwner} {a7 : optParam Bytes []} (h : Canon s) : Canon (queueJob s a1 a2 a3 a4 a5 a6 a7) :=
  by
  unfold queueJob
  extract_lets x0 x1
  exact (canon_setSec h)

theorem canon_jobStart {a0 : Fin 12} {a1 : EccObs} {s : State} (h : Canon s) : Canon (jobStart a0 a1 s).1 := by
  unfold jobStart
  split
  · exact h
  · split
    · exact h
    · extract_lets x2 x3 x4 x5 x6 x7
      have h8 : Canon x2 := (canon_ite (canon_corrected h) h)
      have h9 : ∀ y00, Canon y00 → Canon (x5 y00) := by
        intro _ h10
        unfold x5
        extract_lets x11
        exact (canon_setSec h10)
      have h10 : Canon x6 := (canon_setFlag (canon_uncorrected (canon_setKey (h9 _ h8))))
      have h11 : Canon x7 := (canon_mirror h10)
      split
      · exact (h9 _ h8)
      · split
        · exact (h9 _ h8)
        · split
          · exact (canon_logEvent h11)
          · split
            · exact (canon_ite1 (h9 _ h8) (canon_modLane (h9 _ h8)))
            · split
              · exact (canon_modLane (h9 _ (canon_fst ‹_› (canon_takeCounter h8))))
              · exact (canon_fst ‹_› (canon_takeCounter h8))
              · exact (h9 _ (canon_fst ‹_› (canon_takeCounter h8)))
              · exact (h9 _ (canon_fst ‹_› (canon_takeCounter h8)))

theorem canon_freeLane {s : State} {a1 : Fin 12} {a2 : Job} (h : Canon s) : Canon (freeLane s a1 a2) := by
  unfold freeLane
  exact (canon_scrubSlot (canon_modLane h))

theorem canon_jobDone {a0 : Fin 12} {a1 : Bool} {s : State} (h : Canon s) : Canon (jobDone a0 a1 s).1 := by
  unfold jobDone
  split
  · exact h
  · extract_lets x1 x2
    have h3 : Canon x1 := (canon_freeLane h)
    have h4 : Canon x2 := (canon_modLane h3)
    exact (canon_ite1 (canon_modLane h3) (canon_setFlag h4))

theorem canon_laneParity {s : State} {a1 : Fin 12} {a2 : Job} (h : Canon s) : Canon (laneParity s a1 a2) := by
  unfold laneParity
  exact (canon_setFlag (canon_modLane (canon_freeLane h)))

theorem canon_laneAbort {s : State} {a1 : Fin 12} {a2 : Job} (h : Canon s) : Canon (laneAbort s a1 a2) := by
  unfold laneAbort
  exact (canon_modLane (canon_freeLane h))

theorem canon_extendMr {s : State} {a1 : Nat} {a2 : Bytes} (h : Canon s) : Canon (extendMr s a1 a2) := by
  unfold extendMr
  exact (canon_setObj h)

theorem canon_attest {a0 : Bytes} {s : State} (h : Canon s) : Canon (attest a0 s).1 := by
  unfold attest
  extract_lets x0
  exact (canon_ite1 h (canon_ite1 h (canon_ite1 h (canon_setSec h))))

theorem canon_execAttestDone {s : State} (h : Canon s) : CanonN (execAttestDone s) := canon_live (fun s h => by
    extract_lets x1
    split
    · extract_lets x3 x4
      exact (canon_setSec h)
    · exact h) h

theorem canon_extend {a0 : Nat} {a1 : Bytes} {s : State} (h : Canon s) : Canon (extend a0 a1 s).1 := by
  unfold extend
  exact (canon_ite1 h (canon_extendMr h))

theorem canon_execEntropyFail {s : State} (h : Canon s) : CanonN (execEntropyFail s) := canon_live (fun s h => by
    extract_lets x1
    exact (canon_setSec h)) h

theorem canon_execEntropyRestored {s : State} (h : Canon s) : CanonN (execEntropyRestored s) :=
  canon_live (fun s h => by
    extract_lets x1
    exact (canon_setSec h)) h

theorem canon_setFuse {s : State} {a1 : Nat} {a2 : Nat} {a3 : Bytes} (h : Canon s) : Canon (setFuse s a1 a2 a3) := by
  unfold setFuse
  extract_lets x0
  exact (canon_mk h)

theorem canon_fuseDone {s : State} (h : Canon s) : Canon (fuseDone s) := by
  unfold fuseDone
  extract_lets x0 x1
  have h2 : Canon x1 := (canon_mk h)
  exact (canon_cmdOut h2)

theorem canon_fuseCmd {a0 : Env} {a1 : Bytes} {s : State} (h : Canon s) : Canon (fuseCmd a0 a1 s).1 := by
  unfold fuseCmd
  extract_lets x0 x1 x2 x3 x4
  have h5 : Canon x3 := (canon_cmdOut h)
  exact (canon_ite1 h5 (canon_ite1 h5 (canon_ite1 h5 (canon_ite1 h5 (canon_ite1 h5 (canon_ite1 (canon_fuseDone (canon_setFuse h5)) (canon_ite1 (canon_fuseDone (canon_setFuse h5)) (canon_fuseDone (canon_mk h5)))))))))

theorem canon_debugOut {s : State} {a1 : Bytes} (h : Canon s) : Canon (debugOut s a1) := by
  unfold debugOut
  exact (canon_cmdOut h)

theorem canon_debugChallenge {s : State} (h : Canon s) : Canon (debugChallenge s).1 := by
  unfold debugChallenge
  split
  · exact h
  · split
    · exact h
    · split
      · extract_lets x3
        exact (canon_debugOut (canon_setSec (canon_snd ‹_› (canon_drawBytes h))))

theorem canon_debugRespond {a0 : Env} {a1 : Bytes} {s : State} (h : Canon s) : Canon (debugRespond a0 a1 s).1 := by
  unfold debugRespond
  extract_lets x0 x1 x2
  have h3 : Canon x2 := (canon_debugOut (canon_setSec h))
  split
  · exact (canon_debugOut h)
  · extract_lets x5 x6
    have h7 : Canon x5 := (canon_extendMr h3)
    exact (canon_ite1 h3 (canon_ite1 h3 (canon_ite1 h3 (canon_ite1 h3 (canon_debugOut (canon_setSec h7))))))

theorem canon_debugUnlock {a0 : Env} {a1 : Bytes} {s : State} (h : Canon s) : Canon (debugUnlock a0 a1 s).1 := by
  unfold debugUnlock
  exact (canon_ite1 (canon_debugChallenge h) (canon_debugRespond h))

theorem canon_setMac {s : State} {a1 : Mac} (h : Canon s) : Canon (State.setMac s a1) := by
  unfold State.setMac
  exact (canon_mk h)

theorem canon_staTouched {s : State} {a1 : Nat} (h : Canon s) : Canon (staTouched s a1) := by
  unfold staTouched
  exact (canon_mirrorObj h)

theorem canon_setLink {s : State} {a1 : Nat} {a2 : Nat} {a3 : Nat} {a4 : Nat} {a5 : Nat} (h : Canon s) : Canon (setLink s a1 a2 a3 a4 a5) :=
  by
  unfold setLink
  exact (canon_setObjF h)

theorem canon_macStat {s : State} {a1 : Nat} {a2 : Nat} {a3 : Nat} (h : Canon s) : Canon (macStat s a1 a2 a3) := by
  unfold macStat
  exact (canon_stat h)

theorem canon_macFlag {s : State} {a1 : Nat} {a2 : Nat} (h : Canon s) : Canon (macFlag s a1 a2) := by
  unfold macFlag
  exact (canon_setFlag h)

end Sys2Proof.Machine
end

