-- ==== Sys2Proof/Laws/CanonEgress.lean ====
section
/-! SUPPORT. The canonical form is kept by the traffic manager, egress and the wired ports: one lemma for each operation, which cites those
of the operations it calls. -/

namespace Sys2Proof.Machine
open Sys2Proof

theorem canon_setTm {s : State} {a1 : TmUnit} (h : Canon s) : Canon (State.setTm s a1) := by
  unfold State.setTm
  exact (canon_mk h)

theorem canon_setQueue {s : State} {a1 : Nat} {a2 : Queue} (h : Canon s) : Canon (State.setQueue s a1 a2) := by
  unfold State.setQueue
  extract_lets x0
  exact (canon_setTm h)

theorem canon_tmStat {s : State} {a1 : Nat} (h : Canon s) : Canon (tmStat s a1) := by
  unfold tmStat
  exact (canon_stat h)

theorem canon_tmFlag {s : State} {a1 : Nat} (h : Canon s) : Canon (tmFlag s a1) := by
  unfold tmFlag
  exact (canon_setFlag h)

theorem canon_setNode {s : State} {a1 : Nat} {a2 : Node} (h : Canon s) : Canon (setNode s a1 a2) := by
  unfold setNode
  extract_lets x0
  exact (canon_setTm h)

theorem canon_seat {s : State} {a1 : Nat} (h : Canon s) : Canon (seat s a1) := by
  unfold seat
  split
  · exact h
  · exact (canon_foldl (fun _ _ h1 => (by
      extract_lets x2 x3 x4 x5
      have h6 : Canon x5 := (canon_setNode h1)
      exact (canon_ite (canon_ite (canon_setNode h6) h6) h1))) h)

theorem canon_unseat {s : State} {a1 : Nat} (h : Canon s) : Canon (unseat s a1) := by
  unfold unseat
  exact (canon_foldl (fun _ _ h0 => (by
    extract_lets x1 x2 x3
    have h4 : Canon x3 := (canon_setNode h0)
    exact (canon_ite (canon_ite (canon_setNode h4) h4) h0))) h)

theorem canon_freshQueue {s : State} {a1 : Nat} (h : Canon s) : Canon (freshQueue s a1) := by
  unfold freshQueue
  exact (canon_foldl (fun _ _ h0 => (by
    extract_lets x1
    exact (canon_setNode h0))) h)

theorem canon_moveTags {s : State} {a1 : Nat} {a2 : Nat} {a3 : Nat} (h : Canon s) : Canon (moveTags s a1 a2 a3) := by
  unfold moveTags
  extract_lets x0 x1 x2 x3
  have h4 : Canon x2 := (canon_setNode h)
  have h5 : Canon x3 := (canon_setNode h4)
  exact (canon_ite (canon_unseat h5) h5)

theorem canon_chargeShaper {s : State} {a1 : Nat} {a2 : Nat} (h : Canon s) : Canon (chargeShaper s a1 a2) := by
  unfold chargeShaper
  extract_lets x0
  exact (canon_ite h (canon_setTm h))

theorem canon_police {s : State} {a1 : Nat} {a2 : Nat} (h : Canon s) : Canon (police s a1 a2).1 := by
  unfold police
  extract_lets x0 x1
  split
  · exact h
  · split
    · exact (canon_ite1 (canon_stat h) (canon_ite1 (canon_stat (canon_setTm h)) (canon_stat (canon_setTm h))))

theorem canon_execRefill {s : State} (h : Canon s) : CanonN (execRefill s) := canon_live (fun s h => by
    extract_lets x1 x2 x3 x4 x5
    exact (canon_setTm h)) h

theorem canon_watchCells {s : State} (h : Canon s) : Canon (watchCells s) := by
  unfold watchCells
  extract_lets x0
  exact (canon_watch h)

theorem canon_freeRef {s : State} {a1 : QFrame} (h : Canon s) : Canon (freeRef s a1) := by
  unfold freeRef
  extract_lets x0 x1
  exact (canon_ite (canon_setTm h) (canon_ite (canon_watchCells (canon_setTm h)) (canon_setTm h)))

theorem canon_takeRef {s : State} {a1 : QFrame} (h : Canon s) : Canon (takeRef s a1) := by
  unfold takeRef
  extract_lets x0 x1 x2
  exact (canon_ite (canon_watchCells (canon_setTm h)) (canon_setTm h))

theorem canon_countDrop {s : State} {a1 : Nat} {a2 : Nat} (h : Canon s) : Canon (countDrop s a1 a2) := by
  unfold countDrop
  extract_lets x0
  exact (canon_tmStat (canon_setQueue h))

theorem canon_enqueue {s : State} {a1 : Nat} {a2 : QFrame} (h : Canon s) : Canon (enqueue s a1 a2) := by
  unfold enqueue
  extract_lets x0 x1
  have h2 : Canon x1 := (canon_tmStat (canon_setQueue h))
  exact (canon_ite (canon_seat h2) h2)

theorem canon_toDram {s : State} {a1 : Nat} {a2 : QFrame} (h : Canon s) : Canon (toDram s a1 a2) := by
  unfold toDram
  extract_lets x0
  exact (canon_ite (canon_tmFlag (canon_countDrop h)) (canon_ite (canon_tmFlag (canon_countDrop h)) (canon_tmStat (canon_enqueue (canon_setTm h)))))

theorem canon_admitFrame {s : State} {a1 : Colour} {a2 : QFrame} {a3 : Nat} (h : Canon s) : Canon (admitFrame s a1 a2 a3) :=
  by
  unfold admitFrame
  extract_lets x0 x1
  exact (canon_ite (canon_countDrop h) (canon_ite (canon_toDram h) (canon_ite (canon_ite (canon_toDram h) (canon_tmFlag (canon_countDrop h))) (canon_ite (canon_enqueue (canon_takeRef h)) (canon_tmFlag (canon_countDrop h))))))

theorem canon_tmHandoff {s : State} {a1 : TmFrame} (h : Canon s) : Canon (tmHandoff s a1) := by
  unfold tmHandoff
  extract_lets x0 x1 x2 x3
  have h4 : Canon x1 := (canon_foldl (fun _ _ h4 => (canon_stat h4)) h)
  split
  · exact (canon_ite (canon_tmFlag (canon_foldl (fun _ _ h6 => (canon_setQueue h6)) (canon_tmStat (canon_fst ‹_› (canon_police h4))))) (canon_foldl (fun _ _ h6 => (canon_admitFrame h6)) (canon_fst ‹_› (canon_police h4))))

theorem canon_flushQueue {s : State} {a1 : Nat} (h : Canon s) : Canon (flushQueue s a1) := by
  unfold flushQueue
  extract_lets x0 x1 x2
  have h3 : Canon x1 := (canon_foldl (fun _ _ h3 => (canon_countDrop (canon_freeRef h3))) h)
  exact (canon_unseat (canon_setQueue h3))

theorem canon_flushFor {s : State} {a1 : Nat} {a2 : Nat} (h : Canon s) : Canon (flushFor s a1 a2) := by
  unfold flushFor
  extract_lets x0 x1 x2 x3 x4
  have h5 : Canon x1 := (canon_foldl (fun _ _ h5 => (canon_countDrop (canon_freeRef h5))) h)
  have h6 : Canon x4 := (canon_setQueue h5)
  exact (canon_ite (canon_unseat h6) h6)

theorem canon_flushStation {s : State} {a1 : Nat} (h : Canon s) : Canon (flushStation s a1) := by
  unfold flushStation
  exact (canon_foldl (fun _ _ h0 => (canon_flushQueue h0)) h)

theorem canon_dropWhere {s : State} {a1 : Nat} {a2 : Nat} {a3 : Option Nat} {a4 : QFrame → Bool} (h : Canon s) : Canon (dropWhere s a1 a2 a3 a4) :=
  by
  unfold dropWhere
  extract_lets x0 x1 x2 x3 x4 x5
  have h6 : Canon x2 := by
    unfold x2
    exact (canon_foldl (fun _ _ h7 => (by
      split
      · exact (canon_tmFlag (canon_countDrop (canon_freeRef h7)))
      · exact (canon_countDrop (canon_freeRef h7)))) h)
  have h7 : Canon x5 := (canon_setQueue h6)
  exact (canon_ite h (canon_ite (canon_unseat h7) h7))

theorem canon_purgeExpired {s : State} {a1 : Nat} {a2 : Nat} (h : Canon s) : Canon (purgeExpired s a1 a2) := by
  unfold purgeExpired
  exact (canon_ite (canon_dropWhere h) h)

theorem canon_gateStaked {s : State} {a1 : Nat} {a2 : Nat} (h : Canon s) : Canon (gateStaked s a1 a2) := by
  unfold gateStaked
  extract_lets x0 x1 x2
  exact (canon_ite (canon_setTm h) (canon_setTm h))

theorem canon_adoptGate {s : State} {a1 : Nat} (h : Canon s) : Canon (adoptGate s a1) := by
  unfold adoptGate
  extract_lets x0
  split
  · exact (canon_ite (canon_setTm h) h)
  · exact h

theorem canon_execGateEntryChange {a0 : Fin 5} {s : State} (h : Canon s) : CanonN (execGateEntryChange a0 s) :=
  canon_live (fun s h => by
    extract_lets x1 x2
    have h3 : Canon x1 := (canon_adoptGate h)
    exact (canon_setTm h3)) h

theorem canon_gateHold {s : State} {a1 : Nat} (h : Canon s) : Canon (gateHold s a1) := by
  unfold gateHold
  extract_lets x0
  split
  · exact (canon_ite h (canon_tmFlag (canon_tmStat (canon_setQueue h))))
  · exact h

theorem canon_setInTx {s : State} {a1 : Nat} {a2 : Nat} {a3 : Nat} (h : Canon s) : Canon (setInTx s a1 a2 a3) := by
  unfold setInTx
  extract_lets x0
  exact (canon_setTm h)

theorem canon_gateStepped {s : State} {a1 : Nat} (h : Canon s) : Canon (gateStepped s a1) := by
  unfold gateStepped
  extract_lets x0
  have h1 : Canon x0 := (canon_adoptGate h)
  split
  · split
    · split
      · exact (canon_ite (canon_tmFlag (canon_tmStat h1)) h1)
      · exact h1
    · exact h1
  · exact h1

theorem canon_returnFrames {a0 : List QFrame} {s : State} (h : Canon s) : Canon (returnFrames a0 s).2 := by
  induction a0 generalizing s with
  | nil => exact h
  | cons f r ih =>
    unfold returnFrames
    split
    · exact ih h
    · split
      · exact ih (canon_takeRef (canon_setTm h))
      · exact h

theorem canon_execDramReturn {a0 : Nat} {s : State} (h : Canon s) : CanonN (execDramReturn a0 s) :=
  canon_live (fun s h => by
    split
    · split
      · split
        · exact h
        · split
          · extract_lets x5
            exact (canon_setQueue (canon_snd ‹_› (canon_returnFrames h)))
      · exact h
    · exact h) h

theorem canon_setWired {s : State} {a1 : Wired} (h : Canon s) : Canon (State.setWired s a1) := by
  unfold State.setWired
  exact (canon_mk h)

theorem canon_modEth {s : State} {a1 : Nat} {a2 : EthPort → EthPort} (h : Canon s) : Canon (State.modEth s a1 a2) := by
  unfold State.modEth
  extract_lets x0
  exact (canon_setWired h)

theorem canon_portStat {s : State} {a1 : Nat} {a2 : Nat} {a3 : Nat} {a4 : Nat} (h : Canon s) : Canon (portStat s a1 a2 a3 a4) :=
  by
  unfold portStat
  exact (canon_setObjF h)

theorem canon_ethStat {s : State} {a1 : Nat} {a2 : Nat} {a3 : Nat} (h : Canon s) : Canon (ethStat s a1 a2 a3) := by
  unfold ethStat
  exact (canon_portStat h)

theorem canon_fieldStat {s : State} {a1 : Nat} {a2 : Nat} (h : Canon s) : Canon (fieldStat s a1 a2) := by
  unfold fieldStat
  exact (canon_portStat h)

theorem canon_raiseMsix {s : State} {a1 : Nat} (h : Canon s) : Canon (raiseMsix s a1) := by
  unfold raiseMsix
  extract_lets x0 x1
  have h2 : Canon x1 := (canon_setWired h)
  exact (canon_ite h (canon_ite (canon_setReg h2) h2))

theorem canon_portFlag {s : State} {a1 : Nat} {a2 : Nat} (h : Canon s) : Canon (portFlag s a1 a2) := by
  unfold portFlag
  extract_lets x0 x1
  have h2 : Canon x0 := (canon_setFlag h)
  exact (canon_ite (canon_ite (canon_setWired h2) (canon_raiseMsix h2)) h2)

theorem canon_sendPause {s : State} {a1 : Nat} {a2 : Nat} {a3 : Nat} (h : Canon s) : Canon (sendPause s a1 a2 a3) := by
  unfold sendPause
  extract_lets x0
  exact (canon_ethStat (canon_modEth h))

theorem canon_pauseJudge {s : State} {a1 : Nat} {a2 : Nat} {a3 : Nat} (h : Canon s) : Canon (pauseJudge s a1 a2 a3) :=
  by
  unfold pauseJudge
  extract_lets x0 x1 x2
  exact (canon_ite (canon_sendPause (canon_modEth h)) (canon_ite (canon_sendPause (canon_modEth h)) h))

theorem canon_pauseEval {s : State} {a1 : Nat} (h : Canon s) : Canon (pauseEval s a1) := by
  unfold pauseEval
  split
  · exact h
  · exact (canon_pauseJudge h)
  · exact (canon_foldl (fun _ _ h1 => (canon_pauseJudge h1)) h)

theorem canon_pauseBoth {s : State} (h : Canon s) : Canon (pauseBoth s) := by
  unfold pauseBoth
  exact (canon_pauseEval (canon_pauseEval h))

theorem canon_storeWord {s : State} {a1 : Nat} {a2 : Nat} (h : Canon s) : Canon (storeWord s a1 a2) := by
  unfold storeWord
  exact (canon_storeBytes h)

theorem canon_ringFlag {s : State} {a1 : Nat} {a2 : Nat} (h : Canon s) : Canon (ringFlag s a1 a2) := by
  unfold ringFlag
  extract_lets x0
  exact (canon_setReg (canon_setReg h))

theorem canon_ringAdvance {s : State} {a1 : Nat} (h : Canon s) : Canon (ringAdvance s a1) := by
  unfold ringAdvance
  exact (canon_setReg h)

theorem canon_fillDesc {s : State} {a1 : Ring} {a2 : Bytes} {a3 : List Nat} (h : Canon s) : Canon (fillDesc s a1 a2 a3) :=
  by
  unfold fillDesc
  extract_lets x0 x1 x2 x3 x4 x5
  have h6 : Canon x4 := (canon_storeBytes h)
  have h7 : Canon x5 := by
    unfold x5
    split
    · exact (canon_setWired h)
    · exact (canon_storeBytes h6)
  exact (canon_ringAdvance (canon_ringFlag h7))

theorem canon_fillFrame {a0 : Ring} {a1 : QFrame} {a2 a3 a4 : Nat} {a5 : Bytes} {s : State} (h : Canon s) :
    Canon (fillFrame a0 a1 a2 a3 a4 a5 s) := by
  induction a3 generalizing a4 a5 s with
  | zero => exact h
  | succ n ih =>
    unfold fillFrame
    dsimp only
    split
    · exact canon_fillDesc h
    · split
      · exact canon_ringFlag (canon_fillDesc h)
      · exact ih (canon_fillDesc h)

theorem canon_ringDeliver {s : State} {a1 : Ring} {a2 : QFrame} (h : Canon s) : Canon (ringDeliver s a1 a2) := by
  unfold ringDeliver
  extract_lets x0 x1
  have h2 : Canon x1 := (canon_ite (canon_ringFlag h) (canon_fillFrame h))
  split
  · extract_lets x4
    exact (canon_ite (canon_postOperand h2) h2)
  · exact (canon_raiseMsix h2)
  · exact h2

theorem canon_popHead {s : State} {a1 : Nat} (h : Canon s) : Canon (popHead s a1) := by
  unfold popHead
  extract_lets x0
  split
  · exact (canon_freeRef (canon_setQueue h))
  · exact h

theorem canon_sentHead {s : State} {a1 : Nat} {a2 : Nat} {a3 : Nat} (h : Canon s) : Canon (sentHead s a1 a2 a3) := by
  unfold sentHead
  extract_lets x0
  have h1 : Canon x0 := (canon_chargeShaper (canon_chargeShaper h))
  exact (canon_moveTags h1)

theorem canon_dropHead {s : State} {a1 : Nat} (h : Canon s) : Canon (dropHead s a1) := by
  unfold dropHead
  extract_lets x0 x1
  have h2 : Canon x1 := (canon_popHead (canon_setQueue h))
  exact (canon_ite (canon_unseat h2) h2)

theorem canon_segNoPort {s : State} {a1 : Nat} (h : Canon s) : Canon (segNoPort s a1) := by
  unfold segNoPort
  exact (canon_dropHead (canon_ethStat h))

theorem canon_retireCell {s : State} {a1 : Nat} (h : Canon s) : Canon (retireCell s a1) := by
  unfold retireCell
  extract_lets x0 x1
  have h2 : Canon x1 := (canon_setTm h)
  exact (canon_ite h (canon_logEvent (canon_setFlag (canon_addObjF h2))))

theorem canon_poisonHead {s : State} {a1 : Nat} {a2 : List Nat} (h : Canon s) : Canon (poisonHead s a1 a2) := by
  unfold poisonHead
  split
  · extract_lets x1
    have h2 : Canon x1 := (canon_tmFlag (canon_tmStat (canon_poisonConsumed (canon_snd ‹_› (canon_draw h)))))
    exact (canon_foldl (fun _ _ h3 => (canon_retireCell h3)) (canon_dropHead h2))

theorem canon_cellFixed {s : State} {a1 : EccObs} (h : Canon s) : Canon (cellFixed s a1) := by
  unfold cellFixed
  split
  · split
    · exact (canon_corrected (canon_snd ‹_› (canon_draw h)))
  · exact h

theorem canon_countHolds {s : State} {a1 : Nat} (h : Canon s) : Canon (countHolds s a1) := by
  unfold countHolds
  exact (canon_ite h (canon_foldl (fun _ _ h0 => (canon_ite (canon_gateHold h0) h0)) h))

theorem canon_selectQueue {s : State} {a1 : Nat} {a2 : Nat → Bool} (h : Canon s) : Canon (selectQueue s a1 a2).2 := by
  unfold selectQueue
  extract_lets x0 x1
  split
  · exact h
  · extract_lets x3 x4 x5
    have h6 : Canon x3 := (canon_setNode h)
    split
    · exact h6
    · exact (canon_setNode h6)

theorem canon_tsSkip {s : State} {a1 : Nat} (h : Canon s) : Canon (tsSkip s a1) := by
  unfold tsSkip
  exact (canon_setFlag (canon_addObjF h))

theorem canon_timestamp {s : State} {a1 : Nat} {a2 : Bytes} (h : Canon s) : Canon (timestamp s a1 a2).1 := by
  unfold timestamp
  extract_lets x0 x1 x2
  have h3 : Canon x2 := (canon_setObj h)
  exact (canon_ite1 h3 (canon_ite (canon_tsSkip h) h))

theorem canon_macsecTake {s : State} {a1 : Nat} {a2 : Bytes} (h : Canon s) : Canon (macsecTake s a1 a2).1 := by
  unfold macsecTake
  split
  · split
    · exact (canon_fst ‹_› (canon_takeCounter h))
    · exact (canon_fst ‹_› (canon_takeCounter h))
    · exact (canon_portFlag (canon_ethStat (canon_fst ‹_› (canon_takeCounter h))))
    · exact (canon_fst ‹_› (canon_takeCounter h))
  · exact h

theorem canon_portSent {s : State} {a1 : SentFrame} (h : Canon s) : Canon (portSent s a1) := by
  unfold portSent
  extract_lets x0 x1
  have h2 : Canon x1 := (canon_setTm h)
  exact (canon_ite (canon_ethStat (canon_ethStat h2)) (canon_ite (canon_fieldStat (canon_fieldStat h2)) h2))

theorem canon_pieceLeaves {s : State} {a1 : Nat} {a2 : Option Nat} {a3 : SentFrame} (h : Canon s) : Canon (pieceLeaves s a1 a2 a3) :=
  by
  unfold pieceLeaves
  split
  · exact (canon_portSent h)
  · exact (canon_queueJob h)

theorem canon_countOversize {s : State} {a1 : Nat} (h : Canon s) : Canon (countOversize s a1) := by
  unfold countOversize
  exact (canon_portFlag (canon_ite (canon_ethStat h) (canon_fieldStat h)))

theorem canon_keepHead {s : State} {a1 : Nat} {a2 : Nat} {a3 : QFrame} (h : Canon s) : Canon (keepHead s a1 a2 a3) := by
  unfold keepHead
  extract_lets x0
  exact (canon_setQueue h)

theorem canon_pieceGone {s : State} {a1 : Nat} {a2 : Nat} {a3 : QFrame} (h : Canon s) : Canon (pieceGone s a1 a2 a3) :=
  by
  unfold pieceGone
  exact (canon_ite (canon_keepHead h) (canon_popHead h))

theorem canon_sendPiece {s t : State} {a1 a2 : Nat} {a3 : QFrame} {a4 : Bytes} (h : Canon s)
    (e : sendPiece s a1 a2 a3 a4 = .sent t ∨ sendPiece s a1 a2 a3 a4 = .dropped t) : Canon t := by
  unfold sendPiece at e
  split at e
  · rcases e with e | e
    · cases e
    · injection e with e; subst e; exact canon_countOversize h
  · extract_lets +onlyGivenNames go at e
    have hgo : ∀ s' pn u, Canon s' → go s' pn = .sent u → Canon u := by
      intro s' pn u h1 e'
      dsimp only [go] at e'
      injection e' with e'; subst e'
      refine canon_ite (canon_setInTx ?_) ?_ <;>
        exact canon_chargeShaper (canon_chargeShaper (canon_pieceLeaves (canon_ite1 (canon_timestamp h1) h1)))
    have hnd : ∀ s' pn u, go s' pn ≠ .dropped u := by intro _ _ _ e'; cases e'
    clear_value go
    split at e <;> rename_i e1 <;> rcases e with e | e
    · cases e
    · cases e
    · cases e
    · injection e with e; subst e; exact canon_fst e1 (canon_macsecTake h)
    · exact hgo _ _ _ (canon_fst e1 (canon_macsecTake h)) e
    · exact absurd e (hnd _ _ _)
    · exact hgo _ _ _ (canon_fst e1 (canon_macsecTake h)) e
    · exact absurd e (hnd _ _ _)

theorem canon_sendPieces {a0 a1 : Nat} {a2 : QFrame} {a3 a4 a5 : Nat} {s : State} (h : Canon s) :
    Canon (sendPieces a0 a1 a2 a3 a4 a5 s) := by
  induction a3 generalizing a4 a5 s with
  | zero => exact h
  | succ n ih =>
    unfold sendPieces
    dsimp only
    split
    · exact canon_keepHead h
    · split
      · exact canon_keepHead (canon_counterStall h)
      · rename_i e
        exact ih (canon_moveTags (canon_pieceGone (canon_sendPiece h (.inl e))))
      · rename_i e
        refine ih ?_
        have h1 := canon_pieceGone (a1 := a1) (a2 := a4) (a3 := a2) (canon_sendPiece h (.inr e))
        exact canon_ite (canon_unseat h1) h1

theorem canon_dropLinkDown {s : State} {a1 : Nat} (h : Canon s) : Canon (dropLinkDown s a1) := by
  unfold dropLinkDown
  exact (canon_foldl (fun _ _ h0 => (canon_foldl (fun _ _ h1 => (canon_dropHead (canon_ite (canon_ethStat h1) h1))) h0)) h)

theorem canon_portRequest {s : State} {a1 : Nat} {a2 : EccObs} {a3 : List Nat} (h : Canon s) : Canon (portRequest s a1 a2 a3) :=
  by
  unfold portRequest
  extract_lets x0
  have h1 : Canon x0 := (canon_countHolds h)
  split
  · exact (canon_dropLinkDown h)
  · split
    · exact (canon_snd ‹_› (canon_selectQueue h1))
    · split
      · exact (canon_snd ‹_› (canon_selectQueue h1))
      · exact (canon_ite (canon_poisonHead (canon_snd ‹_› (canon_selectQueue h1))) (canon_ite (canon_segNoPort (canon_snd ‹_› (canon_selectQueue h1))) (canon_sendPieces (canon_cellFixed (canon_snd ‹_› (canon_selectQueue h1))))))

theorem canon_ringRequest {s : State} {a1 : Nat} {a2 : Nat} {a3 : Ring} {a4 : EccObs} {a5 : List Nat} (h : Canon s) : Canon (ringRequest s a1 a2 a3 a4 a5) :=
  by
  unfold ringRequest
  extract_lets x0
  have h1 : Canon x0 := (canon_cellFixed h)
  split
  · exact h
  · exact (canon_ite (canon_poisonHead h) (canon_ite (canon_segNoPort h) (canon_sentHead (canon_ringDeliver (canon_popHead h1)))))

theorem canon_ringEgress {s : State} {a1 : Nat} {a2 : EccObs} {a3 : List Nat} (h : Canon s) : Canon (ringEgress s a1 a2 a3) :=
  by
  unfold ringEgress
  split
  · exact (canon_snd ‹_› (canon_selectQueue h))
  · exact (canon_ringRequest (canon_snd ‹_› (canon_selectQueue h)))

theorem canon_execRingRxDeliver {a0 : RingTake} {s : State} (h : Canon s) : CanonN (execRingRxDeliver a0 s) :=
  canon_live (fun s h => by
    split
    · exact (canon_ite (canon_pauseBoth (canon_ringRequest h)) h)
    · exact h) h

theorem canon_radioTake {s : State} {a1 : Radio} {a2 : Nat} (h : Canon s) : Canon (radioTake s a1 a2) := by
  unfold radioTake
  extract_lets x0
  split
  · extract_lets x2
    have h3 : Canon x2 := (canon_setMac h)
    exact (canon_sentHead (canon_popHead h3))
  · exact h

theorem canon_purgeAc {s : State} {a1 : Nat} {a2 : Nat} (h : Canon s) : Canon (purgeAc s a1 a2) := by
  unfold purgeAc
  exact (canon_foldl (fun _ _ h0 => (canon_ite (canon_purgeExpired h0) h0)) h)

theorem canon_radioRequest {s : State} {a1 : Radio} {a2 : Option Nat} {a3 : Nat} {a4 : EccObs} {a5 : List Nat}
    (h : Canon s) : Canon (radioRequest s a1 a2 a3 a4 a5) := by
  unfold radioRequest
  split
  · exact h
  · extract_lets +onlyGivenNames x x0 x1
    have h0 : Canon x0 := canon_purgeAc h
    have h1 : Canon x1.2 := by
      unfold x1
      cases a2 with
      | none => exact canon_selectQueue h0
      | some q => exact h0
    clear_value x1
    split
    · exact h1
    · split
      · exact canon_ite (canon_poisonHead h1) (canon_ite (canon_segNoPort h1) (canon_radioTake (canon_cellFixed h1)))
      · exact h1

theorem canon_execFrameEnqueue {a0 : TmFrame} {s : State} (h : Canon s) : CanonN (execFrameEnqueue a0 s) :=
  canon_live (fun s h => (canon_pauseBoth (canon_tmHandoff h))) h

theorem canon_execEgressRequest {a0 : Egress} {a1 : Option Nat} {a2 : Option Nat} {a3 : EccObs} {a4 : List Nat} {s : State} (h : Canon s) : CanonN (execEgressRequest a0 a1 a2 a3 a4 s) :=
  canon_live (fun s h => (canon_pauseBoth (by
      split
      · exact (canon_portRequest h)
      · exact (canon_portRequest h)
      · exact (canon_ite h (canon_ringEgress h))
      · exact (canon_ringEgress h)
      · exact (canon_radioRequest h)))) h

theorem canon_macsecBad {s : State} {a1 : Nat} (h : Canon s) : Canon (macsecBad s a1) := by
  unfold macsecBad
  exact (canon_portFlag (canon_ethStat h))

theorem canon_secyReceive {s : State} {a1 : Nat} {a2 : RxFrame} (h : Canon s) : Canon (secyReceive s a1 a2).1 := by
  unfold secyReceive
  extract_lets x0 x1
  split
  · exact h
  · split
    · exact (canon_ite1 (canon_ethStat h) h)
    · extract_lets x4 x5 x6 x7
      have h8 : Canon x7 := (canon_queueJob h)
      exact (canon_ite1 (canon_macsecBad h) (canon_ite1 (canon_ethStat h8) (canon_ite1 (canon_macsecBad h8) (canon_ite (canon_setObjF h8) h8))))

theorem canon_receivedFrame {s : State} {a1 : Nat} {a2 : Bool} {a3 : Bytes} (h : Canon s) : Canon (receivedFrame s a1 a2 a3) :=
  by
  unfold receivedFrame
  extract_lets x0
  exact (canon_setWired h)

theorem canon_ethReceive {s : State} {a1 : Nat} {a2 : RxFrame} (h : Canon s) : Canon (ethReceive s a1 a2) := by
  unfold ethReceive
  extract_lets x0 x1 x2 x3
  have h4 : Canon x0 := (canon_foldl (fun _ _ h4 => (canon_portFlag (canon_ethStat h4))) h)
  have h5 : Canon x2 := (canon_ethStat (canon_ethStat h4))
  have h6 : Canon x3 := (canon_ite (canon_portFlag (canon_ethStat h5)) h5)
  split
  · exact (canon_ethStat h4)
  · split
    · exact (canon_ethStat h4)
    · split
      · exact (canon_receivedFrame (canon_fst ‹_› (canon_secyReceive h6)))
      · exact (canon_fst ‹_› (canon_secyReceive h6))

theorem canon_fieldReceive {s : State} {a1 : RxFrame} (h : Canon s) : Canon (fieldReceive s a1) := by
  unfold fieldReceive
  extract_lets x0 x1 x2
  have h3 : Canon x1 := (canon_fieldStat (canon_fieldStat h))
  have h4 : Canon x2 := (canon_ite (canon_portFlag (canon_fieldStat h3)) h3)
  exact (canon_ite (canon_fieldStat h) (canon_ite (canon_fieldStat h) (canon_receivedFrame h4)))

theorem canon_execEthFrameReceive {a0 : Fin 3} {a1 : RxFrame} {s : State} (h : Canon s) : CanonN (execEthFrameReceive a0 a1 s) :=
  canon_live (fun s h => (canon_ite h (canon_ite (canon_ethReceive h) (canon_fieldReceive h)))) h

theorem canon_linkDown {a0 : Fin 4} {s : State} (h : Canon s) : Canon (linkDown a0 s) := by
  unfold linkDown
  extract_lets x0 x1
  have h2 : Canon x0 := (canon_portFlag (canon_modEth h))
  exact (canon_ite h (canon_ite (canon_dropLinkDown h2) (canon_ite (canon_dropLinkDown (canon_portFlag (canon_setWired h))) (canon_portFlag (canon_setWired h)))))

theorem canon_execLinkDown {a0 : Fin 4} {s : State} (h : Canon s) : CanonN (execLinkDown a0 s) :=
  canon_live (fun s h => (canon_linkDown h)) h

theorem canon_portPowered {s : State} {a1 : Nat} {a2 : Nat} {a3 : Nat} (h : Canon s) : Canon (portPowered s a1 a2 a3).1 :=
  by
  unfold portPowered
  exact (canon_ite1 h (canon_unitRequest h))

theorem canon_execLinkUp {a0 : Fin 4} {a1 : Bool} {a2 : Nat} {a3 : Nat} {a4 : Nat} {s : State} (h : Canon s) : CanonN (execLinkUp a0 a1 a2 a3 a4 s) :=
  canon_live (fun s h => by
    extract_lets x1
    split
    · exact h
    · split
      · split
        · exact h
        · split
          · exact (canon_ite (canon_fst ‹_› (canon_portPowered h)) (canon_modEth (canon_fst ‹_› (canon_portPowered h))))
      · split
        · exact (canon_setWired h)
        · split
          · extract_lets x6 x7 x8
            have h9 : Canon x7 := (canon_setWired (canon_fst ‹_› (canon_portPowered h)))
            exact (canon_ite (canon_fst ‹_› (canon_portPowered h)) (canon_ite (canon_raiseMsix (canon_setWired h9)) h9))) h

theorem canon_execPauseReceive {a0 : Fin 2} {a1 : Bool} {a2 : Nat} {a3 : List Nat} {s : State} (h : Canon s) : CanonN (execPauseReceive a0 a1 a2 a3 s) :=
  canon_live (fun s h => by
    extract_lets x1 x2 x3 x4 x5
    have h6 : Canon x2 := (canon_ethStat h)
    have h7 : Canon x5 := (canon_foldl (fun _ _ h7 => (canon_modEth h7)) h6)
    exact (canon_ite (canon_ethStat h6) (canon_ite (canon_portFlag h7) h7))) h

theorem canon_execPauseExpiry {a0 : Fin 2} {a1 : Fin 8} {s : State} (h : Canon s) : CanonN (execPauseExpiry a0 a1 s) :=
  canon_live (fun s h => (canon_ite h (canon_modEth h))) h

theorem canon_execPauseRefresh {a0 : Fin 2} {a1 : Fin 8} {s : State} (h : Canon s) : CanonN (execPauseRefresh a0 a1 s) :=
  canon_live (fun s h => by
    extract_lets x1 x2 x3 x4
    exact (canon_ite (canon_sendPause h) h)) h

theorem canon_completeTx {s : State} {a1 : Ring} {a2 : List TxDesc} {a3 : Nat} (h : Canon s) : Canon (completeTx s a1 a2 a3) :=
  by
  unfold completeTx
  extract_lets x0
  exact (canon_foldl (fun _ _ h1 => (by
    extract_lets x2 x3 x4
    have h5 : Canon x4 := (canon_ite (canon_storeWord h1) (canon_setWired h1))
    exact (canon_ringAdvance (canon_ringFlag h5)))) h)

theorem canon_submitTx {s : State} {a1 : Ring} {a2 : List TxDesc} (h : Canon s) : Canon (submitTx s a1 a2) := by
  unfold submitTx
  extract_lets x0 x1 x2 x3 x4 x5 x6 x7 x8 x9
  have h10 : Canon x7 := (canon_setWired h)
  exact (canon_ite (canon_setWired h10) (canon_tmHandoff h10))

theorem canon_runTx {a0 : Ring} {a1 : Nat} {a2 : List TxDesc} {s : State} (h : Canon s) : Canon (runTx a0 a1 a2 s) := by
  induction a1 generalizing a2 s with
  | zero => exact h
  | succ n ih =>
    unfold runTx
    split
    · exact h
    · exact ih (canon_completeTx (canon_ite (canon_poisonConsumed (canon_ite (canon_submitTx h) h)) (canon_ite (canon_submitTx h) h)))

theorem canon_execTxRingDoorbell {a0 : Ring} {a1 : Nat} {a2 : List Nat} {a3 : List Bytes} {a4 : List Nat} {s : State} (h : Canon s) : CanonN (execTxRingDoorbell a0 a1 a2 a3 a4 s) :=
  canon_live (fun s h => by
    extract_lets x1 x2 x3 x4 x5 x6
    have h7 : Canon x3 := (canon_setReg h)
    have h8 : Canon x6 := (canon_runTx h7)
    split
    · exact h
    · split
      · split
        · exact (canon_ite h8 (canon_raiseMsix h8))
        · exact h8
      · exact h7) h

theorem canon_execPlcaLost {s : State} (h : Canon s) : CanonN (execPlcaLost s) := canon_live (fun s h => by
    extract_lets x1
    exact (canon_ite (canon_portFlag (canon_setWired h)) h)) h

theorem canon_execPlcaRestored {s : State} (h : Canon s) : CanonN (execPlcaRestored s) := canon_live (fun s h => by
    extract_lets x1
    exact (canon_ite (canon_setWired h) h)) h

theorem canon_pcieCfg {a0 : Env} {a1 : Bytes} {s : State} (h : Canon s) : Canon (pcieCfg a0 a1 s).1 := by
  unfold pcieCfg
  split
  · exact h
  · split
    · exact h
    · split
      · exact (canon_cmdOut h)
      · exact h

theorem canon_i2cXfer {a0 : Env} {a1 : Bytes} {s : State} (h : Canon s) : Canon (i2cXfer a0 a1 s).1 := by
  unfold i2cXfer
  split
  · exact h
  · split
    · exact (canon_cmdOut h)
    · exact h
    · exact h

theorem canon_uartDrain {s : State} (h : Canon s) : Canon (uartDrain s) := by
  unfold uartDrain
  extract_lets x0 x1
  exact (canon_ite h (canon_setWired h))

theorem canon_execUartDataWrite {a0 : CoreId} {a1 : Nat} {s : State} (h : Canon s) : CanonN (execUartDataWrite a0 a1 s) :=
  canon_live (fun s h => by
    extract_lets x1 x2
    have h3 : Canon x1 := (canon_uartDrain h)
    exact (canon_ite (canon_setWired h3) h3)) h

theorem canon_execUartDataRead {a0 : CoreId} {s : State} (h : Canon s) : CanonN (execUartDataRead a0 s) :=
  canon_live (fun s h => by
    extract_lets x1
    split
    · exact (canon_modCore (canon_setWired h))
    · exact (canon_modCore h)) h

theorem canon_execUartRxByte {a0 : Byte} {s : State} (h : Canon s) : CanonN (execUartRxByte a0 s) :=
  canon_live (fun s h => by
    extract_lets x1 x2 x3
    have h4 : Canon x3 := (canon_setWired h)
    exact (canon_ite (canon_ite (canon_postFixed h4) h4) (canon_setReg h))) h

theorem canon_gpioStaked {s : State} {a1 : Nat} {a2 : Nat} (h : Canon s) : Canon (gpioStaked s a1 a2) := by
  unfold gpioStaked
  exact (canon_ite (canon_setObj h) h)

theorem canon_gpioWritten {s : State} {a1 : Nat} {a2 : Nat} (h : Canon s) : Canon (gpioWritten s a1 a2) := by
  unfold gpioWritten
  exact (canon_setObj h)

theorem canon_execAerUncorrectable {s : State} (h : Canon s) : CanonN (execAerUncorrectable s) :=
  canon_live (fun s h => by
    extract_lets x1
    exact (canon_portFlag (canon_setWired h))) h

end Sys2Proof.Machine
end

