-- ==== Sys2Proof/Laws/CanonMac.lean ====
section
/-! SUPPORT. The canonical form is kept by the 802.11 MAC, the scheduler and the PPDU engine: one lemma for each operation, which cites those
of the operations it calls. -/

namespace Sys2Proof.Machine
open Sys2Proof

theorem canon_mirrorSn {s : State} {a1 : Nat} {a2 : Nat} (h : Canon s) : Canon (mirrorSn s a1 a2) := by
  unfold mirrorSn
  exact (canon_mirror h)

theorem canon_bumpSn {s : State} {a1 : Nat} {a2 : Nat} (h : Canon s) : Canon (bumpSn s a1 a2) := by
  unfold bumpSn
  extract_lets x0 x1
  have h2 : Canon x1 := (canon_setMac h)
  split
  · exact (canon_ite (canon_mirrorSn h2) h2)
  · exact (canon_mirrorSn h2)

theorem canon_bumpBssSn {s : State} {a1 : Nat} (h : Canon s) : Canon (bumpBssSn s a1) := by
  unfold bumpBssSn
  extract_lets x0
  exact (canon_setMac h)

theorem canon_takePn {s : State} {a1 : Nat} (h : Canon s) : Canon (takePn s a1).1 := by
  unfold takePn
  exact (canon_ite1 h (canon_takeCounter h))

theorem canon_txJob {s : State} {a1 : Nat} {a2 : Nat} {a3 : Nat} {a4 : Nat} (h : Canon s) : Canon (txJob s a1 a2 a3 a4) :=
  by
  unfold txJob
  exact (canon_ite h (canon_queueJob h))

theorem canon_rxJob {s : State} {a1 : Nat} {a2 : Nat} {a3 : Nat} (h : Canon s) : Canon (rxJob s a1 a2 a3) := by
  unfold rxJob
  exact (canon_ite (canon_queueJob h) h)

theorem canon_placeFrame {s : State} {a1 : Nat} {a2 : QFrame} (h : Canon s) : Canon (placeFrame s a1 a2).1 := by
  unfold placeFrame
  extract_lets x0 x1 x2 x3
  split
  · exact (canon_counterStall (canon_ite (canon_mirrorSn h) h))
  · split
    · exact (canon_fst ‹_› (canon_takePn h))
    · exact (canon_fst ‹_› (canon_takePn h))
    · exact (canon_fst ‹_› (canon_takePn h))
    · extract_lets x6 x7 x8
      have h9 : Canon x8 := (canon_ite (canon_bumpSn (canon_fst ‹_› (canon_takePn h))) (canon_bumpBssSn (canon_fst ‹_› (canon_takePn h))))
      exact (canon_txJob h9)

theorem canon_pnExhausted {s : State} {a1 : Nat} (h : Canon s) : Canon (pnExhausted s a1) := by
  unfold pnExhausted
  exact (canon_macFlag (canon_macStat h))

theorem canon_setRx {s : State} {a1 : Nat} {a2 : RxCtx} (h : Canon s) : Canon (setRx s a1 a2) := by
  unfold setRx
  extract_lets x0
  exact (canon_mirror (canon_setMac h))

theorem canon_setTx {s : State} {a1 : Nat} {a2 : TxCtx} (h : Canon s) : Canon (setTx s a1 a2) := by
  unfold setTx
  extract_lets x0
  exact (canon_mirror (canon_setMac h))

theorem canon_setReport {s : State} {a1 : Nat} {a2 : Nat} {a3 : Nat} (h : Canon s) : Canon (setReport s a1 a2 a3) := by
  unfold setReport
  extract_lets x0 x1
  have h2 : Canon x1 := (canon_ite (canon_setMac h) h)
  exact (canon_patchObj h2)

theorem canon_takeReport {s : State} {a1 : Nat} {a2 : Nat} {a3 : Nat} (h : Canon s) : Canon (takeReport s a1 a2 a3) :=
  by
  unfold takeReport
  exact (canon_setObjF h)

theorem canon_deliverMsdu {s : State} {a1 : HeldMpdu} {a2 : Bool × Nat × Bytes} (h : Canon s) : Canon (deliverMsdu s a1 a2) :=
  by
  unfold deliverMsdu
  extract_lets x0 x1
  have h2 : Canon x0 := (canon_takeReport h)
  exact (canon_ite (canon_stat h) (canon_setMac h2))

theorem canon_deliverMpdu {s : State} {a1 : HeldMpdu} (h : Canon s) : Canon (deliverMpdu s a1) := by
  unfold deliverMpdu
  extract_lets x0 x1 x2 x3 x4 x5
  have h6 : Canon x5 := (canon_ite (canon_mirror (canon_setMac h)) h)
  exact (canon_ite (canon_macFlag (canon_macStat h)) (canon_foldl (fun _ _ h7 => (canon_deliverMsdu h7)) h6))

theorem canon_drain {a0 : Nat} {s : State} {a2 : RxCtx} (h : Canon s) : Canon (drain a0 s a2).1 := by
  induction a0 generalizing s a2 with
  | zero => exact h
  | succ n ih =>
    unfold drain
    split
    · exact ih (canon_deliverMpdu h)
    · exact h

theorem canon_releaseBelow {a0 a1 : Nat} {s : State} {a3 : RxCtx} (h : Canon s) :
    Canon (releaseBelow a0 a1 s a3).1 := by
  induction a1 generalizing s a3 with
  | zero => exact h
  | succ n ih =>
    unfold releaseBelow
    split
    · exact canon_ite1 (ih (canon_deliverMpdu h)) h
    · exact h

theorem canon_reorder {s : State} {a1 : Nat} {a2 : Nat} {a3 : RxCtx} {a4 : RxMpdu} (h : Canon s) : Canon (reorder s a1 a2 a3 a4) :=
  by
  unfold reorder
  extract_lets x0 x1 x2
  split
  · exact (canon_macStat h)
  · split
    · split
      · exact (canon_macStat h)
      · split
        · exact (canon_setRx (canon_fst ‹_› (canon_drain h)))
    · split
      · extract_lets x6
        split
        · exact (canon_setRx (canon_fst ‹_› (canon_drain (canon_fst ‹_› (canon_releaseBelow h)))))

theorem canon_moveStart {s : State} {a1 : Nat} {a2 : RxCtx} {a3 : Nat} (h : Canon s) : Canon (moveStart s a1 a2 a3) :=
  by
  unfold moveStart
  split
  · split
    · split
      · exact (canon_setRx (canon_fst ‹_› (canon_drain (canon_fst ‹_› (canon_releaseBelow h)))))
  · exact h

theorem canon_flushCtx {s : State} {a1 : RxCtx} (h : Canon s) : Canon (flushCtx s a1) := by
  unfold flushCtx
  exact (canon_drain h)

theorem canon_execReorderTimeout {a0 : Nat} {s : State} (h : Canon s) : CanonN (execReorderTimeout a0 s) :=
  canon_live (fun s h => by
    split
    · extract_lets x2 x3
      have h4 : Canon x3 := (canon_macFlag (canon_macStat h))
      split
      · split
        · exact (canon_setRx (canon_fst ‹_› (canon_drain h4)))
      · exact h
    · exact h) h

theorem canon_baOut {s : State} {a1 : Nat} (h : Canon s) : Canon (baOut s a1) := by
  unfold baOut
  exact (canon_cmdOut h)

theorem canon_deleteRxCtx {s : State} {a1 : Nat} {a2 : RxCtx} (h : Canon s) : Canon (deleteRxCtx s a1 a2) := by
  unfold deleteRxCtx
  extract_lets x0 x1 x2
  have h3 : Canon x0 := (canon_flushCtx h)
  have h4 : Canon x2 := (canon_mirror (canon_setMac h3))
  exact (canon_watch h4)

theorem canon_deleteTxCtx {s : State} {a1 : Nat} {a2 : TxCtx} (h : Canon s) : Canon (deleteTxCtx s a1 a2) := by
  unfold deleteTxCtx
  extract_lets x0 x1
  have h2 : Canon x1 := (canon_mirror (canon_setMac h))
  exact (canon_watch h2)

theorem canon_baCmd {a0 : Bytes} {s : State} (h : Canon s) : Canon (baCmd a0 s).1 := by
  unfold baCmd
  extract_lets x0 x1 x2 x3 x4 x5
  split
  · exact h
  · split
    · split
      · exact h
      · split
        · exact h
        · extract_lets x10
          have h11 : Canon x10 := (canon_setRx h)
          exact (canon_baOut (canon_watch h11))
    · split
      · split
        · exact h
        · split
          · exact h
          · extract_lets x11
            have h12 : Canon x11 := (canon_setTx h)
            exact (canon_baOut (canon_watch h12))
      · split
        · split
          · exact (canon_baOut (canon_deleteRxCtx h))
          · exact h
        · split
          · exact (canon_baOut (canon_deleteTxCtx h))
          · exact h

theorem canon_mgmtFlag {s : State} {a1 : Nat} {a2 : Nat} (h : Canon s) : Canon (mgmtFlag s a1 a2) := by
  unfold mgmtFlag
  extract_lets x0
  exact (canon_setReg (canon_setReg h))

theorem canon_mrxDeliver {s : State} {a1 : Nat} {a2 : Nat} {a3 : Nat} {a4 : Nat} {a5 : Nat} {a6 : Nat} {a7 : Nat} {a8 : Bytes} (h : Canon s) : Canon (mrxDeliver s a1 a2 a3 a4 a5 a6 a7 a8) :=
  by
  unfold mrxDeliver
  extract_lets x0 x1 x2 x3 x4 x5
  have h6 : Canon x2 := (canon_storeBytes h)
  have h7 : Canon x3 := (canon_storeWord h6)
  have h8 : Canon x4 := (canon_storeWord h7)
  have h9 : Canon x5 := (canon_storeWord h8)
  exact (canon_ite (canon_mgmtFlag h) (canon_ite (canon_mgmtFlag h) (canon_postFixed (canon_ringAdvance h9))))

theorem canon_sendBooked {s : State} {a1 : Radio} {a2 : Nat} {a3 : Nat} {a4 : Nat} (h : Canon s) : Canon (sendBooked s a1 a2 a3 a4).1 :=
  by
  unfold sendBooked
  split
  · exact (canon_returnReq h)
  · split
    · extract_lets x2 x3
      split
      · exact (canon_returnReq (canon_ite (canon_countDuty h) h))
      · split
        · exact (canon_transmit h)
        · exact (canon_returnReq h)
    · exact h

theorem canon_respond {s : State} {a1 : Radio} {a2 : Nat} (h : Canon s) : Canon (respond s a1 a2) := by
  unfold respond
  split
  · exact (canon_returnReq h)
  · split
    · exact h
    · split
      · split
        · extract_lets x4
          exact (canon_setMac (canon_fst ‹_› (canon_sendBooked (canon_snd ‹_› (canon_draw h)))))
        · exact (canon_fst ‹_› (canon_sendBooked (canon_snd ‹_› (canon_draw h))))

theorem canon_execBlockAckReq {a0 : Radio} {a1 : Nat} {a2 : Nat} {a3 : Nat} {s : State} (h : Canon s) : CanonN (execBlockAckReq a0 a1 a2 a3 s) :=
  canon_live (fun s h => by
    split
    · exact h
    · split
      · exact (canon_respond (canon_moveStart h))
      · exact h) h

theorem canon_heardFrom {s : State} {a1 : Nat} {a2 : Nat} {a3 : Nat} {a4 : Nat} (h : Canon s) : Canon (heardFrom s a1 a2 a3 a4) :=
  by
  unfold heardFrom
  extract_lets x0 x1 x2
  have h3 : Canon x0 := (canon_setLink h)
  exact (canon_setMac h3)

theorem canon_powerBit {s : State} {a1 : Nat} {a2 : Nat} {a3 : Bool} (h : Canon s) : Canon (powerBit s a1 a2 a3) := by
  unfold powerBit
  extract_lets x0 x1 x2
  have h3 : Canon x2 := (canon_setMac h)
  exact (canon_ite h (canon_ite (canon_ite (canon_setMac h) h) (canon_ite h3 (canon_staTouched (canon_setLink h3)))))

theorem canon_class3 {s : State} {a1 : Nat} {a2 : RxMpdu} (h : Canon s) : Canon (class3 s a1 a2) := by
  unfold class3
  extract_lets x0 x1 x2 x3
  have h4 : Canon x0 := (canon_macStat h)
  have h5 : Canon x3 := (canon_setMac h4)
  exact (canon_ite h4 (canon_macFlag (canon_mrxDeliver h5)))

theorem canon_countRx {s : State} {a1 : Nat} {a2 : Nat} (h : Canon s) : Canon (countRx s a1 a2) := by
  unfold countRx
  exact (canon_addObjF (canon_macStat h))

theorem canon_notOpen {s : State} {a1 : Nat} (h : Canon s) : Canon (notOpen s a1) := by
  unfold notOpen
  exact (canon_macStat h)

theorem canon_micFail {s : State} {a1 : Nat} (h : Canon s) : Canon (micFail s a1) := by
  unfold micFail
  exact (canon_macFlag (canon_macStat h))

theorem canon_receiveMgmt {s : State} {a1 : Nat} {a2 : RxMpdu} (h : Canon s) : Canon (receiveMgmt s a1 a2) := by
  unfold receiveMgmt
  extract_lets x0 x1 x2 x3 x4 x5
  have h6 : Canon x1 := (canon_ite (canon_rxJob h) h)
  have h7 : Canon x4 := (canon_ite (canon_setMac h6) h6)
  have h8 : Canon x5 := (canon_ite (canon_countRx h7) (canon_macStat h7))
  exact (canon_ite (canon_micFail h6) (canon_ite (canon_notOpen h6) (canon_ite (canon_macStat h6) (canon_mrxDeliver h8))))

theorem canon_unlessRepeat {s : State} {a1 : Nat} {a2 : RxMpdu} {a3 : State → State} (h : Canon s) (h'1 : ∀ y00, Canon y00 → Canon (a3 y00)) : Canon (unlessRepeat s a1 a2 a3) :=
  by
  unfold unlessRepeat
  extract_lets x0 x1 x2
  exact (canon_ite (canon_macStat h) (h'1 _ (canon_setMac h)))

theorem canon_receivePlain {s : State} {a1 : Nat} {a2 : RxMpdu} (h : Canon s) : Canon (receivePlain s a1 a2) := by
  unfold receivePlain
  exact (canon_unlessRepeat h (fun _ h0 => (canon_deliverMpdu h0)))

theorem canon_receiveData {s : State} {a1 : Nat} {a2 : RxMpdu} (h : Canon s) : Canon (receiveData s a1 a2) := by
  unfold receiveData
  extract_lets x0 x1 x2 x3
  have h4 : Canon x1 := (canon_ite (canon_rxJob h) h)
  have h5 : Canon x2 := (canon_countRx h4)
  have h6 : Canon x3 := (canon_ite (canon_macFlag (canon_macStat h5)) h5)
  split
  · exact (canon_notOpen h)
  · split
    · exact (canon_micFail h4)
    · split
      · exact (canon_ite (canon_unlessRepeat (canon_countRx h4) (fun _ h10 => (canon_mrxDeliver h10))) (canon_notOpen h4))
      · split
        · exact (canon_reorder h6)
        · exact (canon_receivePlain h6)

theorem canon_noteRx {s : State} {a1 : Radio} {a2 : RxMpdu} (h : Canon s) : Canon (noteRx s a1 a2) := by
  unfold noteRx
  exact (canon_modFe h)

theorem canon_mpduReceive {a0 : Radio} {a1 : RxMpdu} {s : State} (h : Canon s) : Canon (mpduReceive a0 a1 s) := by
  unfold mpduReceive
  extract_lets x0 x1 x2 x3 x4 x5 x6 x7
  have h8 : Canon x0 := (canon_noteRx h)
  have h9 : Canon x1 := (canon_ite (canon_respond h8) h8)
  have h10 : Canon x3 := (canon_ite (canon_heardFrom h9) h9)
  have h11 : Canon x4 := (canon_ite (canon_powerBit h10) h10)
  have h12 : Canon x5 := (canon_heardFrom h9)
  have h13 : Canon x6 := (canon_ite (canon_powerBit h12) h12)
  have h14 : Canon x7 := by
    unfold x7
    split
    · exact (canon_ite (canon_setReport h13) h13)
    · exact h13
  exact (canon_ite h (canon_ite h9 (canon_ite (canon_receiveMgmt h11) (canon_ite (canon_class3 h9) (canon_receiveData h14)))))

theorem canon_mirrorAids {s : State} (h : Canon s) : Canon (mirrorAids s) := by
  unfold mirrorAids
  exact (canon_mirror h)

theorem canon_watchStations {s : State} {a1 : Nat} {a2 : Nat} (h : Canon s) : Canon (watchStations s a1 a2) := by
  unfold watchStations
  exact (canon_watch (canon_watch h))

theorem canon_staAlloc {a0 : Bytes} {s : State} (h : Canon s) : Canon (staAlloc a0 s).1 := by
  unfold staAlloc
  extract_lets x0 x1 x2 x3 x4 x5
  split
  · exact h
  · split
    · exact h
    · extract_lets x8 x9 x10 x11 x12 x13
      have h14 : Canon x9 := (canon_setObj h)
      have h15 : Canon x11 := (canon_ite h14 (canon_mirrorAids (canon_setMac h14)))
      have h16 : Canon x12 := (canon_foldl (fun _ _ h16 => (canon_freshQueue h16)) h15)
      have h17 : Canon x13 := (canon_watchStations (canon_staTouched h16))
      exact (canon_ite1 h (canon_ite1 h (canon_cmdOut h17)))

theorem canon_dropTwt {s : State} {a1 : Nat} (h : Canon s) : Canon (dropTwt s a1) := by
  unfold dropTwt
  extract_lets x0 x1 x2 x3 x4 x5
  have h6 : Canon x2 := (canon_setObj h)
  have h7 : Canon x4 := (canon_setMac h6)
  have h8 : Canon x5 := (canon_watch (canon_mirrorObj h7))
  exact (canon_ite (canon_staTouched (canon_setLink h8)) h8)

theorem canon_staEntry {a0 : Nat} {a1 : Bytes} {s : State} (h : Canon s) : Canon (staEntry a0 a1 s).1 := by
  unfold staEntry
  extract_lets x0 x1 x2 x3 x4 x5 x6 x7 x8 x9
  have h6 : Canon x6 := canon_ite (canon_foldl (fun _ _ h => canon_unseat h) h) h
  have h7 : Canon x7 := canon_setObj h6
  have h8 : Canon x8 := canon_foldl (fun _ _ h => canon_foldl (fun _ _ h => canon_dropTwt h) h) h7
  have h9 : Canon x9 := canon_ite (canon_foldl (fun _ _ h => canon_seat (canon_freshQueue h)) h8) h8
  clear_value x2 x3 x4 x5 x6 x7 x8 x9
  exact canon_ite1 h (canon_ite1 h (canon_staTouched h9))

theorem canon_advanceHead {a0 a1 : Nat} {s : State} {a3 : List Nat} (h : Canon s) :
    Canon (advanceHead a0 a1 s a3).1 := by
  induction a1 generalizing s a3 with
  | zero => exact h
  | succ n ih =>
    unfold advanceHead
    exact canon_ite1 (ih (canon_ringAdvance h)) h

theorem canon_completeMtx {s : State} {a1 : Radio} {a2 : Nat} {a3 : Nat} {a4 : optParam Nat 0} (h : Canon s) : Canon (completeMtx s a1 a2 a3 a4) :=
  by
  unfold completeMtx
  extract_lets x0 x1 x2 x3 x4 x5 x6
  have h7 : Canon x3 := (canon_storeWord h)
  have h8 : Canon x4 := (canon_storeWord h7)
  have h9 : Canon x6 := (canon_setMac h8)
  split
  · extract_lets x11
    exact (canon_postFixed (canon_mgmtFlag (canon_setMac (canon_fst ‹_› (canon_advanceHead h9)))))

theorem canon_mtxNoSta {s : State} {a1 : Nat} (h : Canon s) : Canon (mtxNoSta s a1) := by
  unfold mtxNoSta
  exact (canon_foldl (fun _ _ h0 => (canon_foldl (fun _ _ h1 => (canon_completeMtx h1)) h0)) h)

theorem canon_forgetSta {s : State} {a1 : Nat} (h : Canon s) : Canon (forgetSta s a1) := by
  unfold forgetSta
  extract_lets x0 x1 x2
  have h3 : Canon x1 := (canon_foldl (fun _ _ h3 => (canon_countDrop h3)) h)
  exact (canon_setMac h3)

theorem canon_staFree {a0 : Bytes} {s : State} (h : Canon s) : Canon (staFree a0 s).1 := by
  unfold staFree
  extract_lets x0 x1 x2 x3 x4 x5 x6 x7 x8 x9 x10 x11 x12
  have h13 : Canon x4 := (canon_flushStation h)
  have h14 : Canon x5 := (canon_foldl (fun _ _ h14 => (canon_ite (canon_deleteRxCtx h14) h14)) h13)
  have h15 : Canon x6 := (canon_foldl (fun _ _ h15 => (canon_ite (canon_deleteTxCtx h15) h15)) h14)
  have h16 : Canon x7 := (canon_foldl (fun _ _ h16 => (canon_dropTwt h16)) h15)
  have h17 : Canon x8 := (canon_forgetSta (canon_mtxNoSta h16))
  have h18 : Canon x9 := (canon_setObj (canon_setObj h17))
  have h19 : Canon x12 := (canon_ite h18 (canon_mirrorAids (canon_setMac h18)))
  exact (canon_ite1 h (canon_ite1 h (canon_watchStations (canon_staTouched h19))))

theorem canon_execAidRelease {a0 : Fin 3} {a1 : Nat} {a2 : Bool} {s : State} (h : Canon s) : CanonN (execAidRelease a0 a1 a2 s) :=
  canon_live (fun s h => by
    extract_lets x1 x2
    have h3 : Canon x2 := (canon_setMac h)
    exact (canon_watch h3)) h

theorem canon_submitMtx {s : State} {a1 : Radio} {a2 : Nat} (h : Canon s) : Canon (submitMtx s a1 a2) := by
  unfold submitMtx
  extract_lets x0 x1 x2 x3 x4 x5 x6
  exact (canon_ite (canon_completeMtx h) (canon_ite (canon_completeMtx h) (canon_setMac h)))

theorem canon_submitRange {a0 : Radio} {a1 a2 a3 : Nat} {s : State} (h : Canon s) : Canon (submitRange a0 a1 a2 a3 s) :=
  by
  induction a2 generalizing a3 s with
  | zero => exact h
  | succ n ih => exact ih (canon_submitMtx h)

theorem canon_mtxTail {s : State} {a1 : Radio} {a2 : Nat} (h : Canon s) : Canon (mtxTail s a1 a2) := by
  unfold mtxTail
  extract_lets x0 x1 x2 x3
  have h4 : Canon x3 := (canon_setReg h)
  exact (canon_ite (canon_submitRange h4) h4)

theorem canon_execMtxDoorbell {a0 : CoreId} {a1 : Radio} {a2 : Nat} {s : State} (h : Canon s) : CanonN (execMtxDoorbell a0 a1 a2 s) :=
  canon_live (fun s h => (canon_mtxTail h)) h

theorem canon_mtxPlace {s : State} {a1 : Radio} {a2 : Radio} {a3 : MtxDesc} (h : Canon s) : Canon (mtxPlace s a1 a2 a3).1 :=
  by
  unfold mtxPlace
  extract_lets x0
  split
  · exact (canon_txJob (canon_ite (canon_bumpSn (canon_fst ‹_› (canon_takePn h))) (canon_bumpBssSn (canon_fst ‹_› (canon_takePn h)))))
  · exact (canon_fst ‹_› (canon_takePn h))

theorem canon_mtxAir {s : State} {a1 : Radio} {a2 : MtxDesc} (h : Canon s) : Canon (mtxAir s a1 a2).1 := by
  unfold mtxAir
  split
  · split
    · extract_lets x2 x3
      split
      · exact (canon_returnReq (canon_ite (canon_countDuty (canon_snd ‹_› (canon_draw h))) (canon_snd ‹_› (canon_draw h))))
      · split
        · split
          · exact (canon_release (canon_transmit (canon_fst ‹_› (by
              split
              · exact (canon_requestUpTo (canon_snd ‹_› (canon_draw h)))
              · exact (canon_snd ‹_› (canon_draw h))))))
          · exact (canon_returnReq (canon_release (canon_fst ‹_› (by
              split
              · exact (canon_requestUpTo (canon_snd ‹_› (canon_draw h)))
              · exact (canon_snd ‹_› (canon_draw h))))))
  · exact h

theorem canon_execMtxComplete {a0 : Radio} {a1 : Nat} {a2 : Nat} {s : State} (h : Canon s) : CanonN (execMtxComplete a0 a1 a2 s) :=
  canon_live (fun s h => by
    split
    · exact h
    · extract_lets x2 x3
      split
      · exact (canon_completeMtx h)
      · split
        · exact (canon_completeMtx h)
        · split
          · exact h
          · split
            · exact (canon_completeMtx (canon_returnReq h))
            · split
              · exact h
              · split
                · exact (canon_completeMtx (canon_fst ‹_› (canon_mtxAir h)))
                · split
                  · exact (canon_completeMtx (canon_fst ‹_› (canon_mtxPlace (canon_fst ‹_› (canon_mtxAir h)))))
                  · exact (canon_completeMtx (canon_pnExhausted h))
                  · exact (canon_completeMtx h)
                  · exact (canon_counterStall h)) h

theorem canon_planStat {s : State} {a1 : Nat} {a2 : Nat} {a3 : Nat} (h : Canon s) : Canon (planStat s a1 a2 a3) := by
  unfold planStat
  exact (canon_stat h)

theorem canon_planFlag {s : State} {a1 : Nat} {a2 : Nat} (h : Canon s) : Canon (planFlag s a1 a2) := by
  unfold planFlag
  exact (canon_setFlag h)

theorem canon_execPlanSnapshot {a0 : Radio} {a1 : Bool} {a2 : Nat} {s : State} (h : Canon s) : CanonN (execPlanSnapshot a0 a1 a2 s) :=
  canon_live (fun s h => by
    extract_lets x1 x2
    exact (canon_ite (canon_setMac h) h)) h

theorem canon_execPlanDone {a0 : Radio} {a1 : Nat} {s : State} (h : Canon s) : CanonN (execPlanDone a0 a1 s) :=
  canon_live (fun s h => by
    extract_lets x1
    split
    · extract_lets x3
      have h4 : Canon x3 := (canon_setMac h)
      exact (canon_setObj h4)
    · exact h) h

theorem canon_planStaked {s : State} {a1 : Radio} (h : Canon s) : Canon (planStaked s a1) := by
  unfold planStaked
  extract_lets x0
  exact (canon_setMac h)

theorem canon_bookStanding {s : State} {a1 : Radio} {a2 : Nat} (h : Canon s) : Canon (bookStanding s a1 a2) := by
  unfold bookStanding
  split
  · exact h
  · split
    · exact (canon_book h)
    · exact h

theorem canon_execBookingRetry {a0 : Radio} {s : State} (h : Canon s) : CanonN (execBookingRetry a0 s) :=
  canon_live (fun s h => by
    extract_lets x1
    have h2 : Canon x1 := (canon_bookStanding h)
    exact (canon_ite h (canon_ite (canon_bookStanding h2) h2))) h

theorem canon_twtAdd {a0 : Bytes} {s : State} (h : Canon s) : Canon (twtAdd a0 s).1 := by
  unfold twtAdd
  extract_lets x0 x1 x2 x3 x4 x5 x6
  split
  · exact h
  · split
    · exact h
    · extract_lets x9 x10 x11
      have h12 : Canon x9 := (canon_setObj h)
      have h13 : Canon x10 := (canon_ite h12 (canon_staTouched (canon_setLink h12)))
      have h14 : Canon x11 := (canon_watch (canon_mirrorObj h13))
      exact (canon_ite1 h (canon_ite1 h (canon_ite1 h (canon_cmdOut h14))))

theorem canon_twtDelete {a0 : Bytes} {s : State} (h : Canon s) : Canon (twtDelete a0 s).1 := by
  unfold twtDelete
  extract_lets x0 x1
  split
  · exact (canon_cmdOut (canon_dropTwt h))
  · exact h

theorem canon_twtCmd {a0 : Bytes} {s : State} (h : Canon s) : Canon (twtCmd a0 s).1 := by
  unfold twtCmd
  exact (canon_ite1 (canon_twtAdd h) (canon_twtDelete h))

theorem canon_execTwtSpStart {a0 : Fin 1024} {s : State} (h : Canon s) : CanonN (execTwtSpStart a0 s) :=
  canon_live (fun s h => by
    extract_lets x1
    exact (canon_ite (canon_setMac h) h)) h

theorem canon_execTwtSpEnd {a0 : Fin 1024} {s : State} (h : Canon s) : CanonN (execTwtSpEnd a0 s) :=
  canon_live (fun s h => by
    extract_lets x1 x2 x3 x4 x5 x6
    have h7 : Canon x6 := (canon_setMac h)
    exact (canon_ite (canon_ite (canon_planFlag (canon_planStat (canon_addObjF h7))) h7) h)) h

theorem canon_holdReq {s : State} {a1 : Radio} {a2 : PpduReq} (h : Canon s) : Canon (holdReq s a1 a2) := by
  unfold holdReq
  exact (canon_radioFlag (canon_modFe h))

theorem canon_powered {s : State} {a1 : Radio} {a2 : PpduReq} (h : Canon s) : Canon (powered s a1 a2).1 := by
  unfold powered
  extract_lets x0
  split
  · exact (canon_returnReq (canon_setFlag h))
  · split
    · exact h
    · split
      · exact h
      · split
        · exact (canon_returnReq (canon_ite (canon_countDuty h) h))
        · split
          · split
            · exact (canon_fst ‹_› (canon_ite1 h (by
                split
                · exact (canon_requestUpTo h)
                · exact h)))
            · exact (canon_returnReq (canon_release (canon_fst ‹_› (canon_ite1 h (by
                split
                · exact (canon_requestUpTo h)
                · exact h)))))

theorem canon_padPair {s : State} {a1 : Nat} {a2 : Nat} {a3 : Nat} {a4 : Nat} (h : Canon s) : Canon (padPair s a1 a2 a3 a4).1 :=
  by
  unfold padPair
  exact (canon_foldl1 (fun _ _ h0 => (by
    split
    · split
      · extract_lets x3
        split
        · split
          · split
            · extract_lets x7 x8
              have h9 : Canon x8 := (canon_accountDuty h0)
              exact (canon_ite1 h0 (canon_modFe h9))
            · exact h0
          · exact h0
        · exact h0
      · exact h0)) h)

theorem canon_launch {s : State} {a1 : Radio} {a2 : PpduReq} {a3 : Chan} {a4 : Int} {a5 : List TxMpdu} {a6 : Bool} (h : Canon s) : Canon (launch s a1 a2 a3 a4 a5 a6) :=
  by
  unfold launch
  extract_lets x0
  split
  · extract_lets x2 x3 x4
    have h5 : Canon x2 := by
      unfold x2
      exact (canon_transmit (canon_fst ‹_› (by
        split
        · exact (canon_padPair h)
        · exact h)))
    have h6 : Canon x4 := (canon_setMac h5)
    exact (canon_ite (canon_modFe h6) (canon_release h5))

theorem canon_advanceTx {s : State} {a1 : Nat} {a2 : Nat} (h : Canon s) : Canon (advanceTx s a1 a2) := by
  unfold advanceTx
  split
  · extract_lets x1
    exact (canon_ite h (canon_setTx h))
  · exact h

theorem canon_mpduAcked {s : State} {a1 : Nat} {a2 : TxMpdu} (h : Canon s) : Canon (mpduAcked s a1 a2) := by
  unfold mpduAcked
  exact (canon_advanceTx (canon_addObjF (canon_macStat h)))

theorem canon_mpduDropped {s : State} {a1 : Nat} {a2 : TxMpdu} (h : Canon s) : Canon (mpduDropped s a1 a2) := by
  unfold mpduDropped
  extract_lets x0 x1 x2
  have h3 : Canon x0 := (canon_addObjF (canon_macStat h))
  have h4 : Canon x2 := (canon_ite (canon_setMac h3) h3)
  exact (canon_advanceTx h4)

theorem canon_mpduUnacked {s : State} {a1 : Nat} {a2 : TxMpdu} (h : Canon s) : Canon (mpduUnacked s a1 a2) := by
  unfold mpduUnacked
  extract_lets x0
  exact (canon_ite (canon_mpduDropped h) (canon_setMac h))

theorem canon_toHead {s : State} {a1 : TxMpdu} (h : Canon s) : Canon (toHead s a1) := by
  unfold toHead
  extract_lets x0
  exact (canon_setMac h)

theorem canon_endExchange {s : State} {a1 : Radio} (h : Canon s) : Canon (endExchange s a1).1 := by
  unfold endExchange
  extract_lets x0 x1 x2
  have h3 : Canon x2 := (canon_setMac h)
  exact (canon_modFe (canon_release h3))

theorem canon_ackDone {a0 : Radio} {a1 : List (Nat × Nat × Nat)} {s : State} (h : Canon s) : Canon (ackDone a0 a1 s) :=
  by
  unfold ackDone
  split
  · exact (canon_foldl (fun _ _ h1 => (canon_ite (canon_mpduAcked h1) (canon_mpduUnacked h1))) (canon_fst ‹_› (canon_endExchange h)))

theorem canon_ackMissed {a0 : Radio} {s : State} (h : Canon s) : Canon (ackMissed a0 s) := by
  unfold ackMissed
  extract_lets x0 x1
  have h2 : Canon x0 := (canon_release h)
  split
  · split
    · extract_lets x5
      have h6 : Canon x5 := (canon_foldr (fun _ _ h6 => (canon_toHead h6)) (canon_fst ‹_› (canon_endExchange h2)))
      exact (canon_foldl (fun _ _ h7 => (canon_mpduUnacked h7)) h6)

theorem canon_takeFetched {s : State} {a1 : Radio} {a2 : Nat} {a3 : Nat} (h : Canon s) : Canon (takeFetched s a1 a2 a3).1 :=
  by
  unfold takeFetched
  extract_lets x0
  split
  · exact (canon_setMac h)
  · exact h

theorem canon_nextToSend {s : State} {a1 : Radio} {a2 : Nat} {a3 : Nat} (h : Canon s) : Canon (nextToSend s a1 a2 a3).1 :=
  by
  unfold nextToSend
  split
  · exact (canon_fst ‹_› (canon_takeFetched h))
  · exact (canon_ite1 (canon_fst ‹_› (canon_takeFetched h)) (canon_takeFetched (canon_radioRequest (canon_fst ‹_› (canon_takeFetched h)))))

theorem canon_putBack {s : State} {a1 : Radio} {a2 : QFrame} (h : Canon s) : Canon (putBack s a1 a2) := by
  unfold putBack
  extract_lets x0
  exact (canon_setMac h)

theorem canon_gatherRetries {s : State} {a1 : Radio} {a2 : Nat} {a3 : Nat} {a4 : Nat} {a5 : Nat} (h : Canon s) : Canon (gatherRetries s a1 a2 a3 a4 a5).1 :=
  by
  unfold gatherRetries
  exact (canon_foldl1 (fun _ _ h0 => (by
    split
    · extract_lets x2 x3
      have h4 : Canon x3 := (canon_setMac h0)
      exact (canon_ite1 (canon_mpduDropped h4) (canon_ite1 (canon_mpduDropped (canon_pnExhausted h4)) (canon_ite1 (canon_txJob (canon_macStat h4)) h0))))) h)

theorem canon_gatherNew {a0 : Radio} {a1 a2 a3 a4 : Nat} {s : State} {a6 : List TxMpdu} (h : Canon s) :
    Canon (gatherNew a0 a1 a2 a3 a4 s a6).1 := by
  induction a4 generalizing s a6 with
  | zero => exact h
  | succ n ih =>
    unfold gatherNew
    split
    · exact canon_fst ‹_› (canon_nextToSend h)
    · rename_i e
      have h1 := canon_fst e (canon_nextToSend h)
      split
      · exact canon_putBack h1
      · split
        · exact ih (canon_fst ‹_› (canon_placeFrame h1))
        · exact canon_putBack (canon_fst ‹_› (canon_placeFrame h1))
        · exact ih (canon_pnExhausted (canon_fst ‹_› (canon_placeFrame h1)))
        · exact ih (canon_fst ‹_› (canon_placeFrame h1))

theorem canon_gather {s : State} {a1 : Radio} {a2 : Nat} {a3 : Nat} {a4 : Nat} {a5 : optParam Nat (2 ^ 32)} (h : Canon s) : Canon (gather s a1 a2 a3 a4 a5).1 :=
  by
  unfold gather
  split
  · exact (canon_gatherNew (canon_fst ‹_› (canon_ite1 h (canon_gatherRetries h))))

theorem canon_gatherRu {s : State} {a1 : Radio} {a2 : Nat} {a3 : Nat} {a4 : Nat} {a5 : Nat} (h : Canon s) : Canon (gatherRu s a1 a2 a3 a4 a5).1 :=
  by
  unfold gatherRu
  exact (canon_foldl1 (fun _ _ h0 => (by
    extract_lets x1
    split
    · split
      · exact (canon_fst ‹_› (canon_gather h0))
    · exact h0)) (canon_gather h))

theorem canon_chooseStation {s : State} {a1 : Radio} {a2 : PpduReq} (h : Canon s) : Canon (chooseStation s a1 a2).1 :=
  by
  unfold chooseStation
  extract_lets x0 x1
  have h2 : Canon x1 := (canon_radioRequest h)
  split
  · exact h
  · split
    · exact h
    · split
      · exact h
      · exact h2

theorem canon_noteRate {s : State} {a1 : Nat} {a2 : Nat} (h : Canon s) : Canon (noteRate s a1 a2) := by
  unfold noteRate
  split
  · exact h
  · split
    · exact (canon_setLink (canon_snd ‹_› (canon_draw h)))

theorem canon_sendBars {s : State} {a1 : List Nat} (h : Canon s) : Canon (sendBars s a1) := by
  unfold sendBars
  extract_lets x0
  split
  · exact (canon_setMac h)

theorem canon_sendSingle {s : State} {a1 : Radio} {a2 : PpduReq} {a3 : Chan} {a4 : Int} (h : Canon s) : Canon (sendSingle s a1 a2 a3 a4) :=
  by
  unfold sendSingle
  split
  · exact (canon_release (canon_fst ‹_› (canon_chooseStation h)))
  · split
    · exact (canon_release (canon_fst ‹_› (canon_chooseStation h)))
    · split
      · extract_lets x3 x4
        have h5 : Canon x4 := (canon_sendBars (canon_fst ‹_› (canon_gather (canon_fst ‹_› (canon_chooseStation h)))))
        exact (canon_ite (canon_release (canon_fst ‹_› (canon_gather (canon_fst ‹_› (canon_chooseStation h))))) (canon_launch (canon_noteRate h5)))

theorem canon_addStatus {s : State} {a1 : Nat} {a2 : Nat} (h : Canon s) : Canon (addStatus s a1 a2) := by
  unfold addStatus
  exact (canon_setObjF h)

theorem canon_sendMu {s : State} {a1 : Radio} {a2 : PpduReq} {a3 : Plan} {a4 : List Nat} {a5 : List Nat} {a6 : Chan} {a7 : Int} (h : Canon s) : Canon (sendMu s a1 a2 a3 a4 a5 a6 a7) :=
  by
  unfold sendMu
  extract_lets x0
  split
  · extract_lets x2 x3 x4 x5
    have h6 : Canon x2 := by
      unfold x2
      exact (canon_foldl (fun _ _ h7 => (canon_planFlag (canon_planStat h7))) (canon_fst ‹_› (canon_foldl1 (fun _ _ h7 => (by
        split
        · split
          · exact (canon_fst ‹_› (canon_ite1 (canon_gatherRu h7) h7)))) h)))
    have h7 : Canon x3 := (canon_sendBars h6)
    have h8 : Canon x4 := (canon_foldl (fun _ _ h8 => (canon_noteRate h8)) h7)
    have h9 : Canon x5 := (canon_modFe (canon_launch h8))
    exact (canon_addStatus (canon_planStat h9))

theorem canon_bookTrigger {s : State} {a1 : Radio} (h : Canon s) : Canon (bookTrigger s a1).1 := by
  unfold bookTrigger
  split
  · exact (canon_book h)
  · exact h

theorem canon_sendTrigger {s : State} {a1 : Radio} {a2 : PpduReq} {a3 : Plan} {a4 : List Nat} {a5 : List Nat} {a6 : Chan} {a7 : Int} (h : Canon s) : Canon (sendTrigger s a1 a2 a3 a4 a5 a6 a7) :=
  by
  unfold sendTrigger
  extract_lets x0 x1 x2 x3 x4 x5 x6
  have h7 : Canon x2 := (canon_setMac h)
  have h8 : Canon x3 := (canon_launch h7)
  have h9 : Canon x6 := (canon_modFe h8)
  exact (canon_addStatus (canon_planStat h9))

theorem canon_sendSounding {s : State} {a1 : Radio} {a2 : PpduReq} {a3 : List Nat} {a4 : Chan} {a5 : Int} (h : Canon s) : Canon (sendSounding s a1 a2 a3 a4 a5) :=
  by
  unfold sendSounding
  extract_lets x0 x1
  have h2 : Canon x0 := (canon_launch h)
  have h3 : Canon x1 := (canon_modFe h2)
  exact (canon_planStat h3)

theorem canon_prebookRefused {s : State} {a1 : Nat} (h : Canon s) : Canon (prebookRefused s a1) := by
  unfold prebookRefused
  exact (canon_planFlag (canon_planStat h))

theorem canon_sendPlanned {s : State} {a1 : Radio} {a2 : PpduReq} {a3 : Chan} {a4 : Int} (h : Canon s) : Canon (sendPlanned s a1 a2 a3 a4) :=
  by
  unfold sendPlanned
  extract_lets x0
  have h1 : ∀ y00, Canon y00 → Canon (x0 y00) := by
    intro _ h2
    unfold x0
    exact (canon_sendSingle h2)
  split
  · exact (h1 _ h)
  · extract_lets x3 x4 x5 x6 x7
    have h8 : Canon x7 := (canon_planStat h)
    split
    · exact (h1 _ h)
    · split
      · exact (h1 _ h8)
      · split
        · exact (canon_sendSounding h8)
        · split
          · split
            · exact (canon_sendTrigger (canon_fst ‹_› (canon_bookTrigger h8)))
            · exact (h1 _ (canon_prebookRefused (canon_fst ‹_› (canon_bookTrigger h8))))
          · exact (canon_sendMu h8)

theorem canon_mmeBytes {s : State} {a1 : Nat} {a2 : Nat} (h : Canon s) : Canon (mmeBytes s a1 a2).1 := by
  unfold mmeBytes
  extract_lets x0
  split
  · split
    · exact (canon_snd ‹_› (canon_drawBytes (canon_snd ‹_› (canon_drawBytes h))))

theorem canon_beaconSkip {s : State} {a1 : Radio} {a2 : Nat} (h : Canon s) : Canon (beaconSkip s a1 a2) := by
  unfold beaconSkip
  exact (canon_macFlag (canon_macStat (canon_release h)))

theorem canon_sendGroup {a0 : Radio} {a1 a2 : Nat} {s : State} (h : Canon s) : Canon (sendGroup a0 a1 a2 s) := by
  induction a2 generalizing s with
  | zero => exact h
  | succ n ih =>
    unfold sendGroup
    dsimp only
    split
    · exact h
    · split
      · exact canon_fst ‹_› (canon_powered (canon_draw h))
      · rename_i e
        have h1 := canon_fst e (canon_powered (canon_draw h))
        split
        · exact canon_release (canon_fst ‹_› (canon_gather (canon_radioTake h1)))
        · exact ih (canon_launch (canon_setMac (canon_fst ‹_› (canon_gather (canon_radioTake h1)))))

theorem canon_afterDtim {s : State} {a1 : Radio} {a2 : Nat} (h : Canon s) : Canon (afterDtim s a1 a2) := by
  unfold afterDtim
  extract_lets x0 x1
  have h2 : Canon x1 := (canon_setMac h)
  exact (canon_sendGroup h2)

theorem canon_sendBeacon {s : State} {a1 : Radio} {a2 : Nat} {a3 : Nat} (h : Canon s) : Canon (sendBeacon s a1 a2 a3) :=
  by
  unfold sendBeacon
  extract_lets x0 x1
  split
  · exact (canon_beaconSkip h)
  · split
    · exact (canon_beaconSkip (canon_fst ‹_› (canon_powered h)))
    · extract_lets x4
      split
      · extract_lets x6 x7 x8
        have h9 : Canon x8 := (canon_ite (canon_txJob (canon_fst ‹_› (canon_ite1 (canon_takePn (canon_fst ‹_› (canon_powered h))) (canon_fst ‹_› (canon_powered h))))) (canon_fst ‹_› (canon_ite1 (canon_takePn (canon_fst ‹_› (canon_powered h))) (canon_fst ‹_› (canon_powered h)))))
        split
        · extract_lets x11 x12 x13 x14
          have h15 : Canon x11 := (canon_bumpBssSn (canon_fst ‹_› (canon_ite1 (canon_mmeBytes h9) h9)))
          have h16 : Canon x13 := (canon_setMac h15)
          have h17 : Canon x14 := (canon_release (canon_launch h16))
          exact (canon_ite (canon_afterDtim h17) h17)
      · exact (canon_beaconSkip (canon_fst ‹_› (canon_ite1 (canon_takePn (canon_fst ‹_› (canon_powered h))) (canon_fst ‹_› (canon_powered h)))))

theorem canon_sendProbe {s : State} {a1 : Radio} {a2 : PpduReq} (h : Canon s) : Canon (sendProbe s a1 a2) := by
  unfold sendProbe
  extract_lets x0
  split
  · exact (canon_fst ‹_› (canon_powered h))
  · extract_lets x2 x3 x4 x5 x6
    have h7 : Canon x6 := (canon_setMac (canon_fst ‹_› (canon_powered h)))
    exact (canon_launch h7)

theorem canon_takeAsleep {s : State} {a1 : Radio} {a2 : Nat} {a3 : Nat} {a4 : Nat} (h : Canon s) : Canon (takeAsleep s a1 a2 a3 a4) :=
  by
  unfold takeAsleep
  exact (canon_foldl (fun _ _ h0 => (by
    split
    · exact (canon_ite (canon_radioTake h0) h0)
    · exact h0)) h)

theorem canon_gatherAcs {a0 : Radio} {a1 : Nat} {a2 : List Nat} {a3 : Nat} {s : State} {a5 : List TxMpdu} (h : Canon s) :
    Canon (gatherAcs a0 a1 a2 a3 s a5).1 := by
  induction a2 generalizing s a5 with
  | nil => exact h
  | cons a as ih =>
    unfold gatherAcs
    split
    · exact h
    · exact ih (canon_gather (canon_takeAsleep h))

theorem canon_sendAwake {s : State} {a1 : Radio} {a2 : PpduReq} (h : Canon s) : Canon (sendAwake s a1 a2) := by
  unfold sendAwake
  extract_lets x0
  split
  · exact h
  · split
    · exact h
    · split
      · exact (canon_fst ‹_› (canon_powered h))
      · extract_lets x4
        split
        · exact (canon_release (canon_fst ‹_› (canon_gatherAcs (canon_fst ‹_› (canon_powered h)))))
        · exact (canon_launch (canon_noteRate (canon_fst ‹_› (canon_gatherAcs (canon_fst ‹_› (canon_powered h))))))

theorem canon_assemble {s : State} {a1 : Radio} {a2 : PpduReq} (h : Canon s) : Canon (assemble s a1 a2) := by
  unfold assemble
  split
  · exact (canon_sendBeacon h)
  · split
    · exact (canon_sendProbe h)
    · split
      · exact (canon_sendAwake h)
      · split
        · exact h
        · split
          · exact (canon_fst ‹_› (canon_powered h))
          · exact (canon_ite (canon_launch (canon_fst ‹_› (canon_powered h))) (canon_ite (canon_sendPlanned (canon_fst ‹_› (canon_powered h))) (canon_sendSingle (canon_fst ‹_› (canon_powered h)))))

theorem canon_meetGate {s : State} {a1 : Radio} {a2 : PpduReq} (h : Canon s) : Canon (meetGate s a1 a2) := by
  unfold meetGate
  extract_lets x0
  have h1 : Canon x0 := (canon_returnReq h)
  exact (canon_ite (canon_holdReq h) (canon_ite (canon_beaconSkip h1) h1))

theorem canon_requestTx {s : State} {a1 : Radio} {a2 : PpduReq} (h : Canon s) : Canon (requestTx s a1 a2) := by
  unfold requestTx
  exact (canon_ite (canon_meetGate h) (canon_ite (canon_modFe h) (canon_assemble h)))

theorem canon_judgeHeld {s : State} {a1 : Radio} {a2 : PpduReq} (h : Canon s) : Canon (judgeHeld s a1 a2) := by
  unfold judgeHeld
  extract_lets x0 x1 x2
  have h3 : Canon x2 := (canon_returnReq h)
  exact (canon_ite (canon_ite (canon_beaconSkip h3) h3) (canon_requestTx h))

theorem canon_resumeHeld {s : State} {a1 : Radio} (h : Canon s) : Canon (resumeHeld s a1) := by
  unfold resumeHeld
  exact (canon_ite (canon_foldl (fun _ _ h0 => (canon_requestTx h0)) (canon_modFe h)) h)

theorem canon_tbttAt {a0 : Radio} {a1 : Nat} {a2 : Bool} {s : State} (h : Canon s) : Canon (tbttAt a0 a1 a2 s) := by
  unfold tbttAt
  extract_lets x0
  split
  · exact h
  · split
    · exact (canon_beaconSkip h)
    · split
      · exact (canon_requestTx (canon_snd ‹_› (canon_draw h)))

theorem canon_execProbeRequest {a0 : Radio} {a1 : Fin 16} {a2 : ProbeReq} {s : State} (h : Canon s) : CanonN (execProbeRequest a0 a1 a2 s) :=
  canon_live (fun s h => by
    extract_lets x1 x2 x3 x4
    split
    · exact h
    · split
      · split
        · extract_lets x8
          have h9 : Canon x8 := (canon_ite (canon_requestTx (canon_snd ‹_› (canon_draw h))) (canon_snd ‹_› (canon_draw h)))
          split
          · split
            · split
              · exact (canon_mrxDeliver (canon_snd ‹_› (canon_draw (canon_snd ‹_› (canon_draw h9)))))
          · exact h9
      · exact h) h

theorem canon_ppduAssembly {a0 : Radio} {a1 : PpduReq} {s : State} (h : Canon s) : Canon (ppduAssembly a0 a1 s) := by
  unfold ppduAssembly
  exact (canon_ite h (canon_requestTx h))

theorem canon_ackReceive {a0 : Radio} {a1 : List (Nat × Nat × Nat)} {s : State} (h : Canon s) : Canon (ackReceive a0 a1 s) :=
  by
  unfold ackReceive
  split
  · exact h
  · exact (canon_resumeHeld (canon_ackDone h))

theorem canon_ackTimeout {a0 : Radio} {s : State} (h : Canon s) : Canon (ackTimeout a0 s) := by
  unfold ackTimeout
  split
  · exact h
  · exact (canon_resumeHeld (canon_ackMissed h))

theorem canon_execPsPoll {a0 : Radio} {a1 : Nat} {s : State} (h : Canon s) : CanonN (execPsPoll a0 a1 s) :=
  canon_live (fun s h => by
    split
    · split
      · split
        · extract_lets x4
          exact (canon_requestTx (canon_snd ‹_› (canon_draw h)))
      · exact (canon_respond h)
    · exact h) h

theorem canon_execUapsdTrigger {a0 : Radio} {a1 : Nat} {a2 : ApsdTrigger} {s : State} (h : Canon s) : CanonN (execUapsdTrigger a0 a1 a2 s) :=
  canon_live (fun s h => by
    extract_lets x1 x2
    have h3 : Canon x2 := (canon_setMac h)
    split
    · split
      · split
        · extract_lets x7
          exact (canon_requestTx (canon_snd ‹_› (canon_draw h3)))
      · exact h
    · exact h) h

theorem canon_tbUser {s : State} {a1 : Radio} {a2 : Bool} {a3 : TbUser} (h : Canon s) : Canon (tbUser s a1 a2 a3) := by
  unfold tbUser
  extract_lets x0 x1 x2 x3 x4 x5
  have h6 : Canon x2 := (canon_setMac h)
  have h7 : Canon x4 := (canon_planFlag (canon_planStat h))
  exact (canon_ite (canon_trackLoss (canon_ite (canon_setReport h6) h6)) (canon_setMac h7))

theorem canon_multiBlockAck {s : State} {a1 : Radio} (h : Canon s) : Canon (multiBlockAck s a1) := by
  unfold multiBlockAck
  extract_lets x0
  split
  · split
    · exact (canon_prebookRefused (canon_snd ‹_› (canon_draw h)))
    · split
      · exact (canon_release (canon_ite (canon_prebookRefused (canon_fst ‹_› (canon_sendBooked (canon_snd ‹_› (canon_draw h))))) (canon_fst ‹_› (canon_sendBooked (canon_snd ‹_› (canon_draw h))))))

theorem canon_tbPpduReceive {a0 : Radio} {a1 : Nat} {a2 : List TbUser} {s : State} (h : Canon s) : Canon (tbPpduReceive a0 a1 a2 s) :=
  by
  unfold tbPpduReceive
  extract_lets x0 x1
  split
  · exact h
  · split
    · extract_lets x4 x5 x6 x7
      have h8 : Canon x4 := (canon_bccDrop (canon_fst ‹_› (canon_endExchange h)))
      have h9 : Canon x5 := (canon_modFe h8)
      have h10 : Canon x6 := (canon_foldl (fun _ _ h10 => (canon_tbUser h10)) h9)
      have h11 : Canon x7 := (canon_ite (canon_multiBlockAck h10) (canon_release h10))
      exact (canon_resumeHeld h11)

theorem canon_execPeerTrigger {a0 : Radio} {a1 : Nat} {a2 : Bool} {a3 : Bool} {a4 : Nat} {s : State} (h : Canon s) : CanonN (execPeerTrigger a0 a1 a2 a3 a4 s) :=
  canon_live (fun s h => by
    split
    · exact h
    · split
      · exact (canon_prebookRefused h)
      · split
        · exact (canon_ite (canon_prebookRefused (canon_fst ‹_› (canon_sendBooked h))) (canon_fst ‹_› (canon_sendBooked h)))) h

theorem canon_mpduJobEnded {s : State} {a1 : Job} {a2 : Nat} (h : Canon s) : Canon (mpduJobEnded s a1 a2) := by
  unfold mpduJobEnded
  extract_lets x0
  split
  · extract_lets x2
    have h3 : Canon x2 := (canon_setMac h)
    exact (canon_ite (canon_toHead h3) (canon_mpduDropped (canon_ite (canon_pnExhausted h3) h3)))
  · exact h

theorem canon_chainJobEnded {s : State} {a1 : Nat} {a2 : Job} {a3 : Nat} (h : Canon s) : Canon (chainJobEnded s a1 a2 a3) :=
  by
  unfold chainJobEnded
  extract_lets x0 x1
  exact (canon_dite (fun _ => (canon_returnReq (canon_mk h))) (fun _ => h))

theorem canon_jobEnded {a0 : JobEnd} (h : Canon a0.1) : Canon (jobEnded a0) := by
  unfold jobEnded
  split
  · exact h
  · extract_lets x1
    split
    · exact (canon_ite h (canon_mpduJobEnded h))
    · exact (canon_ite h (canon_chainJobEnded h))
    · exact (canon_ite (canon_portSent h) (canon_ite (canon_portFlag (canon_ethStat h)) h))
    · exact h
    · exact (canon_setSec h)

theorem canon_execCipherJobStart {a0 : Fin 12} {a1 : EccObs} {s : State} (h : Canon s) : CanonN (execCipherJobStart a0 a1 s) :=
  canon_live (fun s h => (canon_jobEnded (canon_jobStart h))) h

theorem canon_execCipherJobDone {a0 : Fin 12} {a1 : Bool} {s : State} (h : Canon s) : CanonN (execCipherJobDone a0 a1 s) :=
  canon_live (fun s h => (canon_jobEnded (canon_jobDone h))) h

theorem canon_execLaneParity {a0 : Fin 12} {s : State} (h : Canon s) : CanonN (execLaneParity a0 s) :=
  canon_live (fun s h => by
    split
    · exact (canon_jobEnded (canon_laneParity h))
    · exact h) h

theorem canon_abortLane {a0 : Fin 12} {s : State} (h : Canon s) : Canon (abortLane a0 s).1 := by
  unfold abortLane
  split
  · exact (canon_jobEnded (canon_laneAbort h))
  · exact h

theorem canon_execAbortCipherLane {a0 : Fin 12} {s : State} (h : Canon s) : CanonN (execAbortCipherLane a0 s) :=
  canon_live (fun s h => by
    split
    · exact (canon_abortDone (canon_fst ‹_› (canon_abortLane h)))) h

end Sys2Proof.Machine
end

