-- ==== Sys2Proof/Laws/CanonChain.lean ====
section
/-! SUPPORT. The canonical form is kept by the Chain units: one lemma for each operation, which cites those
of the operations it calls. -/

namespace Sys2Proof.Machine
open Sys2Proof

theorem canon_setChain {s : State} {a1 : ChainUnit} (h : Canon s) : Canon (State.setChain s a1) := by
  unfold State.setChain
  exact (canon_mk h)

theorem canon_modCr {s : State} {a1 : Radio} {a2 : ChainRadio → ChainRadio} (h : Canon s) : Canon (State.modCr s a1 a2) :=
  by
  unfold State.modCr
  extract_lets x0
  exact (canon_setChain h)

theorem canon_chainStat {s : State} {a1 : Nat} {a2 : Nat} (h : Canon s) : Canon (chainStat s a1 a2) := by
  unfold chainStat
  exact (canon_stat h)

theorem canon_chainFlag {s : State} {a1 : Nat} {a2 : Nat} (h : Canon s) : Canon (chainFlag s a1 a2) := by
  unfold chainFlag
  exact (canon_setFlag h)

theorem canon_hopTo {s : State} {a1 : Radio} {a2 : Nat} (h : Canon s) : Canon (hopTo s a1 a2) := by
  unfold hopTo
  extract_lets x0 x1 x2
  have h3 : Canon x2 := (canon_ite (canon_chainStat h) h)
  exact (canon_ite (canon_modFe h) (canon_ite (canon_beginChange h3) (canon_ite h3 (canon_requestChannel h3))))

theorem canon_setM {s : State} {a1 : Nat} {a2 : Nat} {a3 : Nat} {a4 : Nat} (h : Canon s) : Canon (setM s a1 a2 a3 a4) :=
  by
  unfold setM
  exact (canon_setObjF h)

theorem canon_memberTouched {s : State} {a1 : Nat} (h : Canon s) : Canon (memberTouched s a1) := by
  unfold memberTouched
  exact (canon_mirrorObj h)

theorem canon_mirrorChain {s : State} {a1 : Radio} (h : Canon s) : Canon (mirrorChain s a1) := by
  unfold mirrorChain
  extract_lets x0
  exact (canon_mirror h)

theorem canon_dropDownlink {s : State} {a1 : Radio} {a2 : Nat} (h : Canon s) : Canon (dropDownlink s a1 a2) := by
  unfold dropDownlink
  exact (canon_foldl (fun _ _ h0 => (by
    extract_lets x1 x2
    exact (canon_foldl (fun _ _ h3 => (canon_chainStat h3)) (canon_flushFor h0)))) h)

theorem canon_chainMay {s : State} {a1 : Radio} {a2 : Nat} {a3 : ChainAir} (h : Canon s) : Canon (chainMay s a1 a2 a3).1 :=
  by
  unfold chainMay
  extract_lets x0
  split
  · exact (canon_chainStat (canon_radioFlag h))
  · split
    · exact (canon_chainStat (canon_returnReq (canon_setFlag h)))
    · split
      · exact h
      · split
        · extract_lets x5
          have h6 : Canon x5 := (canon_ite (canon_chainStat (canon_countDuty h)) h)
          exact (canon_returnReq h6)
        · split
          · exact h
          · split
            · exact h
            · exact (canon_returnReq h)

theorem canon_chainSend {s : State} {a1 : Radio} {a2 : Nat} {a3 : ChainAir} {a4 : Chan × Int} {a5 : ChainSent} (h : Canon s) : Canon (chainSend s a1 a2 a3 a4 a5).1 :=
  by
  unfold chainSend
  split
  · extract_lets x1 x2 x3 x4 x5 x6
    have h7 : Canon x1 := (canon_queueJob (canon_fst ‹_› (canon_takeCounter h)))
    have h8 : Canon x2 := (canon_transmit h7)
    exact (canon_modCr h8)
  · exact (canon_returnReq (canon_fst ‹_› (canon_takeCounter h)))
  · exact (canon_fst ‹_› (canon_takeCounter h))

theorem canon_bumpSeq {s : State} {a1 : Radio} {a2 : Nat} (h : Canon s) : Canon (bumpSeq s a1 a2) := by
  unfold bumpSeq
  exact (canon_modCr h)

theorem canon_chainVerified {s : State} {a1 : Nat} {a2 : ChainFrame} (h : Canon s) : Canon (chainVerified s a1 a2).1 :=
  by
  unfold chainVerified
  exact (canon_ite1 (canon_queueJob h) h)

theorem canon_chainAck {s : State} {a1 : Radio} {a2 : Nat} {a3 : Nat} {a4 : ChainSent} (h : Canon s) : Canon (chainAck s a1 a2 a3 a4) :=
  by
  unfold chainAck
  extract_lets x0
  split
  · exact (canon_returnReq h)
  · split
    · exact h
    · split
      · exact (canon_fst ‹_› (canon_chainMay h))
      · exact (canon_chainSend (canon_fst ‹_› (canon_chainMay h)))

theorem canon_beaconSkipped {s : State} {a1 : Radio} (h : Canon s) : Canon (beaconSkipped s a1) := by
  unfold beaconSkipped
  exact (canon_chainFlag (canon_chainStat h))

theorem canon_execBeaconForm {a0 : Radio} {s : State} (h : Canon s) : CanonN (execBeaconForm a0 s) :=
  canon_live (fun s h => by
    extract_lets x1 x2 x3 x4 x5 x6 x7 x8
    split
    · exact h
    · split
      · exact (canon_beaconSkipped h)
      · split
        · exact (canon_beaconSkipped (canon_fst ‹_› (canon_chainMay h)))
        · split
          · exact (canon_modCr (canon_chainStat (canon_bumpSeq (canon_fst ‹_› (canon_chainSend (canon_fst ‹_› (canon_chainMay h)))))))
          · exact (canon_beaconSkipped (canon_fst ‹_› (canon_chainSend (canon_fst ‹_› (canon_chainMay h)))))) h

theorem canon_chainStepped {s : State} (h : Canon s) : Canon (chainStepped s) := by
  unfold chainStepped
  exact (canon_foldl (fun _ _ h0 => (by
    split
    · exact (canon_ite (canon_chainFlag (canon_modCr h0)) h0)
    · exact h0)) h)

theorem canon_execChainHead {a0 : Radio} {s : State} (h : Canon s) : CanonN (execChainHead a0 s) :=
  canon_live (fun s h => by
    extract_lets x1 x2 x3 x4
    have h5 : Canon x4 := (canon_modCr h)
    split
    · exact h
    · split
      · exact (canon_book h5)
      · exact h5) h

theorem canon_closeContacts {s : State} {a1 : Radio} (h : Canon s) : Canon (closeContacts s a1) := by
  unfold closeContacts
  extract_lets x0
  exact (canon_foldl (fun _ _ h1 => (canon_ite (canon_memberTouched (canon_setM h1)) (canon_ite (by
    extract_lets x2 x3 x4
    have h5 : Canon x3 := (canon_setM h1)
    have h6 : Canon x4 := (canon_ite (canon_chainFlag (canon_chainStat (canon_dropDownlink (canon_setM h5)))) h5)
    exact (canon_memberTouched h6)) h1))) h)

theorem canon_showSlots {s : State} {a1 : Radio} (h : Canon s) : Canon (showSlots s a1) := by
  unfold showSlots
  split
  · exact h
  · exact (canon_foldl (fun _ _ h1 => (by
      extract_lets x2
      exact (canon_ite h1 (canon_memberTouched (canon_setM h1))))) h)

theorem canon_chainStartAt {a0 : Radio} {s : State} (h : Canon s) : Canon (chainStartAt a0 s) := by
  unfold chainStartAt
  extract_lets x0 x1 x2 x3 x4 x5
  have h6 : ∀ y00 y01 y02 y03, Canon y00 → Canon (x0 y00 y01 y02 y03) := by
    intro _ _ _ _ h7
    unfold x0
    extract_lets x8
    have h9 : Canon x8 := (canon_modCr (canon_showSlots h7))
    exact (canon_hopTo h9)
  have h7 : Canon x4 := (canon_modCr h)
  have h8 : Canon x5 := by
    unfold x5
    split
    · exact (canon_book h7)
    · exact h7
  exact (canon_ite h (canon_ite (canon_ite (canon_ite h (canon_mirrorChain (h6 _ _ _ _ (canon_closeContacts h)))) (canon_ite h (canon_mirrorChain (h6 _ _ _ _ h8)))) (canon_ite (h6 _ _ _ _ h) h)))

theorem canon_takeFrom {s : State} {a1 : Radio} {a2 : Nat} {a3 : QFrame} (h : Canon s) : Canon (takeFrom s a1 a2 a3) :=
  by
  unfold takeFrom
  extract_lets x0 x1
  have h2 : Canon x1 := (canon_freeRef (canon_setQueue h))
  exact (canon_sentHead h2)

theorem canon_sendNow {s : State} {a1 : Radio} {a2 : ChainTx} {a3 : Nat} {a4 : Nat} {a5 : Nat} {a6 : Bool} (h : Canon s) : Canon (sendNow s a1 a2 a3 a4 a5 a6).1 :=
  by
  unfold sendNow
  extract_lets x0 x1 x2
  split
  · exact (canon_fst ‹_› (canon_chainMay h))
  · extract_lets x4
    split
    · exact (canon_fst ‹_› (canon_chainSend (canon_fst ‹_› (canon_chainMay h))))
    · extract_lets x6 x7
      have h8 : Canon x6 := (canon_ite (canon_bumpSeq (canon_fst ‹_› (canon_chainSend (canon_fst ‹_› (canon_chainMay h))))) (canon_fst ‹_› (canon_chainSend (canon_fst ‹_› (canon_chainMay h)))))
      exact (canon_modCr h8)

theorem canon_sendResp {s : State} {a1 : Radio} {a2 : ChainResp} (h : Canon s) : Canon (sendResp s a1 a2).1 := by
  unfold sendResp
  extract_lets x0 x1 x2 x3 x4
  split
  · split
    · exact h
    · split
      · exact (canon_modCr (canon_fst ‹_› (canon_sendNow h)))
      · exact (canon_fst ‹_› (canon_sendNow h))
  · split
    · exact h
    · split
      · exact (canon_modCr (canon_fst ‹_› (canon_sendNow h)))
      · exact (canon_fst ‹_› (canon_sendNow h))

theorem canon_freeMember {s : State} {a1 : Radio} {a2 : Nat} (h : Canon s) : Canon (freeMember s a1 a2) := by
  unfold freeMember
  extract_lets x0 x1 x2
  have h3 : Canon x0 := (canon_dropDownlink h)
  have h4 : Canon x1 := (canon_modCr h3)
  have h5 : Canon x2 := (canon_memberTouched (canon_setObj (canon_setObj h4)))
  exact (canon_watch h5)

theorem canon_serveDownlink {a0 : Radio} {a1 : Nat} {s : State} (h : Canon s) : Canon (serveDownlink a0 a1 s) := by
  induction a1 generalizing s with
  | zero => exact h
  | succ n ih =>
    unfold serveDownlink
    extract_lets +onlyGivenNames x
    split
    · exact h
    · split
      · split
        · rename_i e
          exact ih (canon_ite (canon_freeMember (canon_fst e (canon_sendResp h))) (canon_fst e (canon_sendResp h)))
        · exact canon_fst ‹_› (canon_sendResp h)
      · split
        · extract_lets +onlyGivenNames y1 y2 y3
          split
          · exact h
          · split
            · exact canon_modCr (canon_fst ‹_› (canon_sendNow h))
            · exact canon_fst ‹_› (canon_sendNow h)
        · split
          · exact canon_snd ‹_› (canon_selectQueue h)
          · rename_i e
            have h1 := canon_snd e (canon_selectQueue h)
            split
            · exact h1
            · dsimp only
              split
              · exact ih (canon_takeFrom (canon_fst ‹_› (canon_sendNow h1)))
              · exact canon_fst ‹_› (canon_sendNow h1)

theorem canon_sendToMember {s : State} {a1 : Radio} {a2 : Nat} (h : Canon s) : Canon (sendToMember s a1 a2) := by
  unfold sendToMember
  extract_lets x0 x1
  split
  · exact h
  · split
    · split
      · split
        · exact (canon_modCr (canon_fst ‹_› (canon_sendNow h)))
        · exact (canon_fst ‹_› (canon_sendNow h))
      · exact h
    · split
      · split
        · exact (canon_takeFrom (canon_fst ‹_› (canon_sendNow h)))
        · exact (canon_fst ‹_› (canon_sendNow h))
      · exact h

theorem canon_continueSlot {s : State} {a1 : Radio} (h : Canon s) : Canon (continueSlot s a1) := by
  unfold continueSlot
  split
  · exact (canon_ite (canon_serveDownlink h) h)
  · exact h

theorem canon_memberSend {s : State} {a1 : Radio} {a2 : ChainTx} {a3 : Option (Nat × QFrame)} {a4 : Nat} {a5 : Nat} {a6 : Nat} {a7 : Nat} (h : Canon s) : Canon (memberSend s a1 a2 a3 a4 a5 a6 a7) :=
  by
  unfold memberSend
  extract_lets x0
  split
  · exact (canon_fst ‹_› (canon_chainMay h))
  · extract_lets x2 x3
    split
    · exact (canon_fst ‹_› (canon_chainSend (canon_fst ‹_› (canon_chainMay h))))
    · extract_lets x5 x6
      have h7 : Canon x5 := (canon_ite (canon_bumpSeq (canon_fst ‹_› (canon_chainSend (canon_fst ‹_› (canon_chainMay h))))) (canon_fst ‹_› (canon_chainSend (canon_fst ‹_› (canon_chainMay h)))))
      have h8 : Canon x6 := by
        unfold x6
        split
        · exact (canon_takeFrom h7)
        · exact h7
      exact (canon_modCr h8)

theorem canon_memberSlot {s : State} {a1 : Radio} (h : Canon s) : Canon (memberSlot s a1) := by
  unfold memberSlot
  extract_lets x0 x1 x2 x3 x4
  split
  · split
    · exact (canon_memberSend h)
    · exact (canon_ite (canon_memberSend h) h)
  · exact h

theorem canon_serveSlot {s : State} {a1 : Radio} (h : Canon s) : Canon (serveSlot s a1) := by
  unfold serveSlot
  extract_lets x0
  split
  · exact h
  · exact (canon_ite (canon_ite (canon_serveDownlink h) h) (canon_ite (canon_release (canon_memberSlot h)) h))

theorem canon_serveDue {s : State} {a1 : Radio} (h : Canon s) : Canon (serveDue s a1) := by
  unfold serveDue
  exact (canon_ite (canon_serveSlot (canon_modCr h)) h)

theorem canon_slotEdge {s : State} {a1 : Radio} (h : Canon s) : Canon (slotEdge s a1) := by
  unfold slotEdge
  extract_lets x0
  exact (canon_ite (canon_modCr (canon_serveDue h)) h)

theorem canon_slotStartAt {a0 : Radio} {a1 : Bool} {a2 : List Nat} {s : State} (h : Canon s) : Canon (slotStartAt a0 a1 a2 s) :=
  by
  unfold slotStartAt
  extract_lets x0 x1 x2 x3 x4 x5 x6 x7
  have h8 : Canon x5 := (canon_modCr h)
  have h9 : Canon x6 := (canon_ite (canon_hopTo h8) h8)
  have h10 : Canon x7 := by
    unfold x7
    split
    · split
      · exact (canon_book h9)
      · exact h9
    · exact h9
  exact (canon_ite h (canon_ite (canon_serveSlot h10) (canon_modCr h10)))

theorem canon_execSharedPosition {a0 : Radio} {a1 : Nat} {a2 : List CcaObs} {s : State} (h : Canon s) : CanonN (execSharedPosition a0 a1 a2 s) :=
  canon_live (fun s h => by
    extract_lets x1 x2 x3 x4 x5
    split
    · exact h
    · clear_value x4
      split
      · exact h
      · extract_lets x8 x9
        split
        · split
          · extract_lets x12
            split
            · exact (canon_snd ‹_› (canon_draw (canon_snd ‹_› (canon_draw h))))
            · split
              · exact (canon_snd ‹_› (canon_draw (canon_snd ‹_› (canon_draw h))))
              · split
                · extract_lets x16 x17 x18
                  have h19 : Canon x16 := (canon_grant (canon_fst ‹_› (canon_requestUpTo (canon_snd ‹_› (canon_draw (canon_snd ‹_› (canon_draw h)))))))
                  have h20 : Canon x17 := (canon_memberSend h19)
                  have h21 : Canon x18 := (canon_release (canon_release h20))
                  exact (canon_ite (canon_modCr h21) h21)) h

theorem canon_joinWait {s : State} {a1 : Radio} (h : Canon s) : Canon (joinWait s a1) := by
  unfold joinWait
  extract_lets x0
  split
  · exact (canon_modCr (canon_snd ‹_› (canon_drawIn h)))

theorem canon_execJoinTimeout {a0 : Radio} {s : State} (h : Canon s) : CanonN (execJoinTimeout a0 s) :=
  canon_live (fun s h => (canon_ite (canon_joinWait (canon_modCr h)) h)) h

theorem canon_execJoinBackoffExpiry {a0 : Radio} {s : State} (h : Canon s) : CanonN (execJoinBackoffExpiry a0 s) :=
  canon_live (fun s h => (canon_ite (canon_modCr h) h)) h

theorem canon_execScanAdvance {a0 : Radio} {s : State} (h : Canon s) : CanonN (execScanAdvance a0 s) :=
  canon_live (fun s h => by
    extract_lets x1 x2 x3
    exact (canon_ite (canon_hopTo (canon_modCr h)) h)) h

theorem canon_enterScan {s : State} {a1 : Radio} (h : Canon s) : Canon (enterScan s a1) := by
  unfold enterScan
  extract_lets x0
  have h1 : Canon x0 := (canon_modCr h)
  exact (canon_hopTo h1)

theorem canon_execBeaconMissed {a0 : Radio} {s : State} (h : Canon s) : CanonN (execBeaconMissed a0 s) :=
  canon_live (fun s h => by
    extract_lets x1 x2
    have h3 : Canon x2 := (canon_modCr (canon_chainStat h))
    exact (canon_ite h (canon_ite (canon_chainFlag (canon_modCr h3)) (canon_ite (canon_chainFlag (canon_enterScan h3)) h3)))) h

theorem canon_resync {s : State} {a1 : Radio} {a2 : Int} (h : Canon s) : Canon (resync s a1 a2) := by
  unfold resync
  exact (canon_modCr h)

theorem canon_memberBeacon {s : State} {a1 : Radio} {a2 : ChainFrame} (h : Canon s) : Canon (memberBeacon s a1 a2) := by
  unfold memberBeacon
  extract_lets x0 x1 x2
  have h3 : Canon x2 := (canon_setObj h)
  exact (canon_modCr h3)

theorem canon_postJoin {s : State} {a1 : Radio} {a2 : Bool} {a3 : ChainFrame} (h : Canon s) : Canon (postJoin s a1 a2 a3) :=
  by
  unfold postJoin
  extract_lets x0 x1
  split
  · exact (canon_postFixed (canon_setChain h))
  · exact (canon_chainFlag h)

theorem canon_queueResp {s : State} {a1 : Radio} {a2 : ChainResp} (h : Canon s) : Canon (queueResp s a1 a2) := by
  unfold queueResp
  extract_lets x0
  have h1 : Canon x0 := (canon_modCr h)
  exact (canon_ite h1 (canon_ite (canon_chainStat h1) (canon_chainFlag (canon_chainStat h1))))

theorem canon_joinRequest {s : State} {a1 : Radio} {a2 : ChainFrame} (h : Canon s) : Canon (joinRequest s a1 a2) := by
  unfold joinRequest
  extract_lets x0 x1
  have h2 : ∀ y00, Canon (x1 y00) := by
    intro _
    unfold x1
    exact (canon_queueResp h)
  split
  · exact (h2 _)
  · clear_value x0
    split
    · extract_lets x5 x6
      have h7 : Canon x5 := (canon_memberTouched (canon_setM h))
      have h8 : Canon x6 := (canon_queueResp h7)
      exact (canon_postJoin h8)
    · exact (canon_ite (h2 _) (canon_postJoin h))

theorem canon_memberFrameIn {s : State} {a1 : Radio} {a2 : Nat} {a3 : ChainFrame} (h : Canon s) : Canon (memberFrameIn s a1 a2 a3) :=
  by
  unfold memberFrameIn
  extract_lets x0 x1 x2 x3 x4 x5 x6
  have h7 : Canon x0 := (canon_setM (canon_setM (canon_setM (canon_setM h))))
  have h8 : Canon x1 := (canon_addObjF h7)
  have h9 : Canon x2 := (canon_ite (canon_setM h8) h8)
  have h10 : Canon x3 := (canon_modCr (canon_chainStat h9))
  have h11 : Canon x4 := (canon_memberTouched h10)
  exact (canon_ite (canon_setMac h11) (canon_ite (canon_freeMember h11) h11))

theorem canon_ackIn {s : State} {a1 : Radio} {a2 : ChainFrame} {a3 : Nat} (h : Canon s) : Canon (ackIn s a1 a2 a3) := by
  unfold ackIn
  extract_lets x0 x1
  have h2 : Canon x0 := (canon_modCr h)
  have h3 : Canon x1 := (canon_ite (canon_addObjF h2) h2)
  split
  · exact (canon_ite (canon_ite (canon_continueSlot h3) (canon_resync h2)) h)
  · exact h

theorem canon_coordinatorIn {s : State} {a1 : Radio} {a2 : ChainFrame} (h : Canon s) : Canon (coordinatorIn s a1 a2) :=
  by
  unfold coordinatorIn
  extract_lets x0
  split
  · extract_lets x2 x3 x4
    have h5 : Canon x3 := (canon_modCr (canon_fst ‹_› (canon_chainVerified h)))
    have h6 : Canon x4 := (canon_ite (canon_chainAck h5) h5)
    split
    · exact (canon_chainFlag (canon_chainStat (canon_fst ‹_› (canon_chainVerified h))))
    · split
      · split
        · split
          · exact (canon_ite (canon_continueSlot (canon_modCr (canon_fst ‹_› (canon_chainVerified h)))) (canon_fst ‹_› (canon_chainVerified h)))
          · exact (canon_fst ‹_› (canon_chainVerified h))
        · exact (canon_ite (canon_chainFlag (canon_chainStat (canon_fst ‹_› (canon_chainVerified h)))) (canon_joinRequest (canon_chainStat h6)))
      · split
        · exact (canon_fst ‹_› (canon_chainVerified h))
        · extract_lets x10 x11 x12 x13 x14 x15 x16
          have h17 : Canon x12 := (canon_setM (canon_fst ‹_› (canon_chainVerified h)))
          have h18 : Canon x13 := (canon_ite (canon_chainAck (canon_patchObj h17)) h17)
          have h19 : Canon x14 := (canon_memberFrameIn h18)
          exact (canon_ite (canon_chainFlag (canon_chainStat (canon_fst ‹_› (canon_chainVerified h)))) (canon_ite (canon_ackIn h18) (canon_ite (canon_chainStat h18) (canon_ite (canon_sendToMember (canon_modCr h19)) h19))))

theorem canon_joinResponse {s : State} {a1 : Radio} {a2 : ChainFrame} (h : Canon s) : Canon (joinResponse s a1 a2) := by
  unfold joinResponse
  extract_lets x0
  exact (canon_ite h (canon_ite (canon_modCr h) (canon_joinWait h)))

theorem canon_downlinkSync {s : State} {a1 : Radio} {a2 : ChainFrame} (h : Canon s) : Canon (downlinkSync s a1 a2) := by
  unfold downlinkSync
  extract_lets x0
  split
  · exact (canon_ite (canon_modCr (canon_resync h)) h)
  · exact h

theorem canon_memberIn {s : State} {a1 : Radio} {a2 : ChainFrame} (h : Canon s) : Canon (memberIn s a1 a2) := by
  unfold memberIn
  extract_lets x0 x1 x2
  split
  · exact h
  · split
    · extract_lets x5 x6 x7 x8 x9 x10 x11
      have h12 : Canon x5 := (canon_modCr (canon_fst ‹_› (canon_chainVerified h)))
      have h13 : Canon x7 := (canon_downlinkSync h12)
      have h14 : Canon x8 := (canon_ite (canon_chainAck h13) h13)
      have h15 : Canon x9 := (canon_modCr (canon_chainStat h14))
      exact (canon_ite (canon_chainFlag (canon_chainStat (canon_fst ‹_› (canon_chainVerified h)))) (canon_ite (canon_chainFlag (canon_chainStat (canon_fst ‹_› (canon_chainVerified h)))) (canon_ite (canon_ackIn h14) (canon_ite (canon_chainStat h14) (canon_ite (canon_memberBeacon h15) (canon_ite (canon_joinResponse h15) (canon_ite (canon_enterScan h15) (canon_ite (canon_setMac h15) h15))))))))

theorem canon_chainFrameAt {a0 : Radio} {a1 : ChainFrame} {s : State} (h : Canon s) : Canon (chainFrameAt a0 a1 s) := by
  unfold chainFrameAt
  extract_lets x0
  have h1 : Canon x0 := (canon_modFe h)
  exact (canon_ite h1 (canon_ite (canon_coordinatorIn h1) (canon_memberIn h1)))

theorem canon_execChainAckTimeout {a0 : Radio} {s : State} (h : Canon s) : CanonN (execChainAckTimeout a0 s) :=
  canon_live (fun s h => by
    extract_lets x1 x2 x3
    have h4 : Canon x2 := (canon_modCr h)
    have h5 : Canon x3 := (canon_chainStat h4)
    split
    · exact h
    · extract_lets x7
      have h8 : Canon x7 := (canon_ite (canon_addObjF h5) h5)
      exact (canon_ite (canon_continueSlot h8) (canon_modCr h4))) h

theorem canon_execJoinPendingExpiry {a0 : Fin 16} {s : State} (h : Canon s) : CanonN (execJoinPendingExpiry a0 s) :=
  canon_live (fun s h => by
    extract_lets x1
    exact (canon_setChain h)) h

theorem canon_takePending {s : State} {a1 : Nat} (h : Canon s) : Canon (takePending s a1) := by
  unfold takePending
  extract_lets x0
  exact (canon_setChain h)

theorem canon_memberJoin {a0 : Bytes} {s : State} (h : Canon s) : Canon (memberJoin a0 s).1 := by
  unfold memberJoin
  extract_lets x0 x1 x2 x3 x4 x5 x6
  split
  · exact h
  · split
    · exact (by
        clear_value x4
        split
        · exact (canon_dite (fun _ => (canon_queueResp (canon_takePending h))) (fun _ => h))
        · exact h)
    · clear_value x4
      split
      · exact h
      · extract_lets x10 x11 x12
        have h13 : Canon x11 := (canon_setObj (canon_takePending h))
        have h14 : Canon x12 := (canon_setObj h13)
        split
        · extract_lets x16 x17 x18 x19
          have h20 : Canon x17 := (canon_modCr h14)
          have h21 : Canon x18 := (canon_memberTouched (canon_queueResp h20))
          have h22 : Canon x19 := (canon_watch h21)
          exact (canon_ite1 h (canon_ite1 h (canon_ite1 h (canon_cmdOut h22))))
        · exact h

theorem canon_memberReject {a0 : Bytes} {s : State} (h : Canon s) : Canon (memberReject a0 s).1 := by
  unfold memberReject
  extract_lets x0
  split
  · exact h
  · split
    · exact h
    · split
      · extract_lets x4
        have h5 : Canon x4 := (canon_queueResp (canon_takePending h))
        exact (canon_cmdOut h5)
      · exact h

theorem canon_memberRemove {a0 : Bytes} {s : State} (h : Canon s) : Canon (memberRemove a0 s).1 := by
  unfold memberRemove
  extract_lets x0
  split
  · exact h
  · split
    · exact h
    · split
      · extract_lets x4
        have h5 : Canon x4 := (canon_queueResp h)
        exact (canon_cmdOut h5)
      · exact h

theorem canon_memberCmd {a0 : Bytes} {s : State} (h : Canon s) : Canon (memberCmd a0 s).1 := by
  unfold memberCmd
  exact (canon_ite1 (canon_memberJoin h) (canon_ite1 (canon_memberReject h) (canon_memberRemove h)))

end Sys2Proof.Machine
end

