-- ==== Sys2Proof/Laws/CanonPacket.lean ====
section
/-! SUPPORT. The canonical form is kept by the packet processor, gates, DRAM and the rest of DMA's state: one lemma for each operation, which cites those
of the operations it calls. -/

namespace Sys2Proof.Machine
open Sys2Proof

theorem canon_setPp {s : State} {a1 : PpUnit} (h : Canon s) : Canon (State.setPp s a1) := by
  unfold State.setPp
  exact (canon_mk h)

theorem canon_ppStat {s : State} {a1 : Nat} (h : Canon s) : Canon (ppStat s a1) := by
  unfold ppStat
  exact (canon_stat h)

theorem canon_ppFlag {s : State} {a1 : Nat} (h : Canon s) : Canon (ppFlag s a1) := by
  unfold ppFlag
  exact (canon_setFlag h)

theorem canon_watchTable {s : State} {a1 : Nat} (h : Canon s) : Canon (watchTable s a1) := by
  unfold watchTable
  extract_lets x0
  exact (canon_watch h)

theorem canon_putEntry {s : State} {a1 : Nat} {a2 : Nat} {a3 : Bytes} (h : Canon s) : Canon (putEntry s a1 a2 a3) := by
  unfold putEntry
  extract_lets x0 x1 x2
  have h3 : Canon x0 := (canon_mirrorObj (canon_setObj h))
  have h4 : Canon x2 := (canon_ite (canon_setPp h3) h3)
  split
  · exact (canon_watchTable h4)
  · exact h4

theorem canon_invalidate {s : State} {a1 : Nat} {a2 : Nat} (h : Canon s) : Canon (invalidate s a1 a2) := by
  unfold invalidate
  extract_lets x0 x1
  exact (canon_logEvent (canon_setFlag (canon_putEntry h)))

theorem canon_cacheFill {s : State} {a1 : Nat} {a2 : Nat} (h : Canon s) : Canon (cacheFill s a1 a2) := by
  unfold cacheFill
  extract_lets x0 x1 x2 x3 x4 x5
  have h6 : ∀ y00 y01 y02, Canon y00 → Canon (x3 y00 y01 y02) := by
    intro _ _ _ h7
    unfold x3
    split
    · exact (canon_setObjF h7)
  have h7 : Canon x4 := (canon_foldl (fun _ _ h7 => (h6 _ _ _ h7)) (h6 _ _ _ h))
  exact (canon_setPp h7)

theorem canon_flowTouched {s : State} {a1 : PKey} {a2 : Nat} (h : Canon s) : Canon (flowTouched s a1 a2) := by
  unfold flowTouched
  extract_lets x0
  split
  · exact (canon_setPp h)

theorem canon_flowHit {s : State} {a1 : PKey} {a2 : Nat} (h : Canon s) : Canon (flowHit s a1 a2) := by
  unfold flowHit
  extract_lets x0 x1 x2
  have h3 : Canon x1 := (canon_ppStat h)
  have h4 : Canon x2 := (canon_ite (canon_ppStat h3) h3)
  split
  · exact (canon_cacheFill (canon_flowTouched (canon_addObjF h4)))

theorem canon_learnFlow {s : State} {a1 : PKey} {a2 : Bytes} (h : Canon s) : Canon (learnFlow s a1 a2) := by
  unfold learnFlow
  extract_lets x0 x1
  split
  · extract_lets x3
    have h4 : Canon x3 := (canon_setPp h)
    split
    · exact (canon_flowTouched (canon_putEntry h4))
  · exact (canon_ppFlag (canon_ppStat h))

theorem canon_routeLook {s : State} {a1 : PKey} {a2 : Bool} (h : Canon s) : Canon (routeLook s a1 a2).1 := by
  unfold routeLook
  extract_lets x0
  split
  · exact (canon_ppStat h)
  · split
    · exact (canon_ppStat h)
    · exact (canon_ite1 h (canon_ite1 h (canon_ite1 (canon_ppFlag (canon_ppStat h)) (canon_ite (canon_learnFlow h) h))))

theorem canon_bridgeLook {s : State} {a1 : PKey} (h : Canon s) : Canon (bridgeLook s a1).1 := by
  unfold bridgeLook
  extract_lets x0
  split
  · exact h
  · split
    · exact h
    · extract_lets x3 x4
      have h5 : Canon x3 := (canon_setObjF h)
      exact (canon_setPp h5)

theorem canon_lookup {s : State} {a1 : PKey} {a2 : Bool} (h : Canon s) : Canon (lookup s a1 a2).1 := by
  unfold lookup
  extract_lets x0
  clear_value x0
  split
  · extract_lets x2 x3
    have h4 : Canon x3 := (canon_flowHit h)
    exact (canon_ite1 (canon_ppFlag (canon_ppStat h4)) h4)
  · exact (canon_ite1 (canon_routeLook h) (canon_bridgeLook h))

theorem canon_learnBridge {s : State} {a1 : Packet} {a2 : PKey} (h : Canon s) : Canon (learnBridge s a1 a2) := by
  unfold learnBridge
  extract_lets x0 x1 x2 x3
  have h4 : ∀ y00 y01, Canon y00 → Canon (x3 y00 y01) := by
    intro _ _ h5
    unfold x3
    extract_lets x6
    exact (canon_setPp h5)
  split
  · extract_lets x6
    exact (canon_ite h (h4 _ _ (canon_ite h (canon_putEntry h))))
  · split
    · exact (h4 _ _ (canon_putEntry h))
    · exact (canon_ppFlag (canon_ppStat h))

theorem canon_execBridgeAgeExpiry {a0 : Nat} {s : State} (h : Canon s) : CanonN (execBridgeAgeExpiry a0 s) :=
  canon_live (fun s h => by
    extract_lets x1 x2 x3
    have h4 : Canon x3 := (canon_setPp h)
    exact (canon_ite (canon_putEntry h4) h)) h

theorem canon_dropFlow {s : State} {a1 : Nat} (h : Canon s) : Canon (dropFlow s a1) := by
  unfold dropFlow
  extract_lets x0
  split
  · extract_lets x2
    have h3 : Canon x2 := (canon_setPp h)
    exact (canon_putEntry h3)

theorem canon_execFlowIdleExpiry {a0 : Nat} {s : State} (h : Canon s) : CanonN (execFlowIdleExpiry a0 s) :=
  canon_live (fun s h => (canon_ite (canon_dropFlow h) h)) h

theorem canon_encap {s : State} {a1 : Rw} {a2 : PKey} {a3 : Bytes} (h : Canon s) : Canon (encap s a1 a2 a3).1 := by
  unfold encap
  extract_lets x0 x1 x2 x3 x4 x5 x6
  split
  · exact (canon_ppStat h)
  · extract_lets x8 x9
    split
    · split
      · extract_lets x12 x13 x14 x15 x16
        exact (canon_ite1 (canon_snd ‹_› (canon_draw (canon_snd ‹_› (canon_draw h)))) (canon_snd ‹_› (canon_draw (canon_snd ‹_› (canon_draw h)))))

theorem canon_forward {s : State} {a1 : Packet} {a2 : Parsed} {a3 : Nat} (h : Canon s) : Canon (forward s a1 a2 a3).1 :=
  by
  unfold forward
  extract_lets x0 x1 x2 x3 x4
  split
  · extract_lets x6 x7 x8
    split
    · exact (canon_fst ‹_› (canon_ite1 (canon_lookup h) h))
    · split
      · exact (canon_ppStat (canon_fst ‹_› (canon_ite1 (canon_lookup h) h)))
      · split
        · exact (canon_fst ‹_› (canon_ite1 (canon_lookup h) h))
        · split
          · exact (canon_fst ‹_› (canon_ite1 (canon_lookup h) h))
          · split
            · split
              · exact (canon_fst ‹_› (canon_encap (canon_fst ‹_› (canon_ite1 (canon_lookup h) h))))
              · exact (canon_fst ‹_› (canon_encap (canon_fst ‹_› (canon_ite1 (canon_lookup h) h))))
            · exact (canon_fst ‹_› (canon_ite1 (canon_lookup h) h))

theorem canon_judge {s : State} {a1 : Packet} {a2 : Entered} {a3 : Parsed} (h : Canon s) : Canon (judge s a1 a2 a3).1 :=
  by
  unfold judge
  extract_lets x0 x1 x2 x3 x4 x5 x6
  have h2 : Canon x2 := by
    unfold x2
    clear_value x1
    split
    · exact canon_stat64 h
    · exact h
  split
  rename_i s1 fwd e1
  have h1 : Canon s1 := canon_fst e1 (canon_ite1 (canon_forward h2) h2)
  extract_lets x9 x10 x11 x12 x13 x14
  have h3 : Canon x10 := canon_ite (canon_ppStat h1) h1
  split
  rename_i s2 o2 e2
  have h4 : Canon s2 := canon_fst e2 (by
    split
    · exact canon_ite1 (canon_setPp h3) (canon_ite1 (canon_ppStat h3) h3)
    · exact h3)
  split
  rename_i s3 o3 e3
  have h5 : Canon s3 := canon_fst e3 (canon_ite1 (canon_ppStat h4) h4)
  split
  rename_i s4 o4 e4
  have h6 : Canon s4 := canon_fst e4 (canon_ite1 (canon_ppStat h5) h5)
  exact canon_ite (canon_learnBridge h6) h6

theorem canon_takeEntered {s : State} {a1 : Packet} (h : Canon s) : Canon (takeEntered s a1).1 := by
  unfold takeEntered
  extract_lets x0 x1 x2 x3
  split
  · exact (canon_mk h)
  · exact (canon_setMac h)

theorem canon_swapVals {s : State} {a1 : List (Nat × Nat × Bytes)} (h : Canon s) : Canon (swapVals s a1).1 := by
  unfold swapVals
  exact (canon_foldl1 (fun _ _ h0 => (canon_setObj h0)) h)

theorem canon_enterContext {s : State} {a1 : Packet} {a2 : Entered} (h : Canon s) : Canon (enterContext s a1 a2) := by
  unfold enterContext
  extract_lets x0 x1 x2
  split
  · extract_lets x4 x5 x6 x7 x8
    have h9 : Canon x5 := (canon_setPp (canon_fst ‹_› (canon_swapVals h)))
    have h10 : Canon x7 := (canon_ppStat h9)
    have h11 : Canon x8 := (canon_ite (canon_ppFlag h10) h10)
    split
    · extract_lets x13 x14 x15
      have h16 : Canon x13 := (canon_swapVals (canon_fst ‹_› (canon_judge h11)))
      exact (canon_setPp h16)

theorem canon_execPacketIngress {a0 : Packet} {s : State} (h : Canon s) : CanonN (execPacketIngress a0 s) :=
  canon_live (fun s h => by
    split
    · exact (canon_ppFlag h)
    · split
      · extract_lets x3 x4 x5
        have h6 : Canon x4 := by
          unfold x4
          split
          · exact (canon_corrected (canon_fst ‹_› (canon_takeEntered h)))
          · exact (canon_fst ‹_› (canon_takeEntered h))
        have h7 : Canon x5 := by
          unfold x5
          split
          · exact (canon_invalidate h6)
          · exact h6
        exact (canon_ite (canon_poisonConsumed (canon_ppFlag (canon_ppStat (canon_fst ‹_› (canon_takeEntered h))))) (canon_ite (canon_setPp (canon_fst ‹_› (canon_takeEntered h))) (canon_ite (canon_stat (canon_fst ‹_› (canon_takeEntered h))) (canon_ite (canon_ppFlag (canon_ppStat (canon_fst ‹_› (canon_takeEntered h)))) (canon_enterContext h7)))))) h

theorem canon_execPacketHandoff {a0 : Nat} {s : State} (h : Canon s) : CanonN (execPacketHandoff a0 s) :=
  canon_live (fun s h => by
    extract_lets x1 x2
    have h3 : Canon x2 := (canon_setPp h)
    split
    · exact h
    · split
      · exact h
      · exact (canon_pauseBoth (canon_foldl (fun _ _ h6 => (by
          extract_lets x7 x8
          exact (canon_tmHandoff (canon_setPp h6)))) h3))) h

theorem canon_ageFromNow {s : State} {a1 : Nat} {a2 : Nat} (h : Canon s) : Canon (ageFromNow s a1 a2) := by
  unfold ageFromNow
  extract_lets x0
  exact (canon_ite (canon_setPp h) (canon_ite (canon_setPp h) (canon_ite (canon_dropFlow h) h)))

theorem canon_putTable {s : State} {a1 : Nat} {a2 : Nat} {a3 : Bytes} (h : Canon s) : Canon (putTable s a1 a2 a3).1 :=
  by
  unfold putTable
  extract_lets x0 x1 x2
  exact (canon_ite1 (canon_ageFromNow (canon_putEntry h)) (canon_ite1 h (canon_setPp h)))

theorem canon_tableWrite {a0 : Nat} {a1 : Nat} {a2 : Bytes} {s : State} (h : Canon s) : Canon (tableWrite a0 a1 a2 s).1 :=
  by
  unfold tableWrite
  exact (canon_ite1 h (canon_putTable h))

theorem canon_ppModeCmd {a0 : Bytes} {s : State} (h : Canon s) : Canon (ppModeCmd a0 s).1 := by
  unfold ppModeCmd
  exact (canon_ite1 h (canon_setObj h))

theorem canon_newVersion {s : State} {a1 : Nat} {a2 : List (Nat × Nat × Bytes)} (h : Canon s) : Canon (newVersion s a1 a2) :=
  by
  unfold newVersion
  extract_lets x0 x1 x2
  exact (canon_setPp h)

theorem canon_commitNow {s : State} (h : Canon s) : Canon (commitNow s) := by
  unfold commitNow
  extract_lets x0 x1 x2 x3 x4
  have h5 : Canon x3 := (canon_newVersion (canon_setPp h))
  have h6 : Canon x4 := (canon_foldl (fun _ _ h6 => (canon_ageFromNow (canon_mirrorObj (canon_setObj h6)))) h5)
  exact (canon_foldl (fun _ _ h7 => (canon_watchTable h7)) h6)

theorem canon_versionCmd {a0 : Bytes} {s : State} (h : Canon s) : Canon (versionCmd a0 s).1 := by
  unfold versionCmd
  extract_lets x0
  exact (canon_ite1 (canon_ite1 (canon_commitNow h) h) (canon_setPp h))

theorem canon_reclaim {a0 : Nat} {s : State} (h : Canon s) : Canon (reclaim a0 s) := by
  unfold reclaim
  extract_lets x0
  exact (canon_ite (canon_setPp h) h)

theorem canon_ruleCmd {a0 : Bytes} {s : State} (h : Canon s) : Canon (ruleCmd a0 s).1 := by
  unfold ruleCmd
  extract_lets x0 x1
  have h2 : ∀ y00 y01, Canon y00.1 → Canon (x0 y00 y01).1 := by
    intro _ _ h3
    unfold x0
    exact (canon_cmdOut h3)
  split
  · split
    · exact h
    · split
      · exact h
      · split
        · exact h
        · exact (h2 _ _ (canon_putTable h))
  · exact (canon_ite1 h (canon_ite1 h (h2 _ _ (canon_putTable h))))

theorem canon_bridgeFlush {s : State} (h : Canon s) : Canon (bridgeFlush s) := by
  unfold bridgeFlush
  exact (canon_foldl (fun _ _ h0 => (canon_putTable h0)) h)

theorem canon_bridgeCmd {a0 : Bytes} {s : State} (h : Canon s) : Canon (bridgeCmd a0 s).1 := by
  unfold bridgeCmd
  extract_lets x0 x1
  have h2 : ∀ y00 y01, Canon y00.1 → Canon (x0 y00 y01).1 := by
    intro _ _ h3
    unfold x0
    exact (canon_cmdOut h3)
  split
  · exact (canon_bridgeFlush h)
  · split
    · exact h
    · split
      · split
        · exact h
        · split
          · exact h
          · split
            · exact h
            · exact (h2 _ _ (canon_putTable h))
      · split
        · exact h
        · exact (h2 _ _ (canon_putTable h))

theorem canon_routeCmd {a0 : Bytes} {s : State} (h : Canon s) : Canon (routeCmd a0 s).1 := by
  unfold routeCmd
  extract_lets x0 x1
  have h2 : ∀ y00 y01, Canon y00.1 → Canon (x0 y00 y01).1 := by
    intro _ _ h3
    unfold x0
    exact (canon_cmdOut h3)
  split
  · split
    · exact h
    · split
      · exact h
      · split
        · exact h
        · exact (h2 _ _ (canon_putTable h))
  · split
    · exact h
    · exact (h2 _ _ (canon_putTable h))

theorem canon_removeFlow {s : State} {a1 : Nat} (h : Canon s) : Canon (removeFlow s a1) := by
  unfold removeFlow
  exact (canon_ite (canon_dropFlow h) (canon_putTable h))

theorem canon_flowCmd {a0 : Bytes} {s : State} (h : Canon s) : Canon (flowCmd a0 s).1 := by
  unfold flowCmd
  extract_lets x0 x1
  have h2 : ∀ y00 y01, Canon y00.1 → Canon (x0 y00 y01).1 := by
    intro _ _ h3
    unfold x0
    exact (canon_cmdOut h3)
  split
  · exact (canon_foldl (fun _ _ h4 => (canon_removeFlow h4)) h)
  · split
    · exact h
    · split
      · split
        · exact h
        · split
          · exact h
          · split
            · exact h
            · exact (h2 _ _ (canon_putTable h))
      · split
        · exact h
        · exact (h2 _ _ (canon_removeFlow h))

theorem canon_restoreAir {s : State} {a1 : Radio} {a2 : Air} (h : Canon s) : Canon (restoreAir s a1 a2) := by
  unfold restoreAir
  extract_lets x0 x1
  split
  · split
    · exact (canon_modCr h)
    · exact h
  · split
    · exact (canon_beaconSkip (canon_setMac h))
    · split
      · split
        · split
          · exact (canon_foldr (fun _ _ h7 => (canon_toHead h7)) (canon_fst ‹_› (canon_endExchange h)))
        · split
          · exact (canon_ite (canon_putBack (canon_setMac h)) h)
          · exact h
      · split
        · split
          · exact (canon_foldr (fun _ _ h7 => (canon_toHead h7)) (canon_fst ‹_› (canon_endExchange h)))
        · split
          · exact (canon_ite (canon_putBack (canon_setMac h)) h)
          · exact h

theorem canon_brokenAir {s : State} {a1 : Radio} {a2 : Air} (h : Canon s) : Canon (brokenAir s a1 a2) := by
  unfold brokenAir
  split
  · split
    · split
      · exact (canon_foldl (fun _ _ h3 => (canon_mpduUnacked h3)) (canon_fst ‹_› (canon_endExchange h)))
    · exact h
  · split
    · split
      · exact (canon_foldl (fun _ _ h3 => (canon_mpduUnacked h3)) (canon_fst ‹_› (canon_endExchange h)))
    · exact h

theorem canon_stopTx {s : State} {a1 : Radio} (h : Canon s) : Canon (stopTx s a1).1 := by
  unfold stopTx
  split
  · exact (canon_foldr (fun _ _ h1 => (canon_ite (canon_brokenAir h1) (canon_restoreAir h1))) (canon_fst ‹_› (canon_cutAir h)))

theorem canon_returnHeldAll {s : State} {a1 : Radio} (h : Canon s) : Canon (returnHeldAll s a1) := by
  unfold returnHeldAll
  exact (canon_foldl (fun _ _ h0 => (by
    extract_lets x1
    have h2 : Canon x1 := (canon_returnReq h0)
    exact (canon_ite (canon_beaconSkip h2) h2))) (canon_modFe h))

theorem canon_enterFault {s : State} {a1 : Radio} (h : Canon s) : Canon (enterFault s a1) := by
  unfold enterFault
  extract_lets x0
  have h1 : Canon x0 := (canon_modFe h)
  exact (canon_logEvent (canon_returnHeldAll h1))

theorem canon_execLockTimeout {a0 : Radio} {s : State} (h : Canon s) : CanonN (execLockTimeout a0 s) :=
  canon_live (fun s h => by
    extract_lets x1 x2
    have h3 : Canon x2 := (canon_radioFlag (canon_modFe h))
    exact (canon_ite (canon_ite (canon_enterFault h3) h3) h)) h

theorem canon_openGate {s : State} {a1 : Radio} (h : Canon s) : Canon (openGate s a1) := by
  unfold openGate
  extract_lets x0 x1 x2 x3 x4 x5 x6
  have h7 : Canon x1 := (canon_modFe h)
  have h8 : Canon x2 := (canon_foldl (fun _ _ h8 => (canon_modTrx h8)) h7)
  have h9 : Canon x3 := (canon_ite (canon_restartSentinels h8) h8)
  have h10 : Canon x5 := (canon_serveDue (canon_bookStanding (canon_imageCheck h9)))
  split
  · exact (canon_modFe h9)
  · split
    · exact (canon_beginChange h9)
    · exact (canon_foldl (fun _ _ h13 => (canon_judgeHeld h13)) (canon_modFe h10))

theorem canon_execChannelChangeDone {a0 : Radio} {a1 : List Int} {a2 : Nat} {s : State} (h : Canon s) : CanonN (execChannelChangeDone a0 a1 a2 s) :=
  canon_live (fun s h => by
    extract_lets x1
    have h2 : Canon x1 := (canon_calibrateChange h)
    exact (canon_ite (canon_openGate (canon_modFe h2)) h)) h

theorem canon_lockLostAt {a0 : Radio} {s : State} (h : Canon s) : Canon (lockLostAt a0 s) := by
  unfold lockLostAt
  extract_lets x0 x1
  have h2 : Canon x1 := (canon_radioFlag h)
  split
  · exact h
  · split
    · exact (canon_endDiag h2)
    · split
      · extract_lets x6
        have h7 : Canon x6 := (canon_foldl (fun _ _ h7 => (canon_returnReq h7)) (canon_fst ‹_› (canon_stopTx h2)))
        exact (canon_modFe h7)

theorem canon_execRelockDone {a0 : Radio} {a1 : List Int} {s : State} (h : Canon s) : CanonN (execRelockDone a0 a1 s) :=
  canon_live (fun s h => (canon_ite (canon_openGate (canon_calibrateChange h)) h)) h

theorem canon_execFaultRetry {a0 : Radio} {a1 : Bool} {a2 : List Int} {s : State} (h : Canon s) : CanonN (execFaultRetry a0 a1 a2 s) :=
  canon_live (fun s h => (canon_ite (canon_ite (canon_openGate (canon_calibrateChange h)) (canon_radioFlag (canon_modFe h))) h)) h

theorem canon_recalStartAt {a0 : Radio} {a1 : List Int} {s : State} (h : Canon s) : Canon (recalStartAt a0 a1 s) := by
  unfold recalStartAt
  exact (canon_ite (canon_modFe h) h)

theorem canon_execRecalDone {a0 : Radio} {a1 : List Int} {s : State} (h : Canon s) : CanonN (execRecalDone a0 a1 s) :=
  canon_live (fun s h => (canon_ite (canon_openGate (canon_calibrateChange h)) h)) h

theorem canon_execHeldRequestDeadline {a0 : Radio} {a1 : Nat} {s : State} (h : Canon s) : CanonN (execHeldRequestDeadline a0 a1 s) :=
  canon_live (fun s h => by
    split
    · exact h
    · split
      · exact h
      · extract_lets x3
        have h4 : Canon x3 := (canon_returnReq (canon_modFe h))
        exact (canon_ite (canon_beaconSkip h4) h4)) h

theorem canon_abortTx {a0 : Radio} {s : State} (h : Canon s) : Canon (abortTx a0 s).1 := by
  unfold abortTx
  split
  · exact (canon_endDiag h)
  · split
    · exact (canon_fst ‹_› (canon_stopTx h))

theorem canon_abortRx {a0 : Radio} {s : State} (h : Canon s) : Canon (abortRx a0 s).1 := by
  unfold abortRx
  exact (canon_ite1 (canon_modFe h) h)

theorem canon_execFallbackCalStep {a0 : Trx} {a1 : CalStep} {s : State} (h : Canon s) : CanonN (execFallbackCalStep a0 a1 s) :=
  canon_live (fun s h => by
    split
    · extract_lets x2
      exact (canon_ite (canon_modTrx h) h)
    · exact h) h

theorem canon_rffeLate {s : State} {a1 : Radio} {a2 : Nat} (h : Canon s) : Canon (rffeLate s a1 a2) := by
  unfold rffeLate
  split
  · exact h
  · extract_lets x1 x2 x3
    have h4 : Canon x1 := (canon_refundDuty (canon_rffeDrop h))
    have h5 : Canon x2 := (canon_restoreAir (canon_modFe h4))
    have h6 : Canon x3 := (canon_returnReq (canon_setFlag h5))
    exact (canon_ite (canon_chainStat h6) h6)

theorem canon_execRffeWrite {a0 : Fin 3} {s : State} (h : Canon s) : CanonN (execRffeWrite a0 s) :=
  canon_live (fun s h => by
    split
    · exact (canon_fst ‹_› (canon_rffeRun h))
    · exact (canon_dite (fun _ => (canon_ite (canon_rffeLate (canon_fst ‹_› (canon_rffeRun h))) (canon_fst ‹_› (canon_rffeRun h)))) (fun _ => (canon_fst ‹_› (canon_rffeRun h))))) h

theorem canon_setDram {s : State} {a1 : Dram} (h : Canon s) : Canon (State.setDram s a1) := by
  unfold State.setDram
  exact (canon_mk h)

theorem canon_dramStat {s : State} {a1 : Nat} {a2 : Nat} (h : Canon s) : Canon (dramStat s a1 a2) := by
  unfold dramStat
  exact (canon_stat64 h)

theorem canon_dramFlag {s : State} {a1 : Nat} (h : Canon s) : Canon (dramFlag s a1) := by
  unfold dramFlag
  exact (canon_setFlag h)

theorem canon_setMc {s : State} {a1 : McState} (h : Canon s) : Canon (setMc s a1) := by
  unfold setMc
  extract_lets x0
  exact (canon_grant (canon_setDram h))

theorem canon_nextOrder {s : State} (h : Canon s) : Canon (nextOrder s) := by
  unfold nextOrder
  extract_lets x0
  exact (canon_setDram h)

theorem canon_acceptRead {s : State} {a1 : Nat × Nat × Nat} (h : Canon s) : Canon (acceptRead s a1) := by
  unfold acceptRead
  extract_lets x0 x1 x2 x3 x4
  have h5 : Canon x0 := (canon_nextOrder (canon_dramStat h))
  have h6 : Canon x3 := (canon_dramStat h5)
  split
  · extract_lets x8 x9 x10
    split
    · exact (canon_setDram h5)
    · exact (canon_ite (canon_setDram (canon_dramStat h5)) (canon_setDram h6))

theorem canon_unpoison {s : State} {a1 : Nat} {a2 : Nat} (h : Canon s) : Canon (unpoison s a1 a2) := by
  unfold unpoison
  extract_lets x0
  exact (canon_setDram h)

theorem canon_acceptWrite {s : State} {a1 : (Nat × Nat × Nat) × Bytes} (h : Canon s) : Canon (acceptWrite s a1) := by
  unfold acceptWrite
  split
  extract_lets +onlyGivenNames x0 x1 x2
  have h0 : Canon x0 := canon_nextOrder (canon_dramStat h)
  have h1 : Canon x1 := canon_unpoison (canon_mem (memWf_writeMemN _ _ h0.1) h0)
  clear_value x0 x1 x2
  split
  · exact canon_setDram h1
  · exact canon_ite (canon_setDram h1) (canon_setDram (canon_dramStat h1))

theorem canon_takeLine {s : State} {a1 : DramHeld} (h : Canon s) : Canon (takeLine s a1) := by
  unfold takeLine
  split
  · exact (canon_acceptRead h)
  · exact (canon_acceptWrite h)

theorem canon_takeHeld {a0 : List DramHeld} {s : State} (h : Canon s) : Canon (takeHeld a0 s) := by
  induction a0 generalizing s with
  | nil => exact canon_setDram h
  | cons q l ih =>
    unfold takeHeld
    split
    · exact ih (canon_takeLine h)
    · exact canon_setDram h

theorem canon_pumpHeld {s : State} (h : Canon s) : Canon (pumpHeld s) := by
  unfold pumpHeld
  exact (canon_takeHeld h)

theorem canon_dramRequest {s : State} {a1 : Nat} {a2 : Nat} {a3 : List DramHeld} (h : Canon s) : Canon (dramRequest s a1 a2 a3) :=
  by
  unfold dramRequest
  exact (canon_ite h (canon_takeHeld h))

theorem canon_execDramRead {a0 : Nat} {a1 : Nat} {s : State} (h : Canon s) : CanonN (execDramRead a0 a1 s) :=
  canon_live (fun s h => (canon_dramRequest h)) h

theorem canon_execDramWrite {a0 : Nat} {a1 : Bytes} {s : State} (h : Canon s) : CanonN (execDramWrite a0 a1 s) :=
  canon_live (fun s h => (canon_dramRequest h)) h

theorem canon_modRank {s : State} {a1 : Nat} {a2 : Rank → Rank} (h : Canon s) : Canon (modRank s a1 a2) := by
  unfold modRank
  extract_lets x0
  exact (canon_setDram h)

theorem canon_beginMigration {s : State} {a1 : Nat} {a2 : Nat} (h : Canon s) : Canon (beginMigration s a1 a2) := by
  unfold beginMigration
  extract_lets x0 x1 x2
  have h3 : Canon x1 := (canon_modRank (canon_modRank h))
  exact (canon_setDram h3)

theorem canon_rankFails {s : State} {a1 : Nat} {a2 : Nat} (h : Canon s) : Canon (rankFails s a1 a2) := by
  unfold rankFails
  exact (canon_ite h (canon_ite (canon_beginMigration h) (canon_logEvent (canon_dramFlag h))))

theorem canon_mergeBad {s : State} {a1 : Nat} {a2 : Nat} (h : Canon s) : Canon (mergeBad s a1 a2) := by
  unfold mergeBad
  extract_lets x0 x1
  exact (canon_ite h (canon_setDram h))

theorem canon_wordOut {a0 : Nat} {a1 : Nat} {a2 : Bool} {s : State} {a4 : Nat × EccOut} (h : Canon s) : Canon (wordOut a0 a1 a2 s a4) :=
  by
  unfold wordOut
  extract_lets x0 x1 x2 x3
  have h4 : Canon x1 := (canon_modRank (canon_dramFlag (canon_uncorrected h)))
  have h5 : Canon x2 := (canon_rankFails (canon_logEvent h4))
  have h6 : Canon x3 := (canon_modRank (canon_corrected (canon_dramFlag h)))
  split
  · exact h
  · exact (canon_ite (canon_mergeBad (canon_uncorrected h)) (canon_uncorrected h))
  · exact (canon_ite (canon_mergeBad h5) h5)
  · exact (canon_ite h6 (canon_dramStat h6))

theorem canon_readIssued {s : State} {a1 : RdEnt} {a2 : Nat} {a3 : List Nat} (h : Canon s) : Canon (readIssued s a1 a2 a3) :=
  by
  unfold readIssued
  extract_lets x0 x1 x2 x3 x4
  have h5 : Canon x3 := (canon_foldl (fun _ _ h5 => (canon_wordOut h5)) h)
  exact (canon_ite (canon_setDram h5) (canon_setDram h5))

theorem canon_drainJudge {s : State} (h : Canon s) : Canon (drainJudge s) := by
  unfold drainJudge
  extract_lets x0 x1 x2
  exact (canon_ite (canon_ite (canon_setDram h) h) (canon_ite (canon_setDram (canon_dramStat h)) h))

theorem canon_columnAccess {s : State} {a1 : Nat} (h : Canon s) : Canon (columnAccess s a1) := by
  unfold columnAccess
  extract_lets x0 x1 x2 x3 x4 x5
  have h6 : Canon x4 := (canon_ite (canon_dramStat h) h)
  split
  · extract_lets x8 x9 x10
    exact (canon_setDram (canon_fst ‹_› (canon_ite1 (canon_dramStat h) h6)))

theorem canon_execDramIssue {a0 : Fin 2} {a1 : List Nat} {s : State} (h : Canon s) : CanonN (execDramIssue a0 a1 s) :=
  canon_live (fun s h => by
    extract_lets x1 x2
    have h3 : Canon x1 := (canon_drainJudge h)
    split
    · exact h
    · split
      · exact (canon_pumpHeld h3)
      · extract_lets x6
        exact (canon_pumpHeld (canon_readIssued (canon_columnAccess (canon_setDram h3))))
      · exact (canon_pumpHeld (canon_drainJudge (canon_columnAccess (canon_setDram h3))))) h

theorem canon_execRowIdleClose {a0 : Fin 4} {a1 : Fin 2} {a2 : Nat} {s : State} (h : Canon s) : CanonN (execRowIdleClose a0 a1 a2 s) :=
  canon_live (fun s h => by
    extract_lets x1 x2 x3
    exact (canon_ite h (canon_setDram h))) h

theorem canon_execRefresh {a0 : Fin 4} {s : State} (h : Canon s) : CanonN (execRefresh a0 s) :=
  canon_live (fun s h => by
    extract_lets x1 x2 x3 x4
    have h5 : Canon x2 := (canon_setDram h)
    exact (canon_ite h (canon_ite (canon_setDram h5) (canon_setDram h5)))) h

theorem canon_execTempPoll {a0 : Bool} {s : State} (h : Canon s) : CanonN (execTempPoll a0 s) :=
  canon_live (fun s h => by
    extract_lets x1
    exact (canon_ite (canon_setDram h) h)) h

theorem canon_execCaParityAlert {a0 : Fin 2} {a1 : Nat} {s : State} (h : Canon s) : CanonN (execCaParityAlert a0 a1 s) :=
  canon_live (fun s h => by
    extract_lets x1 x2
    have h3 : Canon x2 := (canon_dramFlag (canon_dramStat h))
    split
    · exact h
    · split
      · exact h
      · exact (canon_rankFails (canon_modRank h3))) h

theorem canon_retireRank {s : State} {a1 : Nat} (h : Canon s) : Canon (retireRank s a1) := by
  unfold retireRank
  extract_lets x0
  have h1 : Canon x0 := (canon_setObj h)
  exact (canon_saveValues h1)

theorem canon_migrationDone {s : State} (h : Canon s) : Canon (migrationDone s) := by
  unfold migrationDone
  extract_lets x0 x1
  split
  · exact h
  · extract_lets x3 x4 x5
    have h6 : Canon x3 := (canon_setDram h)
    have h7 : Canon x4 := (canon_modRank (canon_modRank h6))
    have h8 : Canon x5 := (canon_logEvent (canon_dramFlag h7))
    exact (canon_retireRank (canon_logEvent h8))

theorem canon_blockDone {s : State} {a1 : Nat} (h : Canon s) : Canon (blockDone s a1) := by
  unfold blockDone
  extract_lets x0 x1 x2 x3 x4 x5
  have h6 : Canon x3 := by
    unfold x3
    exact (canon_foldl (fun _ _ h7 => (by
      split
      · extract_lets x9
        exact (canon_setDram (canon_snd ‹_› (canon_draw h7))))) h)
  have h7 : Canon x5 := (canon_setDram h6)
  exact (canon_ite (canon_migrationDone h7) h7)

theorem canon_execMigrationBlock {a0 : Nat} {s : State} (h : Canon s) : CanonN (execMigrationBlock a0 s) :=
  canon_live (fun s h => (canon_ite (canon_blockDone h) h)) h

theorem canon_abortMigration {s : State} (h : Canon s) : Canon (abortMigration s).1 := by
  unfold abortMigration
  extract_lets x0 x1 x2
  have h3 : Canon x0 := (canon_blockDone h)
  exact (canon_ite1 (canon_ite (canon_setDram h3) h3) h)

theorem canon_execAbortDramMigration {s : State} (h : Canon s) : CanonN (execAbortDramMigration s) :=
  canon_live (fun s h => by
    split
    · exact (canon_abortDone (canon_fst ‹_› (canon_abortMigration h)))) h

theorem canon_migrateCmd {a0 : Bytes} {s : State} (h : Canon s) : Canon (migrateCmd a0 s).1 := by
  unfold migrateCmd
  extract_lets x0 x1 x2
  exact (canon_ite1 (canon_ite1 h (canon_ite1 h (canon_ite1 h (canon_ite1 h (canon_beginMigration h))))) (canon_ite1 (canon_setDram h) h))

theorem canon_initRanks {s : State} (h : Canon s) : Canon (initRanks s) := by
  unfold initRanks
  extract_lets x0 x1 x2 x3 x4 x5 x6
  exact (canon_setDram h)

theorem canon_enterSelfRefresh {s : State} (h : Canon s) : Canon (enterSelfRefresh s) := by
  unfold enterSelfRefresh
  extract_lets x0 x1
  have h2 : Canon x0 := (canon_foldl (fun _ _ h2 => (canon_readIssued h2)) h)
  exact (canon_setMc (canon_setDram h2))

theorem canon_exitSelfRefresh {s : State} (h : Canon s) : Canon (exitSelfRefresh s) := by
  unfold exitSelfRefresh
  extract_lets x0
  exact (canon_pumpHeld (canon_setMc (canon_setDram h)))

theorem canon_mcInit {s : State} (h : Canon s) : Canon (mcInit s) := by
  unfold mcInit
  exact (canon_ite (canon_setMc (canon_initRanks h)) h)

theorem canon_mcService {s : State} (h : Canon s) : Canon (mcService s) := by
  unfold mcService
  exact (canon_ite (canon_setMc h) h)

theorem canon_execMcInit {a0 : CoreId} {s : State} (h : Canon s) : CanonN (execMcInit a0 s) :=
  canon_live (fun s h => (canon_mcInit h)) h

theorem canon_execInitDone {s : State} (h : Canon s) : CanonN (execInitDone s) :=
  canon_live (fun s h => (canon_ite (canon_setMc h) h)) h

theorem canon_execInitTimeout {s : State} (h : Canon s) : CanonN (execInitTimeout s) :=
  canon_live (fun s h => (canon_ite (canon_logEvent (canon_setMc h)) h)) h

theorem canon_execMcService {a0 : CoreId} {s : State} (h : Canon s) : CanonN (execMcService a0 s) :=
  canon_live (fun s h => (canon_mcService h)) h

theorem canon_trnCtrl {a0 : Nat} {s : State} (h : Canon s) : Canon (trnCtrl a0 s) := by
  unfold trnCtrl
  extract_lets x0 x1
  have h2 : Canon x1 := (canon_setReg h)
  exact (canon_ite (canon_setReg h2) h2)

theorem canon_execTrnStart {a0 : CoreId} {a1 : Nat} {s : State} (h : Canon s) : CanonN (execTrnStart a0 a1 s) :=
  canon_live (fun s h => (canon_trnCtrl h)) h

theorem canon_execTrnDone {a0 : Nat} {a1 : Nat} {s : State} (h : Canon s) : CanonN (execTrnDone a0 a1 s) :=
  canon_live (fun s h => (canon_ite (canon_setReg (canon_setReg (canon_setReg h))) h)) h

theorem canon_mrFields {s : State} {a1 : Nat} (h : Canon s) : Canon (mrFields s a1) := by
  unfold mrFields
  exact (canon_setReg h)

theorem canon_mrWrite {a0 : Nat} {s : State} (h : Canon s) : Canon (mrWrite a0 s) := by
  unfold mrWrite
  extract_lets x0 x1 x2
  have h3 : Canon x0 := (canon_mrFields h)
  have h4 : Canon x1 := (canon_setReg h3)
  exact (canon_ite (canon_setDram h4) h3)

theorem canon_mrRead {a0 : Nat} {a1 : Nat} {s : State} (h : Canon s) : Canon (mrRead a0 a1 s) := by
  unfold mrRead
  extract_lets x0
  have h1 : Canon x0 := (canon_mrFields h)
  exact (canon_ite (canon_setReg h1) h1)

theorem canon_execMrw {a0 : CoreId} {a1 : Nat} {s : State} (h : Canon s) : CanonN (execMrw a0 a1 s) :=
  canon_live (fun s h => (canon_ite h (canon_mrWrite h))) h

theorem canon_execMrr {a0 : CoreId} {a1 : Nat} {a2 : Nat} {s : State} (h : Canon s) : CanonN (execMrr a0 a1 a2 s) :=
  canon_live (fun s h => (canon_ite (canon_mrRead h) h)) h

theorem canon_laneDelay {a0 : Nat} {a1 : Nat} {s : State} (h : Canon s) : Canon (laneDelay a0 a1 s) := by
  unfold laneDelay
  exact (canon_ite h (canon_ite (canon_setReg h) (canon_dramFlag h)))

theorem canon_execLaneDelayWrite {a0 : CoreId} {a1 : Nat} {a2 : Nat} {s : State} (h : Canon s) : CanonN (execLaneDelayWrite a0 a1 a2 s) :=
  canon_live (fun s h => (canon_laneDelay h)) h

theorem canon_setDma {s : State} {a1 : Dma} (h : Canon s) : Canon (State.setDma s a1) := by
  unfold State.setDma
  exact (canon_mk h)

theorem canon_setCur {s : State} {a1 : Fin 64} {a2 : Option DmaCur} (h : Canon s) : Canon (setCur s a1 a2) := by
  unfold setCur
  extract_lets x0
  exact (canon_setDma h)

theorem canon_dmaFlag {s : State} {a1 : Nat} (h : Canon s) : Canon (dmaFlag s a1) := by
  unfold dmaFlag
  exact (canon_setFlag h)

theorem canon_setChState {s : State} {a1 : Nat} {a2 : Nat} (h : Canon s) : Canon (setChState s a1 a2) := by
  unfold setChState
  exact (canon_setReg h)

theorem canon_chFlag {s : State} {a1 : Nat} {a2 : Nat} (h : Canon s) : Canon (chFlag s a1 a2) := by
  unfold chFlag
  extract_lets x0 x1
  have h2 : Canon x0 := (canon_setReg h)
  exact (canon_setReg h2)

theorem canon_chGo {s : State} {a1 : Nat} (h : Canon s) : Canon (chGo s a1) := by
  unfold chGo
  exact (canon_ite (canon_ite (canon_setChState h) (canon_setChState h)) (canon_setChState h))

theorem canon_chDoorbell {s : State} {a1 : Nat} {a2 : Nat} (h : Canon s) : Canon (chDoorbell s a1 a2) := by
  unfold chDoorbell
  extract_lets x0
  have h1 : Canon x0 := (canon_setReg h)
  exact (canon_ite (canon_chGo h1) h1)

theorem canon_chStopWrite {s : State} {a1 : Fin 64} (h : Canon s) : Canon (chStopWrite s a1) := by
  unfold chStopWrite
  extract_lets x0
  have h1 : Canon x0 := (canon_setReg h)
  exact (canon_ite (canon_setChState h1) (canon_ite (canon_setChState h1) h1))

theorem canon_chStopRelease {s : State} {a1 : Nat} (h : Canon s) : Canon (chStopRelease s a1) := by
  unfold chStopRelease
  extract_lets x0
  have h1 : Canon x0 := (canon_setReg h)
  exact (canon_ite (canon_chGo h1) (canon_ite (canon_setChState h1) h1))

theorem canon_chResume {s : State} {a1 : Nat} (h : Canon s) : Canon (chResume s a1) := by
  unfold chResume
  exact (canon_ite (canon_chGo h) h)

theorem canon_chCtrl {s : State} {a1 : Fin 64} {a2 : Nat} (h : Canon s) : Canon (chCtrl s a1 a2) := by
  unfold chCtrl
  extract_lets x0 x1 x2 x3 x4 x5 x6 x7
  have h8 : Canon x5 := (canon_setReg h)
  have h9 : Canon x6 := (canon_ite (canon_chStopWrite h8) (canon_chStopRelease h8))
  have h10 : Canon x7 := (canon_ite (canon_chResume h9) h9)
  exact (canon_ite (canon_chGo h10) (canon_ite (canon_setChState h10) h10))

theorem canon_execDmaDoorbell {a0 : CoreId} {a1 : Fin 64} {a2 : Nat} {s : State} (h : Canon s) : CanonN (execDmaDoorbell a0 a1 a2 s) :=
  canon_live (fun s h => (canon_chDoorbell h)) h

theorem canon_execDmaStop {a0 : CoreId} {a1 : Fin 64} {s : State} (h : Canon s) : CanonN (execDmaStop a0 a1 s) :=
  canon_live (fun s h => (canon_chStopWrite h)) h

theorem canon_execDmaStopRelease {a0 : CoreId} {a1 : Fin 64} {s : State} (h : Canon s) : CanonN (execDmaStopRelease a0 a1 s) :=
  canon_live (fun s h => (canon_chStopRelease h)) h

theorem canon_execDmaResume {a0 : CoreId} {a1 : Fin 64} {s : State} (h : Canon s) : CanonN (execDmaResume a0 a1 s) :=
  canon_live (fun s h => (canon_chResume h)) h

theorem canon_chStat {s : State} {a1 : Nat} {a2 : Nat} {a3 : Nat} {a4 : Nat} (h : Canon s) : Canon (chStat s a1 a2 a3 a4) :=
  by
  unfold chStat
  exact (canon_addObjF h)

theorem canon_dmaComplete {s : State} {a1 : Fin 64} {a2 : DmaCur} {a3 : Nat} (h : Canon s) : Canon (dmaComplete s a1 a2 a3) :=
  by
  unfold dmaComplete
  extract_lets x0 x1 x2 x3 x4 x5 x6 x7 x8 x9 x10 x11
  have h12 : Canon x4 := (canon_ite (canon_storeWord (canon_storeWord h)) h)
  have h13 : Canon x5 := (canon_setReg h12)
  have h14 : Canon x6 := (canon_chStat (canon_chStat (canon_setCur h13)))
  have h15 : Canon x7 := (canon_ite (canon_chStat h14) h14)
  have h16 : Canon x8 := (canon_chFlag h15)
  have h17 : Canon x9 := (canon_ite (canon_postFixed h16) h16)
  have h18 : Canon x10 := (canon_ite (canon_dmaFlag h17) h17)
  have h19 : Canon x11 := (canon_ite (canon_chStat (canon_dmaFlag h18)) h18)
  exact (canon_ite (canon_setChState (canon_dmaFlag (canon_chStat (canon_chFlag h19)))) (canon_ite (canon_setChState h19) (canon_chGo h19)))

theorem canon_dmaZero {s : State} {a1 : Fin 64} {a2 : DmaCur} (h : Canon s) : Canon (dmaZero s a1 a2) := by
  unfold dmaZero
  split
  · extract_lets x1
    exact (canon_ite (canon_setWired (canon_snd ‹_› (canon_drawIn h))) (canon_ite (canon_storeBytes (canon_snd ‹_› (canon_drawIn h))) (canon_snd ‹_› (canon_drawIn h))))

theorem canon_dropJob {s : State} {a1 : Nat} (h : Canon s) : Canon (dropJob s a1).1 := by
  unfold dropJob
  extract_lets x0 x1 x2
  have h3 : Canon x1 := by
    unfold x1
    exact (canon_foldl (fun _ _ h4 => (by
      split
      · exact (canon_ite (canon_laneAbort h4) h4)
      · exact h4)) h)
  exact (canon_ite1 (canon_setSec h) (canon_setSec h3))

theorem canon_abortDma {a0 : Fin 64} {s : State} (h : Canon s) : Canon (abortDma a0 s).1 := by
  unfold abortDma
  extract_lets x0 x1
  have h2 : Canon x1 := by
    unfold x1
    split
    · exact (canon_ite (canon_dmaZero (canon_dropJob h)) (canon_dropJob h))
    · exact h
  exact (canon_ite1 (canon_dmaComplete h2) h)

theorem canon_execAbortDmaChannel {a0 : Fin 64} {s : State} (h : Canon s) : CanonN (execAbortDmaChannel a0 s) :=
  canon_live (fun s h => by
    split
    · exact (canon_abortDone (canon_fst ‹_› (canon_abortDma h)))) h

theorem canon_execBeaconBooking {a0 : Radio} {a1 : Fin 16} {s : State} (h : Canon s) : CanonN (execBeaconBooking a0 a1 s) :=
  canon_live (fun s h => by
    extract_lets x1 x2
    split
    · exact h
    · split
      · exact (canon_book h)
      · exact h) h

theorem canon_reclaimWhile {a0 : List (State → State)} {s : State} (hf : ∀ f ∈ a0, ∀ s, Canon s → Canon (f s))
    (h : Canon s) : Canon (reclaimWhile a0 s) := by
  unfold reclaimWhile
  induction a0 generalizing s with
  | nil => exact h
  | cons f r ih =>
    exact ih (fun g hg => hf g (List.mem_cons_of_mem _ hg)) (canon_ite h (hf f (List.mem_cons_self ..) s h))

theorem canon_takeGrant {s : State} {a1 : Nat} {a2 : Nat} (h : Canon s) : Canon (takeGrant s a1 a2) := by
  unfold takeGrant
  extract_lets x0
  split
  · exact h
  · exact (canon_release (canon_setPower h))

theorem canon_reclaimCores {s : State} (h : Canon s) : Canon (reclaimCores s) := by
  unfold reclaimCores
  exact (canon_foldl (fun _ _ h0 => (by
    extract_lets x1
    exact (canon_requestPoint h0))) h)

theorem canon_reclaimTx {s : State} (h : Canon s) : Canon (reclaimTx s) := by
  unfold reclaimTx
  exact (canon_foldl (fun _ _ h0 => (canon_ite h0 (canon_release (canon_abortTx h0)))) h)

theorem canon_reclaimLanes {s : State} (h : Canon s) : Canon (reclaimLanes s) := by
  unfold reclaimLanes
  exact (canon_foldl (fun _ _ h0 => (canon_enableLane (canon_takeGrant h0))) h)

theorem canon_reclaimTrx {a0 : Trx} {s : State} (h : Canon s) : Canon (reclaimTrx a0 s) := by
  unfold reclaimTrx
  extract_lets x0
  have h1 : Canon x0 := by
    unfold x0
    split
    · split
      · exact (canon_foldl (fun _ _ h4 => (by
          extract_lets x5 x6
          exact (canon_setPower h4))) h)
      · exact h
    · exact h
  exact (canon_offTrx (canon_takeGrant h1))

theorem canon_reclaimPorts {s : State} (h : Canon s) : Canon (reclaimPorts s) := by
  unfold reclaimPorts
  extract_lets x0 x1 x2 x3 x4 x5
  have h6 : Canon x1 := (canon_ite h (canon_linkDown (canon_takeGrant h)))
  have h7 : Canon x2 := (canon_ite h6 (canon_linkDown (canon_takeGrant h6)))
  have h8 : Canon x3 := (canon_ite h7 (canon_linkDown (canon_takeGrant h7)))
  have h9 : Canon x4 := (canon_takeGrant h8)
  exact (canon_ite h8 (canon_setPair h9))

theorem canon_reclaimBooking {a0 : Grant} {s : State} (h : Canon s) : Canon (reclaimBooking a0 s) := by
  unfold reclaimBooking
  extract_lets x0 x1 x2
  have h3 : ∀ y00, Canon y00 → Canon (x1 y00) := by
    intro _ h4
    unfold x1
    exact (canon_setFlag (canon_stat (canon_release h4)))
  split
  · extract_lets x5
    split
    · split
      · exact (h3 _ h)
      · split
        · exact (canon_setPower h)
        · exact (h3 _ h)
    · exact (h3 _ h)
  · exact (h3 _ h)

theorem canon_reclaimAll {s : State} (h : Canon s) : Canon (reclaimAll s) := by
  unfold reclaimAll
  extract_lets x0 x1 x2 x3 x4
  have h0 : Canon x0 := canon_setFlag (canon_stat h)
  have h1 : Canon x1 := canon_reclaimWhile (by
    intro f hf s hs
    simp only [List.mem_cons, List.not_mem_nil, or_false] at hf
    rcases hf with rfl | rfl | rfl
    · exact canon_reclaimCores hs
    · exact canon_reclaimTx hs
    · exact canon_reclaimLanes hs) h0
  have h2 : Canon x2 := canon_reclaimWhile (by
    intro f hf s hs
    obtain ⟨t, _, rfl⟩ := List.mem_map.mp hf
    exact canon_reclaimTrx hs) h1
  have h3 : Canon x3 := canon_reclaimWhile (by
    intro f hf s hs
    simp only [List.mem_cons, List.not_mem_nil, or_false] at hf
    subst hf
    exact canon_reclaimPorts hs) h2
  have h4 : Canon x4 := canon_reclaimWhile (by
    intro f hf s hs
    obtain ⟨t, _, rfl⟩ := List.mem_map.mp hf
    exact canon_reclaimBooking hs) h3
  exact canon_ite h (canon_supplyShort h4)

theorem canon_execSupplyFailAssert {a0 : Nat} {s : State} (h : Canon s) : CanonN (execSupplyFailAssert a0 s) :=
  canon_live (fun s h => by
    extract_lets x1
    exact (canon_ite h (canon_reclaimAll (canon_setFlag (canon_setPower h))))) h

theorem canon_execSupplyBack {s : State} (h : Canon s) : CanonN (execSupplyBack s) := canon_live (fun s h => by
    extract_lets x1
    exact (canon_ite (canon_setPower h) h)) h

theorem canon_restoreUnit {a0 : Grant} {s : State} (h : Canon s) : Canon (restoreUnit a0 s) := by
  unfold restoreUnit
  split
  · split
    · extract_lets x2
      exact (canon_ite (canon_sentinelTrx h) (canon_ite (canon_joinTrx h) h))
    · exact h
  · split
    · split
      · exact (canon_ite (canon_enableLane (canon_fst ‹_› (canon_request h))) (canon_fst ‹_› (canon_request h)))
    · split
      · split
        · extract_lets x4
          exact (canon_ite (canon_setPair (canon_fst ‹_› (canon_request h))) (canon_fst ‹_› (canon_request h)))
      · exact (canon_request h)

theorem canon_execSupplyRestore {s : State} (h : Canon s) : CanonN (execSupplyRestore s) := canon_live (fun s h => by
    extract_lets x1 x2
    exact (canon_ite (canon_foldl (fun _ _ h3 => (canon_restoreUnit h3)) (canon_setPower h)) h)) h

theorem canon_entryRecord {s : State} {a1 : Nat} {a2 : Nat} {a3 : Nat} {a4 : Nat} {a5 : Nat} (h : Canon s) : Canon (entryRecord s a1 a2 a3 a4 a5) :=
  by
  unfold entryRecord
  extract_lets x0 x1
  have h2 : Canon x0 := (canon_addObjF h)
  have h3 : Canon x1 := (canon_setFlag (canon_stat h2))
  exact (canon_setObj h3)

theorem canon_powerOut {s : State} {a1 : Nat} {a2 : Nat} {a3 : Nat} {a4 : Nat} {a5 : Nat} {a6 : DatumVal} {a7 : DatumVal} (h : Canon s) : Canon (powerOut s a1 a2 a3 a4 a5 a6 a7) :=
  by
  unfold powerOut
  exact (canon_cmdOut h)

theorem canon_powerCmd {a0 : Bytes} {s : State} (h : Canon s) : Canon (powerCmd a0 s).1 := by
  unfold powerCmd
  extract_lets x0 x1 x2
  split
  · exact (canon_powerOut h)
  · split
    · exact (canon_powerOut (canon_entryRecord h))
    · exact (canon_setPower h)

theorem canon_setLog {s : State} {a1 : Log} (h : Canon s) : Canon (State.setLog s a1) := by
  unfold State.setLog
  exact (canon_mk h)

theorem canon_execLogDeliver {a0 : LogIn} {s : State} (h : Canon s) : CanonN (execLogDeliver a0 s) :=
  canon_live (fun s h => (canon_ite h (canon_deliverRec h))) h

theorem canon_commitRec {a0 : Bool} {s : State} {a2 : LogRec} (h : Canon s) : Canon (commitRec a0 s a2) := by
  unfold commitRec
  extract_lets x0 x1 x2 x3 x4 x5 x6
  have h7 : Canon x4 := (canon_setLog h)
  have h8 : Canon x5 := (canon_ite (canon_setFlag h7) h7)
  have h9 : Canon x6 := (canon_ite (canon_setFlag h8) h8)
  exact (canon_postFixed h9)

theorem canon_execLogCommit {s : State} (h : Canon s) : CanonN (execLogCommit s) := canon_live (fun s h => by
    extract_lets x1 x2 x3
    have h4 : Canon x3 := (canon_setLog h)
    exact (canon_foldl (fun _ _ h5 => (canon_commitRec h5)) h4)) h

theorem canon_logAck {a0 : Bytes} {s : State} (h : Canon s) : Canon (logAck a0 s).1 := by
  unfold logAck
  extract_lets x0 x1
  exact (canon_setLog h)

end Sys2Proof.Machine
end

