-- ==== Sys2Proof/Laws/CanonReset.lean ====
section
/-! SUPPORT. The canonical form is kept by reset, updates, boot, the stake, the pair and sleep: one lemma for each operation, which cites those
of the operations it calls. -/

namespace Sys2Proof.Machine
open Sys2Proof

theorem canon_setStart {s : State} {a1 : Start} (h : Canon s) : Canon (State.setStart s a1) := by
  unfold State.setStart
  exact (canon_mk h)

theorem canon_resetMain {s : State} (h : Canon s) : Canon (resetMain s) := by
  unfold resetMain
  extract_lets x0 x1 x2
  have h3 : Canon x0 := canon_reset
  exact (canon_mk h3)

theorem canon_edgesSinceD0 {s : State} (h : Canon s) : Canon (edgesSinceD0 s).2 := by
  unfold edgesSinceD0
  exact (canon_ite2 (canon_draw h) h)

theorem canon_latchFault {s : State} {a1 : Nat} {a2 : Nat} {a3 : Nat} (h : Canon s) : Canon (latchFault s a1 a2 a3) :=
  by
  unfold latchFault
  split
  · extract_lets x1 x2 x3
    exact (canon_mk (canon_snd ‹_› (canon_edgesSinceD0 h)))

theorem canon_startRequest {s : State} {a1 : Nat} (h : Canon s) : Canon (startRequest s a1) := by
  unfold startRequest
  extract_lets x0
  exact (canon_setStart h)

theorem canon_failStart {s : State} {a1 : Nat} {a2 : Nat} {a3 : Nat} (h : Canon s) : Canon (failStart s a1 a2 a3) := by
  unfold failStart
  extract_lets x0 x1 x2
  have h3 : Canon x0 := (canon_latchFault (canon_ite (canon_resetMain h) h))
  exact (canon_mk h3)

theorem canon_deviceReset {s : State} (h : Canon s) : Canon (deviceReset s) := by
  unfold deviceReset
  exact (canon_startRequest (canon_resetMain h))

theorem canon_execResetN {a0 : Nat} {s : State} (h : Canon s) : CanonN (execResetN a0 s) :=
  canon_aon (fun s h => (canon_ite h (canon_startRequest (canon_resetMain h)))) h

theorem canon_execPowerGood {a0 : Fin 8} {s : State} (h : Canon s) : CanonN (execPowerGood a0 s) :=
  canon_aon (fun s h => by
    extract_lets x1
    exact (canon_ite h (canon_setStart h))) h

theorem canon_abruptReset {s : State} {a1 : Nat} {a2 : Nat} {a3 : Nat} (h : Canon s) : Canon (abruptReset s a1 a2 a3) :=
  by
  unfold abruptReset
  extract_lets x0 x1
  have h2 : Canon x0 := (canon_latchFault (canon_resetMain h))
  exact (canon_setStart h2)

theorem canon_execPgLost {a0 : Fin 8} {s : State} (h : Canon s) : CanonN (execPgLost a0 s) := canon_aon (fun s h => by
    extract_lets x1 x2 x3
    have h4 : Canon x3 := (canon_setStart h)
    exact (canon_ite h (canon_ite (canon_abruptReset h4) h4))) h

theorem canon_execPllLost {a0 : Fin 14} {s : State} (h : Canon s) : CanonN (execPllLost a0 s) :=
  canon_live (fun s h => (canon_ite (canon_abruptReset h) h)) h

theorem canon_execRefWindow {a0 : Nat} {s : State} (h : Canon s) : CanonN (execRefWindow a0 s) :=
  canon_aon (fun s h => by
    extract_lets x1
    exact (canon_ite (canon_setStart h) h)) h

theorem canon_stepFailed {s : State} (h : Canon s) : Canon (stepFailed s) := by
  unfold stepFailed
  extract_lets x0
  split
  · exact (canon_failStart h)
  · exact (canon_failStart h)
  · split
    · split
      · extract_lets x4 x5
        have h6 : Canon x4 := (canon_latchFault (canon_snd ‹_› (canon_draw h)))
        exact (canon_setStart h6)
    · exact (canon_failStart h)
  · exact h

theorem canon_execStartupStepTimeout {a0 : Nat} {s : State} (h : Canon s) : CanonN (execStartupStepTimeout a0 s) :=
  canon_aon (fun s h => by
    extract_lets x1 x2 x3
    have h4 : Canon x2 := (canon_ite (canon_setStart h) h)
    exact (canon_ite (canon_ite (canon_setStart h4) (canon_stepFailed h4)) h)) h

theorem canon_execEnableReassert {s : State} (h : Canon s) : CanonN (execEnableReassert s) := canon_aon (fun s h => by
    split
    · exact (canon_startRequest h)
    · exact (canon_ite h (canon_setStart h))
    · exact (canon_ite h (canon_setStart h))
    · exact (canon_ite h (canon_setStart h))
    · exact h) h

theorem canon_execFailRetryExpiry {s : State} (h : Canon s) : CanonN (execFailRetryExpiry s) :=
  canon_aon (fun s h => (canon_ite (canon_startRequest h) h)) h

theorem canon_execRcTrim {a0 : Nat} {s : State} (h : Canon s) : CanonN (execRcTrim a0 s) := canon_live (fun s h => by
    extract_lets x1
    exact (canon_ite (canon_setStart h) h)) h

theorem canon_execLimpRefCheck {a0 : Nat} {a1 : Nat} {s : State} (h : Canon s) : CanonN (execLimpRefCheck a0 a1 s) :=
  canon_live (fun s h => by
    extract_lets x1 x2 x3 x4
    have h5 : Canon x4 := (canon_setStart h)
    exact (canon_ite (canon_ite (canon_setFlag h5) h5) h)) h

theorem canon_execThermReading {a0 : Fin 9} {a1 : Int} {s : State} (h : Canon s) : CanonN (execThermReading a0 a1 s) :=
  canon_live (fun s h => by
    extract_lets x1 x2 x3 x4 x5 x6 x7 x8
    have h9 : Canon x2 := (canon_setObj h)
    have h10 : Canon x4 := (canon_setObj h)
    have h11 : Canon x7 := (canon_setStart h10)
    have h12 : Canon x8 := by
      unfold x8
      split
      · exact (canon_setObj h11)
      · exact h11
    exact (canon_ite (canon_setFlag (canon_setStart h9)) (canon_ite (canon_setFlag h12) h12))) h

theorem canon_execThermTrip {a0 : Fin 9} {s : State} (h : Canon s) : CanonN (execThermTrip a0 s) :=
  canon_live (fun s h => (canon_ite (canon_failStart (canon_resetMain h)) h)) h

theorem canon_execAonPowerOn {s : State} (h : Canon s) : CanonN (execAonPowerOn s) := canon_aon (fun s h => by
    extract_lets x1 x2
    have h3 : Canon x1 := (canon_resetMain h)
    have h4 : Canon x2 := (canon_mk h3)
    exact (canon_startRequest h4)) h

theorem canon_execPowerLoss {s : State} (h : Canon s) : CanonN (execPowerLoss s) := canon_aon (fun s h => by
    extract_lets x1
    have h2 : Canon x1 := (canon_resetMain h)
    exact (canon_mk h2)) h

theorem canon_setUpd {s : State} {a1 : Update} (h : Canon s) : Canon (State.setUpd s a1) := by
  unfold State.setUpd
  exact (canon_mk h)

theorem canon_beginAccepted {a0 : Bytes} {s : State} (h : Canon s) : Canon (beginAccepted a0 s) := by
  unfold beginAccepted
  extract_lets x0 x1 x2
  exact (canon_setUpd h)

theorem canon_updBegin {a0 : Env} {a1 : Bytes} {s : State} (h : Canon s) : Canon (updBegin a0 a1 s).1 := by
  unfold updBegin
  extract_lets x0 x1
  split
  · exact h
  · exact (canon_ite1 h (canon_ite1 h (canon_ite1 h (canon_ite1 h (canon_ite1 (canon_setUpd h) (canon_beginAccepted h))))))

theorem canon_beginHeard {s : State} (h : Canon s) : Canon (beginHeard s).1 := by
  unfold beginHeard
  extract_lets x0
  exact (canon_ite1 (canon_beginAccepted h) (canon_ite1 (canon_setUpd h) h))

theorem canon_beginLost {s : State} (h : Canon s) : Canon (beginLost s).1 := by
  unfold beginLost
  extract_lets x0
  exact (canon_setUpd h)

theorem canon_updateData {a0 : Bytes} {s : State} (h : Canon s) : Canon (updateData a0 s).1 := by
  unfold updateData
  extract_lets x0 x1 x2
  split
  · exact h
  · exact (canon_ite1 h (canon_ite1 h (canon_ite1 (canon_setUpd h) (canon_ite1 h h))))

theorem canon_updFinish {a0 : Env} {s : State} (h : Canon s) : Canon (updFinish a0 s).1 := by
  unfold updFinish
  extract_lets x0
  split
  · exact h
  · exact (canon_ite1 h (canon_ite1 (canon_setUpd h) (canon_setUpd h)))

theorem canon_updStop {s : State} (h : Canon s) : Canon (updStop s) := by
  unfold updStop
  extract_lets x0
  exact (canon_setUpd h)

theorem canon_updDiscard {s : State} (h : Canon s) : Canon (updDiscard s).1 := by
  unfold updDiscard
  exact (canon_ite1 (canon_updStop h) h)

theorem canon_activateProfile {s : State} (h : Canon s) : Canon (activateProfile s).1 := by
  unfold activateProfile
  extract_lets x0
  split
  · exact (canon_ite1 (canon_setUpd h) h)
  · exact h

theorem canon_profileInForce {a0 : List (Nat × Nat × Bytes)} {a1 : Nat} {a2 : Bytes} {s : State} (h : Canon s) : Canon (profileInForce a0 a1 a2 s) :=
  by
  unfold profileInForce
  extract_lets x0 x1 x2 x3 x4 x5 x6 x7
  have h8 : Canon x1 := (canon_foldl (fun _ _ h8 => (canon_setObj h8)) h)
  have h9 : Canon x2 := (canon_foldl (fun _ _ h9 => (canon_setObj h9)) h8)
  have h10 : Canon x3 := (canon_setObj (canon_setObj h9))
  have h11 : Canon x5 := (canon_extendMr (canon_setUpd h10))
  exact (canon_foldl (fun _ _ h12 => (canon_mirror h12)) h11)

theorem canon_execProfileApply {s : State} (h : Canon s) : CanonN (execProfileApply s) := canon_live (fun s h => by
    extract_lets x1
    split
    · extract_lets x3
      exact (canon_ite (canon_profileInForce (canon_setUpd h)) h)
    · exact h) h

theorem canon_activateImage {a0 : Nat} {s : State} (h : Canon s) : Canon (activateImage a0 s).1 := by
  unfold activateImage
  extract_lets x0
  exact (canon_setUpd h)

theorem canon_updActivate {a0 : Nat} {s : State} (h : Canon s) : Canon (updActivate a0 s).1 := by
  unfold updActivate
  split
  · exact h
  · exact (canon_ite1 h (canon_ite1 (canon_activateProfile h) (canon_activateImage h)))

theorem canon_updRevert {s : State} (h : Canon s) : Canon (updRevert s).1 := by
  unfold updRevert
  extract_lets x0
  exact (canon_ite1 (canon_setUpd h) h)

theorem canon_updateCmd {a0 : Env} {a1 : Bytes} {s : State} (h : Canon s) : Canon (updateCmd a0 a1 s).1 := by
  unfold updateCmd
  extract_lets x0
  have h1 : ∀ y00, Canon y00.1 → Canon (x0 y00).1 := by
    intro _ h2
    unfold x0
    exact h2
  split
  · exact h
  · split
    · exact (canon_updBegin h)
    · exact (h1 _ (canon_updFinish h))
    · exact (h1 _ (canon_updActivate h))
    · exact (h1 _ (canon_updDiscard h))
    · exact (h1 _ (canon_updRevert h))

theorem canon_raiseFloor {s : State} (h : Canon s) : Canon (raiseFloor s) := by
  unfold raiseFloor
  extract_lets x0 x1 x2 x3
  have h4 : Canon x3 := (canon_setUpd h)
  exact (canon_ite (canon_setFlag h4) h4)

theorem canon_confirmFloor {s : State} (h : Canon s) : Canon (confirmFloor s) := by
  unfold confirmFloor
  extract_lets x0
  exact (canon_ite (canon_setUpd h) (canon_raiseFloor h))

theorem canon_benchmark {a0 : Nat} {a1 : Bytes} {s : State} (h : Canon s) : Canon (benchmark a0 a1 s).1 := by
  unfold benchmark
  extract_lets x0 x1
  have h2 : Canon x1 := (canon_setUpd h)
  exact (canon_ite1 h (canon_ite1 h (canon_ite1 h (canon_setFlag (canon_confirmFloor h2)))))

theorem canon_execTrialWindowExpiry {s : State} (h : Canon s) : CanonN (execTrialWindowExpiry s) :=
  canon_live (fun s h => by
    extract_lets x1
    exact (canon_ite (canon_deviceReset (canon_setUpd h)) h)) h

theorem canon_abortUpdate {s : State} (h : Canon s) : Canon (abortUpdate s).1 := by
  unfold abortUpdate
  exact (canon_ite1 (canon_updStop h) h)

theorem canon_execAbortUpdate {s : State} (h : Canon s) : CanonN (execAbortUpdate s) := canon_live (fun s h => by
    split
    · exact (canon_abortDone (canon_fst ‹_› (canon_abortUpdate h)))) h

theorem canon_restoreRec {s : State} {a1 : LogRec} (h : Canon s) : Canon (restoreRec s a1) := by
  unfold restoreRec
  extract_lets x0 x1
  exact (canon_setLog h)

theorem canon_restoreLog {s : State} (h : Canon s) : Canon (restoreLog s) := by
  unfold restoreLog
  extract_lets x0 x1 x2 x3 x4
  have h5 : Canon x3 := (canon_setLog h)
  exact (canon_foldl (fun _ _ h6 => (canon_restoreRec h6)) (canon_setStart h5))

theorem canon_bootIdentity {a0 : List Bool} {s : State} (h : Canon s) : Canon (bootIdentity a0 s) := by
  unfold bootIdentity
  extract_lets x0 x1 x2 x3 x4
  have h5 : Canon x4 := (canon_setSec h)
  exact (canon_ite h5 (canon_logEvent h5))

theorem canon_extendFree {s : State} {a1 : Nat} (h : Canon s) : Canon (extendFree s a1) := by
  unfold extendFree
  split
  · exact (canon_extendMr (canon_snd ‹_› (canon_drawBytes h)))

theorem canon_bootFallback {a0 : Nat} {s : State} (h : Canon s) : Canon (bootFallback a0 s) := by
  unfold bootFallback
  extract_lets x0 x1
  have h2 : Canon x1 := (canon_setUpd h)
  exact (canon_logEvent (canon_setFlag h2))

theorem canon_bootRescue {s : State} (h : Canon s) : Canon (bootRescue s) := by
  unfold bootRescue
  extract_lets x0 x1 x2
  have h3 : Canon x1 := (canon_mk h)
  exact (canon_logEvent (canon_setStart h3))

theorem canon_bootSlot {a0 : Nat} {a1 : Bool} {s : State} (h : Canon s) : Canon (bootSlot a0 a1 s) := by
  unfold bootSlot
  extract_lets x0
  exact (canon_setUpd h)

theorem canon_bootConfirmed {a0 : BootIn} {s : State} (h : Canon s) : Canon (bootConfirmed a0 s) := by
  unfold bootConfirmed
  extract_lets x0 x1 x2
  have h3 : Canon x1 := (canon_logEvent h)
  exact (canon_ite (canon_bootSlot h) (canon_ite (canon_ite (canon_bootSlot (canon_setUpd h3)) (canon_bootRescue h3)) (canon_bootRescue h)))

theorem canon_chooseSlot {a0 : BootIn} {s : State} (h : Canon s) : Canon (chooseSlot a0 s) := by
  unfold chooseSlot
  extract_lets x0
  split
  · exact (canon_ite (canon_bootConfirmed (canon_bootFallback h)) (canon_ite (canon_bootSlot (canon_setUpd h)) (canon_bootConfirmed (canon_bootFallback h))))
  · exact (canon_bootConfirmed h)

theorem canon_restoreSettings {s : State} (h : Canon s) : Canon (restoreSettings s) := by
  unfold restoreSettings
  extract_lets x0 x1
  split
  · extract_lets x3 x4 x5 x6 x7 x8
    have h9 : Canon x4 := (canon_mk h)
    have h10 : Canon x5 := (canon_foldl (fun _ _ h10 => (canon_setObj h10)) h9)
    have h11 : Canon x8 := (canon_ite (canon_setUpd h10) h10)
    exact (canon_ite (canon_setFlag h11) h11)

theorem canon_bootCompat {s : State} (h : Canon s) : Canon (bootCompat s) := by
  unfold bootCompat
  extract_lets x0 x1 x2
  have h3 : Canon x2 := (canon_mk h)
  exact (canon_ite (canon_logEvent h3) h3)

theorem canon_bootActive {s : State} (h : Canon s) : Canon (bootActive s) := by
  unfold bootActive
  extract_lets x0 x1 x2 x3
  have h4 : Canon x0 := (canon_setObj (canon_setObj h))
  have h5 : Canon x2 := (canon_mk h4)
  exact (canon_setPair h5)

theorem canon_bootProfile {a0 : Bool} {s : State} (h : Canon s) : Canon (bootProfile a0 s) := by
  unfold bootProfile
  extract_lets x0 x1 x2
  have h3 : Canon x1 := (canon_foldl (fun _ _ h3 => (canon_setObj h3)) h)
  have h4 : Canon x2 := (canon_foldl (fun _ _ h4 => (canon_setObj h4)) h3)
  split
  · exact h
  · extract_lets x6
    have h7 : Canon x6 := (canon_setObj (canon_setObj h4))
    exact (canon_ite (canon_extendMr h7) h3)

theorem canon_bootPair {s : State} (h : Canon s) : Canon (bootPair s) := by
  unfold bootPair
  extract_lets x0
  split
  · exact (canon_setPair h)
  · split
    · split
      · extract_lets x4
        exact (canon_setPair (canon_fst ‹_› (canon_request h)))
    · exact (canon_setPair h)

theorem canon_startCores {s : State} (h : Canon s) : Canon (startCores s) := by
  unfold startCores
  exact (canon_ite (canon_foldl (fun _ _ h0 => (canon_ite h0 (canon_modCore h0))) h) (canon_ite h (canon_foldl (fun _ _ h0 => (canon_coreDvfsWritten h0)) h)))

theorem canon_bootVersion {s : State} (h : Canon s) : Canon (bootVersion s) := by
  unfold bootVersion
  extract_lets x0 x1
  exact (canon_ite (canon_mk h) h)

theorem canon_bootFloor {s : State} (h : Canon s) : Canon (bootFloor s) := by
  unfold bootFloor
  exact (canon_ite (canon_raiseFloor h) h)

theorem canon_bootDatum {s : State} (h : Canon s) : Canon (bootDatum s) := by
  unfold bootDatum
  extract_lets x0
  exact (canon_ite (canon_setDatum h) (canon_setDatum h))

theorem canon_bootWoke {s : State} (h : Canon s) : Canon (bootWoke s) := by
  unfold bootWoke
  extract_lets x0
  have h1 : Canon x0 := (canon_stat h)
  split
  · exact (canon_powerOut h1)
  · exact h

theorem canon_bootXspi {s : State} (h : Canon s) : Canon (bootXspi s) := by
  unfold bootXspi
  extract_lets x0
  exact (canon_mk h)

theorem canon_execResetRelease {a0 : BootIn} {s : State} (h : Canon s) : CanonN (execResetRelease a0 s) :=
  canon_aon (fun s h => by
    extract_lets x1 x2 x3 x4 x5 x6 x7 x8 x9 x10 x11 x12 x13 x14 x15 x16 x17
    have h18 : Canon x2 := (canon_setStart h)
    have h19 : Canon x3 := (canon_bootDatum h18)
    have h20 : Canon x5 := (canon_setStart h19)
    have h21 : Canon x9 := (canon_mk h20)
    have h22 : Canon x10 := (canon_extendFree (canon_restoreLog (canon_bootXspi h21)))
    have h23 : Canon x11 := (canon_bootIdentity h22)
    have h24 : Canon x12 := (canon_restoreSettings (canon_chooseSlot h23))
    have h25 : Canon x13 := (canon_extendFree (canon_bootCompat h24))
    have h26 : Canon x14 := (canon_ite h25 (canon_extendMr h25))
    have h27 : Canon x15 := (canon_bootFloor (canon_bootVersion (canon_bootProfile h26)))
    have h28 : Canon x17 := (canon_ite h27 (canon_setPower h27))
    exact (canon_ite (canon_startCores (canon_bootWoke (canon_bootPair (canon_bootActive h28)))) h)) h

theorem canon_overlay {s : State} {a1 : Staged} (h : Canon s) : Canon (overlay s a1) := by
  unfold overlay
  exact (canon_foldl (fun _ _ h0 => (canon_setObj h0)) h)

theorem canon_readCca {s : State} {a1 : Radio} (h : Canon s) : Canon (readCca s a1).1 := by
  unfold readCca
  extract_lets x0
  split
  · exact (canon_snd ‹_› (canon_draw (canon_mk h)))

theorem canon_readObj {s : State} {a1 : ObjRow} {a2 : Nat} {a3 : Nat} (h : Canon s) : Canon (readObj s a1 a2 a3).1 := by
  unfold readObj
  refine canon_ite1 h (canon_ite1 ?_ (canon_ite1 (canon_setObj h) h))
  split
  · rename_i hc
    show Canon (readCca s ⟨a3 - 1, hc⟩).1
    exact canon_readCca h
  · exact h

theorem canon_setDict {s : State} {a1 : Dict} (h : Canon s) : Canon (State.setDict s a1) := by
  unfold State.setDict
  exact (canon_mk h)

theorem canon_modSess {s : State} {a1 : Nat} {a2 : Session → Session} (h : Canon s) : Canon (modSess s a1 a2) := by
  unfold modSess
  extract_lets x0
  exact (canon_setDict h)

theorem canon_setTrav {s : State} {a1 : Nat} {a2 : Traverse} (h : Canon s) : Canon (setTrav s a1 a2) := by
  unfold setTrav
  extract_lets x0
  exact (canon_setDict h)

theorem canon_watchTrav {s : State} (h : Canon s) : Canon (watchTrav s) := by
  unfold watchTrav
  exact (canon_watch h)

theorem canon_freeTrav {s : State} {a1 : Nat} {a2 : Nat} (h : Canon s) : Canon (freeTrav s a1 a2) := by
  unfold freeTrav
  extract_lets x0
  exact (canon_watchTrav (canon_setTrav h))

theorem canon_endTrav {s : State} {a1 : Nat} (h : Canon s) : Canon (endTrav s a1) := by
  unfold endTrav
  split
  · exact h
  · extract_lets x1
    exact (canon_ite (canon_setTrav h) (canon_freeTrav h))

theorem canon_releaseSession {s : State} {a1 : Nat} (h : Canon s) : Canon (releaseSession s a1) := by
  unfold releaseSession
  extract_lets x0
  exact (canon_endTrav (canon_setDict h))

theorem canon_closeSession {s : State} {a1 : Nat} (h : Canon s) : Canon (closeSession s a1) := by
  unfold closeSession
  extract_lets x0 x1
  have h2 : Canon x0 := (canon_releaseSession h)
  exact (canon_ite (canon_modSess h2) (canon_setDict h2))

theorem canon_closeRemote {s : State} (h : Canon s) : Canon (closeRemote s) := by
  unfold closeRemote
  exact (canon_foldl (fun _ _ h0 => (canon_closeSession h0)) h)

theorem canon_sendRemote {s : State} {a1 : Transport} {a2 : Bytes} (h : Canon s) : Canon (sendRemote s a1 a2) := by
  unfold sendRemote
  extract_lets x0
  exact (canon_setDict h)

theorem canon_modChan {s : State} {a1 : Nat} {a2 : Channel → Channel} (h : Canon s) : Canon (modChan s a1 a2) := by
  unfold modChan
  extract_lets x0
  exact (canon_setDict h)

theorem canon_answerChan {s : State} {a1 : Nat} {a2 : Bytes} (h : Canon s) : Canon (answerChan s a1 a2) := by
  unfold answerChan
  extract_lets x0
  have h1 : Canon x0 := (canon_modChan h)
  exact (canon_ite (canon_raiseMsix h1) h1)

theorem canon_deliver {s : State} {a1 : Session} {a2 : Bytes} (h : Canon s) : Canon (deliver s a1 a2) := by
  unfold deliver
  exact (canon_ite (canon_answerChan h) (canon_sendRemote h))

theorem canon_executed {s : State} {a1 : Session} {a2 : Exec} (h : Canon s) : Canon (executed s a1 a2) := by
  unfold executed
  extract_lets x0 x1 x2
  have h3 : Canon x1 := (canon_deliver h)
  have h4 : Canon x2 := (canon_foldl (fun _ _ h4 => (canon_deliver h4)) h3)
  exact (canon_ite (canon_closeSession h3) (canon_modSess h4))

theorem canon_finishExec {s : State} {a1 : Nat} {a2 : Exec} (h : Canon s) : Canon (finishExec s a1 a2) := by
  unfold finishExec
  split
  · exact h
  · extract_lets x1
    have h2 : Canon x1 := (canon_ite (canon_ite (canon_closeSession h) (canon_modSess h)) (canon_executed h))
    exact (canon_ite (canon_deviceReset h2) h2)

theorem canon_setExec {s : State} {a1 : Nat} {a2 : Exec} (h : Canon s) : Canon (setExec s a1 a2) := by
  unfold setExec
  exact (canon_modSess h)

theorem canon_noRoom {s : State} {a1 : Nat} {a2 : Exec} {a3 : Op} (h : Canon s) : Canon (noRoom s a1 a2 a3) := by
  unfold noRoom
  extract_lets x0
  exact (canon_finishExec (canon_mk h))

theorem canon_releaseOp {s : State} {a1 : Nat} {a2 : Res} {a3 : Bytes} (h : Canon s) : Canon (release s a1 a2 a3) := by
  unfold release
  split
  · exact h
  · split
    · exact h
    · extract_lets x2 x3 x4
      have h5 : Canon x4 := (canon_mk h)
      exact (canon_ite (canon_noRoom h) (canon_ite (canon_finishExec h5) (canon_setExec h5)))

theorem canon_releaseAll {s : State} {a1 : Suspend} {a2 : Res} {a3 : Bytes} (h : Canon s) : Canon (releaseAll s a1 a2 a3) :=
  by
  unfold releaseAll
  exact (canon_foldl (fun _ _ h0 => (canon_releaseOp h0)) h)

theorem canon_recordCmd {s : State} {a1 : Nat} {a2 : Nat} {a3 : Bytes} {a4 : Nat} (h : Canon s) : Canon (recordCmd s a1 a2 a3 a4) :=
  by
  unfold recordCmd
  extract_lets x0 x1
  exact (canon_setDict h)

theorem canon_releaseCmd {s : State} {a1 : Suspend} {a2 : Res} (h : Canon s) : Canon (releaseCmd s a1 a2) := by
  unfold releaseCmd
  extract_lets x0 x1
  have h2 : Canon x1 := (canon_foldl (fun _ _ h2 => (canon_recordCmd h2)) h)
  exact (canon_releaseAll h2)

theorem canon_askObject {a0 : Nat} {s : State} {a2 : Nat × Nat} (h : Canon s) : Canon (askObject a0 s a2) := by
  unfold askObject
  extract_lets x0 x1 x2 x3
  have h4 : Canon x3 := (canon_setDict h)
  exact (canon_postFixed h4)

theorem canon_askClosure {s : State} {a1 : Nat} {a2 : Nat} {a3 : FwVals} {a4 : List (Nat × Nat)} (h : Canon s) : Canon (askClosure s a1 a2 a3 a4) :=
  by
  unfold askClosure
  extract_lets x0 x1
  have h2 : Canon x1 := (canon_setDict h)
  exact (canon_foldl (fun _ _ h3 => (canon_askObject h3)) h2)

theorem canon_travClose {s : State} {a1 : Nat} {a2 : optParam FwVals []} (h : Canon s) : Canon (travClose s a1 a2).1 :=
  by
  unfold travClose
  split
  · exact h
  · extract_lets x1 x2 x3 x4
    have h5 : Canon x3 := (canon_setTrav h)
    split
    · exact h
    · split
      · exact (canon_setTrav h)
      · exact (canon_ite1 h5 (canon_setTrav h5))

theorem canon_travStake {s : State} {a1 : Nat} {a2 : Bytes} {a3 : Bool} (h : Canon s) : Canon (travStake s a1 a2 a3).1 :=
  by
  unfold travStake
  split
  · exact h
  · split
    · exact h
    · extract_lets x2
      split
      · exact h
      · split
        · exact h
        · split
          · exact h
          · split
            · exact h
            · exact (canon_setTrav h)

theorem canon_travAbort {s : State} {a1 : Nat} (h : Canon s) : Canon (travAbort s a1).1 := by
  unfold travAbort
  extract_lets x0
  exact (canon_ite1 h (canon_ite1 h (canon_freeTrav h)))

theorem canon_abortTrav {s : State} {a1 : Nat} (h : Canon s) : Canon (abortTrav s a1).1 := by
  unfold abortTrav
  split
  · exact (canon_abortDone (canon_fst ‹_› (canon_travAbort h)))

theorem canon_travAbortOwn {s : State} {a1 : Nat} (h : Canon s) : Canon (travAbortOwn s a1).1 := by
  unfold travAbortOwn
  split
  · exact h
  · exact (canon_abortTrav h)

theorem canon_mirrorChange {s : State} {a1 : Nat} {a2 : Nat} (h : Canon s) : Canon (mirrorChange s a1 a2) := by
  unfold mirrorChange
  split
  · exact (canon_mirrorObj h)
  · exact h

theorem canon_txsaStaked {s : State} {a1 : Bytes} (h : Canon s) : Canon (txsaStaked s a1) := by
  unfold txsaStaked
  extract_lets x0 x1 x2
  have h3 : Canon x2 := (canon_advanceKey h)
  exact (canon_ite (canon_mirror h3) h)

theorem canon_rescan {s : State} {a1 : Trx} (h : Canon s) : Canon (rescan s a1) := by
  unfold rescan
  exact (canon_ite (canon_beginDwell h) h)

theorem canon_stakeValue {s : State} {a1 : Nat × Nat × Bytes} (h : Canon s) : Canon (stakeValue s a1) := by
  unfold stakeValue
  extract_lets x0 x1 x2 x3 x4 x5
  have h6 : Canon x4 := (canon_mirrorChange (canon_setObj h))
  split
  · exact (canon_postFixed h)
  · split
    · exact (canon_clearFlags h)
    · split
      · exact (canon_updateData h)
      · split
        · exact (canon_staEntry h)
        · clear_value x0
          split
          · exact (canon_setDatum h6)
          · exact (canon_dite (fun _ => (canon_tpoConfigured h6)) (fun _ => h6))
          · exact (canon_coreDvfsWritten h6)
          · exact (canon_dite (fun _ => (canon_modTrx h6)) (fun _ => h6))
          · exact (canon_dite (fun _ => (canon_rescan h6)) (fun _ => h6))
          · exact (canon_dite (fun _ => (canon_rescan h6)) (fun _ => h6))
          · exact (canon_txsaStaked h6)
          · exact (canon_gpioWritten h6)
          · exact (canon_gpioStaked h6)
          · exact h6

theorem canon_stakeTable {s : State} {a1 : Nat × Nat × Bytes} (h : Canon s) : Canon (stakeTable s a1) := by
  unfold stakeTable
  exact (canon_ageFromNow (canon_mirrorChange (canon_setObj h)))

theorem canon_stakeTables {s : State} {a1 : Staged} {a2 : Nat} (h : Canon s) : Canon (stakeTables s a1 a2) := by
  unfold stakeTables
  extract_lets x0 x1 x2
  have h3 : Canon x2 := (canon_foldl (fun _ _ h3 => (canon_stakeTable h3)) (canon_newVersion h))
  exact (canon_ite h (canon_foldl (fun _ _ h4 => (canon_watchTable h4)) h3))

theorem canon_trxStaked {s : State} {s1 : State} {a2 : Trx} (h : Canon s) (h'1 : Canon s1) : Canon (trxStaked s s1 a2) :=
  by
  unfold trxStaked
  extract_lets x0
  have h1 : Canon x0 := (canon_offTrx h'1)
  split
  · exact h'1
  · split
    · exact (canon_sentinelTrx h1)
    · exact (canon_joinTrx h1)
    · exact h1

theorem canon_chainFresh {s : State} {a1 : Radio} (h : Canon s) : Canon (chainFresh s a1) := by
  unfold chainFresh
  exact (canon_modCr h)

theorem canon_radioDown {s : State} {a1 : Radio} (h : Canon s) : Canon (radioDown s a1) := by
  unfold radioDown
  split
  · exact h
  · split
    · extract_lets x2
      have h3 : Canon x2 := (canon_returnHeldAll (canon_foldl (fun _ _ h3 => (canon_mpduUnacked h3)) (canon_fst ‹_› (canon_endExchange (canon_stopTx h)))))
      exact (canon_feOff (canon_modCr h3))

theorem canon_radioUp {s : State} {a1 : Radio} (h : Canon s) : Canon (radioUp s a1) := by
  unfold radioUp
  extract_lets x0 x1
  have h2 : Canon x0 := (canon_ite (canon_endDiag h) (canon_radioDown h))
  have h3 : Canon x1 := (canon_ite (canon_chainFresh h2) h2)
  exact (canon_beginChange h3)

theorem canon_radioStaked {s : State} {a1 : Staged} {s1 : State} {a3 : Radio} (h : Canon s) (h'1 : Canon s1) : Canon (radioStaked s a1 s1 a3) :=
  by
  unfold radioStaked
  extract_lets x0
  exact (canon_ite (canon_ite (canon_radioDown h'1) h'1) (canon_ite (canon_radioUp h'1) (canon_ite (canon_requestChannel h'1) h'1)))

theorem canon_peerStaked {s : State} {s1 : State} {a2 : Radio} (h : Canon s) (h'1 : Canon s1) : Canon (peerStaked s s1 a2) :=
  by
  unfold peerStaked
  exact (canon_ite (canon_bookStanding h'1) (canon_ite (canon_release h'1) h'1))

theorem canon_radiosStaked {s : State} {a1 : Staged} {s1 : State} (h : Canon s) (h'1 : Canon s1) : Canon (radiosStaked s a1 s1) :=
  by
  unfold radiosStaked
  extract_lets x0
  have h1 : Canon x0 := (canon_foldl (fun _ _ h1 => (canon_trxStaked h h1)) h'1)
  exact (canon_foldl (fun _ _ h2 => (by
    extract_lets x3 x4 x5
    have h6 : Canon x3 := (canon_radioStaked h h2)
    have h7 : Canon x4 := (canon_ite (canon_pathModeStaked h6) h6)
    have h8 : Canon x5 := (canon_ite (canon_ifSideStaked h7) h7)
    exact (canon_ite (canon_peerStaked h (canon_planStaked h8)) h8))) h1)

theorem canon_takeDeferred {s : State} (h : Canon s) : Canon (takeDeferred s) := by
  unfold takeDeferred
  extract_lets x0 x1 x2
  have h3 : Canon x2 := (canon_setRf h)
  exact (canon_ite h (canon_radiosStaked h3 (canon_foldl (fun _ _ h4 => (canon_stakeValue h4)) h3)))

theorem canon_atBoundary {a0 : State → State} {s : State} (h : ∀ y00, Canon y00 → Canon (a0 y00)) (h'1 : Canon s) : Canon (atBoundary a0 s) :=
  by
  unfold atBoundary
  exact (canon_takeDeferred (h _ (canon_takeDeferred h'1)))

theorem canon_runStaked {a0 : Staged} {s : State} (h : Canon s) : Canon (runStaked a0 s) := by
  unfold runStaked
  extract_lets x0
  exact (canon_ite h (canon_foldl (fun _ _ h1 => (canon_coreDvfsWritten h1)) (canon_setPower h)))

theorem canon_queuesStaked {s : State} {a1 : List Nat} {s1 : State} (h : Canon s) (h'1 : Canon s1) : Canon (queuesStaked s a1 s1) :=
  by
  unfold queuesStaked
  extract_lets x0
  have h1 : Canon x0 := (canon_foldl (fun _ _ h1 => (canon_seat h1)) h'1)
  exact (canon_foldl (fun _ _ h2 => (canon_ite (canon_flushQueue h2) h2)) h1)

theorem canon_portStaked {s : State} {s1 : State} {a2 : Fin 2} (h : Canon s) (h'1 : Canon s1) : Canon (portStaked s s1 a2) :=
  by
  unfold portStaked
  extract_lets x0
  have h1 : Canon x0 := (canon_release (canon_linkDown h'1))
  exact (canon_ite h'1 (canon_request h1))

theorem canon_keysStaked {s : State} {s1 : State} (h : Canon s) (h'1 : Canon s1) : Canon (keysStaked s s1) := by
  unfold keysStaked
  extract_lets x0
  exact (canon_foldl (fun _ _ h1 => (canon_closeSession h1)) h'1)

theorem canon_unitsStaked {s : State} {a1 : Staged} {a2 : Nat} {s1 : State} (h : Canon s) (h'1 : Canon s1) : Canon (unitsStaked s a1 a2 s1) :=
  by
  unfold unitsStaked
  extract_lets x0 x1 x2 x3 x4 x5 x6 x7
  have h8 : Canon x1 := (canon_setStart h'1)
  have h9 : Canon x2 := (canon_keysStaked h h8)
  have h10 : Canon x3 := (canon_ite (canon_extendFree h9) h9)
  have h11 : Canon x4 := (canon_ite (canon_warnFracStaked h10) h10)
  have h12 : Canon x5 := (canon_runStaked h11)
  have h13 : Canon x6 := (canon_radiosStaked h h12)
  have h14 : Canon x7 := (canon_foldl (fun _ _ h14 => (canon_portStaked h h14)) h13)
  exact (canon_foldl (fun _ _ h15 => (canon_ite (canon_gateStaked h15) h15)) h14)

theorem canon_switchAll {s : State} {a1 : Staged} {a2 : Nat} {a3 : Bool} (h : Canon s) : Canon (switchAll s a1 a2 a3) :=
  by
  unfold switchAll
  extract_lets x0 x1 x2
  have h3 : Canon x0 := (canon_takeDeferred h)
  split
  · extract_lets x5 x6 x7 x8 x9 x10 x11
    have h12 : Canon x5 := (canon_setRf h3)
    have h13 : Canon x6 := h12
    have h14 : Canon x7 := (canon_overlay h12)
    have h15 : Canon x9 := (canon_foldl (fun _ _ h15 => (canon_unseat h15)) h12)
    have h16 : Canon x10 := (canon_foldl (fun _ _ h16 => (canon_stakeValue h16)) h15)
    have h17 : Canon x11 := (canon_ite (canon_stakeTables h16) h16)
    exact (canon_queuesStaked h13 (canon_unitsStaked h13 h17))

theorem canon_startApplying {s : State} {a1 : Nat} {a2 : Bool} (h : Canon s) : Canon (startApplying s a1 a2) := by
  unfold startApplying
  extract_lets x0 x1 x2
  have h3 : Canon x2 := (canon_setTrav h)
  exact (canon_switchAll h3)

theorem canon_execStakeInstant {a0 : Fin 4} {s : State} (h : Canon s) : CanonN (execStakeInstant a0 s) :=
  canon_live (fun s h => by
    extract_lets x1
    exact (canon_ite (canon_startApplying h) h)) h

theorem canon_lateStakes {s : State} (h : Canon s) : Canon (lateStakes s) := by
  unfold lateStakes
  exact (canon_foldl (fun _ _ h0 => (by
    extract_lets x1
    exact (canon_ite (canon_startApplying h0) h0))) h)

theorem canon_reclaimStakes {s : State} (h : Canon s) : Canon (reclaimStakes s) := by
  unfold reclaimStakes
  exact (canon_foldl (fun _ _ h0 => (by
    extract_lets x1
    exact (canon_ite (canon_stakeTables (canon_setTrav h0)) h0))) h)

theorem canon_execPreambleDetect {a0 : Radio} {a1 : Correlation} {a2 : Tracking} {s : State} (h : Canon s) : CanonN (execPreambleDetect a0 a1 a2 s) :=
  canon_live (fun s h => (canon_atBoundary (fun _ h1 => (canon_preambleDetect h1)) h)) h

theorem canon_execSignalFieldDecode {a0 : Radio} {a1 : SigField} {a2 : Option Nat} {a3 : List RxUser} {s : State} (h : Canon s) : CanonN (execSignalFieldDecode a0 a1 a2 a3 s) :=
  canon_live (fun s h => (canon_atBoundary (fun _ h1 => (canon_signalFieldDecode h1)) h)) h

theorem canon_execRestart {a0 : Radio} {a1 : Preamble} {s : State} (h : Canon s) : CanonN (execRestart a0 a1 s) :=
  canon_live (fun s h => (canon_atBoundary (fun _ h1 => (canon_restartRx h1)) h)) h

theorem canon_execChannelChange {a0 : Radio} {s : State} (h : Canon s) : CanonN (execChannelChange a0 s) :=
  canon_live (fun s h => (canon_atBoundary (fun _ h1 => (canon_changeAtBoundary h1)) h)) h

theorem canon_execPathSwitch {a0 : Radio} {s : State} (h : Canon s) : CanonN (execPathSwitch a0 s) :=
  canon_live (fun s h => (canon_atBoundary (fun _ h1 => (canon_pathSwitchAt h1)) h)) h

theorem canon_execLockLost {a0 : Radio} {s : State} (h : Canon s) : CanonN (execLockLost a0 s) :=
  canon_live (fun s h => (canon_atBoundary (fun _ h1 => (canon_lockLostAt h1)) h)) h

theorem canon_execRecalStart {a0 : Radio} {a1 : List Int} {s : State} (h : Canon s) : CanonN (execRecalStart a0 a1 s) :=
  canon_live (fun s h => (canon_atBoundary (fun _ h1 => (canon_recalStartAt h1)) h)) h

theorem canon_execAbortRadioTx {a0 : Radio} {s : State} (h : Canon s) : CanonN (execAbortRadioTx a0 s) :=
  canon_live (fun s h => (canon_atBoundary (fun _ h1 => (by
      split
      · exact (canon_abortDone (canon_fst ‹_› (canon_abortTx h1))))) h)) h

theorem canon_execAbortRadioRx {a0 : Radio} {s : State} (h : Canon s) : CanonN (execAbortRadioRx a0 s) :=
  canon_live (fun s h => (canon_atBoundary (fun _ h1 => (by
      split
      · exact (canon_abortDone (canon_fst ‹_› (canon_abortRx h1))))) h)) h

theorem canon_execMpduReceive {a0 : Radio} {a1 : RxMpdu} {s : State} (h : Canon s) : CanonN (execMpduReceive a0 a1 s) :=
  canon_live (fun s h => (canon_atBoundary (fun _ h1 => (canon_mpduReceive h1)) h)) h

theorem canon_execPpduAssembly {a0 : Radio} {a1 : PpduReq} {s : State} (h : Canon s) : CanonN (execPpduAssembly a0 a1 s) :=
  canon_live (fun s h => (canon_atBoundary (fun _ h1 => (canon_ppduAssembly h1)) h)) h

theorem canon_execTbtt {a0 : Radio} {a1 : Fin 16} {a2 : Bool} {s : State} (h : Canon s) : CanonN (execTbtt a0 a1 a2 s) :=
  canon_live (fun s h => (canon_atBoundary (fun _ h1 => (canon_tbttAt h1)) h)) h

theorem canon_execAckReceive {a0 : Radio} {a1 : List (Nat × Nat × Nat)} {s : State} (h : Canon s) : CanonN (execAckReceive a0 a1 s) :=
  canon_live (fun s h => (canon_atBoundary (fun _ h1 => (canon_ackReceive h1)) h)) h

theorem canon_execAckTimeout {a0 : Radio} {s : State} (h : Canon s) : CanonN (execAckTimeout a0 s) :=
  canon_live (fun s h => (canon_atBoundary (fun _ h1 => (canon_ackTimeout h1)) h)) h

theorem canon_execTbPpduReceive {a0 : Radio} {a1 : TbPpdu} {s : State} (h : Canon s) : CanonN (execTbPpduReceive a0 a1 s) :=
  canon_live (fun s h => (canon_atBoundary (fun _ h1 => (canon_tbPpduReceive h1)) h)) h

theorem canon_execChainStart {a0 : Radio} {s : State} (h : Canon s) : CanonN (execChainStart a0 s) :=
  canon_live (fun s h => (canon_atBoundary (fun _ h1 => (canon_chainStartAt h1)) (canon_slotEdge h))) h

theorem canon_execSlotStart {a0 : SlotIn} {s : State} (h : Canon s) : CanonN (execSlotStart a0 s) :=
  canon_live (fun s h => (canon_atBoundary (fun _ h1 => (canon_slotStartAt h1)) (canon_slotEdge h))) h

theorem canon_execChainFrameReceive {a0 : Radio} {a1 : ChainFrame} {s : State} (h : Canon s) : CanonN (execChainFrameReceive a0 a1 s) :=
  canon_live (fun s h => (canon_atBoundary (fun _ h1 => (canon_chainFrameAt h1)) h)) h

theorem canon_pairStat {s : State} {a1 : Nat} {a2 : Nat} (h : Canon s) : Canon (pairStat s a1 a2) := by
  unfold pairStat
  exact (canon_stat h)

theorem canon_pairFlag {s : State} {a1 : Nat} (h : Canon s) : Canon (pairFlag s a1) := by
  unfold pairFlag
  exact (canon_setFlag h)

theorem canon_mirrorEmpty {s : State} (h : Canon s) : Canon (mirrorEmpty s) := by
  unfold mirrorEmpty
  refine canon_foldl (fun _ _ h => canon_ite (canon_freeTrav h) h)
    (canon_foldl (fun _ _ h => canon_chainFresh h) (canon_keysStaked h ?_))
  exact ⟨h.1, h.2.1, tabWf_filter _ h.2.2⟩

theorem canon_discardMirror {s : State} (h : Canon s) : Canon (discardMirror s) := by
  unfold discardMirror
  extract_lets x0 x1
  have h2 : Canon x0 := (canon_foldl (fun _ _ h2 => (canon_setObj h2)) (canon_mirrorEmpty h))
  exact (canon_setPair h2)

theorem canon_toWait {s : State} (h : Canon s) : Canon (toWait s) := by
  unfold toWait
  extract_lets x0 x1
  have h2 : Canon x0 := (canon_discardMirror h)
  exact (canon_setPair h2)

theorem canon_partnerGone {s : State} {a1 : Nat} (h : Canon s) : Canon (partnerGone s a1) := by
  unfold partnerGone
  extract_lets x0
  exact (canon_setPair h)

theorem canon_applyMirror {s : State} {a1 : MirrorItem} (h : Canon s) : Canon (applyMirror s a1) := by
  unfold applyMirror
  extract_lets x0
  split
  · extract_lets x2 x3 x4
    have h5 : Canon x2 := (canon_keysStaked h (canon_setObj h))
    exact (canon_ite (canon_setDatum h5) (canon_ite (canon_setPower h5) (canon_ite (canon_dite (fun _ => (canon_modTrx h5)) (fun _ => h5)) h5)))
  · exact (canon_setKey h)
  · exact (canon_ite (canon_setTrav h) h)
  · exact (canon_setMac h)
  · exact (canon_setMac h)
  · exact (canon_setMac h)
  · exact (canon_ite (canon_setMac h) (canon_setMac h))
  · extract_lets x2
    exact (canon_modCr h)

theorem canon_holdRole {s : State} (h : Canon s) : Canon (holdRole s) := by
  unfold holdRole
  extract_lets x0
  exact (canon_setPair (canon_partnerGone h))

theorem canon_startRadios {a0 : State → Radio → State} {s : State} (h : ∀ y00 y01, Canon y00 → Canon (a0 y00 y01)) (h'1 : Canon s) : Canon (startRadios a0 s) :=
  by
  unfold startRadios
  extract_lets x0
  have h1 : Canon x0 := by
    unfold x0
    exact (canon_foldl (fun _ _ h2 => (by
      split
      · exact (canon_ite h2 (canon_sentinelTrx h2))
      · exact (canon_ite h2 (canon_joinTrx h2))
      · exact (canon_offTrx h2))) h'1)
  exact (canon_foldl (fun _ _ h2 => (canon_ite (h _ _ h2) h2)) h1)

theorem canon_coldClaim {s : State} (h : Canon s) : Canon (coldClaim s) := by
  unfold coldClaim
  exact (canon_startRadios (fun _ _ h0 => (canon_radioUp h0)) (canon_pairFlag (canon_holdRole h)))

theorem canon_radioTakeover {s : State} {a1 : Radio} (h : Canon s) : Canon (radioTakeover s a1) := by
  unfold radioTakeover
  extract_lets x0
  have h1 : Canon x0 := (canon_ite (canon_modCr h) (canon_ite (canon_chainFresh h) h))
  exact (canon_beginChange h1)

theorem canon_takeover {s : State} (h : Canon s) : Canon (takeover s) := by
  unfold takeover
  extract_lets x0 x1 x2 x3 x4 x5 x6 x7 x8 x9 x10 x11 x12
  have h13 : Canon x0 := (canon_pairFlag (canon_holdRole h))
  have h14 : Canon x2 := (canon_setPair h13)
  have h15 : Canon x3 := (canon_logEvent h14)
  have h16 : Canon x5 := (canon_foldl (fun _ _ h16 => (canon_advanceKey h16)) h15)
  have h17 : Canon x7 := (canon_setMac h16)
  have h18 : Canon x8 := (canon_closeRemote h17)
  have h19 : Canon x10 := (canon_ite h18 (canon_postOperand h18))
  have h20 : Canon x12 := (canon_setMac h19)
  exact (canon_startRadios (fun _ _ h21 => (canon_radioTakeover h21)) h20)

theorem canon_yieldRole {s : State} {a1 : PairState} (h : Canon s) : Canon (yieldRole s a1) := by
  unfold yieldRole
  extract_lets x0 x1
  have h2 : Canon x0 := (canon_foldl (fun _ _ h2 => (canon_radioDown (canon_abortTx h2))) (canon_closeRemote h))
  exact (canon_setPair h2)

theorem canon_handOver {s : State} (h : Canon s) : Canon (handOver s) := by
  unfold handOver
  extract_lets x0 x1 x2 x3
  have h4 : Canon x0 := (canon_foldl (fun _ _ h4 => (canon_abortTx h4)) h)
  have h5 : Canon x1 := (canon_foldl (fun _ _ h5 => (canon_flushCtx h5)) h4)
  have h6 : Canon x3 := (canon_setMac h5)
  exact (canon_ite (canon_pairStat (canon_partnerGone (canon_yieldRole h6))) h)

theorem canon_sendCounters {s : State} (h : Canon s) : Canon (sendCounters s) := by
  unfold sendCounters
  extract_lets x0
  have h1 : Canon x0 := (canon_foldl (fun _ _ h1 => (canon_ite (canon_mirror h1) h1)) h)
  exact (canon_foldl (fun _ _ h2 => (canon_ite h2 (canon_mirrorSn h2))) h1)

theorem canon_execHeartbeatSend {s : State} (h : Canon s) : CanonN (execHeartbeatSend s) := canon_live (fun s h => by
    extract_lets x1 x2
    have h3 : Canon x2 := (canon_setPair h)
    exact (canon_ite h (canon_ite (canon_sendCounters h3) h3))) h

theorem canon_beginSync {s : State} (h : Canon s) : Canon (beginSync s) := by
  unfold beginSync
  extract_lets x0 x1 x2
  have h3 : Canon x0 := (canon_mirrorEmpty (canon_foldl (fun _ _ h3 => (canon_radioDown h3)) h))
  exact (canon_pairStat (canon_setDatum (canon_setPair h3)))

theorem canon_tryStandby {s : State} (h : Canon s) : Canon (tryStandby s) := by
  unfold tryStandby
  extract_lets x0
  exact (canon_ite (canon_setPair h) h)

theorem canon_judgeBegin {a0 : Bool} {s : State} (h : Canon s) : Canon (judgeBegin a0 s) := by
  unfold judgeBegin
  split
  · exact h
  · split
    · split
      · exact (canon_releaseCmd (canon_fst ‹_› (canon_beginHeard h)))
      · exact (canon_fst ‹_› (canon_beginHeard h))
    · split
      · exact (canon_releaseCmd (canon_fst ‹_› (canon_beginLost h)))

theorem canon_heartbeatIn {s : State} {a1 : Heartbeat} (h : Canon s) : Canon (heartbeatIn s a1) := by
  unfold heartbeatIn
  extract_lets x0 x1
  split
  · exact (canon_ite (canon_beginSync (canon_setPair h)) h)
  · exact (canon_tryStandby (canon_followActive (canon_pairTime (canon_setMac h))))
  · exact (canon_followActive (canon_pairTime (canon_setMac h)))
  · exact (canon_ite h (canon_partnerGone h))
  · exact h

theorem canon_execHeartbeatReceive {a0 : Heartbeat} {s : State} (h : Canon s) : CanonN (execHeartbeatReceive a0 s) :=
  canon_live (fun s h => by
    extract_lets x1 x2
    have h3 : Canon x2 := (canon_setPair h)
    exact (canon_ite h (canon_ite (canon_pairFlag h) (canon_handOver (canon_judgeBegin (canon_heartbeatIn h3)))))) h

theorem canon_execHeartbeatMissed {s : State} (h : Canon s) : CanonN (execHeartbeatMissed s) :=
  canon_live (fun s h => by
    extract_lets x1 x2 x3
    have h4 : Canon x2 := (canon_pairStat (canon_setPair h))
    have h5 : Canon x3 := (canon_judgeBegin h4)
    split
    · exact h
    · split
      · exact h5
      · split
        · exact (canon_toWait h5)
        · exact (canon_ite (canon_toWait (canon_pairFlag h5)) (canon_takeover h5))
        · exact (canon_partnerGone h5)
        · exact h5) h

theorem canon_mirrorFrame {s : State} {a1 : Nat} {a2 : MirrorItem} {a3 : Bool} (h : Canon s) : Canon (mirrorFrame s a1 a2 a3).1 :=
  by
  unfold mirrorFrame
  extract_lets x0
  exact (canon_ite1 (canon_pairStat h) (canon_ite1 (canon_setPair (canon_applyMirror h)) h))

theorem canon_execMirror {a0 : Nat} {a1 : Nat} {a2 : MirrorItem} {a3 : Bool} {s : State} (h : Canon s) : CanonN (execMirror a0 a1 a2 a3 s) :=
  canon_live (fun s h => (canon_ite (canon_mirrorFrame h) h)) h

theorem canon_execResyncData {a0 : Nat} {a1 : Nat} {a2 : MirrorItem} {a3 : Bool} {a4 : Bool} {a5 : Nat} {s : State} (h : Canon s) : CanonN (execResyncData a0 a1 a2 a3 a4 a5 s) :=
  canon_live (fun s h => by
    split
    · split
      · extract_lets x3
        exact (canon_ite (canon_tryStandby (canon_setPair (canon_fst ‹_› (canon_mirrorFrame h)))) (canon_fst ‹_› (canon_mirrorFrame h)))
    · exact h) h

theorem canon_frameAcked {s : State} {a1 : MirrorFrame} (h : Canon s) : Canon (frameAcked s a1) := by
  unfold frameAcked
  extract_lets x0
  split
  · exact (canon_setPair h)
  · exact (canon_setPair h)
  · extract_lets x2
    exact (canon_ite (canon_releaseAll (canon_setTrav h)) h)
  · exact h

theorem canon_execMirrorAck {a0 : Nat} {s : State} (h : Canon s) : CanonN (execMirrorAck a0 s) :=
  canon_live (fun s h => by
    extract_lets x1
    split
    · exact h
    · extract_lets x3 x4
      have h5 : Canon x4 := (canon_setPair h)
      exact (canon_handOver (canon_foldl (fun _ _ h6 => (canon_frameAcked h6)) h5))) h

theorem canon_execMirrorResend {s : State} (h : Canon s) : CanonN (execMirrorResend s) :=
  canon_live (fun s h => (canon_pairStat h)) h

theorem canon_execResyncReq {s : State} (h : Canon s) : CanonN (execResyncReq s) := canon_live (fun s h => by
    extract_lets x1 x2 x3
    have h4 : Canon x1 := (canon_partnerGone h)
    have h5 : Canon x3 := (canon_foldl (fun _ _ h5 => (canon_mirror h5)) (canon_setPair h4))
    exact (canon_ite (canon_pairStat h5) h)) h

theorem canon_execStakeMirrorTimeout {a0 : Fin 4} {s : State} (h : Canon s) : CanonN (execStakeMirrorTimeout a0 s) :=
  canon_live (fun s h => by
    extract_lets x1
    exact (canon_ite (canon_releaseAll (canon_partnerGone (canon_setTrav h))) h)) h

theorem canon_execWaitExpiry {s : State} (h : Canon s) : CanonN (execWaitExpiry s) := canon_live (fun s h => by
    extract_lets x1
    exact (canon_ite h (canon_ite (canon_pairFlag h) (canon_setPair h)))) h

theorem canon_execClaimSample {s : State} (h : Canon s) : CanonN (execClaimSample s) := canon_live (fun s h => by
    extract_lets x1
    exact (canon_ite h (canon_ite (canon_coldClaim h) (canon_ite (canon_setPair h) (canon_setPair h))))) h

theorem canon_execPeerActiveChange {a0 : Bool} {s : State} (h : Canon s) : CanonN (execPeerActiveChange a0 s) :=
  canon_aon (fun s h => by
    extract_lets x1 x2 x3
    have h4 : Canon x3 := (canon_setPair h)
    exact (canon_ite h4 (canon_ite (canon_coldClaim h4) (canon_ite (canon_ite (canon_takeover h4) (canon_ite (canon_pairFlag h4) h4)) h4)))) h

theorem canon_enterFenced {s : State} (h : Canon s) : Canon (enterFenced s) := by
  unfold enterFenced
  exact (canon_yieldRole (canon_partnerGone h))

theorem canon_execPeerActiveHeld {s : State} (h : Canon s) : CanonN (execPeerActiveHeld s) := canon_live (fun s h => by
    extract_lets x1
    exact (canon_ite h (canon_ite (canon_setPair h) (canon_ite (canon_enterFenced h) h)))) h

theorem canon_execSwitchover {s : State} (h : Canon s) : CanonN (execSwitchover s) := canon_live (fun s h => by
    extract_lets x1 x2
    have h3 : Canon x1 := (canon_pairStat h)
    exact (canon_ite h (canon_ite (canon_setPair h3) (canon_takeover h3)))) h

theorem canon_pairKicked {s : State} {a1 : Nat} (h : Canon s) : Canon (pairKicked s a1) := by
  unfold pairKicked
  extract_lets x0
  exact (canon_ite (canon_setPair h) h)

theorem canon_execPairKick {a0 : CoreId} {a1 : Nat} {s : State} (h : Canon s) : CanonN (execPairKick a0 a1 s) :=
  canon_live (fun s h => (canon_pairKicked h)) h

theorem canon_execKickTimeout {s : State} (h : Canon s) : CanonN (execKickTimeout s) :=
  canon_live (fun s h => (canon_ite (canon_logEvent (canon_enterFenced h)) h)) h

theorem canon_pairCmd {a0 : Bytes} {s : State} (h : Canon s) : Canon (pairCmd a0 s).1 := by
  unfold pairCmd
  extract_lets x0
  exact (canon_ite1 (canon_ite1 h (canon_ite1 h (canon_handOver (canon_setPair h)))) (canon_ite1 h (canon_ite1 h (canon_beginSync h))))

theorem canon_stepTail {s : State} (h : Canon s) : Canon (stepTail s) := by
  unfold stepTail
  exact (canon_lateStakes (canon_chainStepped (canon_foldl (fun _ _ h0 => (canon_gateStepped h0)) h)))

theorem canon_stepDone {s : State} {a1 : StepReq} {a2 : Res} (h : Canon s) : Canon (stepDone s a1 a2) := by
  unfold stepDone
  split
  · exact h
  · split
    · exact h
    · split
      · split
        · exact (canon_releaseOp (canon_recordCmd h))
        · exact h
      · exact h

theorem canon_dropStep {s : State} {a1 : StepReq} (h : Canon s) : Canon (dropStep s a1) := by
  unfold dropStep
  extract_lets x0
  exact (canon_setDatum h)

theorem canon_execStepApply {s : State} (h : Canon s) : CanonN (execStepApply s) := canon_live (fun s h => by
    split
    · exact h
    · split
      · exact h
      · split
        · exact (canon_ite (canon_stepDone (canon_cmdOut (canon_stepTail (canon_fst ‹_› (canon_applyStep (canon_dropStep h)))))) (canon_stepDone (canon_fst ‹_› (canon_applyStep (canon_dropStep h)))))) h

theorem canon_execFollowStep {s : State} (h : Canon s) : CanonN (execFollowStep s) := canon_live (fun s h => by
    split
    · exact h
    · split
      · exact h
      · split
        · exact (canon_ite (canon_stepTail (canon_fst ‹_› (canon_applyStep (canon_dropStep h)))) (canon_fst ‹_› (canon_applyStep (canon_dropStep h))))) h

theorem canon_execDatumAdvance {a0 : Nat} {s : State} (h : Canon s) : CanonN (execDatumAdvance a0 s) :=
  canon_live (fun s h => by
    extract_lets x1 x2 x3 x4
    have h5 : Canon x1 := (canon_advanceDatum h)
    have h6 : Canon x3 := (canon_setStart h5)
    split
    · split
      · exact (canon_setPower (canon_powerOut h6))
      · exact h6
    · exact h) h

theorem canon_entryQuiet {s : State} (h : Canon s) : Canon (entryQuiet s) := by
  unfold entryQuiet
  extract_lets x0 x1 x2 x3 x4 x5 x6
  have h7 : Canon x0 := (canon_closeRemote h)
  have h8 : Canon x1 := (canon_foldl (fun _ _ h8 => (canon_radioDown (canon_abortTx h8))) h7)
  have h9 : Canon x2 := (canon_foldl (fun _ _ h9 => (canon_offTrx h9)) h8)
  have h10 : Canon x3 := (canon_foldl (fun _ _ h10 => (canon_linkDown h10)) h9)
  have h11 : Canon x4 := (canon_release (canon_release (canon_release h10)))
  have h12 : Canon x5 := (canon_ite (canon_toWait h11) h11)
  exact (canon_setPair (canon_release h12))

theorem canon_entryDrain {s : State} (h : Canon s) : Canon (entryDrain s) := by
  unfold entryDrain
  extract_lets x0 x1 x2 x3 x4 x5
  have h6 : Canon x1 := (canon_stat h)
  exact (canon_mk h6)

theorem canon_entryDram {s : State} (h : Canon s) : Canon (entryDram s) := by
  unfold entryDram
  exact (canon_ite (canon_enterSelfRefresh h) h)

theorem canon_copyStartup {s : State} (h : Canon s) : Canon (copyStartup s) := by
  unfold copyStartup
  extract_lets x0
  exact (canon_setStart h)

theorem canon_standBy {s : State} {a1 : SleepEntry} (h : Canon s) : Canon (standBy s a1) := by
  unfold standBy
  extract_lets x0 x1 x2
  have h3 : Canon x0 := (canon_stat h)
  exact (canon_mk h3)

theorem canon_hibernate {s : State} {a1 : SleepEntry} (h : Canon s) : Canon (hibernate s a1) := by
  unfold hibernate
  extract_lets x0 x1 x2 x3
  have h4 : Canon x1 := (canon_resetMain h)
  exact (canon_mk h4)

theorem canon_beginWake {s : State} (h : Canon s) : Canon (beginWake s) := by
  unfold beginWake
  extract_lets x0 x1 x2 x3
  have h4 : Canon x2 := (canon_startRequest h)
  exact (canon_setStart h4)

theorem canon_execEntryDone {s : State} (h : Canon s) : CanonN (execEntryDone s) := canon_live (fun s h => by
    extract_lets x1
    have h2 : Canon x1 := (canon_copyStartup (canon_entryDrain (canon_entryQuiet h)))
    split
    · exact h
    · extract_lets x4
      have h5 : Canon x4 := (canon_ite (canon_hibernate h2) (canon_standBy (canon_entryDram h2)))
      exact (canon_ite h5 (canon_beginWake (canon_setFlag (canon_stat h5))))) h

theorem canon_resumeUnits {s : State} (h : Canon s) : Canon (resumeUnits s) := by
  unfold resumeUnits
  extract_lets x0 x1 x2
  have h3 : Canon x0 := (canon_ite (canon_exitSelfRefresh h) h)
  have h4 : Canon x1 := (canon_foldl (fun _ _ h4 => (canon_ite h4 (canon_request h4))) h3)
  have h5 : Canon x2 := by
    unfold x2
    split
    · split
      · extract_lets x8
        exact (canon_setPair (canon_fst ‹_› (canon_request h4)))
    · exact h4
  exact (canon_startRadios (fun _ _ h6 => (canon_radioUp h6)) h5)

theorem canon_execEntryAborted {a0 : Nat} {a1 : Nat} {s : State} (h : Canon s) : CanonN (execEntryAborted a0 a1 s) :=
  canon_live (fun s h => by
    extract_lets x1 x2 x3 x4
    have h5 : Canon x1 := (canon_ite (canon_entryQuiet h) h)
    have h6 : Canon x2 := (canon_ite (canon_entryDrain h5) h5)
    have h7 : Canon x4 := (canon_setPower h6)
    split
    · exact h
    · extract_lets x9 x10 x11
      have h12 : Canon x10 := (canon_entryRecord h7)
      have h13 : Canon x11 := (canon_powerOut h12)
      exact (canon_ite h (canon_ite (canon_resumeUnits h13) h13))) h

theorem canon_exitStandby {s : State} (h : Canon s) : Canon (exitStandby s) := by
  unfold exitStandby
  extract_lets x0 x1 x2 x3 x4 x5 x6
  have h7 : Canon x1 := (canon_setStart h)
  have h8 : Canon x2 := by
    unfold x2
    split
    · exact (canon_powerOut (canon_stat h7))
    · exact h7
  have h9 : Canon x4 := (canon_setPower h8)
  have h10 : Canon x5 := (canon_foldl (fun _ _ h10 => (canon_modCore h10)) h9)
  exact (canon_ite (canon_setPair (canon_setDatum h10)) (canon_resumeUnits (canon_coreDvfsWritten (canon_ite (canon_setPair h10) h10))))

theorem canon_execPllLock {s : State} (h : Canon s) : CanonN (execPllLock s) := canon_aon (fun s h => by
    extract_lets x1 x2
    have h3 : Canon x2 := (canon_setStart h)
    exact (canon_ite (canon_ite (canon_exitStandby h3) h3) h)) h

theorem canon_execWake {a0 : Fin 6} {s : State} (h : Canon s) : CanonN (execWake a0 s) := canon_aon (fun s h => by
    extract_lets x1 x2
    have h3 : ∀ y00, Canon y00 → Canon (x2 y00) := by
      intro _ h4
      unfold x2
      extract_lets x5
      exact (canon_setPower h4)
    split
    · exact (canon_startRequest h)
    · split
      · exact (canon_ite (h3 _ h) h)
      · exact (canon_ite (canon_beginWake (h3 _ h)) h)
      · exact h) h

end Sys2Proof.Machine
end

