-- ==== Sys2Proof/Laws/CanonDict.lean ====
section
/-! SUPPORT. The canonical form is kept by the dictionary engine, the host windows, DMA and the rows that are writes: one lemma for each operation, which cites those
of the operations it calls. -/

namespace Sys2Proof.Machine
open Sys2Proof

theorem canon_describe {a0 : Bytes} {s : State} (h : Canon s) : Canon (describe a0 s).1 := by
  unfold describe
  extract_lets x0 x1
  split
  · exact h
  · exact (canon_cmdOut h)

theorem canon_abortUnit {a0 : Nat} {a1 : Nat} {s : State} (h : Canon s) : CanonOP (abortUnit a0 a1 s) := by
  unfold abortUnit
  extract_lets x0
  split
  · exact (canon_diteOP (fun _ => (canonOP_some (canon_takeDeferred (canon_abortTx h)))) (fun _ => canonOP_none))
  · exact (canon_diteOP (fun _ => (canonOP_some (canon_takeDeferred (canon_abortRx h)))) (fun _ => canonOP_none))
  · exact (canon_diteOP (fun _ => (canonOP_some (canon_abortLane h))) (fun _ => canonOP_none))
  · exact (canon_diteOP (fun _ => (canonOP_some (canon_abortDma h))) (fun _ => canonOP_none))
  · exact (canon_iteOP (canonOP_some (canon_ite (canon_abortThread h) h)) canonOP_none)
  · exact (canon_iteOP (canonOP_some (canon_abortMigration h)) canonOP_none)
  · exact (canon_iteOP (canonOP_some (canon_abortUpdate h)) canonOP_none)
  · exact canonOP_none

theorem canon_abortRefused {s : State} {a1 : Bytes} {a2 : Res} (h : Canon s) : Canon (abortRefused s a1 a2).1 := by
  unfold abortRefused
  extract_lets x0
  exact (canon_setDict h)

theorem canon_abortCmd {a0 : Bytes} {s : State} (h : Canon s) : Canon (abortCmd a0 s).1 := by
  unfold abortCmd
  extract_lets x0 x1
  split
  · exact (canon_ite1 (canon_abortTrav h) (canon_abortRefused h))
  · split
    · exact (canon_abortDone (canonOP_get ‹_› (canon_abortUnit h)))
    · exact (canon_abortRefused h)

theorem canon_unitCmd {a0 : Env} {a1 : Session} {a2 : Nat} {a3 : Bytes} {s : State} (h : Canon s) : Canon (unitCmd a0 a1 a2 a3 s).1 :=
  by
  unfold unitCmd
  split
  · exact (canon_describe h)
  · exact (canon_diagTx h)
  · exact (canon_staAlloc h)
  · exact (canon_staFree h)
  · exact (canon_baCmd h)
  · exact (canon_twtCmd h)
  · exact (canon_memberCmd h)
  · exact (canon_ruleCmd h)
  · exact (canon_bridgeCmd h)
  · exact (canon_routeCmd h)
  · exact (canon_flowCmd h)
  · exact (canon_pcieCfg h)
  · exact (canon_i2cXfer h)
  · exact (canon_capturePop h)
  · exact (canon_keyCmd h)
  · exact (canon_rekeyPop h)
  · exact (canon_attest h)
  · exact (canon_extend h)
  · exact (canon_fuseCmd h)
  · exact (canon_debugUnlock h)
  · exact (canon_migrateCmd h)
  · exact (canon_powerCmd h)
  · exact (canon_pairCmd h)
  · exact (canon_logAck h)
  · exact (canon_benchmark h)
  · exact h

theorem canon_writeCmd {a0 : Env} {a1 : Session} {a2 : Nat} {a3 : Nat} {a4 : Bytes} {s : State} (h : Canon s) : Canon (writeCmd a0 a1 a2 a3 a4 s).1 :=
  by
  unfold writeCmd
  extract_lets x0 x1 x2
  have h3 : Canon x0 := (canon_cmdOut h)
  have h4 : ∀ y00, Canon y00.1 → Canon (x1 y00).1 := by
    intro _ h5
    unfold x1
    exact (canon_recordCmd h5)
  have h5 : ∀ y00 y01, Canon y00.1 → Canon (x2 y00 y01).1 := by
    intro _ _ h6
    unfold x2
    split
    · exact (h4 _ h6)
    · exact h6
  split
  · split
    · exact (canon_fst ‹_› (canon_abortCmd h))
  · split
    · exact (h5 _ _ (canon_versionCmd h3))
    · exact (h5 _ _ (canon_stepWrite h3))
    · exact (h5 _ _ (canon_updateCmd h3))
    · exact (h4 _ (canon_unitCmd h3))

theorem canon_unitWrite {a0 : Nat} {a1 : Nat} {a2 : Bytes} {s : State} (h : Canon s) : Canon (unitWrite a0 a1 a2 s).1 :=
  by
  unfold unitWrite
  extract_lets x0 x1
  have h2 : Canon x1 := (canon_mirrorChange (canon_setObj h))
  split
  · exact (canon_clearFlags h)
  · split
    · exact (canon_updateData h)
    · split
      · exact (canon_staEntry h)
      · split
        · exact (canon_tableWrite h)
        · split
          · exact (canon_ppModeCmd h)
          · split
            · exact (canon_incrWritten h2)
            · exact (canon_dite (fun _ => (canon_tpoConfigured h2)) (fun _ => h2))
            · exact (canon_coreDvfsWritten h2)
            · exact (canon_gpioWritten h2)
            · exact h2

theorem canon_askFirmware {s : State} {a1 : Nat} {a2 : Op} {a3 : Nat} (h : Canon s) : Canon (askFirmware s a1 a2 a3).1 :=
  by
  unfold askFirmware
  extract_lets x0 x1 x2
  have h3 : Canon x2 := (canon_setDict h)
  exact (canon_postFixed h3)

theorem canon_writeRefused {s : State} {a1 : Acc} {a2 : Nat} {a3 : Nat} {a4 : Bytes} {a5 : Res} (h : Canon s) : Canon (writeRefused s a1 a2 a3 a4 a5).1 :=
  by
  unfold writeRefused
  exact (canon_ite1 (canon_ite1 (canon_abortRefused h) (canon_ite1 (canon_recordCmd (canon_powerOut h)) (canon_recordCmd (canon_cmdOut h)))) h)

theorem canon_opWrite {a0 : Env} {a1 : Session} {a2 : Op} {s : State} (h : Canon s) : Canon (opWrite a0 a1 a2 s).1 := by
  unfold opWrite
  split
  · exact h
  · extract_lets x1 x2 x3
    have h4 : Canon x3.1 := (canon_unitWrite h)
    split
    · exact h
    · exact (canon_ite1 (canon_writeRefused h) (canon_ite1 h (canon_ite1 (canon_askFirmware h) (canon_ite1 (canon_writeCmd h) h4))))

theorem canon_opStage {a0 : Session} {a1 : Op} {s : State} (h : Canon s) : Canon (opStage a0 a1 s).1 := by
  unfold opStage
  extract_lets x0 x1
  split
  · exact h
  · extract_lets x3 x4 x5 x6
    split
    · exact h
    · split
      · exact h
      · split
        · exact h
        · split
          · exact h
          · split
            · exact h
            · split
              · exact h
              · clear_value x0
                split
                · exact (canon_watchTrav (canon_setTrav h))
                · split
                  · exact h
                  · extract_lets x15
                    exact (canon_watchTrav (canon_setTrav h))

theorem canon_readOne {s : State} {a1 : Nat} {a2 : Nat} (h : Canon s) : Canon (readOne s a1 a2).1 := by
  unfold readOne
  split
  · exact h
  · exact (canon_ite1 h (canon_readObj h))

theorem canon_readRange {a0 a1 a2 a3 : Nat} {s : State} {a5 : Bytes} (h : Canon s) :
    Canon (readRange a0 a1 a2 a3 s a5).1 := by
  induction a0 generalizing a2 s a5 with
  | zero => exact h
  | succ n ih =>
    unfold readRange
    split
    rename_i e
    exact canon_ite1 h (ih (canon_fst e (canon_readOne h)))

theorem canon_opRead {a0 : Env} {a1 : Session} {a2 : Op} {a3 : Nat} {s : State} (h : Canon s) : Canon (opRead a0 a1 a2 a3 s).1 :=
  by
  unfold opRead
  extract_lets x0 x1
  split
  · exact h
  · split
    · exact h
    · split
      · exact h
      · split
        · exact h
        · split
          · exact h
          · split
            · exact (canon_askFirmware h)
            · split
              · exact h
              · split
                · split
                  · split
                    · exact h
                    · split
                      · exact (canon_fst ‹_› (canon_readRange h))
                · split
                  · exact (canon_fst ‹_› (canon_readOne h))

theorem canon_sample {s : State} {a1 : Nat} {a2 : Nat} (h : Canon s) : CanonOP (sample s a1 a2) := by
  unfold sample
  split
  · exact canonOP_none
  · split
    · split
      · extract_lets x3
        exact (canon_iteOP canonOP_none (canonOP_some (canon_drawBytes (canon_snd ‹_› (canon_draw h)))))
    · split
      · exact canonOP_none
      · split
        · exact (canonOP_some h)
        · split
          · exact (canon_iteOP (canonOP_some (canon_fst ‹_› (canon_readObj h))) canonOP_none)

theorem canon_sendNotify {s : State} {a1 : Sub} (h : Canon s) : Canon (sendNotify s a1) := by
  unfold sendNotify
  extract_lets x0 x1 x2
  have h3 : ∀ y00 y01, Canon y00 → Canon (x0 y00 y01) := by
    intro _ _ h4
    unfold x0
    extract_lets x5
    exact (canon_setDict h4)
  split
  · split
    · extract_lets x6 x7 x8 x9
      exact (h3 _ _ (canon_sendRemote (canon_snd ‹_› (canon_draw (canonOP_get ‹_› (canon_sample h))))))
  · exact (h3 _ _ (canon_mk h))
  · exact h

theorem canon_opSubscribe {a0 : Session} {a1 : Op} {s : State} (h : Canon s) : Canon (opSubscribe a0 a1 s).1 := by
  unfold opSubscribe
  extract_lets x0 x1 x2
  split
  · exact h
  · exact (canon_ite1 h (canon_ite1 h (canon_ite1 h (canon_ite1 (canon_setDict h) (canon_ite1 h (canon_sendNotify (canon_setDict h)))))))

theorem canon_opStake {a0 : Session} {a1 : Op} {s : State} (h : Canon s) : Canon (opStake a0 a1 s).1 := by
  unfold opStake
  split
  · exact (canon_fst ‹_› (canon_travStake h))
  · extract_lets x1 x2
    have h3 : Canon x2 := (canon_mirror (canon_fst ‹_› (canon_travStake h)))
    exact (canon_ite1 (canon_setTrav h3) (canon_fst ‹_› (canon_travStake h)))

theorem canon_opClose {a0 : Session} {s : State} (h : Canon s) : Canon (opClose a0 s).1 := by
  unfold opClose
  split
  · exact h
  · extract_lets x1
    exact (canon_ite1 (canon_askClosure h) (canon_travClose h))

theorem canon_noValue {a0 : Op} {s : State} {a2 : State → State × Res} (h : Canon s) (h'1 : ∀ y00, Canon y00 → Canon (a2 y00).1) : Canon (noValue a0 s a2).1 :=
  by
  unfold noValue
  exact (canon_ite1 (h'1 _ h) h)

theorem canon_runOp {a0 : Env} {a1 : Session} {a2 : Op} {a3 : Nat} {s : State} (h : Canon s) : Canon (runOp a0 a1 a2 a3 s).1 :=
  by
  unfold runOp
  split
  · exact h
  · split
    · exact h
    · split
      · exact h
      · split
        · split
          · exact (canon_writeRefused h)
          · exact h
        · split
          · exact (canon_opRead h)
          · exact (canon_opWrite h)
          · exact (canon_opStage h)
          · exact (canon_ite1 (canon_opClose h) h)
          · exact (canon_opStake h)
          · exact (canon_noValue h (fun _ h5 => (canon_travAbortOwn h5)))
          · exact (canon_opSubscribe h)
          · exact (canon_noValue h (fun _ h5 => (canon_releaseSession h5)))

theorem canon_runExec {a0 : Env} {a1 a2 : Nat} {s : State} (h : Canon s) : Canon (runExec a0 a1 a2 s) := by
  induction a2 generalizing s with
  | zero => exact h
  | succ n ih =>
    unfold runExec
    split
    · exact h
    · split
      · exact h
      · split
        · exact h
        · split
          · exact canon_finishExec h
          · extract_lets +onlyGivenNames push
            have hp : ∀ s r v, Canon s → Canon (push s r v) := fun s r v h => canon_setExec (canon_mk h)
            split
            · exact canon_noRoom h
            · split
              · exact ih (hp _ _ _ h)
              · split
                · exact canon_ite (canon_noRoom h) (ih (hp _ _ _ (canon_fst ‹_› (canon_runOp h))))
                · exact canon_ite (canon_noRoom h) (canon_setExec (canon_fst ‹_› (canon_runOp h)))

theorem canon_runLeft {a0 : Env} {a1 : Nat} {s : State} (h : Canon s) : Canon (runLeft a0 a1 s) := by
  unfold runLeft
  split
  · exact h
  · exact (canon_runExec h)

theorem canon_startPdu {a0 : Env} {a1 : Nat} {a2 : Pdu} {s : State} (h : Canon s) : Canon (startPdu a0 a1 a2 s) := by
  unfold startPdu
  extract_lets x0
  have h1 : Canon x0 := (canon_modSess h)
  exact (canon_runLeft h1)

theorem canon_directOp {a0 : Env} {a1 : Nat} {a2 : Op} {s : State} (h : Canon s) : Canon (directOp a0 a1 a2 s) := by
  unfold directOp
  split
  · exact h
  · exact (canon_ite h (canon_runLeft (canon_setExec h)))

theorem canon_reread {a0 : Nat} {s : State} (h : Canon s) : Canon (reread a0 s) := by
  unfold reread
  split
  · exact h
  · split
    · exact h
    · split
      · exact h
      · split
        · exact (canon_ite (canon_noRoom h) (canon_releaseOp (canon_fst ‹_› (canon_opRead h))))
        · exact (canon_ite (canon_noRoom h) (canon_setExec (canon_fst ‹_› (canon_opRead h))))

theorem canon_discardPdu {s : State} (h : Canon s) : Canon (discardPdu s) := by
  unfold discardPdu
  exact (canon_addObjF h)

theorem canon_gcmFail {s : State} (h : Canon s) : Canon (gcmFail s) := by
  unfold gcmFail
  exact (canon_addObjF h)

theorem canon_openAnswer {s : State} {a1 : Transport} {a2 : Nat} {a3 : Nat} {a4 : RespOp} (h : Canon s) : Canon (openAnswer s a1 a2 a3 a4) :=
  by
  unfold openAnswer
  exact (canon_sendRemote (canon_mk h))

theorem canon_open1Refused {s : State} {a1 : Transport} {a2 : Op} {a3 : Res} (h : Canon s) : Canon (open1Refused s a1 a2 a3) :=
  by
  unfold open1Refused
  exact (canon_openAnswer (canon_ite (canon_addObjF h) h))

theorem canon_openSession {s : State} {a1 : Transport} {a2 : Op} (h : Canon s) : Canon (openSession s a1 a2) := by
  unfold openSession
  extract_lets x0 x1 x2 x3
  split
  · split
    · extract_lets x6 x7 x8 x9 x10 x11 x12
      have h13 : Canon x11 := (canon_setDict (canon_snd ‹_› (canon_drawBytes (canon_snd ‹_› (canon_drawBytes h)))))
      exact (canon_openAnswer h13)

theorem canon_openOne {s : State} {a1 : Transport} {a2 : Op} (h : Canon s) : Canon (openOne s a1 a2) := by
  unfold openOne
  extract_lets x0 x1 x2
  have h3 : Canon x2 := (canon_setDict h)
  split
  · exact h
  · split
    · exact (canon_open1Refused h3)
    · exact (canon_openSession h3)

theorem canon_openThree {a0 : Env} {a1 : Session} {a2 : Op} {s : State} (h : Canon s) : Canon (openThree a0 a1 a2 s) :=
  by
  unfold openThree
  extract_lets x0 x1 x2 x3
  have h4 : Canon x3 := (canon_modSess h)
  exact (canon_ite (canon_openAnswer (canon_addObjF h)) (canon_ite (canon_openAnswer h) (canon_sendRemote (canon_mk h4))))

theorem canon_oldPdu {s : State} {a1 : Session} {a2 : Nat} (h : Canon s) : Canon (oldPdu s a1 a2) := by
  unfold oldPdu
  extract_lets x0
  split
  · exact (canon_deliver h)
  · exact (canon_ite (canon_modSess h) (canon_ite (canon_answerChan h) h))

theorem canon_acceptPdu {a0 : Env} {a1 : Session} {a2 : Pdu} {s : State} (h : Canon s) : Canon (acceptPdu a0 a1 a2 s) :=
  by
  unfold acceptPdu
  exact (canon_ite (canon_oldPdu h) (canon_ite (canon_ite (canon_answerChan (canon_discardPdu h)) (canon_discardPdu h)) (canon_ite (canon_startPdu h) (canon_ite h (canon_modSess h)))))

theorem canon_remotePdu {a0 : Env} {a1 : Transport} {a2 : Bytes} {a3 : Bytes} {a4 : Session} {s : State} (h : Canon s) : Canon (remotePdu a0 a1 a2 a3 a4 s) :=
  by
  unfold remotePdu
  extract_lets x0 x1
  have h2 : Canon x1 := (canon_modSess h)
  split
  · split
    · exact (canon_sendRemote h)
    · exact h
  · split
    · exact (canon_gcmFail h)
    · split
      · exact (canon_discardPdu h)
      · exact (canon_acceptPdu h2)

theorem canon_fromRemote {a0 : Env} {a1 : Transport} {a2 : Bytes} {a3 : Bytes} {s : State} (h : Canon s) : Canon (fromRemote a0 a1 a2 a3 s) :=
  by
  unfold fromRemote
  extract_lets x0
  split
  · exact (canon_discardPdu h)
  · split
    · exact (canon_discardPdu h)
    · split
      · exact (canon_discardPdu h)
      · split
        · clear_value x0
          split
          · exact (canon_openOne h)
          · exact h
        · split
          · exact (canon_gcmFail h)
          · split
            · exact (canon_remotePdu h)
            · split
              · exact (canon_gcmFail h)
              · split
                · exact (canon_ite (canon_openThree h) (canon_gcmFail h))
                · exact (canon_gcmFail h)

theorem canon_fromLocal {a0 : Env} {a1 : Nat} {a2 : Bytes} {s : State} (h : Canon s) : Canon (fromLocal a0 a1 a2 s) :=
  by
  unfold fromLocal
  extract_lets x0 x1
  have h2 : ∀ y00, Canon y00 → Canon (x0 y00) := by
    intro _ h3
    unfold x0
    exact (canon_answerChan (canon_discardPdu h3))
  split
  · exact (h2 _ h)
  · split
    · exact (canon_answerChan (canon_mk h))
    · split
      · split
        · extract_lets x7
          exact (canon_answerChan (canon_mk h))
        · exact (h2 _ h)
      · split
        · exact (canon_acceptPdu h)
        · exact (h2 _ h)

theorem canon_submitPdu {a0 : Env} {a1 : Nat} {a2 : Option Bytes} {s : State} (h : Canon s) : Canon (submitPdu a0 a1 a2 s) :=
  by
  unfold submitPdu
  extract_lets x0
  have h1 : Canon x0 := (canon_modChan h)
  split
  · exact h
  · split
    · exact (canon_answerChan h1)
    · split
      · exact (canon_answerChan (canon_discardPdu h1))
      · exact (canon_fromLocal h1)

theorem canon_portGo {a0 : Env} {a1 : Nat} {s : State} (h : Canon s) : Canon (portGo a0 a1 s) := by
  unfold portGo
  exact (canon_ite h (canon_submitPdu h))

theorem canon_pduArrives {a0 : Env} {a1 : Transport} {a2 : Bytes} {a3 : Bytes} {s : State} (h : Canon s) : Canon (pduArrives a0 a1 a2 a3 s) :=
  by
  unfold pduArrives
  split
  · exact (canon_ite h (canon_submitPdu h))
  · exact (canon_submitPdu h)
  · split
    · exact h
    · split
      · exact (canon_discardPdu h)
      · exact (canon_fromRemote h)

theorem canon_execPduReceive {a0 : Transport} {a1 : Bytes} {a2 : Bytes} {a3 : Bytes} {a4 : Env} {s : State} (h : Canon s) : CanonN (execPduReceive a0 a1 a2 a3 a4 s) :=
  canon_live (fun s h => (canon_pduArrives h)) h

theorem canon_execDpGo {a0 : Fin 9} {a1 : Env} {s : State} (h : Canon s) : CanonN (execDpGo a0 a1 s) :=
  canon_live (fun s h => (canon_portGo h)) h

theorem canon_execOpen1 {a0 : Transport} {a1 : Bytes} {a2 : Nat} {a3 : Bytes} {s : State} (h : Canon s) : CanonN (execOpen1 a0 a1 a2 a3 s) :=
  canon_live (fun s h => by
    extract_lets x1
    exact (canon_pduArrives h)) h

theorem canon_execOpen3 {a0 : Nat} {a1 : Env} {s : State} (h : Canon s) : CanonN (execOpen3 a0 a1 s) :=
  canon_live (fun s h => by
    split
    · exact (canon_gcmFail h)
    · exact (canon_pduArrives h)) h

theorem canon_execPduExecute {a0 : Nat} {a1 : Env} {s : State} (h : Canon s) : CanonN (execPduExecute a0 a1 s) :=
  canon_live (fun s h => by
    split
    · exact h
    · split
      · exact (canon_ite (canon_runLeft h) h)
      · split
        · exact (canon_startPdu h)
        · exact h) h

theorem canon_execSeqWaitExpiry {a0 : Nat} {s : State} (h : Canon s) : CanonN (execSeqWaitExpiry a0 s) :=
  canon_live (fun s h => by
    split
    · exact h
    · split
      · exact h
      · extract_lets x3
        exact (canon_ite h (canon_modSess (canon_addObjF h)))) h

theorem canon_execSessionIdleTimeout {a0 : Nat} {s : State} (h : Canon s) : CanonN (execSessionIdleTimeout a0 s) :=
  canon_live (fun s h => (canon_ite h (canon_closeSession h))) h

theorem canon_execRead {a0 : Nat} {a1 : Nat} {a2 : Nat} {a3 : ReadAsk} {s : State} (h : Canon s) : CanonN (execRead a0 a1 a2 a3 s) :=
  canon_live (fun s h => by
    split
    · exact (canon_directOp h)
    · exact (canon_directOp h)) h

theorem canon_execWrite {a0 : Nat} {a1 : Nat} {a2 : Nat} {a3 : Bytes} {a4 : Env} {s : State} (h : Canon s) : CanonN (execWrite a0 a1 a2 a3 a4 s) :=
  canon_live (fun s h => (canon_directOp h)) h

theorem canon_execStage {a0 : Nat} {a1 : Nat} {a2 : Nat} {a3 : Bytes} {s : State} (h : Canon s) : CanonN (execStage a0 a1 a2 a3 s) :=
  canon_live (fun s h => (canon_directOp h)) h

theorem canon_execClose {a0 : Nat} {s : State} (h : Canon s) : CanonN (execClose a0 s) :=
  canon_live (fun s h => (canon_directOp h)) h

theorem canon_execStake {a0 : Nat} {a1 : Bytes} {a2 : Bool} {s : State} (h : Canon s) : CanonN (execStake a0 a1 a2 s) :=
  canon_live (fun s h => (canon_directOp h)) h

theorem canon_execAbort {a0 : Nat} {s : State} (h : Canon s) : CanonN (execAbort a0 s) :=
  canon_live (fun s h => (canon_directOp h)) h

theorem canon_execSubscribe {a0 : Nat} {a1 : Nat} {a2 : Nat} {a3 : Bytes} {s : State} (h : Canon s) : CanonN (execSubscribe a0 a1 a2 a3 s) :=
  canon_live (fun s h => (canon_directOp h)) h

theorem canon_execEndSession {a0 : Nat} {s : State} (h : Canon s) : CanonN (execEndSession a0 s) :=
  canon_live (fun s h => (canon_directOp h)) h

theorem canon_execStatsRead {a0 : Nat} {a1 : Nat} {a2 : Nat} {s : State} (h : Canon s) : CanonN (execStatsRead a0 a1 a2 s) :=
  canon_live (fun s h => (canon_directOp h)) h

theorem canon_execNotify {a0 : Nat} {s : State} (h : Canon s) : CanonN (execNotify a0 s) := canon_live (fun s h => by
    split
    · exact h
    · exact (canon_ite (canon_sendNotify h) h)) h

theorem canon_takeReq {s : State} {a1 : Nat} (h : Canon s) : Canon (takeReq s a1) := by
  unfold takeReq
  extract_lets x0
  exact (canon_setDict h)

theorem canon_closeAnswered {s : State} {a1 : CloseAsk} (h : Canon s) : Canon (closeAnswered s a1) := by
  unfold closeAnswered
  extract_lets x0 x1 x2 x3
  have h4 : Canon x2 := (canon_setDict h)
  exact (canon_ite (canon_askClosure h) (canon_ite (canon_releaseAll (canon_travClose h4)) h4))

theorem canon_answerClosure {s : State} {a1 : Nat} {a2 : Option Bytes} (h : Canon s) : Canon (answerClosure s a1 a2) :=
  by
  unfold answerClosure
  extract_lets x0
  split
  · exact h
  · extract_lets x2 x3
    have h4 : Canon x3 := (canon_setDict h)
    exact (canon_ite (canon_closeAnswered h4) h4)

theorem canon_answerReq {s : State} {a1 : Nat} {a2 : Res} {a3 : Bytes} (h : Canon s) : Canon (answerReq s a1 a2 a3) :=
  by
  unfold answerReq
  split
  · exact h
  · exact (canon_ite (canon_answerClosure (canon_takeReq h)) (canon_releaseAll (canon_takeReq h)))

theorem canon_execFwAnswer {a0 : Nat} {a1 : Nat} {a2 : Nat} {a3 : Bytes} {s : State} (h : Canon s) : CanonN (execFwAnswer a0 a1 a2 a3 s) :=
  canon_live (fun s h => (canon_ite (canon_answerReq h) h)) h

theorem canon_execFwTimeout {a0 : Nat} {s : State} (h : Canon s) : CanonN (execFwTimeout a0 s) :=
  canon_live (fun s h => (canon_answerReq h)) h

theorem canon_execFwDeclare {a0 : List FwObject} {s : State} (h : Canon s) : CanonN (execFwDeclare a0 s) :=
  canon_live (fun s h => by
    extract_lets x1
    exact (canon_ite h (canon_setDict h))) h

theorem canon_rereadAll {s : State} {a1 : Nat} (h : Canon s) : Canon (rereadAll s a1) := by
  unfold rereadAll
  exact (canon_foldl (fun _ _ h0 => (canon_reread h0)) h)

theorem canon_execStakeLatched {a0 : Fin 4} {s : State} (h : Canon s) : CanonN (execStakeLatched a0 s) :=
  canon_live (fun s h => by
    extract_lets x1 x2 x3
    have h4 : Canon x3 := (canon_ite (canon_saveValues h) h)
    exact (canon_ite h (canon_rereadAll (canon_freeTrav h4)))) h

theorem canon_execPersistSave {a0 : Bool} {s : State} (h : Canon s) : CanonN (execPersistSave a0 s) :=
  canon_live (fun s h => by
    extract_lets x1 x2 x3
    split
    · exact h
    · extract_lets x5 x6
      have h7 : Canon x5 := (canon_mk h)
      exact (canon_ite (canon_poisonConsumed (canon_mk h)) (canon_setUpd h7))) h

theorem canon_commitWaiting {s : State} (h : Canon s) : Canon (commitWaiting s) := by
  unfold commitWaiting
  split
  · exact h
  · split
    · split
      · exact h
      · exact (canon_releaseOp (canon_recordCmd (canon_commitNow h)))
    · exact h

theorem canon_execVersionReclaim {a0 : Nat} {s : State} (h : Canon s) : CanonN (execVersionReclaim a0 s) :=
  canon_live (fun s h => (canon_commitWaiting (canon_reclaimStakes (canon_reclaim h)))) h

theorem canon_execVersionLiveTimeout {s : State} (h : Canon s) : CanonN (execVersionLiveTimeout s) :=
  canon_live (fun s h => (canon_releaseCmd h)) h

theorem canon_execAbortThread {a0 : Fin 512} {s : State} (h : Canon s) : CanonN (execAbortThread a0 s) :=
  canon_live (fun s h => by
    extract_lets x1
    exact (canon_abortDone (canon_ite (canon_abortThread h) h))) h

theorem canon_execAbortTraverse {a0 : Fin 4} {a1 : Bool} {s : State} (h : Canon s) : CanonN (execAbortTraverse a0 a1 s) :=
  canon_live (fun s h => by
    extract_lets x1 x2
    have h3 : Canon x2 := (canon_ite (canon_startApplying h) h)
    exact (canon_abortTrav h3)) h

theorem canon_w1c {s : State} {a1 : Nat} {a2 : Nat} {a3 : Nat} (h : Canon s) : Canon (w1c s a1 a2 a3) := by
  unfold w1c
  exact (canon_setReg h)

theorem canon_after {a0 : Out} {s : State} (h : CanonN a0) (h'1 : Canon s) : Canon (after a0 s) := by
  unfold after
  split
  · exact (canonN_get rfl h)
  · exact h'1

theorem canon_ringCtrl {s : State} {a1 : Nat} {a2 : Nat} {a3 : Bool} (h : Canon s) : Canon (ringCtrl s a1 a2 a3) := by
  unfold ringCtrl
  extract_lets x0 x1
  exact (canon_ite (canon_setReg h) (canon_setReg h))

theorem canon_ringWrite {a0 : Nat} {a1 : Nat} {a2 : Nat} {a3 : Nat} {a4 : Bool} {a5 : State → State} {s : State} (h : ∀ y00, Canon y00 → Canon (a5 y00)) (h'1 : Canon s) : CanonO (ringWrite a0 a1 a2 a3 a4 a5 s) :=
  by
  unfold ringWrite
  split
  · exact (canonO_only (canon_ite h'1 (canon_setReg h'1)))
  · exact canonO_none
  · exact (canonO_only (canon_ringCtrl h'1))
  · exact (canonO_only (h _ h'1))
  · exact (canonO_only h'1)
  · exact (canonO_only (canon_w1c h'1))
  · exact (canonO_only h'1)
  · exact (canonO_only h'1)
  · exact (canonO_some h'1)

theorem canon_plainRead {s : State} {a1 : Nat} {a2 : Nat} {a3 : Nat} (h : Canon s) : CanonOP (plainRead s a1 a2 a3) :=
  by
  unfold plainRead
  exact (canon_iteOP (canonOP_some h) (canonOP_only h))

theorem canon_areaWrite {a0 : Bool} {a1 : Nat} {a2 : Nat} {a3 : Nat} {s : State} (h : Canon s) : CanonO (areaWrite a0 a1 a2 a3 s) :=
  by
  unfold areaWrite
  split
  · exact (canonO_some h)
  · extract_lets x1 x2
    have h3 : ∀ y00, Canon y00 → Canon (x2 y00) := by
      intro _ h4
      unfold x2
      exact (canon_ite (canon_setReg h4) (canon_after (canon_execTxRingDoorbell h4) h4))
    exact (canon_ringWrite h3 h)

theorem canon_areaRead {a0 : Bool} {a1 : Nat} {a2 : Nat} {s : State} (h : Canon s) : CanonOP (areaRead a0 a1 a2 s) := by
  unfold areaRead
  split
  · exact (canonOP_some h)
  · exact (canon_plainRead h)

theorem canon_chanWrite {a0 : Nat} {a1 : Nat} {a2 : Nat} {a3 : Nat} {s : State} (h : Canon s) : CanonO (chanWrite a0 a1 a2 a3 s) :=
  by
  unfold chanWrite
  extract_lets x0
  exact (canon_iteO (canonO_only (canon_ite (canon_portGo h) h)) (canon_iteO (canonO_only (canon_ite (canon_modChan h) h)) (canon_iteO (canonO_only h) (canon_iteO (canonO_some (canon_modChan h)) (canonO_some h)))))

theorem canon_chanRead {a0 : Nat} {a1 : Nat} {a2 : Nat} {s : State} (h : Canon s) : CanonOP (chanRead a0 a1 a2 s) := by
  unfold chanRead
  extract_lets x0
  exact (canon_iteOP (canonOP_only h) (canon_iteOP (canonOP_only h) (canon_iteOP (canonOP_only h) (canon_iteOP (canonOP_some h) (canon_iteOP (canon_iteOP (canonOP_some (canon_draw h)) (canonOP_some h)) (canonOP_some h))))))

theorem canon_commonWrite {a0 : Nat} {a1 : Nat} {a2 : Nat} {s : State} (h : Canon s) : CanonO (commonWrite a0 a1 a2 s) :=
  by
  unfold commonWrite
  exact (canon_iteO canonO_none (canon_iteO (canonO_only (canon_after (canon_execUartDataWrite h) h)) (canon_iteO (canonO_only (canon_w1c h)) (canonO_some h))))

theorem canon_commonRead {a0 : Nat} {a1 : Nat} {s : State} (h : Canon s) : CanonOP (commonRead a0 a1 s) := by
  unfold commonRead
  extract_lets x0 x1 x2
  have h3 : Canon x2 := (canon_uartDrain h)
  split
  · exact (canonOP_only h)
  · split
    · exact (canonOP_only (by
        split
        · exact (canon_setWired h)
        · exact h))
    · exact (canon_iteOP (canonOP_only h3) (canonOP_some h))

theorem canon_dmaRegWrite {a0 : Nat} {a1 : Nat} {a2 : Nat} {s : State} (h : Canon s) : CanonO (dmaRegWrite a0 a1 a2 s) :=
  by
  unfold dmaRegWrite
  split
  · extract_lets x1 x2
    split
    · exact (canonO_only (canon_ite h (canon_setReg h)))
    · exact canonO_none
    · exact (canonO_only (canon_chCtrl h))
    · exact (canonO_only (canon_chDoorbell h))
    · exact (canonO_only h)
    · exact (canonO_only (canon_w1c h))
    · exact (canonO_only h)
    · exact (canonO_only h)
    · exact (canonO_some h)
  · exact (canonO_some h)

theorem canon_dmaRegRead {a0 : Nat} {a1 : Nat} {s : State} (h : Canon s) : CanonOP (dmaRegRead a0 a1 s) := by
  unfold dmaRegRead
  exact (canon_iteOP (canon_plainRead h) (canonOP_some h))

theorem canon_dspOp {a0 : CoreId} {a1 : Nat} {s : State} (h : Canon s) : Canon (dspOp a0 a1 s) := by
  unfold dspOp
  extract_lets x0
  split
  · exact (canon_after (canon_execCreate h) h)
  · exact (canon_after (canon_execWait h) h)
  · exact (canon_after (canon_execYield h) h)
  · exact (canon_after (canon_execExit h) h)
  · exact (canon_after (canon_execPost h) h)
  · exact (canon_after (canon_execSetPriority h) h)
  · exact (canon_after (canon_execThreadAbort h) h)
  · exact (canon_dspResult h)

theorem canon_dspRegWrite {a0 : Option CoreId} {a1 : Nat} {a2 : Nat} {a3 : Nat} {s : State} (h : Canon s) : CanonO (dspRegWrite a0 a1 a2 a3 s) :=
  by
  unfold dspRegWrite
  split
  · exact canonO_none
  · split
    · exact (canonO_some h)
    · split
      · exact (canonO_some h)
      · split
        · exact (canonO_only (canon_setReg h))
        · exact (canonO_only (canon_dspOp h))
        · exact (canonO_only (canon_w1c h))
        · exact (canon_iteO (canon_iteO (canonO_only h) canonO_none) (canon_iteO (canonO_only h) (canonO_some h)))

theorem canon_dspRegRead {a0 : Option CoreId} {a1 : Nat} {a2 : Nat} {s : State} (h : Canon s) : CanonOP (dspRegRead a0 a1 a2 s) :=
  by
  unfold dspRegRead
  split
  · exact canonOP_none
  · split
    · exact (canonOP_some h)
    · extract_lets x2 x3
      have h4 : Canon x3 := (canon_after (canon_execDspNextRead h) h)
      split
      · exact (canonOP_some h)
      · split
        · exact (canonOP_only h4)
        · exact (canonOP_only h)
        · exact (canonOP_only h)
        · exact (canonOP_only h)
        · exact (canonOP_only h)
        · exact (canon_iteOP (canon_iteOP (canonOP_only h) canonOP_none) (canon_iteOP (canonOP_only h) (canonOP_some h)))

theorem canon_dtmRegRead {a0 : Option CoreId} {a1 : Nat} {a2 : Nat} {s : State} (h : Canon s) : CanonOP (dtmRegRead a0 a1 a2 s) :=
  by
  unfold dtmRegRead
  extract_lets x0
  have h1 : Canon x0.1 := (canon_draw h)
  split
  · exact (canonOP_only (by
      split
      · exact (canon_after (canon_execDtmSnapRead h) h)
      · exact h1))
  · exact canonOP_none
  · exact (canonOP_only (by
      split
      · exact h
      · exact h1))
  · exact canonOP_none
  · exact (canonOP_only (by
      split
      · exact h
      · exact h1))
  · exact (canonOP_some h)

theorem canon_dtmRegWrite {a0 : Nat} {a1 : Nat} {s : State} (h : Canon s) : CanonO (dtmRegWrite a0 a1 s) := by
  unfold dtmRegWrite
  split
  · exact (canonO_only h)
  · exact canonO_none
  · exact (canonO_only h)
  · exact canonO_none
  · exact (canonO_only h)
  · exact (canonO_some h)

theorem canon_mrCmd {a0 : Nat} {s : State} (h : Canon s) : Canon (mrCmd a0 s) := by
  unfold mrCmd
  exact (canon_ite (canon_mrRead (canon_draw h)) (canon_mrWrite h))

theorem canon_mcRegWrite {a0 : Nat} {a1 : Nat} {a2 : Nat} {s : State} (h : Canon s) : CanonO (mcRegWrite a0 a1 a2 s) :=
  by
  unfold mcRegWrite
  extract_lets x0
  have h1 : Canon x0 := (canon_ite (canon_mcInit h) h)
  split
  · exact (canonO_only (canon_ite (canon_mcService h1) h1))
  · exact (canonO_only h)
  · exact (canonO_only (canon_trnCtrl h))
  · exact (canonO_only (canon_w1c h))
  · exact (canonO_only (canon_setReg h))
  · exact (canonO_only h)
  · exact canonO_none
  · exact (canonO_only h)
  · exact (canonO_only (canon_mrCmd h))
  · exact (canonO_only (canon_w1c h))
  · exact (canon_iteO (canonO_only (canon_laneDelay h)) (canonO_some h))

theorem canon_mcRegRead {a0 : Nat} {a1 : Nat} {s : State} (h : Canon s) : CanonOP (mcRegRead a0 a1 s) := by
  unfold mcRegRead
  split
  · exact (canonOP_only h)
  · exact (canonOP_only h)
  · exact (canonOP_only h)
  · exact canonOP_none
  · exact (canon_iteOP (canonOP_only h) (canonOP_some h))

theorem canon_radioRegWrite {a0 : Radio} {a1 : Nat} {a2 : Nat} {a3 : Nat} {s : State} (h : Canon s) : CanonO (radioRegWrite a0 a1 a2 a3 s) :=
  by
  unfold radioRegWrite
  extract_lets x0
  split
  · exact (canon_ringWrite (fun _ h2 => (canon_setReg h2)) h)
  · split
    · split
      · exact (canonO_only (canon_w1c h))
      · exact (canonO_some h)
      · exact (canon_ringWrite (fun _ h4 => (canon_mtxTail h4)) h)
    · exact (canonO_some h)

theorem canon_radioRegRead {a0 : Radio} {a1 : Nat} {a2 : Nat} {s : State} (h : Canon s) : CanonOP (radioRegRead a0 a1 a2 s) :=
  by
  unfold radioRegRead
  exact (canon_iteOP (canon_plainRead h) (canonOP_some h))

theorem canon_pairRegWrite {a0 : Nat} {a1 : Nat} {a2 : Nat} {s : State} (h : Canon s) : CanonO (pairRegWrite a0 a1 a2 s) :=
  by
  unfold pairRegWrite
  split
  · exact (canonO_only (canon_pairKicked h))
  · exact (canonO_only h)
  · exact (canonO_some h)

theorem canon_pairRegRead {a0 : Nat} {a1 : Nat} {s : State} (h : Canon s) : CanonOP (pairRegRead a0 a1 s) := by
  unfold pairRegRead
  split
  · exact (canonOP_only h)
  · exact (canonOP_only h)
  · exact (canonOP_some h)

theorem canon_windowWrite {a0 : Option CoreId} {a1 : Nat} {a2 : Nat} {a3 : Nat} {s : State} (h : Canon s) : CanonO (windowWrite a0 a1 a2 a3 s) :=
  by
  unfold windowWrite
  extract_lets x0
  split
  · exact canonO_none
  · split
    · exact (canon_commonWrite h)
    · exact (canon_dmaRegWrite h)
    · exact (canon_dspRegWrite h)
    · exact (canon_dtmRegWrite h)
    · exact (canon_mcRegWrite h)
    · exact (canon_radioRegWrite h)
    · exact (canon_radioRegWrite h)
    · exact (canon_radioRegWrite h)
    · exact (canon_iteO (canon_areaWrite h) (canonO_some h))
    · exact (canon_pairRegWrite h)
    · exact (canon_chanWrite h)
    · exact (canonO_some h)

theorem canon_windowRead {a0 : Option CoreId} {a1 : Nat} {a2 : Nat} {s : State} (h : Canon s) : CanonOP (windowRead a0 a1 a2 s) :=
  by
  unfold windowRead
  extract_lets x0
  split
  · exact canonOP_none
  · split
    · exact (canon_commonRead h)
    · exact (canon_dmaRegRead h)
    · exact (canon_dspRegRead h)
    · exact (canon_dtmRegRead h)
    · exact (canon_mcRegRead h)
    · exact (canon_radioRegRead h)
    · exact (canon_radioRegRead h)
    · exact (canon_radioRegRead h)
    · exact (canon_iteOP (canon_areaRead h) (canonOP_some h))
    · exact (canon_pairRegRead h)
    · exact (canon_chanRead h)
    · exact (canonOP_some h)

theorem canon_busWrite {a0 : Option CoreId} {a1 : Nat} {a2 : Nat} {a3 : Nat} {s : State} (h : Canon s) : CanonO (busWrite a0 a1 a2 a3 s) :=
  by
  unfold busWrite
  exact (canon_iteO (canon_windowWrite h) (canon_iteO (canonO_some (canon_storeBytes h)) canonO_none))

theorem canon_busRead {a0 : Option CoreId} {a1 : Nat} {a2 : Nat} {s : State} (h : Canon s) : CanonOP (busRead a0 a1 a2 s) :=
  by
  unfold busRead
  exact (canon_iteOP (canon_windowRead h) (canon_iteOP (canonOP_some h) (canon_iteOP (canonOP_some h) canonOP_none)))

theorem canon_execFlagClear {a0 : Nat} {a1 : Nat} {a2 : Nat} {a3 : Nat} {s : State} (h : Canon s) : CanonN (execFlagClear a0 a1 a2 a3 s) :=
  canon_live (fun s h => (canon_ite (canon_foldl (fun _ _ h1 => (canon_ite (canon_setFlag h1) h1)) (canon_clearFlags h)) h)) h

theorem canon_crossingOverrun {s : State} {a1 : Nat} (h : Canon s) : Canon (crossingOverrun s a1) := by
  unfold crossingOverrun
  exact (canon_setObj (canon_setFlag h))

theorem canon_crossingSent {s : State} {a1 : CoreId} {a2 : Nat} {a3 : Nat} {a4 : Nat} (h : Canon s) : Canon (crossingSent s a1 a2 a3 a4) :=
  by
  unfold crossingSent
  extract_lets x0 x1 x2
  exact (canon_setStart h)

theorem canon_raiseEvent {s : State} {s1 : State} {a2 : CoreId} {a3 : Nat} {a4 : Nat} (h : Canon s) (h'1 : Canon s1) : Canon (raiseEvent s s1 a2 a3 a4) :=
  by
  unfold raiseEvent
  split
  · exact h'1
  · exact (canon_ite (canon_crossingOverrun h) (canon_crossingSent h'1))

theorem canon_execRegisterWrite {a0 : CoreId} {a1 : Nat} {a2 : Nat} {a3 : Nat} {s : State} (h : Canon s) : CanonN (execRegisterWrite a0 a1 a2 a3 s) :=
  canon_live (fun s h => by
    split
    · exact (canon_raiseEvent h (canonO_get ‹_› (canon_busWrite h)))
    · exact (canon_fault h)) h

theorem canon_execCoreLoad {a0 : CoreId} {a1 : Nat} {a2 : Nat} {a3 : Bool} {a4 : List Nat} {s : State} (h : Canon s) : CanonN (execCoreLoad a0 a1 a2 a3 a4 s) :=
  canon_live (fun s h => by
    split
    · exact (canon_fault h)
    · extract_lets x2
      have h3 : ∀ y00, Canon y00 → Canon (x2 y00) := by
        intro _ h4
        unfold x2
        exact (canon_modCore h4)
      split
      · exact (h3 _ (canonOP_get ‹_› (canon_busRead h)))
      · split
        · exact (h3 _ (canonOP_get ‹_› (canon_busRead h)))
        · exact (h3 _ (canon_corrected (canonOP_get ‹_› (canon_busRead h))))
        · exact (h3 _ (canon_corrected (canonOP_get ‹_› (canon_busRead h))))
        · exact (canon_ite (h3 _ (canon_uncorrected (canonOP_get ‹_› (canon_busRead h)))) (canon_fault (canon_poisonConsumed (canonOP_get ‹_› (canon_busRead h)))))
        · exact (canon_fault (canon_poisonConsumed (canonOP_get ‹_› (canon_busRead h))))) h

theorem canon_complete {s : State} {a1 : Nat} {a2 : Bool} {a3 : Bool} (h : Canon s) : Canon (complete s a1 a2 a3) := by
  unfold complete
  extract_lets x0
  exact (canon_setWired h)

theorem canon_barWrite {a0 : Nat} {a1 : Nat} {a2 : Nat} {s : State} (h : Canon s) : CanonO (barWrite a0 a1 a2 s) := by
  unfold barWrite
  extract_lets x0 x1
  have h2 : ∀ y00 y01 y02, Canon y00 → Canon (x0 y00 y01 y02) := by
    intro _ _ _ h3
    unfold x0
    extract_lets x4
    have h5 : Canon x4 := (canon_setReg h3)
    exact (canon_ite (canon_setReg h5) h5)
  have h3 : Canon x1 := (h2 _ _ _ h)
  exact (canon_iteO (canon_chanWrite h) (canon_iteO (canon_areaWrite h) (canon_iteO (canonO_some (canon_ite (h2 _ _ _ h3) h3)) (canonO_some h))))

theorem canon_barRead {a0 : Nat} {a1 : Nat} {s : State} (h : Canon s) : CanonOP (barRead a0 a1 s) := by
  unfold barRead
  exact (canon_iteOP (canon_chanRead h) (canon_iteOP (canon_areaRead h) (canon_iteOP (canonOP_some h) (canon_iteOP (canonOP_some h) (canon_iteOP (canonOP_some h) (canonOP_some h))))))

theorem canon_execInboundRequest {a0 : PcieIn} {s : State} (h : Canon s) : CanonN (execInboundRequest a0 s) :=
  canon_live (fun s h => by
    extract_lets x1 x2 x3 x4 x5 x6
    have h7 : Canon x1 := (canon_complete h)
    have h8 : Canon x2 := (canon_storeBytes h)
    have h9 : Canon x6 := (canon_ite (canon_poisonConsumed h) (canon_ite (canon_corrected h) h))
    split
    · split
      · exact h7
      · split
        · exact (canon_ite (canon_uncorrected h) (canonO_getD (canon_barWrite h) h7))
        · split
          · exact (canon_complete (canonOP_get ‹_› (canon_barRead h)))
          · exact h7
    · exact (canon_ite (canon_ite (canon_ite (canon_setDram h8) h8) (canon_complete h9)) h7)) h

theorem canon_readRun {a0 a1 a2 a3 : Nat} {s : State} (h : Canon s) : CanonOP (readRun a0 a1 a2 a3 s) := by
  induction a1 generalizing a2 a3 s with
  | zero => exact canonOP_some h
  | succ n ih =>
    unfold readRun
    split
    · exact canonOP_some h
    · dsimp only
      split
      · exact canonOP_none
      · rename_i e
        exact canonOP_map (ih (canonOP_get e (canon_busRead h)))

theorem canon_writeRun {a0 a1 a2 : Nat} {a3 : Bytes} {s : State} (h : Canon s) : Canon (writeRun a0 a1 a2 a3 s).1 := by
  induction a1 generalizing a2 a3 s with
  | zero => exact h
  | succ n ih =>
    unfold writeRun
    split
    · exact h
    · dsimp only
      split
      · exact h
      · rename_i e
        exact ih (canonO_get e (canon_busWrite h))

theorem canon_dmaRead {a0 : Bool} {a1 a2 a3 : Nat} {a4 : Option Bytes} {s : State} (h : Canon s) :
    CanonOP (dmaRead a0 a1 a2 a3 a4 s) := by
  unfold dmaRead
  split
  · cases a4 with
    | none => exact canonOP_none
    | some b => exact canonOP_some h
  · exact canon_readRun h

theorem canon_dmaWrite {a0 : Fin 64} {a1 : Bool} {a2 : Nat} {a3 : Nat} {a4 : Bytes} {s : State} (h : Canon s) : Canon (dmaWrite a0 a1 a2 a3 a4 s).1 :=
  by
  unfold dmaWrite
  extract_lets x0
  exact (canon_ite1 (canon_setWired h) (canon_writeRun h))

theorem canon_carryPoison {a0 : Nat} {a1 : Nat} {a2 : Nat} {s : State} (h : Canon s) : Canon (carryPoison a0 a1 a2 s) :=
  by
  unfold carryPoison
  extract_lets x0 x1
  exact (canon_setDram h)

theorem canon_seePoison {a0 : Fin 64} {a1 : DmaCur} {a2 : Nat} {a3 : Bool} {s : State} (h : Canon s) : Canon (seePoison a0 a1 a2 a3 s).1 :=
  by
  unfold seePoison
  exact (canon_ite1 (canon_poisonConsumed h) h)

theorem canon_burstCopy {a0 : Fin 64} {a1 : DmaCur} {a2 : Option Bytes} {s : State} (h : Canon s) : Canon (burstCopy a0 a1 a2 s).1 :=
  by
  unfold burstCopy
  extract_lets x0 x1 x2
  split
  · exact h
  · extract_lets x4
    split
    · split
      · exact (canon_fst ‹_› (canon_seePoison (canonOP_get ‹_› (canon_dmaRead h))))
      · split
        · exact (canon_ite1 (canon_fst ‹_› (canon_dmaWrite (canon_fst ‹_› (canon_seePoison (canonOP_get ‹_› (canon_dmaRead h)))))) (canon_ite (canon_carryPoison (canon_fst ‹_› (canon_dmaWrite (canon_fst ‹_› (canon_seePoison (canonOP_get ‹_› (canon_dmaRead h))))))) (canon_fst ‹_› (canon_dmaWrite (canon_fst ‹_› (canon_seePoison (canonOP_get ‹_› (canon_dmaRead h))))))))

theorem canon_burstFill {a0 : Fin 64} {a1 : DmaCur} {s : State} (h : Canon s) : Canon (burstFill a0 a1 s).1 := by
  unfold burstFill
  extract_lets x0 x1
  split
  · exact (canon_ite1 (canon_fst ‹_› (canon_dmaWrite h)) (canon_fst ‹_› (canon_dmaWrite h)))

theorem canon_burstCompare {a0 : Fin 64} {a1 : DmaCur} {a2 : Option Bytes} {s : State} (h : Canon s) : Canon (burstCompare a0 a1 a2 s).1 :=
  by
  unfold burstCompare
  extract_lets x0 x1 x2
  split
  · exact h
  · split
    · exact (canonOP_get ‹_› (canon_dmaRead h))
    · extract_lets x5
      split
      · split
        · exact (canon_ite1 (canon_fst ‹_› (canon_seePoison (canonOP_get ‹_› (canon_dmaRead (canonOP_get ‹_› (canon_dmaRead h)))))) (canon_fst ‹_› (canon_seePoison (canonOP_get ‹_› (canon_dmaRead (canonOP_get ‹_› (canon_dmaRead h)))))))
        · exact (canon_fst ‹_› (canon_seePoison (canonOP_get ‹_› (canon_dmaRead (canonOP_get ‹_› (canon_dmaRead h))))))

theorem canon_burstCipher {a0 : Fin 64} {a1 : DmaCur} {a2 : Option Bytes} {s : State} (h : Canon s) : Canon (burstCipher a0 a1 a2 s).1 :=
  by
  unfold burstCipher
  extract_lets x0 x1
  split
  · exact h
  · split
    · extract_lets x4 x5
      exact (canon_ite1 (canon_fst ‹_› (canon_seePoison (canonOP_get ‹_› (canon_dmaRead h)))) (canon_ite1 (canon_fst ‹_› (canon_seePoison (canonOP_get ‹_› (canon_dmaRead h)))) (canon_queueJob (canon_fst ‹_› (canon_seePoison (canonOP_get ‹_› (canon_dmaRead h)))))))

theorem canon_serveBurst {a0 : Fin 64} {a1 : Option Bytes} {s : State} (h : Canon s) : Canon (serveBurst a0 a1 s) := by
  unfold serveBurst
  extract_lets x0 x1
  split
  · exact (canon_setCur (canon_fst ‹_› (by
      clear_value x1
      split
      · exact (canon_ite (canon_poisonConsumed h) h)
      · split
        · exact (canon_burstCopy h)
        · exact (canon_burstFill h)
        · exact (canon_burstCompare h)
        · exact (canon_burstCipher h))))

theorem canon_burstEcc {a0 : Fin 64} {a1 : EccObs} {s : State} (h : Canon s) : Canon (burstEcc a0 a1 s) := by
  unfold burstEcc
  extract_lets x0 x1
  split
  · exact h
  · split
    · extract_lets x4 x5
      exact (canon_ite (canon_corrected (canon_snd ‹_› (canon_draw h))) (canon_setDram (canon_snd ‹_› (canon_draw h))))

theorem canon_execDmaBurst {a0 : BurstIn} {s : State} (h : Canon s) : CanonN (execDmaBurst a0 s) :=
  canon_live (fun s h => by
    extract_lets x1
    split
    · exact h
    · extract_lets x3
      have h4 : Canon x3 := (canon_setDma h)
      exact (canon_dite (fun _ => (canon_serveBurst (canon_burstEcc h4))) (fun _ => h))) h

theorem canon_cipherDone {a0 : Fin 64} {a1 : DmaCur} {a2 : Nat} {a3 : Job} {s : State} (h : Canon s) : Canon (cipherDone a0 a1 a2 a3 s) :=
  by
  unfold cipherDone
  split
  · split
    · exact (canon_dmaComplete (canon_fst ‹_› (canon_dmaWrite h)))
  · exact (canon_ite (canon_dmaComplete (canon_dmaWrite h)) (canon_ite (canon_dmaComplete (canon_dmaZero h)) (canon_dmaComplete (canon_ite (canon_dmaZero h) h))))

theorem canon_execDmaDescriptorDone {a0 : Fin 64} {s : State} (h : Canon s) : CanonN (execDmaDescriptorDone a0 s) :=
  canon_live (fun s h => by
    extract_lets x1
    split
    · exact h
    · split
      · exact (canon_dmaComplete h)
      · split
        · exact h
        · split
          · exact h
          · exact (canon_cipherDone (canon_setSec h))) h

theorem canon_cmdRow {a0 : Env} {a1 : Nat} {a2 : Nat} {a3 : Nat} {a4 : Bytes} {s : State} (h : Canon s) : Canon (cmdRow a0 a1 a2 a3 a4 s) :=
  by
  unfold cmdRow
  exact (canon_directOp h)

theorem canon_valueRow {a0 : Env} {a1 : Nat} {a2 : Nat} {a3 : Nat} {a4 : Bytes} {s : State} (h : Canon s) : Canon (valueRow a0 a1 a2 a3 a4 s) :=
  by
  unfold valueRow
  exact (canon_directOp h)

theorem canon_execDescribe {a0 : Nat} {a1 : Nat} {a2 : Nat} {s : State} (h : Canon s) : CanonN (execDescribe a0 a1 a2 s) :=
  canon_live (fun s h => (canon_valueRow h)) h

theorem canon_execStaEntryWrite {a0 : Nat} {a1 : Nat} {a2 : Bytes} {s : State} (h : Canon s) : CanonN (execStaEntryWrite a0 a1 a2 s) :=
  canon_live (fun s h => (canon_valueRow h)) h

theorem canon_execTableEntryWrite {a0 : Nat} {a1 : Nat} {a2 : Nat} {a3 : Bytes} {s : State} (h : Canon s) : CanonN (execTableEntryWrite a0 a1 a2 a3 s) :=
  canon_live (fun s h => (canon_ite (canon_valueRow h) h)) h

theorem canon_execTpoCfgWrite {a0 : Nat} {a1 : Nat} {a2 : Bytes} {s : State} (h : Canon s) : CanonN (execTpoCfgWrite a0 a1 a2 s) :=
  canon_live (fun s h => (canon_valueRow h)) h

theorem canon_execCoreDvfsWrite {a0 : Nat} {a1 : Nat} {a2 : Bytes} {s : State} (h : Canon s) : CanonN (execCoreDvfsWrite a0 a1 a2 s) :=
  canon_live (fun s h => (canon_valueRow h)) h

theorem canon_execDiagTxStop {a0 : Nat} {a1 : Bytes} {s : State} (h : Canon s) : CanonN (execDiagTxStop a0 a1 s) :=
  canon_live (fun s h => (canon_cmdRow h)) h

theorem canon_execDiagTxCw {a0 : Nat} {a1 : Bytes} {s : State} (h : Canon s) : CanonN (execDiagTxCw a0 a1 s) :=
  canon_live (fun s h => (canon_cmdRow h)) h

theorem canon_execDiagTxPacket {a0 : Nat} {a1 : Bytes} {s : State} (h : Canon s) : CanonN (execDiagTxPacket a0 a1 s) :=
  canon_live (fun s h => (canon_cmdRow h)) h

theorem canon_execDiagTxMask {a0 : Nat} {a1 : Bytes} {s : State} (h : Canon s) : CanonN (execDiagTxMask a0 a1 s) :=
  canon_live (fun s h => (canon_cmdRow h)) h

theorem canon_execStaAlloc {a0 : Nat} {a1 : Bytes} {s : State} (h : Canon s) : CanonN (execStaAlloc a0 a1 s) :=
  canon_live (fun s h => (canon_valueRow h)) h

theorem canon_execStaFree {a0 : Nat} {a1 : Bytes} {s : State} (h : Canon s) : CanonN (execStaFree a0 a1 s) :=
  canon_live (fun s h => (canon_valueRow h)) h

theorem canon_execAddRx {a0 : Nat} {a1 : Bytes} {s : State} (h : Canon s) : CanonN (execAddRx a0 a1 s) :=
  canon_live (fun s h => (canon_cmdRow h)) h

theorem canon_execAddTx {a0 : Nat} {a1 : Bytes} {s : State} (h : Canon s) : CanonN (execAddTx a0 a1 s) :=
  canon_live (fun s h => (canon_cmdRow h)) h

theorem canon_execDeleteRx {a0 : Nat} {a1 : Bytes} {s : State} (h : Canon s) : CanonN (execDeleteRx a0 a1 s) :=
  canon_live (fun s h => (canon_cmdRow h)) h

theorem canon_execDeleteTx {a0 : Nat} {a1 : Bytes} {s : State} (h : Canon s) : CanonN (execDeleteTx a0 a1 s) :=
  canon_live (fun s h => (canon_cmdRow h)) h

theorem canon_execTwtAdd {a0 : Nat} {a1 : Bytes} {s : State} (h : Canon s) : CanonN (execTwtAdd a0 a1 s) :=
  canon_live (fun s h => (canon_cmdRow h)) h

theorem canon_execTwtDelete {a0 : Nat} {a1 : Bytes} {s : State} (h : Canon s) : CanonN (execTwtDelete a0 a1 s) :=
  canon_live (fun s h => (canon_cmdRow h)) h

theorem canon_execMemberJoin {a0 : Nat} {a1 : Bytes} {s : State} (h : Canon s) : CanonN (execMemberJoin a0 a1 s) :=
  canon_live (fun s h => (canon_cmdRow h)) h

theorem canon_execMemberReject {a0 : Nat} {a1 : Bytes} {s : State} (h : Canon s) : CanonN (execMemberReject a0 a1 s) :=
  canon_live (fun s h => (canon_cmdRow h)) h

theorem canon_execMemberRemove {a0 : Nat} {a1 : Bytes} {s : State} (h : Canon s) : CanonN (execMemberRemove a0 a1 s) :=
  canon_live (fun s h => (canon_cmdRow h)) h

theorem canon_execPpModeWrite {a0 : Nat} {a1 : Bytes} {s : State} (h : Canon s) : CanonN (execPpModeWrite a0 a1 s) :=
  canon_live (fun s h => (canon_valueRow h)) h

theorem canon_execCommit {a0 : Nat} {s : State} (h : Canon s) : CanonN (execCommit a0 s) :=
  canon_live (fun s h => (canon_valueRow h)) h

theorem canon_execDiscard {a0 : Nat} {s : State} (h : Canon s) : CanonN (execDiscard a0 s) :=
  canon_live (fun s h => (canon_valueRow h)) h

theorem canon_execRuleInsert {a0 : Nat} {a1 : Bytes} {s : State} (h : Canon s) : CanonN (execRuleInsert a0 a1 s) :=
  canon_live (fun s h => (canon_cmdRow h)) h

theorem canon_execRuleDelete {a0 : Nat} {a1 : Bytes} {s : State} (h : Canon s) : CanonN (execRuleDelete a0 a1 s) :=
  canon_live (fun s h => (canon_cmdRow h)) h

theorem canon_execBridgeInsert {a0 : Nat} {a1 : Bytes} {s : State} (h : Canon s) : CanonN (execBridgeInsert a0 a1 s) :=
  canon_live (fun s h => (canon_cmdRow h)) h

theorem canon_execBridgeDelete {a0 : Nat} {a1 : Bytes} {s : State} (h : Canon s) : CanonN (execBridgeDelete a0 a1 s) :=
  canon_live (fun s h => (canon_cmdRow h)) h

theorem canon_execBridgeFlush {a0 : Nat} {a1 : Bytes} {s : State} (h : Canon s) : CanonN (execBridgeFlush a0 a1 s) :=
  canon_live (fun s h => (canon_cmdRow h)) h

theorem canon_execRouteInsert {a0 : Nat} {a1 : Bytes} {s : State} (h : Canon s) : CanonN (execRouteInsert a0 a1 s) :=
  canon_live (fun s h => (canon_cmdRow h)) h

theorem canon_execRouteDelete {a0 : Nat} {a1 : Bytes} {s : State} (h : Canon s) : CanonN (execRouteDelete a0 a1 s) :=
  canon_live (fun s h => (canon_cmdRow h)) h

theorem canon_execFlowInsert {a0 : Nat} {a1 : Bytes} {s : State} (h : Canon s) : CanonN (execFlowInsert a0 a1 s) :=
  canon_live (fun s h => (canon_cmdRow h)) h

theorem canon_execFlowDelete {a0 : Nat} {a1 : Bytes} {s : State} (h : Canon s) : CanonN (execFlowDelete a0 a1 s) :=
  canon_live (fun s h => (canon_cmdRow h)) h

theorem canon_execFlowFlush {a0 : Nat} {a1 : Bytes} {s : State} (h : Canon s) : CanonN (execFlowFlush a0 a1 s) :=
  canon_live (fun s h => (canon_cmdRow h)) h

theorem canon_execPcieCfgRead {a0 : Nat} {a1 : Bytes} {a2 : Env} {s : State} (h : Canon s) : CanonN (execPcieCfgRead a0 a1 a2 s) :=
  canon_live (fun s h => (canon_cmdRow h)) h

theorem canon_execPcieCfgWrite {a0 : Nat} {a1 : Bytes} {a2 : Env} {s : State} (h : Canon s) : CanonN (execPcieCfgWrite a0 a1 a2 s) :=
  canon_live (fun s h => (canon_cmdRow h)) h

theorem canon_execI2cXfer {a0 : Nat} {a1 : Bytes} {a2 : Env} {s : State} (h : Canon s) : CanonN (execI2cXfer a0 a1 a2 s) :=
  canon_live (fun s h => (canon_valueRow h)) h

theorem canon_execGpioOutWrite {a0 : Nat} {a1 : Bytes} {s : State} (h : Canon s) : CanonN (execGpioOutWrite a0 a1 s) :=
  canon_live (fun s h => (canon_valueRow h)) h

theorem canon_execDatumIncrWrite {a0 : Nat} {a1 : Bytes} {s : State} (h : Canon s) : CanonN (execDatumIncrWrite a0 a1 s) :=
  canon_live (fun s h => (canon_valueRow h)) h

theorem canon_execStepRelative {a0 : Nat} {a1 : Bytes} {s : State} (h : Canon s) : CanonN (execStepRelative a0 a1 s) :=
  canon_live (fun s h => (canon_cmdRow h)) h

theorem canon_execStepAbsolute {a0 : Nat} {a1 : Bytes} {s : State} (h : Canon s) : CanonN (execStepAbsolute a0 a1 s) :=
  canon_live (fun s h => (canon_cmdRow h)) h

theorem canon_execCapturePop {a0 : Nat} {a1 : Bytes} {s : State} (h : Canon s) : CanonN (execCapturePop a0 a1 s) :=
  canon_live (fun s h => (canon_valueRow h)) h

theorem canon_execInstall {a0 : Nat} {a1 : Bytes} {s : State} (h : Canon s) : CanonN (execInstall a0 a1 s) :=
  canon_live (fun s h => (canon_cmdRow h)) h

theorem canon_execErase {a0 : Nat} {a1 : Bytes} {s : State} (h : Canon s) : CanonN (execErase a0 a1 s) :=
  canon_live (fun s h => (canon_cmdRow h)) h

theorem canon_execRekeyPop {a0 : Nat} {a1 : Bytes} {s : State} (h : Canon s) : CanonN (execRekeyPop a0 a1 s) :=
  canon_live (fun s h => (canon_valueRow h)) h

theorem canon_execAttest {a0 : Nat} {a1 : Bytes} {s : State} (h : Canon s) : CanonN (execAttest a0 a1 s) :=
  canon_live (fun s h => (canon_valueRow h)) h

theorem canon_execExtend {a0 : Nat} {a1 : Bytes} {s : State} (h : Canon s) : CanonN (execExtend a0 a1 s) :=
  canon_live (fun s h => (canon_valueRow h)) h

theorem canon_execProgram {a0 : Nat} {a1 : Bytes} {a2 : Env} {s : State} (h : Canon s) : CanonN (execProgram a0 a1 a2 s) :=
  canon_live (fun s h => (canon_cmdRow h)) h

theorem canon_execRevoke {a0 : Nat} {a1 : Bytes} {a2 : Env} {s : State} (h : Canon s) : CanonN (execRevoke a0 a1 a2 s) :=
  canon_live (fun s h => (canon_cmdRow h)) h

theorem canon_execDebugDisable {a0 : Nat} {a1 : Bytes} {a2 : Env} {s : State} (h : Canon s) : CanonN (execDebugDisable a0 a1 a2 s) :=
  canon_live (fun s h => (canon_cmdRow h)) h

theorem canon_execChallenge {a0 : Nat} {a1 : Bytes} {s : State} (h : Canon s) : CanonN (execChallenge a0 a1 s) :=
  canon_live (fun s h => (canon_cmdRow h)) h

theorem canon_execRespond {a0 : Nat} {a1 : Bytes} {a2 : Env} {s : State} (h : Canon s) : CanonN (execRespond a0 a1 a2 s) :=
  canon_live (fun s h => (canon_cmdRow h)) h

theorem canon_execMigrateStart {a0 : Nat} {a1 : Bytes} {s : State} (h : Canon s) : CanonN (execMigrateStart a0 a1 s) :=
  canon_live (fun s h => (canon_cmdRow h)) h

theorem canon_execMigrateResume {a0 : Nat} {a1 : Bytes} {s : State} (h : Canon s) : CanonN (execMigrateResume a0 a1 s) :=
  canon_live (fun s h => (canon_cmdRow h)) h

theorem canon_execPowerCmdStandby {a0 : Nat} {a1 : Bytes} {s : State} (h : Canon s) : CanonN (execPowerCmdStandby a0 a1 s) :=
  canon_live (fun s h => (canon_cmdRow h)) h

theorem canon_execPowerCmdHibernate {a0 : Nat} {a1 : Bytes} {s : State} (h : Canon s) : CanonN (execPowerCmdHibernate a0 a1 s) :=
  canon_live (fun s h => (canon_cmdRow h)) h

theorem canon_execPairSwitchover {a0 : Nat} {s : State} (h : Canon s) : CanonN (execPairSwitchover a0 s) :=
  canon_live (fun s h => (canon_valueRow h)) h

theorem canon_execResync {a0 : Nat} {s : State} (h : Canon s) : CanonN (execResync a0 s) :=
  canon_live (fun s h => (canon_valueRow h)) h

theorem canon_execLogAck {a0 : Nat} {a1 : Bytes} {s : State} (h : Canon s) : CanonN (execLogAck a0 a1 s) :=
  canon_live (fun s h => (canon_valueRow h)) h

theorem canon_execBegin {a0 : Nat} {a1 : Bytes} {a2 : Env} {s : State} (h : Canon s) : CanonN (execBegin a0 a1 a2 s) :=
  canon_live (fun s h => (canon_cmdRow h)) h

theorem canon_execUpdateData {a0 : Nat} {a1 : Bytes} {s : State} (h : Canon s) : CanonN (execUpdateData a0 a1 s) :=
  canon_live (fun s h => (canon_valueRow h)) h

theorem canon_execFinish {a0 : Nat} {a1 : Bytes} {a2 : Env} {s : State} (h : Canon s) : CanonN (execFinish a0 a1 a2 s) :=
  canon_live (fun s h => (canon_cmdRow h)) h

theorem canon_execActivate {a0 : Nat} {a1 : Bytes} {s : State} (h : Canon s) : CanonN (execActivate a0 a1 s) :=
  canon_live (fun s h => (canon_cmdRow h)) h

theorem canon_execUpdateDiscard {a0 : Nat} {a1 : Bytes} {s : State} (h : Canon s) : CanonN (execUpdateDiscard a0 a1 s) :=
  canon_live (fun s h => (canon_cmdRow h)) h

theorem canon_execRevert {a0 : Nat} {a1 : Bytes} {s : State} (h : Canon s) : CanonN (execRevert a0 a1 s) :=
  canon_live (fun s h => (canon_cmdRow h)) h

theorem canon_execBenchmark {a0 : Nat} {a1 : Bytes} {s : State} (h : Canon s) : CanonN (execBenchmark a0 a1 s) :=
  canon_live (fun s h => (canon_valueRow h)) h

theorem canon_withFetchWord {s : State} {a1 : Nat} {a2 : Nat} (h : Canon s) : Canon (State.withFetchWord s a1 a2) := by
  unfold State.withFetchWord
  split
  · exact (canon_mk h)
  · exact h

end Sys2Proof.Machine
end

