-- ==== Sys2Proof/Laws/State.lean ====
section
/-! SUPPORT. What each of the shared updates of the state leaves as it was, field by field. -/

namespace Sys2Proof.Machine
open Sys2Proof
variable (s : State)

@[simp] theorem setDict_pending (x : Dict) : (s.setDict x).pending = s.pending := rfl
@[simp] theorem setDict_free (x : Dict) : (s.setDict x).free = s.free := rfl
@[simp] theorem setDict_now (x : Dict) : (s.setDict x).now = s.now := rfl
@[simp] theorem setDict_lastResp (x : Dict) : (s.setDict x).lastResp = s.lastResp := rfl
@[simp] theorem setDict_obj (x : Dict) : (s.setDict x).obj = s.obj := rfl
@[simp] theorem setDict_reg (x : Dict) : (s.setDict x).reg = s.reg := rfl
@[simp] theorem setDict_mem (x : Dict) : (s.setDict x).mem = s.mem := rfl
@[simp] theorem setDict_flash (x : Dict) : (s.setDict x).flash = s.flash := rfl
@[simp] theorem setDict_dict (x : Dict) : (s.setDict x).dict = x := rfl
@[simp] theorem setDict_rf (x : Dict) : (s.setDict x).rf = s.rf := rfl
@[simp] theorem setDict_mac (x : Dict) : (s.setDict x).mac = s.mac := rfl
@[simp] theorem setDict_chain (x : Dict) : (s.setDict x).chain = s.chain := rfl
@[simp] theorem setDict_pp (x : Dict) : (s.setDict x).pp = s.pp := rfl
@[simp] theorem setDict_tm (x : Dict) : (s.setDict x).tm = s.tm := rfl
@[simp] theorem setDict_wired (x : Dict) : (s.setDict x).wired = s.wired := rfl
@[simp] theorem setDict_datum (x : Dict) : (s.setDict x).datum = s.datum := rfl
@[simp] theorem setDict_sec (x : Dict) : (s.setDict x).sec = s.sec := rfl
@[simp] theorem setDict_dram (x : Dict) : (s.setDict x).dram = s.dram := rfl
@[simp] theorem setDict_dma (x : Dict) : (s.setDict x).dma = s.dma := rfl
@[simp] theorem setDict_cores (x : Dict) : (s.setDict x).cores = s.cores := rfl
@[simp] theorem setDict_power (x : Dict) : (s.setDict x).power = s.power := rfl
@[simp] theorem setDict_pair (x : Dict) : (s.setDict x).pair = s.pair := rfl
@[simp] theorem setDict_log (x : Dict) : (s.setDict x).log = s.log := rfl
@[simp] theorem setDict_upd (x : Dict) : (s.setDict x).upd = s.upd := rfl
@[simp] theorem setDict_start (x : Dict) : (s.setDict x).start = s.start := rfl
@[simp] theorem setDict_part (x : Dict) : (s.setDict x).part = s.part := rfl

@[simp] theorem setRf_pending (x : Rf) : (s.setRf x).pending = s.pending := rfl
@[simp] theorem setRf_free (x : Rf) : (s.setRf x).free = s.free := rfl
@[simp] theorem setRf_now (x : Rf) : (s.setRf x).now = s.now := rfl
@[simp] theorem setRf_lastResp (x : Rf) : (s.setRf x).lastResp = s.lastResp := rfl
@[simp] theorem setRf_obj (x : Rf) : (s.setRf x).obj = s.obj := rfl
@[simp] theorem setRf_reg (x : Rf) : (s.setRf x).reg = s.reg := rfl
@[simp] theorem setRf_mem (x : Rf) : (s.setRf x).mem = s.mem := rfl
@[simp] theorem setRf_flash (x : Rf) : (s.setRf x).flash = s.flash := rfl
@[simp] theorem setRf_dict (x : Rf) : (s.setRf x).dict = s.dict := rfl
@[simp] theorem setRf_rf (x : Rf) : (s.setRf x).rf = x := rfl
@[simp] theorem setRf_mac (x : Rf) : (s.setRf x).mac = s.mac := rfl
@[simp] theorem setRf_chain (x : Rf) : (s.setRf x).chain = s.chain := rfl
@[simp] theorem setRf_pp (x : Rf) : (s.setRf x).pp = s.pp := rfl
@[simp] theorem setRf_tm (x : Rf) : (s.setRf x).tm = s.tm := rfl
@[simp] theorem setRf_wired (x : Rf) : (s.setRf x).wired = s.wired := rfl
@[simp] theorem setRf_datum (x : Rf) : (s.setRf x).datum = s.datum := rfl
@[simp] theorem setRf_sec (x : Rf) : (s.setRf x).sec = s.sec := rfl
@[simp] theorem setRf_dram (x : Rf) : (s.setRf x).dram = s.dram := rfl
@[simp] theorem setRf_dma (x : Rf) : (s.setRf x).dma = s.dma := rfl
@[simp] theorem setRf_cores (x : Rf) : (s.setRf x).cores = s.cores := rfl
@[simp] theorem setRf_power (x : Rf) : (s.setRf x).power = s.power := rfl
@[simp] theorem setRf_pair (x : Rf) : (s.setRf x).pair = s.pair := rfl
@[simp] theorem setRf_log (x : Rf) : (s.setRf x).log = s.log := rfl
@[simp] theorem setRf_upd (x : Rf) : (s.setRf x).upd = s.upd := rfl
@[simp] theorem setRf_start (x : Rf) : (s.setRf x).start = s.start := rfl
@[simp] theorem setRf_part (x : Rf) : (s.setRf x).part = s.part := rfl

@[simp] theorem setMac_pending (x : Mac) : (s.setMac x).pending = s.pending := rfl
@[simp] theorem setMac_free (x : Mac) : (s.setMac x).free = s.free := rfl
@[simp] theorem setMac_now (x : Mac) : (s.setMac x).now = s.now := rfl
@[simp] theorem setMac_lastResp (x : Mac) : (s.setMac x).lastResp = s.lastResp := rfl
@[simp] theorem setMac_obj (x : Mac) : (s.setMac x).obj = s.obj := rfl
@[simp] theorem setMac_reg (x : Mac) : (s.setMac x).reg = s.reg := rfl
@[simp] theorem setMac_mem (x : Mac) : (s.setMac x).mem = s.mem := rfl
@[simp] theorem setMac_flash (x : Mac) : (s.setMac x).flash = s.flash := rfl
@[simp] theorem setMac_dict (x : Mac) : (s.setMac x).dict = s.dict := rfl
@[simp] theorem setMac_rf (x : Mac) : (s.setMac x).rf = s.rf := rfl
@[simp] theorem setMac_mac (x : Mac) : (s.setMac x).mac = x := rfl
@[simp] theorem setMac_chain (x : Mac) : (s.setMac x).chain = s.chain := rfl
@[simp] theorem setMac_pp (x : Mac) : (s.setMac x).pp = s.pp := rfl
@[simp] theorem setMac_tm (x : Mac) : (s.setMac x).tm = s.tm := rfl
@[simp] theorem setMac_wired (x : Mac) : (s.setMac x).wired = s.wired := rfl
@[simp] theorem setMac_datum (x : Mac) : (s.setMac x).datum = s.datum := rfl
@[simp] theorem setMac_sec (x : Mac) : (s.setMac x).sec = s.sec := rfl
@[simp] theorem setMac_dram (x : Mac) : (s.setMac x).dram = s.dram := rfl
@[simp] theorem setMac_dma (x : Mac) : (s.setMac x).dma = s.dma := rfl
@[simp] theorem setMac_cores (x : Mac) : (s.setMac x).cores = s.cores := rfl
@[simp] theorem setMac_power (x : Mac) : (s.setMac x).power = s.power := rfl
@[simp] theorem setMac_pair (x : Mac) : (s.setMac x).pair = s.pair := rfl
@[simp] theorem setMac_log (x : Mac) : (s.setMac x).log = s.log := rfl
@[simp] theorem setMac_upd (x : Mac) : (s.setMac x).upd = s.upd := rfl
@[simp] theorem setMac_start (x : Mac) : (s.setMac x).start = s.start := rfl
@[simp] theorem setMac_part (x : Mac) : (s.setMac x).part = s.part := rfl

@[simp] theorem setChain_pending (x : ChainUnit) : (s.setChain x).pending = s.pending := rfl
@[simp] theorem setChain_free (x : ChainUnit) : (s.setChain x).free = s.free := rfl
@[simp] theorem setChain_now (x : ChainUnit) : (s.setChain x).now = s.now := rfl
@[simp] theorem setChain_lastResp (x : ChainUnit) : (s.setChain x).lastResp = s.lastResp := rfl
@[simp] theorem setChain_obj (x : ChainUnit) : (s.setChain x).obj = s.obj := rfl
@[simp] theorem setChain_reg (x : ChainUnit) : (s.setChain x).reg = s.reg := rfl
@[simp] theorem setChain_mem (x : ChainUnit) : (s.setChain x).mem = s.mem := rfl
@[simp] theorem setChain_flash (x : ChainUnit) : (s.setChain x).flash = s.flash := rfl
@[simp] theorem setChain_dict (x : ChainUnit) : (s.setChain x).dict = s.dict := rfl
@[simp] theorem setChain_rf (x : ChainUnit) : (s.setChain x).rf = s.rf := rfl
@[simp] theorem setChain_mac (x : ChainUnit) : (s.setChain x).mac = s.mac := rfl
@[simp] theorem setChain_chain (x : ChainUnit) : (s.setChain x).chain = x := rfl
@[simp] theorem setChain_pp (x : ChainUnit) : (s.setChain x).pp = s.pp := rfl
@[simp] theorem setChain_tm (x : ChainUnit) : (s.setChain x).tm = s.tm := rfl
@[simp] theorem setChain_wired (x : ChainUnit) : (s.setChain x).wired = s.wired := rfl
@[simp] theorem setChain_datum (x : ChainUnit) : (s.setChain x).datum = s.datum := rfl
@[simp] theorem setChain_sec (x : ChainUnit) : (s.setChain x).sec = s.sec := rfl
@[simp] theorem setChain_dram (x : ChainUnit) : (s.setChain x).dram = s.dram := rfl
@[simp] theorem setChain_dma (x : ChainUnit) : (s.setChain x).dma = s.dma := rfl
@[simp] theorem setChain_cores (x : ChainUnit) : (s.setChain x).cores = s.cores := rfl
@[simp] theorem setChain_power (x : ChainUnit) : (s.setChain x).power = s.power := rfl
@[simp] theorem setChain_pair (x : ChainUnit) : (s.setChain x).pair = s.pair := rfl
@[simp] theorem setChain_log (x : ChainUnit) : (s.setChain x).log = s.log := rfl
@[simp] theorem setChain_upd (x : ChainUnit) : (s.setChain x).upd = s.upd := rfl
@[simp] theorem setChain_start (x : ChainUnit) : (s.setChain x).start = s.start := rfl
@[simp] theorem setChain_part (x : ChainUnit) : (s.setChain x).part = s.part := rfl

@[simp] theorem setPp_pending (x : PpUnit) : (s.setPp x).pending = s.pending := rfl
@[simp] theorem setPp_free (x : PpUnit) : (s.setPp x).free = s.free := rfl
@[simp] theorem setPp_now (x : PpUnit) : (s.setPp x).now = s.now := rfl
@[simp] theorem setPp_lastResp (x : PpUnit) : (s.setPp x).lastResp = s.lastResp := rfl
@[simp] theorem setPp_obj (x : PpUnit) : (s.setPp x).obj = s.obj := rfl
@[simp] theorem setPp_reg (x : PpUnit) : (s.setPp x).reg = s.reg := rfl
@[simp] theorem setPp_mem (x : PpUnit) : (s.setPp x).mem = s.mem := rfl
@[simp] theorem setPp_flash (x : PpUnit) : (s.setPp x).flash = s.flash := rfl
@[simp] theorem setPp_dict (x : PpUnit) : (s.setPp x).dict = s.dict := rfl
@[simp] theorem setPp_rf (x : PpUnit) : (s.setPp x).rf = s.rf := rfl
@[simp] theorem setPp_mac (x : PpUnit) : (s.setPp x).mac = s.mac := rfl
@[simp] theorem setPp_chain (x : PpUnit) : (s.setPp x).chain = s.chain := rfl
@[simp] theorem setPp_pp (x : PpUnit) : (s.setPp x).pp = x := rfl
@[simp] theorem setPp_tm (x : PpUnit) : (s.setPp x).tm = s.tm := rfl
@[simp] theorem setPp_wired (x : PpUnit) : (s.setPp x).wired = s.wired := rfl
@[simp] theorem setPp_datum (x : PpUnit) : (s.setPp x).datum = s.datum := rfl
@[simp] theorem setPp_sec (x : PpUnit) : (s.setPp x).sec = s.sec := rfl
@[simp] theorem setPp_dram (x : PpUnit) : (s.setPp x).dram = s.dram := rfl
@[simp] theorem setPp_dma (x : PpUnit) : (s.setPp x).dma = s.dma := rfl
@[simp] theorem setPp_cores (x : PpUnit) : (s.setPp x).cores = s.cores := rfl
@[simp] theorem setPp_power (x : PpUnit) : (s.setPp x).power = s.power := rfl
@[simp] theorem setPp_pair (x : PpUnit) : (s.setPp x).pair = s.pair := rfl
@[simp] theorem setPp_log (x : PpUnit) : (s.setPp x).log = s.log := rfl
@[simp] theorem setPp_upd (x : PpUnit) : (s.setPp x).upd = s.upd := rfl
@[simp] theorem setPp_start (x : PpUnit) : (s.setPp x).start = s.start := rfl
@[simp] theorem setPp_part (x : PpUnit) : (s.setPp x).part = s.part := rfl

@[simp] theorem setTm_pending (x : TmUnit) : (s.setTm x).pending = s.pending := rfl
@[simp] theorem setTm_free (x : TmUnit) : (s.setTm x).free = s.free := rfl
@[simp] theorem setTm_now (x : TmUnit) : (s.setTm x).now = s.now := rfl
@[simp] theorem setTm_lastResp (x : TmUnit) : (s.setTm x).lastResp = s.lastResp := rfl
@[simp] theorem setTm_obj (x : TmUnit) : (s.setTm x).obj = s.obj := rfl
@[simp] theorem setTm_reg (x : TmUnit) : (s.setTm x).reg = s.reg := rfl
@[simp] theorem setTm_mem (x : TmUnit) : (s.setTm x).mem = s.mem := rfl
@[simp] theorem setTm_flash (x : TmUnit) : (s.setTm x).flash = s.flash := rfl
@[simp] theorem setTm_dict (x : TmUnit) : (s.setTm x).dict = s.dict := rfl
@[simp] theorem setTm_rf (x : TmUnit) : (s.setTm x).rf = s.rf := rfl
@[simp] theorem setTm_mac (x : TmUnit) : (s.setTm x).mac = s.mac := rfl
@[simp] theorem setTm_chain (x : TmUnit) : (s.setTm x).chain = s.chain := rfl
@[simp] theorem setTm_pp (x : TmUnit) : (s.setTm x).pp = s.pp := rfl
@[simp] theorem setTm_tm (x : TmUnit) : (s.setTm x).tm = x := rfl
@[simp] theorem setTm_wired (x : TmUnit) : (s.setTm x).wired = s.wired := rfl
@[simp] theorem setTm_datum (x : TmUnit) : (s.setTm x).datum = s.datum := rfl
@[simp] theorem setTm_sec (x : TmUnit) : (s.setTm x).sec = s.sec := rfl
@[simp] theorem setTm_dram (x : TmUnit) : (s.setTm x).dram = s.dram := rfl
@[simp] theorem setTm_dma (x : TmUnit) : (s.setTm x).dma = s.dma := rfl
@[simp] theorem setTm_cores (x : TmUnit) : (s.setTm x).cores = s.cores := rfl
@[simp] theorem setTm_power (x : TmUnit) : (s.setTm x).power = s.power := rfl
@[simp] theorem setTm_pair (x : TmUnit) : (s.setTm x).pair = s.pair := rfl
@[simp] theorem setTm_log (x : TmUnit) : (s.setTm x).log = s.log := rfl
@[simp] theorem setTm_upd (x : TmUnit) : (s.setTm x).upd = s.upd := rfl
@[simp] theorem setTm_start (x : TmUnit) : (s.setTm x).start = s.start := rfl
@[simp] theorem setTm_part (x : TmUnit) : (s.setTm x).part = s.part := rfl

@[simp] theorem setWired_pending (x : Wired) : (s.setWired x).pending = s.pending := rfl
@[simp] theorem setWired_free (x : Wired) : (s.setWired x).free = s.free := rfl
@[simp] theorem setWired_now (x : Wired) : (s.setWired x).now = s.now := rfl
@[simp] theorem setWired_lastResp (x : Wired) : (s.setWired x).lastResp = s.lastResp := rfl
@[simp] theorem setWired_obj (x : Wired) : (s.setWired x).obj = s.obj := rfl
@[simp] theorem setWired_reg (x : Wired) : (s.setWired x).reg = s.reg := rfl
@[simp] theorem setWired_mem (x : Wired) : (s.setWired x).mem = s.mem := rfl
@[simp] theorem setWired_flash (x : Wired) : (s.setWired x).flash = s.flash := rfl
@[simp] theorem setWired_dict (x : Wired) : (s.setWired x).dict = s.dict := rfl
@[simp] theorem setWired_rf (x : Wired) : (s.setWired x).rf = s.rf := rfl
@[simp] theorem setWired_mac (x : Wired) : (s.setWired x).mac = s.mac := rfl
@[simp] theorem setWired_chain (x : Wired) : (s.setWired x).chain = s.chain := rfl
@[simp] theorem setWired_pp (x : Wired) : (s.setWired x).pp = s.pp := rfl
@[simp] theorem setWired_tm (x : Wired) : (s.setWired x).tm = s.tm := rfl
@[simp] theorem setWired_wired (x : Wired) : (s.setWired x).wired = x := rfl
@[simp] theorem setWired_datum (x : Wired) : (s.setWired x).datum = s.datum := rfl
@[simp] theorem setWired_sec (x : Wired) : (s.setWired x).sec = s.sec := rfl
@[simp] theorem setWired_dram (x : Wired) : (s.setWired x).dram = s.dram := rfl
@[simp] theorem setWired_dma (x : Wired) : (s.setWired x).dma = s.dma := rfl
@[simp] theorem setWired_cores (x : Wired) : (s.setWired x).cores = s.cores := rfl
@[simp] theorem setWired_power (x : Wired) : (s.setWired x).power = s.power := rfl
@[simp] theorem setWired_pair (x : Wired) : (s.setWired x).pair = s.pair := rfl
@[simp] theorem setWired_log (x : Wired) : (s.setWired x).log = s.log := rfl
@[simp] theorem setWired_upd (x : Wired) : (s.setWired x).upd = s.upd := rfl
@[simp] theorem setWired_start (x : Wired) : (s.setWired x).start = s.start := rfl
@[simp] theorem setWired_part (x : Wired) : (s.setWired x).part = s.part := rfl

@[simp] theorem setDatum_pending (x : DatumUnit) : (s.setDatum x).pending = s.pending := rfl
@[simp] theorem setDatum_free (x : DatumUnit) : (s.setDatum x).free = s.free := rfl
@[simp] theorem setDatum_now (x : DatumUnit) : (s.setDatum x).now = s.now := rfl
@[simp] theorem setDatum_lastResp (x : DatumUnit) : (s.setDatum x).lastResp = s.lastResp := rfl
@[simp] theorem setDatum_obj (x : DatumUnit) : (s.setDatum x).obj = s.obj := rfl
@[simp] theorem setDatum_reg (x : DatumUnit) : (s.setDatum x).reg = s.reg := rfl
@[simp] theorem setDatum_mem (x : DatumUnit) : (s.setDatum x).mem = s.mem := rfl
@[simp] theorem setDatum_flash (x : DatumUnit) : (s.setDatum x).flash = s.flash := rfl
@[simp] theorem setDatum_dict (x : DatumUnit) : (s.setDatum x).dict = s.dict := rfl
@[simp] theorem setDatum_rf (x : DatumUnit) : (s.setDatum x).rf = s.rf := rfl
@[simp] theorem setDatum_mac (x : DatumUnit) : (s.setDatum x).mac = s.mac := rfl
@[simp] theorem setDatum_chain (x : DatumUnit) : (s.setDatum x).chain = s.chain := rfl
@[simp] theorem setDatum_pp (x : DatumUnit) : (s.setDatum x).pp = s.pp := rfl
@[simp] theorem setDatum_tm (x : DatumUnit) : (s.setDatum x).tm = s.tm := rfl
@[simp] theorem setDatum_wired (x : DatumUnit) : (s.setDatum x).wired = s.wired := rfl
@[simp] theorem setDatum_datum (x : DatumUnit) : (s.setDatum x).datum = x := rfl
@[simp] theorem setDatum_sec (x : DatumUnit) : (s.setDatum x).sec = s.sec := rfl
@[simp] theorem setDatum_dram (x : DatumUnit) : (s.setDatum x).dram = s.dram := rfl
@[simp] theorem setDatum_dma (x : DatumUnit) : (s.setDatum x).dma = s.dma := rfl
@[simp] theorem setDatum_cores (x : DatumUnit) : (s.setDatum x).cores = s.cores := rfl
@[simp] theorem setDatum_power (x : DatumUnit) : (s.setDatum x).power = s.power := rfl
@[simp] theorem setDatum_pair (x : DatumUnit) : (s.setDatum x).pair = s.pair := rfl
@[simp] theorem setDatum_log (x : DatumUnit) : (s.setDatum x).log = s.log := rfl
@[simp] theorem setDatum_upd (x : DatumUnit) : (s.setDatum x).upd = s.upd := rfl
@[simp] theorem setDatum_start (x : DatumUnit) : (s.setDatum x).start = s.start := rfl
@[simp] theorem setDatum_part (x : DatumUnit) : (s.setDatum x).part = s.part := rfl

@[simp] theorem setSec_pending (x : Sec) : (s.setSec x).pending = s.pending := rfl
@[simp] theorem setSec_free (x : Sec) : (s.setSec x).free = s.free := rfl
@[simp] theorem setSec_now (x : Sec) : (s.setSec x).now = s.now := rfl
@[simp] theorem setSec_lastResp (x : Sec) : (s.setSec x).lastResp = s.lastResp := rfl
@[simp] theorem setSec_obj (x : Sec) : (s.setSec x).obj = s.obj := rfl
@[simp] theorem setSec_reg (x : Sec) : (s.setSec x).reg = s.reg := rfl
@[simp] theorem setSec_mem (x : Sec) : (s.setSec x).mem = s.mem := rfl
@[simp] theorem setSec_flash (x : Sec) : (s.setSec x).flash = s.flash := rfl
@[simp] theorem setSec_dict (x : Sec) : (s.setSec x).dict = s.dict := rfl
@[simp] theorem setSec_rf (x : Sec) : (s.setSec x).rf = s.rf := rfl
@[simp] theorem setSec_mac (x : Sec) : (s.setSec x).mac = s.mac := rfl
@[simp] theorem setSec_chain (x : Sec) : (s.setSec x).chain = s.chain := rfl
@[simp] theorem setSec_pp (x : Sec) : (s.setSec x).pp = s.pp := rfl
@[simp] theorem setSec_tm (x : Sec) : (s.setSec x).tm = s.tm := rfl
@[simp] theorem setSec_wired (x : Sec) : (s.setSec x).wired = s.wired := rfl
@[simp] theorem setSec_datum (x : Sec) : (s.setSec x).datum = s.datum := rfl
@[simp] theorem setSec_sec (x : Sec) : (s.setSec x).sec = x := rfl
@[simp] theorem setSec_dram (x : Sec) : (s.setSec x).dram = s.dram := rfl
@[simp] theorem setSec_dma (x : Sec) : (s.setSec x).dma = s.dma := rfl
@[simp] theorem setSec_cores (x : Sec) : (s.setSec x).cores = s.cores := rfl
@[simp] theorem setSec_power (x : Sec) : (s.setSec x).power = s.power := rfl
@[simp] theorem setSec_pair (x : Sec) : (s.setSec x).pair = s.pair := rfl
@[simp] theorem setSec_log (x : Sec) : (s.setSec x).log = s.log := rfl
@[simp] theorem setSec_upd (x : Sec) : (s.setSec x).upd = s.upd := rfl
@[simp] theorem setSec_start (x : Sec) : (s.setSec x).start = s.start := rfl
@[simp] theorem setSec_part (x : Sec) : (s.setSec x).part = s.part := rfl

@[simp] theorem setDram_pending (x : Dram) : (s.setDram x).pending = s.pending := rfl
@[simp] theorem setDram_free (x : Dram) : (s.setDram x).free = s.free := rfl
@[simp] theorem setDram_now (x : Dram) : (s.setDram x).now = s.now := rfl
@[simp] theorem setDram_lastResp (x : Dram) : (s.setDram x).lastResp = s.lastResp := rfl
@[simp] theorem setDram_obj (x : Dram) : (s.setDram x).obj = s.obj := rfl
@[simp] theorem setDram_reg (x : Dram) : (s.setDram x).reg = s.reg := rfl
@[simp] theorem setDram_mem (x : Dram) : (s.setDram x).mem = s.mem := rfl
@[simp] theorem setDram_flash (x : Dram) : (s.setDram x).flash = s.flash := rfl
@[simp] theorem setDram_dict (x : Dram) : (s.setDram x).dict = s.dict := rfl
@[simp] theorem setDram_rf (x : Dram) : (s.setDram x).rf = s.rf := rfl
@[simp] theorem setDram_mac (x : Dram) : (s.setDram x).mac = s.mac := rfl
@[simp] theorem setDram_chain (x : Dram) : (s.setDram x).chain = s.chain := rfl
@[simp] theorem setDram_pp (x : Dram) : (s.setDram x).pp = s.pp := rfl
@[simp] theorem setDram_tm (x : Dram) : (s.setDram x).tm = s.tm := rfl
@[simp] theorem setDram_wired (x : Dram) : (s.setDram x).wired = s.wired := rfl
@[simp] theorem setDram_datum (x : Dram) : (s.setDram x).datum = s.datum := rfl
@[simp] theorem setDram_sec (x : Dram) : (s.setDram x).sec = s.sec := rfl
@[simp] theorem setDram_dram (x : Dram) : (s.setDram x).dram = x := rfl
@[simp] theorem setDram_dma (x : Dram) : (s.setDram x).dma = s.dma := rfl
@[simp] theorem setDram_cores (x : Dram) : (s.setDram x).cores = s.cores := rfl
@[simp] theorem setDram_power (x : Dram) : (s.setDram x).power = s.power := rfl
@[simp] theorem setDram_pair (x : Dram) : (s.setDram x).pair = s.pair := rfl
@[simp] theorem setDram_log (x : Dram) : (s.setDram x).log = s.log := rfl
@[simp] theorem setDram_upd (x : Dram) : (s.setDram x).upd = s.upd := rfl
@[simp] theorem setDram_start (x : Dram) : (s.setDram x).start = s.start := rfl
@[simp] theorem setDram_part (x : Dram) : (s.setDram x).part = s.part := rfl

@[simp] theorem setDma_pending (x : Dma) : (s.setDma x).pending = s.pending := rfl
@[simp] theorem setDma_free (x : Dma) : (s.setDma x).free = s.free := rfl
@[simp] theorem setDma_now (x : Dma) : (s.setDma x).now = s.now := rfl
@[simp] theorem setDma_lastResp (x : Dma) : (s.setDma x).lastResp = s.lastResp := rfl
@[simp] theorem setDma_obj (x : Dma) : (s.setDma x).obj = s.obj := rfl
@[simp] theorem setDma_reg (x : Dma) : (s.setDma x).reg = s.reg := rfl
@[simp] theorem setDma_mem (x : Dma) : (s.setDma x).mem = s.mem := rfl
@[simp] theorem setDma_flash (x : Dma) : (s.setDma x).flash = s.flash := rfl
@[simp] theorem setDma_dict (x : Dma) : (s.setDma x).dict = s.dict := rfl
@[simp] theorem setDma_rf (x : Dma) : (s.setDma x).rf = s.rf := rfl
@[simp] theorem setDma_mac (x : Dma) : (s.setDma x).mac = s.mac := rfl
@[simp] theorem setDma_chain (x : Dma) : (s.setDma x).chain = s.chain := rfl
@[simp] theorem setDma_pp (x : Dma) : (s.setDma x).pp = s.pp := rfl
@[simp] theorem setDma_tm (x : Dma) : (s.setDma x).tm = s.tm := rfl
@[simp] theorem setDma_wired (x : Dma) : (s.setDma x).wired = s.wired := rfl
@[simp] theorem setDma_datum (x : Dma) : (s.setDma x).datum = s.datum := rfl
@[simp] theorem setDma_sec (x : Dma) : (s.setDma x).sec = s.sec := rfl
@[simp] theorem setDma_dram (x : Dma) : (s.setDma x).dram = s.dram := rfl
@[simp] theorem setDma_dma (x : Dma) : (s.setDma x).dma = x := rfl
@[simp] theorem setDma_cores (x : Dma) : (s.setDma x).cores = s.cores := rfl
@[simp] theorem setDma_power (x : Dma) : (s.setDma x).power = s.power := rfl
@[simp] theorem setDma_pair (x : Dma) : (s.setDma x).pair = s.pair := rfl
@[simp] theorem setDma_log (x : Dma) : (s.setDma x).log = s.log := rfl
@[simp] theorem setDma_upd (x : Dma) : (s.setDma x).upd = s.upd := rfl
@[simp] theorem setDma_start (x : Dma) : (s.setDma x).start = s.start := rfl
@[simp] theorem setDma_part (x : Dma) : (s.setDma x).part = s.part := rfl

@[simp] theorem setPower_pending (x : Power) : (s.setPower x).pending = s.pending := rfl
@[simp] theorem setPower_free (x : Power) : (s.setPower x).free = s.free := rfl
@[simp] theorem setPower_now (x : Power) : (s.setPower x).now = s.now := rfl
@[simp] theorem setPower_lastResp (x : Power) : (s.setPower x).lastResp = s.lastResp := rfl
@[simp] theorem setPower_obj (x : Power) : (s.setPower x).obj = s.obj := rfl
@[simp] theorem setPower_reg (x : Power) : (s.setPower x).reg = s.reg := rfl
@[simp] theorem setPower_mem (x : Power) : (s.setPower x).mem = s.mem := rfl
@[simp] theorem setPower_flash (x : Power) : (s.setPower x).flash = s.flash := rfl
@[simp] theorem setPower_dict (x : Power) : (s.setPower x).dict = s.dict := rfl
@[simp] theorem setPower_rf (x : Power) : (s.setPower x).rf = s.rf := rfl
@[simp] theorem setPower_mac (x : Power) : (s.setPower x).mac = s.mac := rfl
@[simp] theorem setPower_chain (x : Power) : (s.setPower x).chain = s.chain := rfl
@[simp] theorem setPower_pp (x : Power) : (s.setPower x).pp = s.pp := rfl
@[simp] theorem setPower_tm (x : Power) : (s.setPower x).tm = s.tm := rfl
@[simp] theorem setPower_wired (x : Power) : (s.setPower x).wired = s.wired := rfl
@[simp] theorem setPower_datum (x : Power) : (s.setPower x).datum = s.datum := rfl
@[simp] theorem setPower_sec (x : Power) : (s.setPower x).sec = s.sec := rfl
@[simp] theorem setPower_dram (x : Power) : (s.setPower x).dram = s.dram := rfl
@[simp] theorem setPower_dma (x : Power) : (s.setPower x).dma = s.dma := rfl
@[simp] theorem setPower_cores (x : Power) : (s.setPower x).cores = s.cores := rfl
@[simp] theorem setPower_power (x : Power) : (s.setPower x).power = x := rfl
@[simp] theorem setPower_pair (x : Power) : (s.setPower x).pair = s.pair := rfl
@[simp] theorem setPower_log (x : Power) : (s.setPower x).log = s.log := rfl
@[simp] theorem setPower_upd (x : Power) : (s.setPower x).upd = s.upd := rfl
@[simp] theorem setPower_start (x : Power) : (s.setPower x).start = s.start := rfl
@[simp] theorem setPower_part (x : Power) : (s.setPower x).part = s.part := rfl

@[simp] theorem setPair_pending (x : Pair) : (s.setPair x).pending = s.pending := rfl
@[simp] theorem setPair_free (x : Pair) : (s.setPair x).free = s.free := rfl
@[simp] theorem setPair_now (x : Pair) : (s.setPair x).now = s.now := rfl
@[simp] theorem setPair_lastResp (x : Pair) : (s.setPair x).lastResp = s.lastResp := rfl
@[simp] theorem setPair_obj (x : Pair) : (s.setPair x).obj = s.obj := rfl
@[simp] theorem setPair_reg (x : Pair) : (s.setPair x).reg = s.reg := rfl
@[simp] theorem setPair_mem (x : Pair) : (s.setPair x).mem = s.mem := rfl
@[simp] theorem setPair_flash (x : Pair) : (s.setPair x).flash = s.flash := rfl
@[simp] theorem setPair_dict (x : Pair) : (s.setPair x).dict = s.dict := rfl
@[simp] theorem setPair_rf (x : Pair) : (s.setPair x).rf = s.rf := rfl
@[simp] theorem setPair_mac (x : Pair) : (s.setPair x).mac = s.mac := rfl
@[simp] theorem setPair_chain (x : Pair) : (s.setPair x).chain = s.chain := rfl
@[simp] theorem setPair_pp (x : Pair) : (s.setPair x).pp = s.pp := rfl
@[simp] theorem setPair_tm (x : Pair) : (s.setPair x).tm = s.tm := rfl
@[simp] theorem setPair_wired (x : Pair) : (s.setPair x).wired = s.wired := rfl
@[simp] theorem setPair_datum (x : Pair) : (s.setPair x).datum = s.datum := rfl
@[simp] theorem setPair_sec (x : Pair) : (s.setPair x).sec = s.sec := rfl
@[simp] theorem setPair_dram (x : Pair) : (s.setPair x).dram = s.dram := rfl
@[simp] theorem setPair_dma (x : Pair) : (s.setPair x).dma = s.dma := rfl
@[simp] theorem setPair_cores (x : Pair) : (s.setPair x).cores = s.cores := rfl
@[simp] theorem setPair_power (x : Pair) : (s.setPair x).power = s.power := rfl
@[simp] theorem setPair_pair (x : Pair) : (s.setPair x).pair = x := rfl
@[simp] theorem setPair_log (x : Pair) : (s.setPair x).log = s.log := rfl
@[simp] theorem setPair_upd (x : Pair) : (s.setPair x).upd = s.upd := rfl
@[simp] theorem setPair_start (x : Pair) : (s.setPair x).start = s.start := rfl
@[simp] theorem setPair_part (x : Pair) : (s.setPair x).part = s.part := rfl

@[simp] theorem setLog_pending (x : Log) : (s.setLog x).pending = s.pending := rfl
@[simp] theorem setLog_free (x : Log) : (s.setLog x).free = s.free := rfl
@[simp] theorem setLog_now (x : Log) : (s.setLog x).now = s.now := rfl
@[simp] theorem setLog_lastResp (x : Log) : (s.setLog x).lastResp = s.lastResp := rfl
@[simp] theorem setLog_obj (x : Log) : (s.setLog x).obj = s.obj := rfl
@[simp] theorem setLog_reg (x : Log) : (s.setLog x).reg = s.reg := rfl
@[simp] theorem setLog_mem (x : Log) : (s.setLog x).mem = s.mem := rfl
@[simp] theorem setLog_flash (x : Log) : (s.setLog x).flash = s.flash := rfl
@[simp] theorem setLog_dict (x : Log) : (s.setLog x).dict = s.dict := rfl
@[simp] theorem setLog_rf (x : Log) : (s.setLog x).rf = s.rf := rfl
@[simp] theorem setLog_mac (x : Log) : (s.setLog x).mac = s.mac := rfl
@[simp] theorem setLog_chain (x : Log) : (s.setLog x).chain = s.chain := rfl
@[simp] theorem setLog_pp (x : Log) : (s.setLog x).pp = s.pp := rfl
@[simp] theorem setLog_tm (x : Log) : (s.setLog x).tm = s.tm := rfl
@[simp] theorem setLog_wired (x : Log) : (s.setLog x).wired = s.wired := rfl
@[simp] theorem setLog_datum (x : Log) : (s.setLog x).datum = s.datum := rfl
@[simp] theorem setLog_sec (x : Log) : (s.setLog x).sec = s.sec := rfl
@[simp] theorem setLog_dram (x : Log) : (s.setLog x).dram = s.dram := rfl
@[simp] theorem setLog_dma (x : Log) : (s.setLog x).dma = s.dma := rfl
@[simp] theorem setLog_cores (x : Log) : (s.setLog x).cores = s.cores := rfl
@[simp] theorem setLog_power (x : Log) : (s.setLog x).power = s.power := rfl
@[simp] theorem setLog_pair (x : Log) : (s.setLog x).pair = s.pair := rfl
@[simp] theorem setLog_log (x : Log) : (s.setLog x).log = x := rfl
@[simp] theorem setLog_upd (x : Log) : (s.setLog x).upd = s.upd := rfl
@[simp] theorem setLog_start (x : Log) : (s.setLog x).start = s.start := rfl
@[simp] theorem setLog_part (x : Log) : (s.setLog x).part = s.part := rfl

@[simp] theorem setUpd_pending (x : Update) : (s.setUpd x).pending = s.pending := rfl
@[simp] theorem setUpd_free (x : Update) : (s.setUpd x).free = s.free := rfl
@[simp] theorem setUpd_now (x : Update) : (s.setUpd x).now = s.now := rfl
@[simp] theorem setUpd_lastResp (x : Update) : (s.setUpd x).lastResp = s.lastResp := rfl
@[simp] theorem setUpd_obj (x : Update) : (s.setUpd x).obj = s.obj := rfl
@[simp] theorem setUpd_reg (x : Update) : (s.setUpd x).reg = s.reg := rfl
@[simp] theorem setUpd_mem (x : Update) : (s.setUpd x).mem = s.mem := rfl
@[simp] theorem setUpd_flash (x : Update) : (s.setUpd x).flash = s.flash := rfl
@[simp] theorem setUpd_dict (x : Update) : (s.setUpd x).dict = s.dict := rfl
@[simp] theorem setUpd_rf (x : Update) : (s.setUpd x).rf = s.rf := rfl
@[simp] theorem setUpd_mac (x : Update) : (s.setUpd x).mac = s.mac := rfl
@[simp] theorem setUpd_chain (x : Update) : (s.setUpd x).chain = s.chain := rfl
@[simp] theorem setUpd_pp (x : Update) : (s.setUpd x).pp = s.pp := rfl
@[simp] theorem setUpd_tm (x : Update) : (s.setUpd x).tm = s.tm := rfl
@[simp] theorem setUpd_wired (x : Update) : (s.setUpd x).wired = s.wired := rfl
@[simp] theorem setUpd_datum (x : Update) : (s.setUpd x).datum = s.datum := rfl
@[simp] theorem setUpd_sec (x : Update) : (s.setUpd x).sec = s.sec := rfl
@[simp] theorem setUpd_dram (x : Update) : (s.setUpd x).dram = s.dram := rfl
@[simp] theorem setUpd_dma (x : Update) : (s.setUpd x).dma = s.dma := rfl
@[simp] theorem setUpd_cores (x : Update) : (s.setUpd x).cores = s.cores := rfl
@[simp] theorem setUpd_power (x : Update) : (s.setUpd x).power = s.power := rfl
@[simp] theorem setUpd_pair (x : Update) : (s.setUpd x).pair = s.pair := rfl
@[simp] theorem setUpd_log (x : Update) : (s.setUpd x).log = s.log := rfl
@[simp] theorem setUpd_upd (x : Update) : (s.setUpd x).upd = x := rfl
@[simp] theorem setUpd_start (x : Update) : (s.setUpd x).start = s.start := rfl
@[simp] theorem setUpd_part (x : Update) : (s.setUpd x).part = s.part := rfl

@[simp] theorem setStart_pending (x : Start) : (s.setStart x).pending = s.pending := rfl
@[simp] theorem setStart_free (x : Start) : (s.setStart x).free = s.free := rfl
@[simp] theorem setStart_now (x : Start) : (s.setStart x).now = s.now := rfl
@[simp] theorem setStart_lastResp (x : Start) : (s.setStart x).lastResp = s.lastResp := rfl
@[simp] theorem setStart_obj (x : Start) : (s.setStart x).obj = s.obj := rfl
@[simp] theorem setStart_reg (x : Start) : (s.setStart x).reg = s.reg := rfl
@[simp] theorem setStart_mem (x : Start) : (s.setStart x).mem = s.mem := rfl
@[simp] theorem setStart_flash (x : Start) : (s.setStart x).flash = s.flash := rfl
@[simp] theorem setStart_dict (x : Start) : (s.setStart x).dict = s.dict := rfl
@[simp] theorem setStart_rf (x : Start) : (s.setStart x).rf = s.rf := rfl
@[simp] theorem setStart_mac (x : Start) : (s.setStart x).mac = s.mac := rfl
@[simp] theorem setStart_chain (x : Start) : (s.setStart x).chain = s.chain := rfl
@[simp] theorem setStart_pp (x : Start) : (s.setStart x).pp = s.pp := rfl
@[simp] theorem setStart_tm (x : Start) : (s.setStart x).tm = s.tm := rfl
@[simp] theorem setStart_wired (x : Start) : (s.setStart x).wired = s.wired := rfl
@[simp] theorem setStart_datum (x : Start) : (s.setStart x).datum = s.datum := rfl
@[simp] theorem setStart_sec (x : Start) : (s.setStart x).sec = s.sec := rfl
@[simp] theorem setStart_dram (x : Start) : (s.setStart x).dram = s.dram := rfl
@[simp] theorem setStart_dma (x : Start) : (s.setStart x).dma = s.dma := rfl
@[simp] theorem setStart_cores (x : Start) : (s.setStart x).cores = s.cores := rfl
@[simp] theorem setStart_power (x : Start) : (s.setStart x).power = s.power := rfl
@[simp] theorem setStart_pair (x : Start) : (s.setStart x).pair = s.pair := rfl
@[simp] theorem setStart_log (x : Start) : (s.setStart x).log = s.log := rfl
@[simp] theorem setStart_upd (x : Start) : (s.setStart x).upd = s.upd := rfl
@[simp] theorem setStart_start (x : Start) : (s.setStart x).start = x := rfl
@[simp] theorem setStart_part (x : Start) : (s.setStart x).part = s.part := rfl

@[simp] theorem setObj_pending (i e : Nat) (v : Bytes) : (s.setObj i e v).pending = s.pending := rfl
@[simp] theorem setObj_free (i e : Nat) (v : Bytes) : (s.setObj i e v).free = s.free := rfl
@[simp] theorem setObj_now (i e : Nat) (v : Bytes) : (s.setObj i e v).now = s.now := rfl
@[simp] theorem setObj_lastResp (i e : Nat) (v : Bytes) : (s.setObj i e v).lastResp = s.lastResp := rfl
@[simp] theorem setObj_reg (i e : Nat) (v : Bytes) : (s.setObj i e v).reg = s.reg := rfl
@[simp] theorem setObj_mem (i e : Nat) (v : Bytes) : (s.setObj i e v).mem = s.mem := rfl
@[simp] theorem setObj_flash (i e : Nat) (v : Bytes) : (s.setObj i e v).flash = s.flash := rfl
@[simp] theorem setObj_dict (i e : Nat) (v : Bytes) : (s.setObj i e v).dict = s.dict := rfl
@[simp] theorem setObj_rf (i e : Nat) (v : Bytes) : (s.setObj i e v).rf = s.rf := rfl
@[simp] theorem setObj_mac (i e : Nat) (v : Bytes) : (s.setObj i e v).mac = s.mac := rfl
@[simp] theorem setObj_chain (i e : Nat) (v : Bytes) : (s.setObj i e v).chain = s.chain := rfl
@[simp] theorem setObj_pp (i e : Nat) (v : Bytes) : (s.setObj i e v).pp = s.pp := rfl
@[simp] theorem setObj_tm (i e : Nat) (v : Bytes) : (s.setObj i e v).tm = s.tm := rfl
@[simp] theorem setObj_wired (i e : Nat) (v : Bytes) : (s.setObj i e v).wired = s.wired := rfl
@[simp] theorem setObj_datum (i e : Nat) (v : Bytes) : (s.setObj i e v).datum = s.datum := rfl
@[simp] theorem setObj_sec (i e : Nat) (v : Bytes) : (s.setObj i e v).sec = s.sec := rfl
@[simp] theorem setObj_dram (i e : Nat) (v : Bytes) : (s.setObj i e v).dram = s.dram := rfl
@[simp] theorem setObj_dma (i e : Nat) (v : Bytes) : (s.setObj i e v).dma = s.dma := rfl
@[simp] theorem setObj_cores (i e : Nat) (v : Bytes) : (s.setObj i e v).cores = s.cores := rfl
@[simp] theorem setObj_power (i e : Nat) (v : Bytes) : (s.setObj i e v).power = s.power := rfl
@[simp] theorem setObj_pair (i e : Nat) (v : Bytes) : (s.setObj i e v).pair = s.pair := rfl
@[simp] theorem setObj_log (i e : Nat) (v : Bytes) : (s.setObj i e v).log = s.log := rfl
@[simp] theorem setObj_upd (i e : Nat) (v : Bytes) : (s.setObj i e v).upd = s.upd := rfl
@[simp] theorem setObj_start (i e : Nat) (v : Bytes) : (s.setObj i e v).start = s.start := rfl
@[simp] theorem setObj_part (i e : Nat) (v : Bytes) : (s.setObj i e v).part = s.part := rfl

@[simp] theorem setObjF_pending (i e o w v : Nat) : (s.setObjF i e o w v).pending = s.pending := rfl
@[simp] theorem setObjF_free (i e o w v : Nat) : (s.setObjF i e o w v).free = s.free := rfl
@[simp] theorem setObjF_now (i e o w v : Nat) : (s.setObjF i e o w v).now = s.now := rfl
@[simp] theorem setObjF_lastResp (i e o w v : Nat) : (s.setObjF i e o w v).lastResp = s.lastResp := rfl
@[simp] theorem setObjF_reg (i e o w v : Nat) : (s.setObjF i e o w v).reg = s.reg := rfl
@[simp] theorem setObjF_mem (i e o w v : Nat) : (s.setObjF i e o w v).mem = s.mem := rfl
@[simp] theorem setObjF_flash (i e o w v : Nat) : (s.setObjF i e o w v).flash = s.flash := rfl
@[simp] theorem setObjF_dict (i e o w v : Nat) : (s.setObjF i e o w v).dict = s.dict := rfl
@[simp] theorem setObjF_rf (i e o w v : Nat) : (s.setObjF i e o w v).rf = s.rf := rfl
@[simp] theorem setObjF_mac (i e o w v : Nat) : (s.setObjF i e o w v).mac = s.mac := rfl
@[simp] theorem setObjF_chain (i e o w v : Nat) : (s.setObjF i e o w v).chain = s.chain := rfl
@[simp] theorem setObjF_pp (i e o w v : Nat) : (s.setObjF i e o w v).pp = s.pp := rfl
@[simp] theorem setObjF_tm (i e o w v : Nat) : (s.setObjF i e o w v).tm = s.tm := rfl
@[simp] theorem setObjF_wired (i e o w v : Nat) : (s.setObjF i e o w v).wired = s.wired := rfl
@[simp] theorem setObjF_datum (i e o w v : Nat) : (s.setObjF i e o w v).datum = s.datum := rfl
@[simp] theorem setObjF_sec (i e o w v : Nat) : (s.setObjF i e o w v).sec = s.sec := rfl
@[simp] theorem setObjF_dram (i e o w v : Nat) : (s.setObjF i e o w v).dram = s.dram := rfl
@[simp] theorem setObjF_dma (i e o w v : Nat) : (s.setObjF i e o w v).dma = s.dma := rfl
@[simp] theorem setObjF_cores (i e o w v : Nat) : (s.setObjF i e o w v).cores = s.cores := rfl
@[simp] theorem setObjF_power (i e o w v : Nat) : (s.setObjF i e o w v).power = s.power := rfl
@[simp] theorem setObjF_pair (i e o w v : Nat) : (s.setObjF i e o w v).pair = s.pair := rfl
@[simp] theorem setObjF_log (i e o w v : Nat) : (s.setObjF i e o w v).log = s.log := rfl
@[simp] theorem setObjF_upd (i e o w v : Nat) : (s.setObjF i e o w v).upd = s.upd := rfl
@[simp] theorem setObjF_start (i e o w v : Nat) : (s.setObjF i e o w v).start = s.start := rfl
@[simp] theorem setObjF_part (i e o w v : Nat) : (s.setObjF i e o w v).part = s.part := rfl

@[simp] theorem patchObj_pending (i e o : Nat) (v : Bytes) : (s.patchObj i e o v).pending = s.pending := rfl
@[simp] theorem patchObj_free (i e o : Nat) (v : Bytes) : (s.patchObj i e o v).free = s.free := rfl
@[simp] theorem patchObj_now (i e o : Nat) (v : Bytes) : (s.patchObj i e o v).now = s.now := rfl
@[simp] theorem patchObj_lastResp (i e o : Nat) (v : Bytes) : (s.patchObj i e o v).lastResp = s.lastResp := rfl
@[simp] theorem patchObj_reg (i e o : Nat) (v : Bytes) : (s.patchObj i e o v).reg = s.reg := rfl
@[simp] theorem patchObj_mem (i e o : Nat) (v : Bytes) : (s.patchObj i e o v).mem = s.mem := rfl
@[simp] theorem patchObj_flash (i e o : Nat) (v : Bytes) : (s.patchObj i e o v).flash = s.flash := rfl
@[simp] theorem patchObj_dict (i e o : Nat) (v : Bytes) : (s.patchObj i e o v).dict = s.dict := rfl
@[simp] theorem patchObj_rf (i e o : Nat) (v : Bytes) : (s.patchObj i e o v).rf = s.rf := rfl
@[simp] theorem patchObj_mac (i e o : Nat) (v : Bytes) : (s.patchObj i e o v).mac = s.mac := rfl
@[simp] theorem patchObj_chain (i e o : Nat) (v : Bytes) : (s.patchObj i e o v).chain = s.chain := rfl
@[simp] theorem patchObj_pp (i e o : Nat) (v : Bytes) : (s.patchObj i e o v).pp = s.pp := rfl
@[simp] theorem patchObj_tm (i e o : Nat) (v : Bytes) : (s.patchObj i e o v).tm = s.tm := rfl
@[simp] theorem patchObj_wired (i e o : Nat) (v : Bytes) : (s.patchObj i e o v).wired = s.wired := rfl
@[simp] theorem patchObj_datum (i e o : Nat) (v : Bytes) : (s.patchObj i e o v).datum = s.datum := rfl
@[simp] theorem patchObj_sec (i e o : Nat) (v : Bytes) : (s.patchObj i e o v).sec = s.sec := rfl
@[simp] theorem patchObj_dram (i e o : Nat) (v : Bytes) : (s.patchObj i e o v).dram = s.dram := rfl
@[simp] theorem patchObj_dma (i e o : Nat) (v : Bytes) : (s.patchObj i e o v).dma = s.dma := rfl
@[simp] theorem patchObj_cores (i e o : Nat) (v : Bytes) : (s.patchObj i e o v).cores = s.cores := rfl
@[simp] theorem patchObj_power (i e o : Nat) (v : Bytes) : (s.patchObj i e o v).power = s.power := rfl
@[simp] theorem patchObj_pair (i e o : Nat) (v : Bytes) : (s.patchObj i e o v).pair = s.pair := rfl
@[simp] theorem patchObj_log (i e o : Nat) (v : Bytes) : (s.patchObj i e o v).log = s.log := rfl
@[simp] theorem patchObj_upd (i e o : Nat) (v : Bytes) : (s.patchObj i e o v).upd = s.upd := rfl
@[simp] theorem patchObj_start (i e o : Nat) (v : Bytes) : (s.patchObj i e o v).start = s.start := rfl
@[simp] theorem patchObj_part (i e o : Nat) (v : Bytes) : (s.patchObj i e o v).part = s.part := rfl

@[simp] theorem addObjF_pending (i e o w n : Nat) : (s.addObjF i e o w n).pending = s.pending := rfl
@[simp] theorem addObjF_free (i e o w n : Nat) : (s.addObjF i e o w n).free = s.free := rfl
@[simp] theorem addObjF_now (i e o w n : Nat) : (s.addObjF i e o w n).now = s.now := rfl
@[simp] theorem addObjF_lastResp (i e o w n : Nat) : (s.addObjF i e o w n).lastResp = s.lastResp := rfl
@[simp] theorem addObjF_reg (i e o w n : Nat) : (s.addObjF i e o w n).reg = s.reg := rfl
@[simp] theorem addObjF_mem (i e o w n : Nat) : (s.addObjF i e o w n).mem = s.mem := rfl
@[simp] theorem addObjF_flash (i e o w n : Nat) : (s.addObjF i e o w n).flash = s.flash := rfl
@[simp] theorem addObjF_dict (i e o w n : Nat) : (s.addObjF i e o w n).dict = s.dict := rfl
@[simp] theorem addObjF_rf (i e o w n : Nat) : (s.addObjF i e o w n).rf = s.rf := rfl
@[simp] theorem addObjF_mac (i e o w n : Nat) : (s.addObjF i e o w n).mac = s.mac := rfl
@[simp] theorem addObjF_chain (i e o w n : Nat) : (s.addObjF i e o w n).chain = s.chain := rfl
@[simp] theorem addObjF_pp (i e o w n : Nat) : (s.addObjF i e o w n).pp = s.pp := rfl
@[simp] theorem addObjF_tm (i e o w n : Nat) : (s.addObjF i e o w n).tm = s.tm := rfl
@[simp] theorem addObjF_wired (i e o w n : Nat) : (s.addObjF i e o w n).wired = s.wired := rfl
@[simp] theorem addObjF_datum (i e o w n : Nat) : (s.addObjF i e o w n).datum = s.datum := rfl
@[simp] theorem addObjF_sec (i e o w n : Nat) : (s.addObjF i e o w n).sec = s.sec := rfl
@[simp] theorem addObjF_dram (i e o w n : Nat) : (s.addObjF i e o w n).dram = s.dram := rfl
@[simp] theorem addObjF_dma (i e o w n : Nat) : (s.addObjF i e o w n).dma = s.dma := rfl
@[simp] theorem addObjF_cores (i e o w n : Nat) : (s.addObjF i e o w n).cores = s.cores := rfl
@[simp] theorem addObjF_power (i e o w n : Nat) : (s.addObjF i e o w n).power = s.power := rfl
@[simp] theorem addObjF_pair (i e o w n : Nat) : (s.addObjF i e o w n).pair = s.pair := rfl
@[simp] theorem addObjF_log (i e o w n : Nat) : (s.addObjF i e o w n).log = s.log := rfl
@[simp] theorem addObjF_upd (i e o w n : Nat) : (s.addObjF i e o w n).upd = s.upd := rfl
@[simp] theorem addObjF_start (i e o w n : Nat) : (s.addObjF i e o w n).start = s.start := rfl
@[simp] theorem addObjF_part (i e o w n : Nat) : (s.addObjF i e o w n).part = s.part := rfl

@[simp] theorem stat_pending (i e k n : Nat) : (s.stat i e k n).pending = s.pending := rfl
@[simp] theorem stat_free (i e k n : Nat) : (s.stat i e k n).free = s.free := rfl
@[simp] theorem stat_now (i e k n : Nat) : (s.stat i e k n).now = s.now := rfl
@[simp] theorem stat_lastResp (i e k n : Nat) : (s.stat i e k n).lastResp = s.lastResp := rfl
@[simp] theorem stat_reg (i e k n : Nat) : (s.stat i e k n).reg = s.reg := rfl
@[simp] theorem stat_mem (i e k n : Nat) : (s.stat i e k n).mem = s.mem := rfl
@[simp] theorem stat_flash (i e k n : Nat) : (s.stat i e k n).flash = s.flash := rfl
@[simp] theorem stat_dict (i e k n : Nat) : (s.stat i e k n).dict = s.dict := rfl
@[simp] theorem stat_rf (i e k n : Nat) : (s.stat i e k n).rf = s.rf := rfl
@[simp] theorem stat_mac (i e k n : Nat) : (s.stat i e k n).mac = s.mac := rfl
@[simp] theorem stat_chain (i e k n : Nat) : (s.stat i e k n).chain = s.chain := rfl
@[simp] theorem stat_pp (i e k n : Nat) : (s.stat i e k n).pp = s.pp := rfl
@[simp] theorem stat_tm (i e k n : Nat) : (s.stat i e k n).tm = s.tm := rfl
@[simp] theorem stat_wired (i e k n : Nat) : (s.stat i e k n).wired = s.wired := rfl
@[simp] theorem stat_datum (i e k n : Nat) : (s.stat i e k n).datum = s.datum := rfl
@[simp] theorem stat_sec (i e k n : Nat) : (s.stat i e k n).sec = s.sec := rfl
@[simp] theorem stat_dram (i e k n : Nat) : (s.stat i e k n).dram = s.dram := rfl
@[simp] theorem stat_dma (i e k n : Nat) : (s.stat i e k n).dma = s.dma := rfl
@[simp] theorem stat_cores (i e k n : Nat) : (s.stat i e k n).cores = s.cores := rfl
@[simp] theorem stat_power (i e k n : Nat) : (s.stat i e k n).power = s.power := rfl
@[simp] theorem stat_pair (i e k n : Nat) : (s.stat i e k n).pair = s.pair := rfl
@[simp] theorem stat_log (i e k n : Nat) : (s.stat i e k n).log = s.log := rfl
@[simp] theorem stat_upd (i e k n : Nat) : (s.stat i e k n).upd = s.upd := rfl
@[simp] theorem stat_start (i e k n : Nat) : (s.stat i e k n).start = s.start := rfl
@[simp] theorem stat_part (i e k n : Nat) : (s.stat i e k n).part = s.part := rfl

@[simp] theorem setFlag_pending (i e b : Nat) : (s.setFlag i e b).pending = s.pending := rfl
@[simp] theorem setFlag_free (i e b : Nat) : (s.setFlag i e b).free = s.free := rfl
@[simp] theorem setFlag_now (i e b : Nat) : (s.setFlag i e b).now = s.now := rfl
@[simp] theorem setFlag_lastResp (i e b : Nat) : (s.setFlag i e b).lastResp = s.lastResp := rfl
@[simp] theorem setFlag_reg (i e b : Nat) : (s.setFlag i e b).reg = s.reg := rfl
@[simp] theorem setFlag_mem (i e b : Nat) : (s.setFlag i e b).mem = s.mem := rfl
@[simp] theorem setFlag_flash (i e b : Nat) : (s.setFlag i e b).flash = s.flash := rfl
@[simp] theorem setFlag_dict (i e b : Nat) : (s.setFlag i e b).dict = s.dict := rfl
@[simp] theorem setFlag_rf (i e b : Nat) : (s.setFlag i e b).rf = s.rf := rfl
@[simp] theorem setFlag_mac (i e b : Nat) : (s.setFlag i e b).mac = s.mac := rfl
@[simp] theorem setFlag_chain (i e b : Nat) : (s.setFlag i e b).chain = s.chain := rfl
@[simp] theorem setFlag_pp (i e b : Nat) : (s.setFlag i e b).pp = s.pp := rfl
@[simp] theorem setFlag_tm (i e b : Nat) : (s.setFlag i e b).tm = s.tm := rfl
@[simp] theorem setFlag_wired (i e b : Nat) : (s.setFlag i e b).wired = s.wired := rfl
@[simp] theorem setFlag_datum (i e b : Nat) : (s.setFlag i e b).datum = s.datum := rfl
@[simp] theorem setFlag_sec (i e b : Nat) : (s.setFlag i e b).sec = s.sec := rfl
@[simp] theorem setFlag_dram (i e b : Nat) : (s.setFlag i e b).dram = s.dram := rfl
@[simp] theorem setFlag_dma (i e b : Nat) : (s.setFlag i e b).dma = s.dma := rfl
@[simp] theorem setFlag_cores (i e b : Nat) : (s.setFlag i e b).cores = s.cores := rfl
@[simp] theorem setFlag_power (i e b : Nat) : (s.setFlag i e b).power = s.power := rfl
@[simp] theorem setFlag_pair (i e b : Nat) : (s.setFlag i e b).pair = s.pair := rfl
@[simp] theorem setFlag_log (i e b : Nat) : (s.setFlag i e b).log = s.log := rfl
@[simp] theorem setFlag_upd (i e b : Nat) : (s.setFlag i e b).upd = s.upd := rfl
@[simp] theorem setFlag_start (i e b : Nat) : (s.setFlag i e b).start = s.start := rfl
@[simp] theorem setFlag_part (i e b : Nat) : (s.setFlag i e b).part = s.part := rfl

@[simp] theorem clearFlags_pending (i e b : Nat) : (s.clearFlags i e b).pending = s.pending := rfl
@[simp] theorem clearFlags_free (i e b : Nat) : (s.clearFlags i e b).free = s.free := rfl
@[simp] theorem clearFlags_now (i e b : Nat) : (s.clearFlags i e b).now = s.now := rfl
@[simp] theorem clearFlags_lastResp (i e b : Nat) : (s.clearFlags i e b).lastResp = s.lastResp := rfl
@[simp] theorem clearFlags_reg (i e b : Nat) : (s.clearFlags i e b).reg = s.reg := rfl
@[simp] theorem clearFlags_mem (i e b : Nat) : (s.clearFlags i e b).mem = s.mem := rfl
@[simp] theorem clearFlags_flash (i e b : Nat) : (s.clearFlags i e b).flash = s.flash := rfl
@[simp] theorem clearFlags_dict (i e b : Nat) : (s.clearFlags i e b).dict = s.dict := rfl
@[simp] theorem clearFlags_rf (i e b : Nat) : (s.clearFlags i e b).rf = s.rf := rfl
@[simp] theorem clearFlags_mac (i e b : Nat) : (s.clearFlags i e b).mac = s.mac := rfl
@[simp] theorem clearFlags_chain (i e b : Nat) : (s.clearFlags i e b).chain = s.chain := rfl
@[simp] theorem clearFlags_pp (i e b : Nat) : (s.clearFlags i e b).pp = s.pp := rfl
@[simp] theorem clearFlags_tm (i e b : Nat) : (s.clearFlags i e b).tm = s.tm := rfl
@[simp] theorem clearFlags_wired (i e b : Nat) : (s.clearFlags i e b).wired = s.wired := rfl
@[simp] theorem clearFlags_datum (i e b : Nat) : (s.clearFlags i e b).datum = s.datum := rfl
@[simp] theorem clearFlags_sec (i e b : Nat) : (s.clearFlags i e b).sec = s.sec := rfl
@[simp] theorem clearFlags_dram (i e b : Nat) : (s.clearFlags i e b).dram = s.dram := rfl
@[simp] theorem clearFlags_dma (i e b : Nat) : (s.clearFlags i e b).dma = s.dma := rfl
@[simp] theorem clearFlags_cores (i e b : Nat) : (s.clearFlags i e b).cores = s.cores := rfl
@[simp] theorem clearFlags_power (i e b : Nat) : (s.clearFlags i e b).power = s.power := rfl
@[simp] theorem clearFlags_pair (i e b : Nat) : (s.clearFlags i e b).pair = s.pair := rfl
@[simp] theorem clearFlags_log (i e b : Nat) : (s.clearFlags i e b).log = s.log := rfl
@[simp] theorem clearFlags_upd (i e b : Nat) : (s.clearFlags i e b).upd = s.upd := rfl
@[simp] theorem clearFlags_start (i e b : Nat) : (s.clearFlags i e b).start = s.start := rfl
@[simp] theorem clearFlags_part (i e b : Nat) : (s.clearFlags i e b).part = s.part := rfl

@[simp] theorem setReg_pending (a v : Nat) : (s.setReg a v).pending = s.pending := rfl
@[simp] theorem setReg_free (a v : Nat) : (s.setReg a v).free = s.free := rfl
@[simp] theorem setReg_now (a v : Nat) : (s.setReg a v).now = s.now := rfl
@[simp] theorem setReg_lastResp (a v : Nat) : (s.setReg a v).lastResp = s.lastResp := rfl
@[simp] theorem setReg_obj (a v : Nat) : (s.setReg a v).obj = s.obj := rfl
@[simp] theorem setReg_mem (a v : Nat) : (s.setReg a v).mem = s.mem := rfl
@[simp] theorem setReg_flash (a v : Nat) : (s.setReg a v).flash = s.flash := rfl
@[simp] theorem setReg_dict (a v : Nat) : (s.setReg a v).dict = s.dict := rfl
@[simp] theorem setReg_rf (a v : Nat) : (s.setReg a v).rf = s.rf := rfl
@[simp] theorem setReg_mac (a v : Nat) : (s.setReg a v).mac = s.mac := rfl
@[simp] theorem setReg_chain (a v : Nat) : (s.setReg a v).chain = s.chain := rfl
@[simp] theorem setReg_pp (a v : Nat) : (s.setReg a v).pp = s.pp := rfl
@[simp] theorem setReg_tm (a v : Nat) : (s.setReg a v).tm = s.tm := rfl
@[simp] theorem setReg_wired (a v : Nat) : (s.setReg a v).wired = s.wired := rfl
@[simp] theorem setReg_datum (a v : Nat) : (s.setReg a v).datum = s.datum := rfl
@[simp] theorem setReg_sec (a v : Nat) : (s.setReg a v).sec = s.sec := rfl
@[simp] theorem setReg_dram (a v : Nat) : (s.setReg a v).dram = s.dram := rfl
@[simp] theorem setReg_dma (a v : Nat) : (s.setReg a v).dma = s.dma := rfl
@[simp] theorem setReg_cores (a v : Nat) : (s.setReg a v).cores = s.cores := rfl
@[simp] theorem setReg_power (a v : Nat) : (s.setReg a v).power = s.power := rfl
@[simp] theorem setReg_pair (a v : Nat) : (s.setReg a v).pair = s.pair := rfl
@[simp] theorem setReg_log (a v : Nat) : (s.setReg a v).log = s.log := rfl
@[simp] theorem setReg_upd (a v : Nat) : (s.setReg a v).upd = s.upd := rfl
@[simp] theorem setReg_start (a v : Nat) : (s.setReg a v).start = s.start := rfl
@[simp] theorem setReg_part (a v : Nat) : (s.setReg a v).part = s.part := rfl

@[simp] theorem modCore_pending (c : CoreId) (f : CoreSt → CoreSt) : (s.modCore c f).pending = s.pending := rfl
@[simp] theorem modCore_free (c : CoreId) (f : CoreSt → CoreSt) : (s.modCore c f).free = s.free := rfl
@[simp] theorem modCore_now (c : CoreId) (f : CoreSt → CoreSt) : (s.modCore c f).now = s.now := rfl
@[simp] theorem modCore_lastResp (c : CoreId) (f : CoreSt → CoreSt) : (s.modCore c f).lastResp = s.lastResp := rfl
@[simp] theorem modCore_obj (c : CoreId) (f : CoreSt → CoreSt) : (s.modCore c f).obj = s.obj := rfl
@[simp] theorem modCore_reg (c : CoreId) (f : CoreSt → CoreSt) : (s.modCore c f).reg = s.reg := rfl
@[simp] theorem modCore_mem (c : CoreId) (f : CoreSt → CoreSt) : (s.modCore c f).mem = s.mem := rfl
@[simp] theorem modCore_flash (c : CoreId) (f : CoreSt → CoreSt) : (s.modCore c f).flash = s.flash := rfl
@[simp] theorem modCore_dict (c : CoreId) (f : CoreSt → CoreSt) : (s.modCore c f).dict = s.dict := rfl
@[simp] theorem modCore_rf (c : CoreId) (f : CoreSt → CoreSt) : (s.modCore c f).rf = s.rf := rfl
@[simp] theorem modCore_mac (c : CoreId) (f : CoreSt → CoreSt) : (s.modCore c f).mac = s.mac := rfl
@[simp] theorem modCore_chain (c : CoreId) (f : CoreSt → CoreSt) : (s.modCore c f).chain = s.chain := rfl
@[simp] theorem modCore_pp (c : CoreId) (f : CoreSt → CoreSt) : (s.modCore c f).pp = s.pp := rfl
@[simp] theorem modCore_tm (c : CoreId) (f : CoreSt → CoreSt) : (s.modCore c f).tm = s.tm := rfl
@[simp] theorem modCore_wired (c : CoreId) (f : CoreSt → CoreSt) : (s.modCore c f).wired = s.wired := rfl
@[simp] theorem modCore_datum (c : CoreId) (f : CoreSt → CoreSt) : (s.modCore c f).datum = s.datum := rfl
@[simp] theorem modCore_sec (c : CoreId) (f : CoreSt → CoreSt) : (s.modCore c f).sec = s.sec := rfl
@[simp] theorem modCore_dram (c : CoreId) (f : CoreSt → CoreSt) : (s.modCore c f).dram = s.dram := rfl
@[simp] theorem modCore_dma (c : CoreId) (f : CoreSt → CoreSt) : (s.modCore c f).dma = s.dma := rfl
@[simp] theorem modCore_power (c : CoreId) (f : CoreSt → CoreSt) : (s.modCore c f).power = s.power := rfl
@[simp] theorem modCore_pair (c : CoreId) (f : CoreSt → CoreSt) : (s.modCore c f).pair = s.pair := rfl
@[simp] theorem modCore_log (c : CoreId) (f : CoreSt → CoreSt) : (s.modCore c f).log = s.log := rfl
@[simp] theorem modCore_upd (c : CoreId) (f : CoreSt → CoreSt) : (s.modCore c f).upd = s.upd := rfl
@[simp] theorem modCore_start (c : CoreId) (f : CoreSt → CoreSt) : (s.modCore c f).start = s.start := rfl
@[simp] theorem modCore_part (c : CoreId) (f : CoreSt → CoreSt) : (s.modCore c f).part = s.part := rfl

@[simp] theorem setThread_pending (t : Nat) (x : Thread) : (s.setThread t x).pending = s.pending := rfl
@[simp] theorem setThread_free (t : Nat) (x : Thread) : (s.setThread t x).free = s.free := rfl
@[simp] theorem setThread_now (t : Nat) (x : Thread) : (s.setThread t x).now = s.now := rfl
@[simp] theorem setThread_lastResp (t : Nat) (x : Thread) : (s.setThread t x).lastResp = s.lastResp := rfl
@[simp] theorem setThread_obj (t : Nat) (x : Thread) : (s.setThread t x).obj = s.obj := rfl
@[simp] theorem setThread_reg (t : Nat) (x : Thread) : (s.setThread t x).reg = s.reg := rfl
@[simp] theorem setThread_mem (t : Nat) (x : Thread) : (s.setThread t x).mem = s.mem := rfl
@[simp] theorem setThread_flash (t : Nat) (x : Thread) : (s.setThread t x).flash = s.flash := rfl
@[simp] theorem setThread_dict (t : Nat) (x : Thread) : (s.setThread t x).dict = s.dict := rfl
@[simp] theorem setThread_rf (t : Nat) (x : Thread) : (s.setThread t x).rf = s.rf := rfl
@[simp] theorem setThread_mac (t : Nat) (x : Thread) : (s.setThread t x).mac = s.mac := rfl
@[simp] theorem setThread_chain (t : Nat) (x : Thread) : (s.setThread t x).chain = s.chain := rfl
@[simp] theorem setThread_pp (t : Nat) (x : Thread) : (s.setThread t x).pp = s.pp := rfl
@[simp] theorem setThread_tm (t : Nat) (x : Thread) : (s.setThread t x).tm = s.tm := rfl
@[simp] theorem setThread_wired (t : Nat) (x : Thread) : (s.setThread t x).wired = s.wired := rfl
@[simp] theorem setThread_datum (t : Nat) (x : Thread) : (s.setThread t x).datum = s.datum := rfl
@[simp] theorem setThread_sec (t : Nat) (x : Thread) : (s.setThread t x).sec = s.sec := rfl
@[simp] theorem setThread_dram (t : Nat) (x : Thread) : (s.setThread t x).dram = s.dram := rfl
@[simp] theorem setThread_dma (t : Nat) (x : Thread) : (s.setThread t x).dma = s.dma := rfl
@[simp] theorem setThread_power (t : Nat) (x : Thread) : (s.setThread t x).power = s.power := rfl
@[simp] theorem setThread_pair (t : Nat) (x : Thread) : (s.setThread t x).pair = s.pair := rfl
@[simp] theorem setThread_log (t : Nat) (x : Thread) : (s.setThread t x).log = s.log := rfl
@[simp] theorem setThread_upd (t : Nat) (x : Thread) : (s.setThread t x).upd = s.upd := rfl
@[simp] theorem setThread_start (t : Nat) (x : Thread) : (s.setThread t x).start = s.start := rfl
@[simp] theorem setThread_part (t : Nat) (x : Thread) : (s.setThread t x).part = s.part := rfl

@[simp] theorem setOpnd_pending (o : Nat) (x : Operand) : (s.setOpnd o x).pending = s.pending := rfl
@[simp] theorem setOpnd_free (o : Nat) (x : Operand) : (s.setOpnd o x).free = s.free := rfl
@[simp] theorem setOpnd_now (o : Nat) (x : Operand) : (s.setOpnd o x).now = s.now := rfl
@[simp] theorem setOpnd_lastResp (o : Nat) (x : Operand) : (s.setOpnd o x).lastResp = s.lastResp := rfl
@[simp] theorem setOpnd_obj (o : Nat) (x : Operand) : (s.setOpnd o x).obj = s.obj := rfl
@[simp] theorem setOpnd_reg (o : Nat) (x : Operand) : (s.setOpnd o x).reg = s.reg := rfl
@[simp] theorem setOpnd_mem (o : Nat) (x : Operand) : (s.setOpnd o x).mem = s.mem := rfl
@[simp] theorem setOpnd_flash (o : Nat) (x : Operand) : (s.setOpnd o x).flash = s.flash := rfl
@[simp] theorem setOpnd_dict (o : Nat) (x : Operand) : (s.setOpnd o x).dict = s.dict := rfl
@[simp] theorem setOpnd_rf (o : Nat) (x : Operand) : (s.setOpnd o x).rf = s.rf := rfl
@[simp] theorem setOpnd_mac (o : Nat) (x : Operand) : (s.setOpnd o x).mac = s.mac := rfl
@[simp] theorem setOpnd_chain (o : Nat) (x : Operand) : (s.setOpnd o x).chain = s.chain := rfl
@[simp] theorem setOpnd_pp (o : Nat) (x : Operand) : (s.setOpnd o x).pp = s.pp := rfl
@[simp] theorem setOpnd_tm (o : Nat) (x : Operand) : (s.setOpnd o x).tm = s.tm := rfl
@[simp] theorem setOpnd_wired (o : Nat) (x : Operand) : (s.setOpnd o x).wired = s.wired := rfl
@[simp] theorem setOpnd_datum (o : Nat) (x : Operand) : (s.setOpnd o x).datum = s.datum := rfl
@[simp] theorem setOpnd_sec (o : Nat) (x : Operand) : (s.setOpnd o x).sec = s.sec := rfl
@[simp] theorem setOpnd_dram (o : Nat) (x : Operand) : (s.setOpnd o x).dram = s.dram := rfl
@[simp] theorem setOpnd_dma (o : Nat) (x : Operand) : (s.setOpnd o x).dma = s.dma := rfl
@[simp] theorem setOpnd_power (o : Nat) (x : Operand) : (s.setOpnd o x).power = s.power := rfl
@[simp] theorem setOpnd_pair (o : Nat) (x : Operand) : (s.setOpnd o x).pair = s.pair := rfl
@[simp] theorem setOpnd_log (o : Nat) (x : Operand) : (s.setOpnd o x).log = s.log := rfl
@[simp] theorem setOpnd_upd (o : Nat) (x : Operand) : (s.setOpnd o x).upd = s.upd := rfl
@[simp] theorem setOpnd_start (o : Nat) (x : Operand) : (s.setOpnd o x).start = s.start := rfl
@[simp] theorem setOpnd_part (o : Nat) (x : Operand) : (s.setOpnd o x).part = s.part := rfl

@[simp] theorem modFe_pending (r : Radio) (f : FrontEnd → FrontEnd) : (s.modFe r f).pending = s.pending := rfl
@[simp] theorem modFe_free (r : Radio) (f : FrontEnd → FrontEnd) : (s.modFe r f).free = s.free := rfl
@[simp] theorem modFe_now (r : Radio) (f : FrontEnd → FrontEnd) : (s.modFe r f).now = s.now := rfl
@[simp] theorem modFe_lastResp (r : Radio) (f : FrontEnd → FrontEnd) : (s.modFe r f).lastResp = s.lastResp := rfl
@[simp] theorem modFe_obj (r : Radio) (f : FrontEnd → FrontEnd) : (s.modFe r f).obj = s.obj := rfl
@[simp] theorem modFe_reg (r : Radio) (f : FrontEnd → FrontEnd) : (s.modFe r f).reg = s.reg := rfl
@[simp] theorem modFe_mem (r : Radio) (f : FrontEnd → FrontEnd) : (s.modFe r f).mem = s.mem := rfl
@[simp] theorem modFe_flash (r : Radio) (f : FrontEnd → FrontEnd) : (s.modFe r f).flash = s.flash := rfl
@[simp] theorem modFe_dict (r : Radio) (f : FrontEnd → FrontEnd) : (s.modFe r f).dict = s.dict := rfl
@[simp] theorem modFe_mac (r : Radio) (f : FrontEnd → FrontEnd) : (s.modFe r f).mac = s.mac := rfl
@[simp] theorem modFe_chain (r : Radio) (f : FrontEnd → FrontEnd) : (s.modFe r f).chain = s.chain := rfl
@[simp] theorem modFe_pp (r : Radio) (f : FrontEnd → FrontEnd) : (s.modFe r f).pp = s.pp := rfl
@[simp] theorem modFe_tm (r : Radio) (f : FrontEnd → FrontEnd) : (s.modFe r f).tm = s.tm := rfl
@[simp] theorem modFe_wired (r : Radio) (f : FrontEnd → FrontEnd) : (s.modFe r f).wired = s.wired := rfl
@[simp] theorem modFe_datum (r : Radio) (f : FrontEnd → FrontEnd) : (s.modFe r f).datum = s.datum := rfl
@[simp] theorem modFe_sec (r : Radio) (f : FrontEnd → FrontEnd) : (s.modFe r f).sec = s.sec := rfl
@[simp] theorem modFe_dram (r : Radio) (f : FrontEnd → FrontEnd) : (s.modFe r f).dram = s.dram := rfl
@[simp] theorem modFe_dma (r : Radio) (f : FrontEnd → FrontEnd) : (s.modFe r f).dma = s.dma := rfl
@[simp] theorem modFe_cores (r : Radio) (f : FrontEnd → FrontEnd) : (s.modFe r f).cores = s.cores := rfl
@[simp] theorem modFe_power (r : Radio) (f : FrontEnd → FrontEnd) : (s.modFe r f).power = s.power := rfl
@[simp] theorem modFe_pair (r : Radio) (f : FrontEnd → FrontEnd) : (s.modFe r f).pair = s.pair := rfl
@[simp] theorem modFe_log (r : Radio) (f : FrontEnd → FrontEnd) : (s.modFe r f).log = s.log := rfl
@[simp] theorem modFe_upd (r : Radio) (f : FrontEnd → FrontEnd) : (s.modFe r f).upd = s.upd := rfl
@[simp] theorem modFe_start (r : Radio) (f : FrontEnd → FrontEnd) : (s.modFe r f).start = s.start := rfl
@[simp] theorem modFe_part (r : Radio) (f : FrontEnd → FrontEnd) : (s.modFe r f).part = s.part := rfl

@[simp] theorem modTrx_pending (t : Trx) (f : Transceiver → Transceiver) : (s.modTrx t f).pending = s.pending := rfl
@[simp] theorem modTrx_free (t : Trx) (f : Transceiver → Transceiver) : (s.modTrx t f).free = s.free := rfl
@[simp] theorem modTrx_now (t : Trx) (f : Transceiver → Transceiver) : (s.modTrx t f).now = s.now := rfl
@[simp] theorem modTrx_lastResp (t : Trx) (f : Transceiver → Transceiver) : (s.modTrx t f).lastResp = s.lastResp := rfl
@[simp] theorem modTrx_obj (t : Trx) (f : Transceiver → Transceiver) : (s.modTrx t f).obj = s.obj := rfl
@[simp] theorem modTrx_reg (t : Trx) (f : Transceiver → Transceiver) : (s.modTrx t f).reg = s.reg := rfl
@[simp] theorem modTrx_mem (t : Trx) (f : Transceiver → Transceiver) : (s.modTrx t f).mem = s.mem := rfl
@[simp] theorem modTrx_flash (t : Trx) (f : Transceiver → Transceiver) : (s.modTrx t f).flash = s.flash := rfl
@[simp] theorem modTrx_dict (t : Trx) (f : Transceiver → Transceiver) : (s.modTrx t f).dict = s.dict := rfl
@[simp] theorem modTrx_mac (t : Trx) (f : Transceiver → Transceiver) : (s.modTrx t f).mac = s.mac := rfl
@[simp] theorem modTrx_chain (t : Trx) (f : Transceiver → Transceiver) : (s.modTrx t f).chain = s.chain := rfl
@[simp] theorem modTrx_pp (t : Trx) (f : Transceiver → Transceiver) : (s.modTrx t f).pp = s.pp := rfl
@[simp] theorem modTrx_tm (t : Trx) (f : Transceiver → Transceiver) : (s.modTrx t f).tm = s.tm := rfl
@[simp] theorem modTrx_wired (t : Trx) (f : Transceiver → Transceiver) : (s.modTrx t f).wired = s.wired := rfl
@[simp] theorem modTrx_datum (t : Trx) (f : Transceiver → Transceiver) : (s.modTrx t f).datum = s.datum := rfl
@[simp] theorem modTrx_sec (t : Trx) (f : Transceiver → Transceiver) : (s.modTrx t f).sec = s.sec := rfl
@[simp] theorem modTrx_dram (t : Trx) (f : Transceiver → Transceiver) : (s.modTrx t f).dram = s.dram := rfl
@[simp] theorem modTrx_dma (t : Trx) (f : Transceiver → Transceiver) : (s.modTrx t f).dma = s.dma := rfl
@[simp] theorem modTrx_cores (t : Trx) (f : Transceiver → Transceiver) : (s.modTrx t f).cores = s.cores := rfl
@[simp] theorem modTrx_power (t : Trx) (f : Transceiver → Transceiver) : (s.modTrx t f).power = s.power := rfl
@[simp] theorem modTrx_pair (t : Trx) (f : Transceiver → Transceiver) : (s.modTrx t f).pair = s.pair := rfl
@[simp] theorem modTrx_log (t : Trx) (f : Transceiver → Transceiver) : (s.modTrx t f).log = s.log := rfl
@[simp] theorem modTrx_upd (t : Trx) (f : Transceiver → Transceiver) : (s.modTrx t f).upd = s.upd := rfl
@[simp] theorem modTrx_start (t : Trx) (f : Transceiver → Transceiver) : (s.modTrx t f).start = s.start := rfl
@[simp] theorem modTrx_part (t : Trx) (f : Transceiver → Transceiver) : (s.modTrx t f).part = s.part := rfl

@[simp] theorem modTpo_pending (o : Fin 4) (f : Tpo → Tpo) : (s.modTpo o f).pending = s.pending := rfl
@[simp] theorem modTpo_free (o : Fin 4) (f : Tpo → Tpo) : (s.modTpo o f).free = s.free := rfl
@[simp] theorem modTpo_now (o : Fin 4) (f : Tpo → Tpo) : (s.modTpo o f).now = s.now := rfl
@[simp] theorem modTpo_lastResp (o : Fin 4) (f : Tpo → Tpo) : (s.modTpo o f).lastResp = s.lastResp := rfl
@[simp] theorem modTpo_obj (o : Fin 4) (f : Tpo → Tpo) : (s.modTpo o f).obj = s.obj := rfl
@[simp] theorem modTpo_reg (o : Fin 4) (f : Tpo → Tpo) : (s.modTpo o f).reg = s.reg := rfl
@[simp] theorem modTpo_mem (o : Fin 4) (f : Tpo → Tpo) : (s.modTpo o f).mem = s.mem := rfl
@[simp] theorem modTpo_flash (o : Fin 4) (f : Tpo → Tpo) : (s.modTpo o f).flash = s.flash := rfl
@[simp] theorem modTpo_dict (o : Fin 4) (f : Tpo → Tpo) : (s.modTpo o f).dict = s.dict := rfl
@[simp] theorem modTpo_rf (o : Fin 4) (f : Tpo → Tpo) : (s.modTpo o f).rf = s.rf := rfl
@[simp] theorem modTpo_mac (o : Fin 4) (f : Tpo → Tpo) : (s.modTpo o f).mac = s.mac := rfl
@[simp] theorem modTpo_chain (o : Fin 4) (f : Tpo → Tpo) : (s.modTpo o f).chain = s.chain := rfl
@[simp] theorem modTpo_pp (o : Fin 4) (f : Tpo → Tpo) : (s.modTpo o f).pp = s.pp := rfl
@[simp] theorem modTpo_tm (o : Fin 4) (f : Tpo → Tpo) : (s.modTpo o f).tm = s.tm := rfl
@[simp] theorem modTpo_wired (o : Fin 4) (f : Tpo → Tpo) : (s.modTpo o f).wired = s.wired := rfl
@[simp] theorem modTpo_sec (o : Fin 4) (f : Tpo → Tpo) : (s.modTpo o f).sec = s.sec := rfl
@[simp] theorem modTpo_dram (o : Fin 4) (f : Tpo → Tpo) : (s.modTpo o f).dram = s.dram := rfl
@[simp] theorem modTpo_dma (o : Fin 4) (f : Tpo → Tpo) : (s.modTpo o f).dma = s.dma := rfl
@[simp] theorem modTpo_cores (o : Fin 4) (f : Tpo → Tpo) : (s.modTpo o f).cores = s.cores := rfl
@[simp] theorem modTpo_power (o : Fin 4) (f : Tpo → Tpo) : (s.modTpo o f).power = s.power := rfl
@[simp] theorem modTpo_pair (o : Fin 4) (f : Tpo → Tpo) : (s.modTpo o f).pair = s.pair := rfl
@[simp] theorem modTpo_log (o : Fin 4) (f : Tpo → Tpo) : (s.modTpo o f).log = s.log := rfl
@[simp] theorem modTpo_upd (o : Fin 4) (f : Tpo → Tpo) : (s.modTpo o f).upd = s.upd := rfl
@[simp] theorem modTpo_start (o : Fin 4) (f : Tpo → Tpo) : (s.modTpo o f).start = s.start := rfl
@[simp] theorem modTpo_part (o : Fin 4) (f : Tpo → Tpo) : (s.modTpo o f).part = s.part := rfl

@[simp] theorem modCr_pending (r : Radio) (f : ChainRadio → ChainRadio) : (s.modCr r f).pending = s.pending := rfl
@[simp] theorem modCr_free (r : Radio) (f : ChainRadio → ChainRadio) : (s.modCr r f).free = s.free := rfl
@[simp] theorem modCr_now (r : Radio) (f : ChainRadio → ChainRadio) : (s.modCr r f).now = s.now := rfl
@[simp] theorem modCr_lastResp (r : Radio) (f : ChainRadio → ChainRadio) : (s.modCr r f).lastResp = s.lastResp := rfl
@[simp] theorem modCr_obj (r : Radio) (f : ChainRadio → ChainRadio) : (s.modCr r f).obj = s.obj := rfl
@[simp] theorem modCr_reg (r : Radio) (f : ChainRadio → ChainRadio) : (s.modCr r f).reg = s.reg := rfl
@[simp] theorem modCr_mem (r : Radio) (f : ChainRadio → ChainRadio) : (s.modCr r f).mem = s.mem := rfl
@[simp] theorem modCr_flash (r : Radio) (f : ChainRadio → ChainRadio) : (s.modCr r f).flash = s.flash := rfl
@[simp] theorem modCr_dict (r : Radio) (f : ChainRadio → ChainRadio) : (s.modCr r f).dict = s.dict := rfl
@[simp] theorem modCr_rf (r : Radio) (f : ChainRadio → ChainRadio) : (s.modCr r f).rf = s.rf := rfl
@[simp] theorem modCr_mac (r : Radio) (f : ChainRadio → ChainRadio) : (s.modCr r f).mac = s.mac := rfl
@[simp] theorem modCr_pp (r : Radio) (f : ChainRadio → ChainRadio) : (s.modCr r f).pp = s.pp := rfl
@[simp] theorem modCr_tm (r : Radio) (f : ChainRadio → ChainRadio) : (s.modCr r f).tm = s.tm := rfl
@[simp] theorem modCr_wired (r : Radio) (f : ChainRadio → ChainRadio) : (s.modCr r f).wired = s.wired := rfl
@[simp] theorem modCr_datum (r : Radio) (f : ChainRadio → ChainRadio) : (s.modCr r f).datum = s.datum := rfl
@[simp] theorem modCr_sec (r : Radio) (f : ChainRadio → ChainRadio) : (s.modCr r f).sec = s.sec := rfl
@[simp] theorem modCr_dram (r : Radio) (f : ChainRadio → ChainRadio) : (s.modCr r f).dram = s.dram := rfl
@[simp] theorem modCr_dma (r : Radio) (f : ChainRadio → ChainRadio) : (s.modCr r f).dma = s.dma := rfl
@[simp] theorem modCr_cores (r : Radio) (f : ChainRadio → ChainRadio) : (s.modCr r f).cores = s.cores := rfl
@[simp] theorem modCr_power (r : Radio) (f : ChainRadio → ChainRadio) : (s.modCr r f).power = s.power := rfl
@[simp] theorem modCr_pair (r : Radio) (f : ChainRadio → ChainRadio) : (s.modCr r f).pair = s.pair := rfl
@[simp] theorem modCr_log (r : Radio) (f : ChainRadio → ChainRadio) : (s.modCr r f).log = s.log := rfl
@[simp] theorem modCr_upd (r : Radio) (f : ChainRadio → ChainRadio) : (s.modCr r f).upd = s.upd := rfl
@[simp] theorem modCr_start (r : Radio) (f : ChainRadio → ChainRadio) : (s.modCr r f).start = s.start := rfl
@[simp] theorem modCr_part (r : Radio) (f : ChainRadio → ChainRadio) : (s.modCr r f).part = s.part := rfl

@[simp] theorem modLane_pending (l : Fin 12) (f : LaneSt → LaneSt) : (s.modLane l f).pending = s.pending := rfl
@[simp] theorem modLane_free (l : Fin 12) (f : LaneSt → LaneSt) : (s.modLane l f).free = s.free := rfl
@[simp] theorem modLane_now (l : Fin 12) (f : LaneSt → LaneSt) : (s.modLane l f).now = s.now := rfl
@[simp] theorem modLane_lastResp (l : Fin 12) (f : LaneSt → LaneSt) : (s.modLane l f).lastResp = s.lastResp := rfl
@[simp] theorem modLane_obj (l : Fin 12) (f : LaneSt → LaneSt) : (s.modLane l f).obj = s.obj := rfl
@[simp] theorem modLane_reg (l : Fin 12) (f : LaneSt → LaneSt) : (s.modLane l f).reg = s.reg := rfl
@[simp] theorem modLane_mem (l : Fin 12) (f : LaneSt → LaneSt) : (s.modLane l f).mem = s.mem := rfl
@[simp] theorem modLane_flash (l : Fin 12) (f : LaneSt → LaneSt) : (s.modLane l f).flash = s.flash := rfl
@[simp] theorem modLane_dict (l : Fin 12) (f : LaneSt → LaneSt) : (s.modLane l f).dict = s.dict := rfl
@[simp] theorem modLane_rf (l : Fin 12) (f : LaneSt → LaneSt) : (s.modLane l f).rf = s.rf := rfl
@[simp] theorem modLane_mac (l : Fin 12) (f : LaneSt → LaneSt) : (s.modLane l f).mac = s.mac := rfl
@[simp] theorem modLane_chain (l : Fin 12) (f : LaneSt → LaneSt) : (s.modLane l f).chain = s.chain := rfl
@[simp] theorem modLane_pp (l : Fin 12) (f : LaneSt → LaneSt) : (s.modLane l f).pp = s.pp := rfl
@[simp] theorem modLane_tm (l : Fin 12) (f : LaneSt → LaneSt) : (s.modLane l f).tm = s.tm := rfl
@[simp] theorem modLane_wired (l : Fin 12) (f : LaneSt → LaneSt) : (s.modLane l f).wired = s.wired := rfl
@[simp] theorem modLane_datum (l : Fin 12) (f : LaneSt → LaneSt) : (s.modLane l f).datum = s.datum := rfl
@[simp] theorem modLane_dram (l : Fin 12) (f : LaneSt → LaneSt) : (s.modLane l f).dram = s.dram := rfl
@[simp] theorem modLane_dma (l : Fin 12) (f : LaneSt → LaneSt) : (s.modLane l f).dma = s.dma := rfl
@[simp] theorem modLane_cores (l : Fin 12) (f : LaneSt → LaneSt) : (s.modLane l f).cores = s.cores := rfl
@[simp] theorem modLane_power (l : Fin 12) (f : LaneSt → LaneSt) : (s.modLane l f).power = s.power := rfl
@[simp] theorem modLane_pair (l : Fin 12) (f : LaneSt → LaneSt) : (s.modLane l f).pair = s.pair := rfl
@[simp] theorem modLane_log (l : Fin 12) (f : LaneSt → LaneSt) : (s.modLane l f).log = s.log := rfl
@[simp] theorem modLane_upd (l : Fin 12) (f : LaneSt → LaneSt) : (s.modLane l f).upd = s.upd := rfl
@[simp] theorem modLane_start (l : Fin 12) (f : LaneSt → LaneSt) : (s.modLane l f).start = s.start := rfl
@[simp] theorem modLane_part (l : Fin 12) (f : LaneSt → LaneSt) : (s.modLane l f).part = s.part := rfl

@[simp] theorem setQueue_pending (q : Nat) (x : Queue) : (s.setQueue q x).pending = s.pending := rfl
@[simp] theorem setQueue_free (q : Nat) (x : Queue) : (s.setQueue q x).free = s.free := rfl
@[simp] theorem setQueue_now (q : Nat) (x : Queue) : (s.setQueue q x).now = s.now := rfl
@[simp] theorem setQueue_lastResp (q : Nat) (x : Queue) : (s.setQueue q x).lastResp = s.lastResp := rfl
@[simp] theorem setQueue_obj (q : Nat) (x : Queue) : (s.setQueue q x).obj = s.obj := rfl
@[simp] theorem setQueue_reg (q : Nat) (x : Queue) : (s.setQueue q x).reg = s.reg := rfl
@[simp] theorem setQueue_mem (q : Nat) (x : Queue) : (s.setQueue q x).mem = s.mem := rfl
@[simp] theorem setQueue_flash (q : Nat) (x : Queue) : (s.setQueue q x).flash = s.flash := rfl
@[simp] theorem setQueue_dict (q : Nat) (x : Queue) : (s.setQueue q x).dict = s.dict := rfl
@[simp] theorem setQueue_rf (q : Nat) (x : Queue) : (s.setQueue q x).rf = s.rf := rfl
@[simp] theorem setQueue_mac (q : Nat) (x : Queue) : (s.setQueue q x).mac = s.mac := rfl
@[simp] theorem setQueue_chain (q : Nat) (x : Queue) : (s.setQueue q x).chain = s.chain := rfl
@[simp] theorem setQueue_pp (q : Nat) (x : Queue) : (s.setQueue q x).pp = s.pp := rfl
@[simp] theorem setQueue_wired (q : Nat) (x : Queue) : (s.setQueue q x).wired = s.wired := rfl
@[simp] theorem setQueue_datum (q : Nat) (x : Queue) : (s.setQueue q x).datum = s.datum := rfl
@[simp] theorem setQueue_sec (q : Nat) (x : Queue) : (s.setQueue q x).sec = s.sec := rfl
@[simp] theorem setQueue_dram (q : Nat) (x : Queue) : (s.setQueue q x).dram = s.dram := rfl
@[simp] theorem setQueue_dma (q : Nat) (x : Queue) : (s.setQueue q x).dma = s.dma := rfl
@[simp] theorem setQueue_cores (q : Nat) (x : Queue) : (s.setQueue q x).cores = s.cores := rfl
@[simp] theorem setQueue_power (q : Nat) (x : Queue) : (s.setQueue q x).power = s.power := rfl
@[simp] theorem setQueue_pair (q : Nat) (x : Queue) : (s.setQueue q x).pair = s.pair := rfl
@[simp] theorem setQueue_log (q : Nat) (x : Queue) : (s.setQueue q x).log = s.log := rfl
@[simp] theorem setQueue_upd (q : Nat) (x : Queue) : (s.setQueue q x).upd = s.upd := rfl
@[simp] theorem setQueue_start (q : Nat) (x : Queue) : (s.setQueue q x).start = s.start := rfl
@[simp] theorem setQueue_part (q : Nat) (x : Queue) : (s.setQueue q x).part = s.part := rfl

@[simp] theorem setNode_pending (k : Nat) (x : Node) : (setNode s k x).pending = s.pending := rfl
@[simp] theorem setNode_free (k : Nat) (x : Node) : (setNode s k x).free = s.free := rfl
@[simp] theorem setNode_now (k : Nat) (x : Node) : (setNode s k x).now = s.now := rfl
@[simp] theorem setNode_lastResp (k : Nat) (x : Node) : (setNode s k x).lastResp = s.lastResp := rfl
@[simp] theorem setNode_obj (k : Nat) (x : Node) : (setNode s k x).obj = s.obj := rfl
@[simp] theorem setNode_reg (k : Nat) (x : Node) : (setNode s k x).reg = s.reg := rfl
@[simp] theorem setNode_mem (k : Nat) (x : Node) : (setNode s k x).mem = s.mem := rfl
@[simp] theorem setNode_flash (k : Nat) (x : Node) : (setNode s k x).flash = s.flash := rfl
@[simp] theorem setNode_dict (k : Nat) (x : Node) : (setNode s k x).dict = s.dict := rfl
@[simp] theorem setNode_rf (k : Nat) (x : Node) : (setNode s k x).rf = s.rf := rfl
@[simp] theorem setNode_mac (k : Nat) (x : Node) : (setNode s k x).mac = s.mac := rfl
@[simp] theorem setNode_chain (k : Nat) (x : Node) : (setNode s k x).chain = s.chain := rfl
@[simp] theorem setNode_pp (k : Nat) (x : Node) : (setNode s k x).pp = s.pp := rfl
@[simp] theorem setNode_wired (k : Nat) (x : Node) : (setNode s k x).wired = s.wired := rfl
@[simp] theorem setNode_datum (k : Nat) (x : Node) : (setNode s k x).datum = s.datum := rfl
@[simp] theorem setNode_sec (k : Nat) (x : Node) : (setNode s k x).sec = s.sec := rfl
@[simp] theorem setNode_dram (k : Nat) (x : Node) : (setNode s k x).dram = s.dram := rfl
@[simp] theorem setNode_dma (k : Nat) (x : Node) : (setNode s k x).dma = s.dma := rfl
@[simp] theorem setNode_cores (k : Nat) (x : Node) : (setNode s k x).cores = s.cores := rfl
@[simp] theorem setNode_power (k : Nat) (x : Node) : (setNode s k x).power = s.power := rfl
@[simp] theorem setNode_pair (k : Nat) (x : Node) : (setNode s k x).pair = s.pair := rfl
@[simp] theorem setNode_log (k : Nat) (x : Node) : (setNode s k x).log = s.log := rfl
@[simp] theorem setNode_upd (k : Nat) (x : Node) : (setNode s k x).upd = s.upd := rfl
@[simp] theorem setNode_start (k : Nat) (x : Node) : (setNode s k x).start = s.start := rfl
@[simp] theorem setNode_part (k : Nat) (x : Node) : (setNode s k x).part = s.part := rfl

@[simp] theorem setKey_pending (n : Nat) (k : KeySlot) : (setKey s n k).pending = s.pending := rfl
@[simp] theorem setKey_free (n : Nat) (k : KeySlot) : (setKey s n k).free = s.free := rfl
@[simp] theorem setKey_now (n : Nat) (k : KeySlot) : (setKey s n k).now = s.now := rfl
@[simp] theorem setKey_lastResp (n : Nat) (k : KeySlot) : (setKey s n k).lastResp = s.lastResp := rfl
@[simp] theorem setKey_obj (n : Nat) (k : KeySlot) : (setKey s n k).obj = s.obj := rfl
@[simp] theorem setKey_reg (n : Nat) (k : KeySlot) : (setKey s n k).reg = s.reg := rfl
@[simp] theorem setKey_mem (n : Nat) (k : KeySlot) : (setKey s n k).mem = s.mem := rfl
@[simp] theorem setKey_flash (n : Nat) (k : KeySlot) : (setKey s n k).flash = s.flash := rfl
@[simp] theorem setKey_dict (n : Nat) (k : KeySlot) : (setKey s n k).dict = s.dict := rfl
@[simp] theorem setKey_rf (n : Nat) (k : KeySlot) : (setKey s n k).rf = s.rf := rfl
@[simp] theorem setKey_mac (n : Nat) (k : KeySlot) : (setKey s n k).mac = s.mac := rfl
@[simp] theorem setKey_chain (n : Nat) (k : KeySlot) : (setKey s n k).chain = s.chain := rfl
@[simp] theorem setKey_pp (n : Nat) (k : KeySlot) : (setKey s n k).pp = s.pp := rfl
@[simp] theorem setKey_tm (n : Nat) (k : KeySlot) : (setKey s n k).tm = s.tm := rfl
@[simp] theorem setKey_wired (n : Nat) (k : KeySlot) : (setKey s n k).wired = s.wired := rfl
@[simp] theorem setKey_datum (n : Nat) (k : KeySlot) : (setKey s n k).datum = s.datum := rfl
@[simp] theorem setKey_dram (n : Nat) (k : KeySlot) : (setKey s n k).dram = s.dram := rfl
@[simp] theorem setKey_dma (n : Nat) (k : KeySlot) : (setKey s n k).dma = s.dma := rfl
@[simp] theorem setKey_cores (n : Nat) (k : KeySlot) : (setKey s n k).cores = s.cores := rfl
@[simp] theorem setKey_power (n : Nat) (k : KeySlot) : (setKey s n k).power = s.power := rfl
@[simp] theorem setKey_pair (n : Nat) (k : KeySlot) : (setKey s n k).pair = s.pair := rfl
@[simp] theorem setKey_log (n : Nat) (k : KeySlot) : (setKey s n k).log = s.log := rfl
@[simp] theorem setKey_upd (n : Nat) (k : KeySlot) : (setKey s n k).upd = s.upd := rfl
@[simp] theorem setKey_start (n : Nat) (k : KeySlot) : (setKey s n k).start = s.start := rfl
@[simp] theorem setKey_part (n : Nat) (k : KeySlot) : (setKey s n k).part = s.part := rfl

@[simp] theorem modSess_pending (n : Nat) (f : Session → Session) : (modSess s n f).pending = s.pending := rfl
@[simp] theorem modSess_free (n : Nat) (f : Session → Session) : (modSess s n f).free = s.free := rfl
@[simp] theorem modSess_now (n : Nat) (f : Session → Session) : (modSess s n f).now = s.now := rfl
@[simp] theorem modSess_lastResp (n : Nat) (f : Session → Session) : (modSess s n f).lastResp = s.lastResp := rfl
@[simp] theorem modSess_obj (n : Nat) (f : Session → Session) : (modSess s n f).obj = s.obj := rfl
@[simp] theorem modSess_reg (n : Nat) (f : Session → Session) : (modSess s n f).reg = s.reg := rfl
@[simp] theorem modSess_mem (n : Nat) (f : Session → Session) : (modSess s n f).mem = s.mem := rfl
@[simp] theorem modSess_flash (n : Nat) (f : Session → Session) : (modSess s n f).flash = s.flash := rfl
@[simp] theorem modSess_rf (n : Nat) (f : Session → Session) : (modSess s n f).rf = s.rf := rfl
@[simp] theorem modSess_mac (n : Nat) (f : Session → Session) : (modSess s n f).mac = s.mac := rfl
@[simp] theorem modSess_chain (n : Nat) (f : Session → Session) : (modSess s n f).chain = s.chain := rfl
@[simp] theorem modSess_pp (n : Nat) (f : Session → Session) : (modSess s n f).pp = s.pp := rfl
@[simp] theorem modSess_tm (n : Nat) (f : Session → Session) : (modSess s n f).tm = s.tm := rfl
@[simp] theorem modSess_wired (n : Nat) (f : Session → Session) : (modSess s n f).wired = s.wired := rfl
@[simp] theorem modSess_datum (n : Nat) (f : Session → Session) : (modSess s n f).datum = s.datum := rfl
@[simp] theorem modSess_sec (n : Nat) (f : Session → Session) : (modSess s n f).sec = s.sec := rfl
@[simp] theorem modSess_dram (n : Nat) (f : Session → Session) : (modSess s n f).dram = s.dram := rfl
@[simp] theorem modSess_dma (n : Nat) (f : Session → Session) : (modSess s n f).dma = s.dma := rfl
@[simp] theorem modSess_cores (n : Nat) (f : Session → Session) : (modSess s n f).cores = s.cores := rfl
@[simp] theorem modSess_power (n : Nat) (f : Session → Session) : (modSess s n f).power = s.power := rfl
@[simp] theorem modSess_pair (n : Nat) (f : Session → Session) : (modSess s n f).pair = s.pair := rfl
@[simp] theorem modSess_log (n : Nat) (f : Session → Session) : (modSess s n f).log = s.log := rfl
@[simp] theorem modSess_upd (n : Nat) (f : Session → Session) : (modSess s n f).upd = s.upd := rfl
@[simp] theorem modSess_start (n : Nat) (f : Session → Session) : (modSess s n f).start = s.start := rfl
@[simp] theorem modSess_part (n : Nat) (f : Session → Session) : (modSess s n f).part = s.part := rfl

@[simp] theorem setExec_pending (n : Nat) (e : Exec) : (setExec s n e).pending = s.pending := rfl
@[simp] theorem setExec_free (n : Nat) (e : Exec) : (setExec s n e).free = s.free := rfl
@[simp] theorem setExec_now (n : Nat) (e : Exec) : (setExec s n e).now = s.now := rfl
@[simp] theorem setExec_lastResp (n : Nat) (e : Exec) : (setExec s n e).lastResp = s.lastResp := rfl
@[simp] theorem setExec_obj (n : Nat) (e : Exec) : (setExec s n e).obj = s.obj := rfl
@[simp] theorem setExec_reg (n : Nat) (e : Exec) : (setExec s n e).reg = s.reg := rfl
@[simp] theorem setExec_mem (n : Nat) (e : Exec) : (setExec s n e).mem = s.mem := rfl
@[simp] theorem setExec_flash (n : Nat) (e : Exec) : (setExec s n e).flash = s.flash := rfl
@[simp] theorem setExec_rf (n : Nat) (e : Exec) : (setExec s n e).rf = s.rf := rfl
@[simp] theorem setExec_mac (n : Nat) (e : Exec) : (setExec s n e).mac = s.mac := rfl
@[simp] theorem setExec_chain (n : Nat) (e : Exec) : (setExec s n e).chain = s.chain := rfl
@[simp] theorem setExec_pp (n : Nat) (e : Exec) : (setExec s n e).pp = s.pp := rfl
@[simp] theorem setExec_tm (n : Nat) (e : Exec) : (setExec s n e).tm = s.tm := rfl
@[simp] theorem setExec_wired (n : Nat) (e : Exec) : (setExec s n e).wired = s.wired := rfl
@[simp] theorem setExec_datum (n : Nat) (e : Exec) : (setExec s n e).datum = s.datum := rfl
@[simp] theorem setExec_sec (n : Nat) (e : Exec) : (setExec s n e).sec = s.sec := rfl
@[simp] theorem setExec_dram (n : Nat) (e : Exec) : (setExec s n e).dram = s.dram := rfl
@[simp] theorem setExec_dma (n : Nat) (e : Exec) : (setExec s n e).dma = s.dma := rfl
@[simp] theorem setExec_cores (n : Nat) (e : Exec) : (setExec s n e).cores = s.cores := rfl
@[simp] theorem setExec_power (n : Nat) (e : Exec) : (setExec s n e).power = s.power := rfl
@[simp] theorem setExec_pair (n : Nat) (e : Exec) : (setExec s n e).pair = s.pair := rfl
@[simp] theorem setExec_log (n : Nat) (e : Exec) : (setExec s n e).log = s.log := rfl
@[simp] theorem setExec_upd (n : Nat) (e : Exec) : (setExec s n e).upd = s.upd := rfl
@[simp] theorem setExec_start (n : Nat) (e : Exec) : (setExec s n e).start = s.start := rfl
@[simp] theorem setExec_part (n : Nat) (e : Exec) : (setExec s n e).part = s.part := rfl

@[simp] theorem setTrav_pending (k : Nat) (t : Traverse) : (setTrav s k t).pending = s.pending := rfl
@[simp] theorem setTrav_free (k : Nat) (t : Traverse) : (setTrav s k t).free = s.free := rfl
@[simp] theorem setTrav_now (k : Nat) (t : Traverse) : (setTrav s k t).now = s.now := rfl
@[simp] theorem setTrav_lastResp (k : Nat) (t : Traverse) : (setTrav s k t).lastResp = s.lastResp := rfl
@[simp] theorem setTrav_obj (k : Nat) (t : Traverse) : (setTrav s k t).obj = s.obj := rfl
@[simp] theorem setTrav_reg (k : Nat) (t : Traverse) : (setTrav s k t).reg = s.reg := rfl
@[simp] theorem setTrav_mem (k : Nat) (t : Traverse) : (setTrav s k t).mem = s.mem := rfl
@[simp] theorem setTrav_flash (k : Nat) (t : Traverse) : (setTrav s k t).flash = s.flash := rfl
@[simp] theorem setTrav_rf (k : Nat) (t : Traverse) : (setTrav s k t).rf = s.rf := rfl
@[simp] theorem setTrav_mac (k : Nat) (t : Traverse) : (setTrav s k t).mac = s.mac := rfl
@[simp] theorem setTrav_chain (k : Nat) (t : Traverse) : (setTrav s k t).chain = s.chain := rfl
@[simp] theorem setTrav_pp (k : Nat) (t : Traverse) : (setTrav s k t).pp = s.pp := rfl
@[simp] theorem setTrav_tm (k : Nat) (t : Traverse) : (setTrav s k t).tm = s.tm := rfl
@[simp] theorem setTrav_wired (k : Nat) (t : Traverse) : (setTrav s k t).wired = s.wired := rfl
@[simp] theorem setTrav_datum (k : Nat) (t : Traverse) : (setTrav s k t).datum = s.datum := rfl
@[simp] theorem setTrav_sec (k : Nat) (t : Traverse) : (setTrav s k t).sec = s.sec := rfl
@[simp] theorem setTrav_dram (k : Nat) (t : Traverse) : (setTrav s k t).dram = s.dram := rfl
@[simp] theorem setTrav_dma (k : Nat) (t : Traverse) : (setTrav s k t).dma = s.dma := rfl
@[simp] theorem setTrav_cores (k : Nat) (t : Traverse) : (setTrav s k t).cores = s.cores := rfl
@[simp] theorem setTrav_power (k : Nat) (t : Traverse) : (setTrav s k t).power = s.power := rfl
@[simp] theorem setTrav_pair (k : Nat) (t : Traverse) : (setTrav s k t).pair = s.pair := rfl
@[simp] theorem setTrav_log (k : Nat) (t : Traverse) : (setTrav s k t).log = s.log := rfl
@[simp] theorem setTrav_upd (k : Nat) (t : Traverse) : (setTrav s k t).upd = s.upd := rfl
@[simp] theorem setTrav_start (k : Nat) (t : Traverse) : (setTrav s k t).start = s.start := rfl
@[simp] theorem setTrav_part (k : Nat) (t : Traverse) : (setTrav s k t).part = s.part := rfl

@[simp] theorem setCause_pending (c : CoreId) (b : Nat) : (setCause s c b).pending = s.pending := rfl
@[simp] theorem setCause_free (c : CoreId) (b : Nat) : (setCause s c b).free = s.free := rfl
@[simp] theorem setCause_now (c : CoreId) (b : Nat) : (setCause s c b).now = s.now := rfl
@[simp] theorem setCause_lastResp (c : CoreId) (b : Nat) : (setCause s c b).lastResp = s.lastResp := rfl
@[simp] theorem setCause_obj (c : CoreId) (b : Nat) : (setCause s c b).obj = s.obj := rfl
@[simp] theorem setCause_mem (c : CoreId) (b : Nat) : (setCause s c b).mem = s.mem := rfl
@[simp] theorem setCause_flash (c : CoreId) (b : Nat) : (setCause s c b).flash = s.flash := rfl
@[simp] theorem setCause_dict (c : CoreId) (b : Nat) : (setCause s c b).dict = s.dict := rfl
@[simp] theorem setCause_rf (c : CoreId) (b : Nat) : (setCause s c b).rf = s.rf := rfl
@[simp] theorem setCause_mac (c : CoreId) (b : Nat) : (setCause s c b).mac = s.mac := rfl
@[simp] theorem setCause_chain (c : CoreId) (b : Nat) : (setCause s c b).chain = s.chain := rfl
@[simp] theorem setCause_pp (c : CoreId) (b : Nat) : (setCause s c b).pp = s.pp := rfl
@[simp] theorem setCause_tm (c : CoreId) (b : Nat) : (setCause s c b).tm = s.tm := rfl
@[simp] theorem setCause_wired (c : CoreId) (b : Nat) : (setCause s c b).wired = s.wired := rfl
@[simp] theorem setCause_datum (c : CoreId) (b : Nat) : (setCause s c b).datum = s.datum := rfl
@[simp] theorem setCause_sec (c : CoreId) (b : Nat) : (setCause s c b).sec = s.sec := rfl
@[simp] theorem setCause_dram (c : CoreId) (b : Nat) : (setCause s c b).dram = s.dram := rfl
@[simp] theorem setCause_dma (c : CoreId) (b : Nat) : (setCause s c b).dma = s.dma := rfl
@[simp] theorem setCause_cores (c : CoreId) (b : Nat) : (setCause s c b).cores = s.cores := rfl
@[simp] theorem setCause_power (c : CoreId) (b : Nat) : (setCause s c b).power = s.power := rfl
@[simp] theorem setCause_pair (c : CoreId) (b : Nat) : (setCause s c b).pair = s.pair := rfl
@[simp] theorem setCause_log (c : CoreId) (b : Nat) : (setCause s c b).log = s.log := rfl
@[simp] theorem setCause_upd (c : CoreId) (b : Nat) : (setCause s c b).upd = s.upd := rfl
@[simp] theorem setCause_start (c : CoreId) (b : Nat) : (setCause s c b).start = s.start := rfl
@[simp] theorem setCause_part (c : CoreId) (b : Nat) : (setCause s c b).part = s.part := rfl

@[simp] theorem modEth_pending (p : Nat) (f : EthPort → EthPort) : (s.modEth p f).pending = s.pending := rfl
@[simp] theorem modEth_free (p : Nat) (f : EthPort → EthPort) : (s.modEth p f).free = s.free := rfl
@[simp] theorem modEth_now (p : Nat) (f : EthPort → EthPort) : (s.modEth p f).now = s.now := rfl
@[simp] theorem modEth_lastResp (p : Nat) (f : EthPort → EthPort) : (s.modEth p f).lastResp = s.lastResp := rfl
@[simp] theorem modEth_obj (p : Nat) (f : EthPort → EthPort) : (s.modEth p f).obj = s.obj := rfl
@[simp] theorem modEth_reg (p : Nat) (f : EthPort → EthPort) : (s.modEth p f).reg = s.reg := rfl
@[simp] theorem modEth_mem (p : Nat) (f : EthPort → EthPort) : (s.modEth p f).mem = s.mem := rfl
@[simp] theorem modEth_flash (p : Nat) (f : EthPort → EthPort) : (s.modEth p f).flash = s.flash := rfl
@[simp] theorem modEth_dict (p : Nat) (f : EthPort → EthPort) : (s.modEth p f).dict = s.dict := rfl
@[simp] theorem modEth_rf (p : Nat) (f : EthPort → EthPort) : (s.modEth p f).rf = s.rf := rfl
@[simp] theorem modEth_mac (p : Nat) (f : EthPort → EthPort) : (s.modEth p f).mac = s.mac := rfl
@[simp] theorem modEth_chain (p : Nat) (f : EthPort → EthPort) : (s.modEth p f).chain = s.chain := rfl
@[simp] theorem modEth_pp (p : Nat) (f : EthPort → EthPort) : (s.modEth p f).pp = s.pp := rfl
@[simp] theorem modEth_tm (p : Nat) (f : EthPort → EthPort) : (s.modEth p f).tm = s.tm := rfl
@[simp] theorem modEth_datum (p : Nat) (f : EthPort → EthPort) : (s.modEth p f).datum = s.datum := rfl
@[simp] theorem modEth_sec (p : Nat) (f : EthPort → EthPort) : (s.modEth p f).sec = s.sec := rfl
@[simp] theorem modEth_dram (p : Nat) (f : EthPort → EthPort) : (s.modEth p f).dram = s.dram := rfl
@[simp] theorem modEth_dma (p : Nat) (f : EthPort → EthPort) : (s.modEth p f).dma = s.dma := rfl
@[simp] theorem modEth_cores (p : Nat) (f : EthPort → EthPort) : (s.modEth p f).cores = s.cores := rfl
@[simp] theorem modEth_power (p : Nat) (f : EthPort → EthPort) : (s.modEth p f).power = s.power := rfl
@[simp] theorem modEth_pair (p : Nat) (f : EthPort → EthPort) : (s.modEth p f).pair = s.pair := rfl
@[simp] theorem modEth_log (p : Nat) (f : EthPort → EthPort) : (s.modEth p f).log = s.log := rfl
@[simp] theorem modEth_upd (p : Nat) (f : EthPort → EthPort) : (s.modEth p f).upd = s.upd := rfl
@[simp] theorem modEth_start (p : Nat) (f : EthPort → EthPort) : (s.modEth p f).start = s.start := rfl
@[simp] theorem modEth_part (p : Nat) (f : EthPort → EthPort) : (s.modEth p f).part = s.part := rfl

@[simp] theorem modRank_pending (k : Nat) (f : Rank → Rank) : (modRank s k f).pending = s.pending := rfl
@[simp] theorem modRank_free (k : Nat) (f : Rank → Rank) : (modRank s k f).free = s.free := rfl
@[simp] theorem modRank_now (k : Nat) (f : Rank → Rank) : (modRank s k f).now = s.now := rfl
@[simp] theorem modRank_lastResp (k : Nat) (f : Rank → Rank) : (modRank s k f).lastResp = s.lastResp := rfl
@[simp] theorem modRank_obj (k : Nat) (f : Rank → Rank) : (modRank s k f).obj = s.obj := rfl
@[simp] theorem modRank_reg (k : Nat) (f : Rank → Rank) : (modRank s k f).reg = s.reg := rfl
@[simp] theorem modRank_mem (k : Nat) (f : Rank → Rank) : (modRank s k f).mem = s.mem := rfl
@[simp] theorem modRank_flash (k : Nat) (f : Rank → Rank) : (modRank s k f).flash = s.flash := rfl
@[simp] theorem modRank_dict (k : Nat) (f : Rank → Rank) : (modRank s k f).dict = s.dict := rfl
@[simp] theorem modRank_rf (k : Nat) (f : Rank → Rank) : (modRank s k f).rf = s.rf := rfl
@[simp] theorem modRank_mac (k : Nat) (f : Rank → Rank) : (modRank s k f).mac = s.mac := rfl
@[simp] theorem modRank_chain (k : Nat) (f : Rank → Rank) : (modRank s k f).chain = s.chain := rfl
@[simp] theorem modRank_pp (k : Nat) (f : Rank → Rank) : (modRank s k f).pp = s.pp := rfl
@[simp] theorem modRank_tm (k : Nat) (f : Rank → Rank) : (modRank s k f).tm = s.tm := rfl
@[simp] theorem modRank_wired (k : Nat) (f : Rank → Rank) : (modRank s k f).wired = s.wired := rfl
@[simp] theorem modRank_datum (k : Nat) (f : Rank → Rank) : (modRank s k f).datum = s.datum := rfl
@[simp] theorem modRank_sec (k : Nat) (f : Rank → Rank) : (modRank s k f).sec = s.sec := rfl
@[simp] theorem modRank_dma (k : Nat) (f : Rank → Rank) : (modRank s k f).dma = s.dma := rfl
@[simp] theorem modRank_cores (k : Nat) (f : Rank → Rank) : (modRank s k f).cores = s.cores := rfl
@[simp] theorem modRank_power (k : Nat) (f : Rank → Rank) : (modRank s k f).power = s.power := rfl
@[simp] theorem modRank_pair (k : Nat) (f : Rank → Rank) : (modRank s k f).pair = s.pair := rfl
@[simp] theorem modRank_log (k : Nat) (f : Rank → Rank) : (modRank s k f).log = s.log := rfl
@[simp] theorem modRank_upd (k : Nat) (f : Rank → Rank) : (modRank s k f).upd = s.upd := rfl
@[simp] theorem modRank_start (k : Nat) (f : Rank → Rank) : (modRank s k f).start = s.start := rfl
@[simp] theorem modRank_part (k : Nat) (f : Rank → Rank) : (modRank s k f).part = s.part := rfl

@[simp] theorem setCur_pending (c : Fin 64) (x : Option DmaCur) : (setCur s c x).pending = s.pending := rfl
@[simp] theorem setCur_free (c : Fin 64) (x : Option DmaCur) : (setCur s c x).free = s.free := rfl
@[simp] theorem setCur_now (c : Fin 64) (x : Option DmaCur) : (setCur s c x).now = s.now := rfl
@[simp] theorem setCur_lastResp (c : Fin 64) (x : Option DmaCur) : (setCur s c x).lastResp = s.lastResp := rfl
@[simp] theorem setCur_obj (c : Fin 64) (x : Option DmaCur) : (setCur s c x).obj = s.obj := rfl
@[simp] theorem setCur_reg (c : Fin 64) (x : Option DmaCur) : (setCur s c x).reg = s.reg := rfl
@[simp] theorem setCur_mem (c : Fin 64) (x : Option DmaCur) : (setCur s c x).mem = s.mem := rfl
@[simp] theorem setCur_flash (c : Fin 64) (x : Option DmaCur) : (setCur s c x).flash = s.flash := rfl
@[simp] theorem setCur_dict (c : Fin 64) (x : Option DmaCur) : (setCur s c x).dict = s.dict := rfl
@[simp] theorem setCur_rf (c : Fin 64) (x : Option DmaCur) : (setCur s c x).rf = s.rf := rfl
@[simp] theorem setCur_mac (c : Fin 64) (x : Option DmaCur) : (setCur s c x).mac = s.mac := rfl
@[simp] theorem setCur_chain (c : Fin 64) (x : Option DmaCur) : (setCur s c x).chain = s.chain := rfl
@[simp] theorem setCur_pp (c : Fin 64) (x : Option DmaCur) : (setCur s c x).pp = s.pp := rfl
@[simp] theorem setCur_tm (c : Fin 64) (x : Option DmaCur) : (setCur s c x).tm = s.tm := rfl
@[simp] theorem setCur_wired (c : Fin 64) (x : Option DmaCur) : (setCur s c x).wired = s.wired := rfl
@[simp] theorem setCur_datum (c : Fin 64) (x : Option DmaCur) : (setCur s c x).datum = s.datum := rfl
@[simp] theorem setCur_sec (c : Fin 64) (x : Option DmaCur) : (setCur s c x).sec = s.sec := rfl
@[simp] theorem setCur_dram (c : Fin 64) (x : Option DmaCur) : (setCur s c x).dram = s.dram := rfl
@[simp] theorem setCur_cores (c : Fin 64) (x : Option DmaCur) : (setCur s c x).cores = s.cores := rfl
@[simp] theorem setCur_power (c : Fin 64) (x : Option DmaCur) : (setCur s c x).power = s.power := rfl
@[simp] theorem setCur_pair (c : Fin 64) (x : Option DmaCur) : (setCur s c x).pair = s.pair := rfl
@[simp] theorem setCur_log (c : Fin 64) (x : Option DmaCur) : (setCur s c x).log = s.log := rfl
@[simp] theorem setCur_upd (c : Fin 64) (x : Option DmaCur) : (setCur s c x).upd = s.upd := rfl
@[simp] theorem setCur_start (c : Fin 64) (x : Option DmaCur) : (setCur s c x).start = s.start := rfl
@[simp] theorem setCur_part (c : Fin 64) (x : Option DmaCur) : (setCur s c x).part = s.part := rfl

@[simp] theorem keepQueue_pending (t : State) : (s.keepQueue t).pending = s.pending := rfl
@[simp] theorem keepQueue_free (t : State) : (s.keepQueue t).free = t.free := rfl
@[simp] theorem keepQueue_now (t : State) : (s.keepQueue t).now = t.now := rfl
@[simp] theorem keepQueue_lastResp (t : State) : (s.keepQueue t).lastResp = t.lastResp := rfl
@[simp] theorem keepQueue_obj (t : State) : (s.keepQueue t).obj = t.obj := rfl
@[simp] theorem keepQueue_reg (t : State) : (s.keepQueue t).reg = t.reg := rfl
@[simp] theorem keepQueue_mem (t : State) : (s.keepQueue t).mem = t.mem := rfl
@[simp] theorem keepQueue_flash (t : State) : (s.keepQueue t).flash = t.flash := rfl
@[simp] theorem keepQueue_dict (t : State) : (s.keepQueue t).dict = t.dict := rfl
@[simp] theorem keepQueue_rf (t : State) : (s.keepQueue t).rf = t.rf := rfl
@[simp] theorem keepQueue_mac (t : State) : (s.keepQueue t).mac = t.mac := rfl
@[simp] theorem keepQueue_chain (t : State) : (s.keepQueue t).chain = t.chain := rfl
@[simp] theorem keepQueue_pp (t : State) : (s.keepQueue t).pp = t.pp := rfl
@[simp] theorem keepQueue_tm (t : State) : (s.keepQueue t).tm = t.tm := rfl
@[simp] theorem keepQueue_wired (t : State) : (s.keepQueue t).wired = t.wired := rfl
@[simp] theorem keepQueue_datum (t : State) : (s.keepQueue t).datum = t.datum := rfl
@[simp] theorem keepQueue_sec (t : State) : (s.keepQueue t).sec = t.sec := rfl
@[simp] theorem keepQueue_dram (t : State) : (s.keepQueue t).dram = t.dram := rfl
@[simp] theorem keepQueue_dma (t : State) : (s.keepQueue t).dma = t.dma := rfl
@[simp] theorem keepQueue_cores (t : State) : (s.keepQueue t).cores = t.cores := rfl
@[simp] theorem keepQueue_power (t : State) : (s.keepQueue t).power = t.power := rfl
@[simp] theorem keepQueue_pair (t : State) : (s.keepQueue t).pair = t.pair := rfl
@[simp] theorem keepQueue_log (t : State) : (s.keepQueue t).log = t.log := rfl
@[simp] theorem keepQueue_upd (t : State) : (s.keepQueue t).upd = t.upd := rfl
@[simp] theorem keepQueue_start (t : State) : (s.keepQueue t).start = t.start := rfl
@[simp] theorem keepQueue_part (t : State) : (s.keepQueue t).part = t.part := rfl

@[simp] theorem draw_pending : (s.draw.2).pending = s.pending := rfl
@[simp] theorem draw_now : (s.draw.2).now = s.now := rfl
@[simp] theorem draw_lastResp : (s.draw.2).lastResp = s.lastResp := rfl
@[simp] theorem draw_obj : (s.draw.2).obj = s.obj := rfl
@[simp] theorem draw_reg : (s.draw.2).reg = s.reg := rfl
@[simp] theorem draw_mem : (s.draw.2).mem = s.mem := rfl
@[simp] theorem draw_flash : (s.draw.2).flash = s.flash := rfl
@[simp] theorem draw_dict : (s.draw.2).dict = s.dict := rfl
@[simp] theorem draw_rf : (s.draw.2).rf = s.rf := rfl
@[simp] theorem draw_mac : (s.draw.2).mac = s.mac := rfl
@[simp] theorem draw_chain : (s.draw.2).chain = s.chain := rfl
@[simp] theorem draw_pp : (s.draw.2).pp = s.pp := rfl
@[simp] theorem draw_tm : (s.draw.2).tm = s.tm := rfl
@[simp] theorem draw_wired : (s.draw.2).wired = s.wired := rfl
@[simp] theorem draw_datum : (s.draw.2).datum = s.datum := rfl
@[simp] theorem draw_sec : (s.draw.2).sec = s.sec := rfl
@[simp] theorem draw_dram : (s.draw.2).dram = s.dram := rfl
@[simp] theorem draw_dma : (s.draw.2).dma = s.dma := rfl
@[simp] theorem draw_cores : (s.draw.2).cores = s.cores := rfl
@[simp] theorem draw_power : (s.draw.2).power = s.power := rfl
@[simp] theorem draw_pair : (s.draw.2).pair = s.pair := rfl
@[simp] theorem draw_log : (s.draw.2).log = s.log := rfl
@[simp] theorem draw_upd : (s.draw.2).upd = s.upd := rfl
@[simp] theorem draw_start : (s.draw.2).start = s.start := rfl
@[simp] theorem draw_part : (s.draw.2).part = s.part := rfl

@[simp] theorem drawIn_pending (lo hi : Nat) : ((s.drawIn lo hi).2).pending = s.pending := rfl
@[simp] theorem drawIn_now (lo hi : Nat) : ((s.drawIn lo hi).2).now = s.now := rfl
@[simp] theorem drawIn_lastResp (lo hi : Nat) : ((s.drawIn lo hi).2).lastResp = s.lastResp := rfl
@[simp] theorem drawIn_obj (lo hi : Nat) : ((s.drawIn lo hi).2).obj = s.obj := rfl
@[simp] theorem drawIn_reg (lo hi : Nat) : ((s.drawIn lo hi).2).reg = s.reg := rfl
@[simp] theorem drawIn_mem (lo hi : Nat) : ((s.drawIn lo hi).2).mem = s.mem := rfl
@[simp] theorem drawIn_flash (lo hi : Nat) : ((s.drawIn lo hi).2).flash = s.flash := rfl
@[simp] theorem drawIn_dict (lo hi : Nat) : ((s.drawIn lo hi).2).dict = s.dict := rfl
@[simp] theorem drawIn_rf (lo hi : Nat) : ((s.drawIn lo hi).2).rf = s.rf := rfl
@[simp] theorem drawIn_mac (lo hi : Nat) : ((s.drawIn lo hi).2).mac = s.mac := rfl
@[simp] theorem drawIn_chain (lo hi : Nat) : ((s.drawIn lo hi).2).chain = s.chain := rfl
@[simp] theorem drawIn_pp (lo hi : Nat) : ((s.drawIn lo hi).2).pp = s.pp := rfl
@[simp] theorem drawIn_tm (lo hi : Nat) : ((s.drawIn lo hi).2).tm = s.tm := rfl
@[simp] theorem drawIn_wired (lo hi : Nat) : ((s.drawIn lo hi).2).wired = s.wired := rfl
@[simp] theorem drawIn_datum (lo hi : Nat) : ((s.drawIn lo hi).2).datum = s.datum := rfl
@[simp] theorem drawIn_sec (lo hi : Nat) : ((s.drawIn lo hi).2).sec = s.sec := rfl
@[simp] theorem drawIn_dram (lo hi : Nat) : ((s.drawIn lo hi).2).dram = s.dram := rfl
@[simp] theorem drawIn_dma (lo hi : Nat) : ((s.drawIn lo hi).2).dma = s.dma := rfl
@[simp] theorem drawIn_cores (lo hi : Nat) : ((s.drawIn lo hi).2).cores = s.cores := rfl
@[simp] theorem drawIn_power (lo hi : Nat) : ((s.drawIn lo hi).2).power = s.power := rfl
@[simp] theorem drawIn_pair (lo hi : Nat) : ((s.drawIn lo hi).2).pair = s.pair := rfl
@[simp] theorem drawIn_log (lo hi : Nat) : ((s.drawIn lo hi).2).log = s.log := rfl
@[simp] theorem drawIn_upd (lo hi : Nat) : ((s.drawIn lo hi).2).upd = s.upd := rfl
@[simp] theorem drawIn_start (lo hi : Nat) : ((s.drawIn lo hi).2).start = s.start := rfl
@[simp] theorem drawIn_part (lo hi : Nat) : ((s.drawIn lo hi).2).part = s.part := rfl

@[simp] theorem drawBytes_pending (n : Nat) : ((s.drawBytes n).2).pending = s.pending := rfl
@[simp] theorem drawBytes_now (n : Nat) : ((s.drawBytes n).2).now = s.now := rfl
@[simp] theorem drawBytes_lastResp (n : Nat) : ((s.drawBytes n).2).lastResp = s.lastResp := rfl
@[simp] theorem drawBytes_obj (n : Nat) : ((s.drawBytes n).2).obj = s.obj := rfl
@[simp] theorem drawBytes_reg (n : Nat) : ((s.drawBytes n).2).reg = s.reg := rfl
@[simp] theorem drawBytes_mem (n : Nat) : ((s.drawBytes n).2).mem = s.mem := rfl
@[simp] theorem drawBytes_flash (n : Nat) : ((s.drawBytes n).2).flash = s.flash := rfl
@[simp] theorem drawBytes_dict (n : Nat) : ((s.drawBytes n).2).dict = s.dict := rfl
@[simp] theorem drawBytes_rf (n : Nat) : ((s.drawBytes n).2).rf = s.rf := rfl
@[simp] theorem drawBytes_mac (n : Nat) : ((s.drawBytes n).2).mac = s.mac := rfl
@[simp] theorem drawBytes_chain (n : Nat) : ((s.drawBytes n).2).chain = s.chain := rfl
@[simp] theorem drawBytes_pp (n : Nat) : ((s.drawBytes n).2).pp = s.pp := rfl
@[simp] theorem drawBytes_tm (n : Nat) : ((s.drawBytes n).2).tm = s.tm := rfl
@[simp] theorem drawBytes_wired (n : Nat) : ((s.drawBytes n).2).wired = s.wired := rfl
@[simp] theorem drawBytes_datum (n : Nat) : ((s.drawBytes n).2).datum = s.datum := rfl
@[simp] theorem drawBytes_sec (n : Nat) : ((s.drawBytes n).2).sec = s.sec := rfl
@[simp] theorem drawBytes_dram (n : Nat) : ((s.drawBytes n).2).dram = s.dram := rfl
@[simp] theorem drawBytes_dma (n : Nat) : ((s.drawBytes n).2).dma = s.dma := rfl
@[simp] theorem drawBytes_cores (n : Nat) : ((s.drawBytes n).2).cores = s.cores := rfl
@[simp] theorem drawBytes_power (n : Nat) : ((s.drawBytes n).2).power = s.power := rfl
@[simp] theorem drawBytes_pair (n : Nat) : ((s.drawBytes n).2).pair = s.pair := rfl
@[simp] theorem drawBytes_log (n : Nat) : ((s.drawBytes n).2).log = s.log := rfl
@[simp] theorem drawBytes_upd (n : Nat) : ((s.drawBytes n).2).upd = s.upd := rfl
@[simp] theorem drawBytes_start (n : Nat) : ((s.drawBytes n).2).start = s.start := rfl
@[simp] theorem drawBytes_part (n : Nat) : ((s.drawBytes n).2).part = s.part := rfl

@[simp] theorem putRec_pending (r : LogRec) : (putRec s r).pending = s.pending := rfl
@[simp] theorem putRec_free (r : LogRec) : (putRec s r).free = s.free := rfl
@[simp] theorem putRec_now (r : LogRec) : (putRec s r).now = s.now := rfl
@[simp] theorem putRec_lastResp (r : LogRec) : (putRec s r).lastResp = s.lastResp := rfl
@[simp] theorem putRec_obj (r : LogRec) : (putRec s r).obj = s.obj := rfl
@[simp] theorem putRec_reg (r : LogRec) : (putRec s r).reg = s.reg := rfl
@[simp] theorem putRec_mem (r : LogRec) : (putRec s r).mem = s.mem := rfl
@[simp] theorem putRec_flash (r : LogRec) : (putRec s r).flash = s.flash := rfl
@[simp] theorem putRec_dict (r : LogRec) : (putRec s r).dict = s.dict := rfl
@[simp] theorem putRec_rf (r : LogRec) : (putRec s r).rf = s.rf := rfl
@[simp] theorem putRec_mac (r : LogRec) : (putRec s r).mac = s.mac := rfl
@[simp] theorem putRec_chain (r : LogRec) : (putRec s r).chain = s.chain := rfl
@[simp] theorem putRec_pp (r : LogRec) : (putRec s r).pp = s.pp := rfl
@[simp] theorem putRec_tm (r : LogRec) : (putRec s r).tm = s.tm := rfl
@[simp] theorem putRec_wired (r : LogRec) : (putRec s r).wired = s.wired := rfl
@[simp] theorem putRec_datum (r : LogRec) : (putRec s r).datum = s.datum := rfl
@[simp] theorem putRec_sec (r : LogRec) : (putRec s r).sec = s.sec := rfl
@[simp] theorem putRec_dram (r : LogRec) : (putRec s r).dram = s.dram := rfl
@[simp] theorem putRec_dma (r : LogRec) : (putRec s r).dma = s.dma := rfl
@[simp] theorem putRec_cores (r : LogRec) : (putRec s r).cores = s.cores := rfl
@[simp] theorem putRec_power (r : LogRec) : (putRec s r).power = s.power := rfl
@[simp] theorem putRec_pair (r : LogRec) : (putRec s r).pair = s.pair := rfl
@[simp] theorem putRec_upd (r : LogRec) : (putRec s r).upd = s.upd := rfl
@[simp] theorem putRec_start (r : LogRec) : (putRec s r).start = s.start := rfl
@[simp] theorem putRec_part (r : LogRec) : (putRec s r).part = s.part := rfl

@[simp] theorem deliverRec_pending (r : LogRec) : (deliverRec s r).pending = s.pending := by
  unfold deliverRec; repeat (first | rfl | split)
@[simp] theorem deliverRec_free (r : LogRec) : (deliverRec s r).free = s.free := by
  unfold deliverRec; repeat (first | rfl | split)
@[simp] theorem deliverRec_now (r : LogRec) : (deliverRec s r).now = s.now := by
  unfold deliverRec; repeat (first | rfl | split)
@[simp] theorem deliverRec_lastResp (r : LogRec) : (deliverRec s r).lastResp = s.lastResp := by
  unfold deliverRec; repeat (first | rfl | split)
@[simp] theorem deliverRec_reg (r : LogRec) : (deliverRec s r).reg = s.reg := by
  unfold deliverRec; repeat (first | rfl | split)
@[simp] theorem deliverRec_mem (r : LogRec) : (deliverRec s r).mem = s.mem := by
  unfold deliverRec; repeat (first | rfl | split)
@[simp] theorem deliverRec_flash (r : LogRec) : (deliverRec s r).flash = s.flash := by
  unfold deliverRec; repeat (first | rfl | split)
@[simp] theorem deliverRec_dict (r : LogRec) : (deliverRec s r).dict = s.dict := by
  unfold deliverRec; repeat (first | rfl | split)
@[simp] theorem deliverRec_rf (r : LogRec) : (deliverRec s r).rf = s.rf := by
  unfold deliverRec; repeat (first | rfl | split)
@[simp] theorem deliverRec_mac (r : LogRec) : (deliverRec s r).mac = s.mac := by
  unfold deliverRec; repeat (first | rfl | split)
@[simp] theorem deliverRec_chain (r : LogRec) : (deliverRec s r).chain = s.chain := by
  unfold deliverRec; repeat (first | rfl | split)
@[simp] theorem deliverRec_pp (r : LogRec) : (deliverRec s r).pp = s.pp := by
  unfold deliverRec; repeat (first | rfl | split)
@[simp] theorem deliverRec_tm (r : LogRec) : (deliverRec s r).tm = s.tm := by
  unfold deliverRec; repeat (first | rfl | split)
@[simp] theorem deliverRec_wired (r : LogRec) : (deliverRec s r).wired = s.wired := by
  unfold deliverRec; repeat (first | rfl | split)
@[simp] theorem deliverRec_datum (r : LogRec) : (deliverRec s r).datum = s.datum := by
  unfold deliverRec; repeat (first | rfl | split)
@[simp] theorem deliverRec_sec (r : LogRec) : (deliverRec s r).sec = s.sec := by
  unfold deliverRec; repeat (first | rfl | split)
@[simp] theorem deliverRec_dram (r : LogRec) : (deliverRec s r).dram = s.dram := by
  unfold deliverRec; repeat (first | rfl | split)
@[simp] theorem deliverRec_dma (r : LogRec) : (deliverRec s r).dma = s.dma := by
  unfold deliverRec; repeat (first | rfl | split)
@[simp] theorem deliverRec_cores (r : LogRec) : (deliverRec s r).cores = s.cores := by
  unfold deliverRec; repeat (first | rfl | split)
@[simp] theorem deliverRec_power (r : LogRec) : (deliverRec s r).power = s.power := by
  unfold deliverRec; repeat (first | rfl | split)
@[simp] theorem deliverRec_pair (r : LogRec) : (deliverRec s r).pair = s.pair := by
  unfold deliverRec; repeat (first | rfl | split)
@[simp] theorem deliverRec_upd (r : LogRec) : (deliverRec s r).upd = s.upd := by
  unfold deliverRec; repeat (first | rfl | split)
@[simp] theorem deliverRec_start (r : LogRec) : (deliverRec s r).start = s.start := by
  unfold deliverRec; repeat (first | rfl | split)
@[simp] theorem deliverRec_part (r : LogRec) : (deliverRec s r).part = s.part := by
  unfold deliverRec; repeat (first | rfl | split)

@[simp] theorem logEvent_pending (u c k i d : Nat) : (s.logEvent u c k i d).pending = s.pending := by unfold State.logEvent; simp
@[simp] theorem logEvent_free (u c k i d : Nat) : (s.logEvent u c k i d).free = s.free := by unfold State.logEvent; simp
@[simp] theorem logEvent_now (u c k i d : Nat) : (s.logEvent u c k i d).now = s.now := by unfold State.logEvent; simp
@[simp] theorem logEvent_lastResp (u c k i d : Nat) : (s.logEvent u c k i d).lastResp = s.lastResp := by unfold State.logEvent; simp
@[simp] theorem logEvent_reg (u c k i d : Nat) : (s.logEvent u c k i d).reg = s.reg := by unfold State.logEvent; simp
@[simp] theorem logEvent_mem (u c k i d : Nat) : (s.logEvent u c k i d).mem = s.mem := by unfold State.logEvent; simp
@[simp] theorem logEvent_flash (u c k i d : Nat) : (s.logEvent u c k i d).flash = s.flash := by unfold State.logEvent; simp
@[simp] theorem logEvent_dict (u c k i d : Nat) : (s.logEvent u c k i d).dict = s.dict := by unfold State.logEvent; simp
@[simp] theorem logEvent_rf (u c k i d : Nat) : (s.logEvent u c k i d).rf = s.rf := by unfold State.logEvent; simp
@[simp] theorem logEvent_mac (u c k i d : Nat) : (s.logEvent u c k i d).mac = s.mac := by unfold State.logEvent; simp
@[simp] theorem logEvent_chain (u c k i d : Nat) : (s.logEvent u c k i d).chain = s.chain := by unfold State.logEvent; simp
@[simp] theorem logEvent_pp (u c k i d : Nat) : (s.logEvent u c k i d).pp = s.pp := by unfold State.logEvent; simp
@[simp] theorem logEvent_tm (u c k i d : Nat) : (s.logEvent u c k i d).tm = s.tm := by unfold State.logEvent; simp
@[simp] theorem logEvent_wired (u c k i d : Nat) : (s.logEvent u c k i d).wired = s.wired := by unfold State.logEvent; simp
@[simp] theorem logEvent_datum (u c k i d : Nat) : (s.logEvent u c k i d).datum = s.datum := by unfold State.logEvent; simp
@[simp] theorem logEvent_sec (u c k i d : Nat) : (s.logEvent u c k i d).sec = s.sec := by unfold State.logEvent; simp
@[simp] theorem logEvent_dram (u c k i d : Nat) : (s.logEvent u c k i d).dram = s.dram := by unfold State.logEvent; simp
@[simp] theorem logEvent_dma (u c k i d : Nat) : (s.logEvent u c k i d).dma = s.dma := by unfold State.logEvent; simp
@[simp] theorem logEvent_cores (u c k i d : Nat) : (s.logEvent u c k i d).cores = s.cores := by unfold State.logEvent; simp
@[simp] theorem logEvent_power (u c k i d : Nat) : (s.logEvent u c k i d).power = s.power := by unfold State.logEvent; simp
@[simp] theorem logEvent_pair (u c k i d : Nat) : (s.logEvent u c k i d).pair = s.pair := by unfold State.logEvent; simp
@[simp] theorem logEvent_upd (u c k i d : Nat) : (s.logEvent u c k i d).upd = s.upd := by unfold State.logEvent; simp
@[simp] theorem logEvent_start (u c k i d : Nat) : (s.logEvent u c k i d).start = s.start := by unfold State.logEvent; simp
@[simp] theorem logEvent_part (u c k i d : Nat) : (s.logEvent u c k i d).part = s.part := by unfold State.logEvent; simp

@[simp] theorem watch_pending (r u l n i : Nat) : (s.watch r u l n i).pending = s.pending := by
  unfold State.watch; dsimp only; repeat (first | rfl | split | (simp; done))
@[simp] theorem watch_free (r u l n i : Nat) : (s.watch r u l n i).free = s.free := by
  unfold State.watch; dsimp only; repeat (first | rfl | split | (simp; done))
@[simp] theorem watch_now (r u l n i : Nat) : (s.watch r u l n i).now = s.now := by
  unfold State.watch; dsimp only; repeat (first | rfl | split | (simp; done))
@[simp] theorem watch_lastResp (r u l n i : Nat) : (s.watch r u l n i).lastResp = s.lastResp := by
  unfold State.watch; dsimp only; repeat (first | rfl | split | (simp; done))
@[simp] theorem watch_reg (r u l n i : Nat) : (s.watch r u l n i).reg = s.reg := by
  unfold State.watch; dsimp only; repeat (first | rfl | split | (simp; done))
@[simp] theorem watch_mem (r u l n i : Nat) : (s.watch r u l n i).mem = s.mem := by
  unfold State.watch; dsimp only; repeat (first | rfl | split | (simp; done))
@[simp] theorem watch_flash (r u l n i : Nat) : (s.watch r u l n i).flash = s.flash := by
  unfold State.watch; dsimp only; repeat (first | rfl | split | (simp; done))
@[simp] theorem watch_dict (r u l n i : Nat) : (s.watch r u l n i).dict = s.dict := by
  unfold State.watch; dsimp only; repeat (first | rfl | split | (simp; done))
@[simp] theorem watch_rf (r u l n i : Nat) : (s.watch r u l n i).rf = s.rf := by
  unfold State.watch; dsimp only; repeat (first | rfl | split | (simp; done))
@[simp] theorem watch_mac (r u l n i : Nat) : (s.watch r u l n i).mac = s.mac := by
  unfold State.watch; dsimp only; repeat (first | rfl | split | (simp; done))
@[simp] theorem watch_chain (r u l n i : Nat) : (s.watch r u l n i).chain = s.chain := by
  unfold State.watch; dsimp only; repeat (first | rfl | split | (simp; done))
@[simp] theorem watch_pp (r u l n i : Nat) : (s.watch r u l n i).pp = s.pp := by
  unfold State.watch; dsimp only; repeat (first | rfl | split | (simp; done))
@[simp] theorem watch_tm (r u l n i : Nat) : (s.watch r u l n i).tm = s.tm := by
  unfold State.watch; dsimp only; repeat (first | rfl | split | (simp; done))
@[simp] theorem watch_wired (r u l n i : Nat) : (s.watch r u l n i).wired = s.wired := by
  unfold State.watch; dsimp only; repeat (first | rfl | split | (simp; done))
@[simp] theorem watch_datum (r u l n i : Nat) : (s.watch r u l n i).datum = s.datum := by
  unfold State.watch; dsimp only; repeat (first | rfl | split | (simp; done))
@[simp] theorem watch_sec (r u l n i : Nat) : (s.watch r u l n i).sec = s.sec := by
  unfold State.watch; dsimp only; repeat (first | rfl | split | (simp; done))
@[simp] theorem watch_dram (r u l n i : Nat) : (s.watch r u l n i).dram = s.dram := by
  unfold State.watch; dsimp only; repeat (first | rfl | split | (simp; done))
@[simp] theorem watch_dma (r u l n i : Nat) : (s.watch r u l n i).dma = s.dma := by
  unfold State.watch; dsimp only; repeat (first | rfl | split | (simp; done))
@[simp] theorem watch_cores (r u l n i : Nat) : (s.watch r u l n i).cores = s.cores := by
  unfold State.watch; dsimp only; repeat (first | rfl | split | (simp; done))
@[simp] theorem watch_power (r u l n i : Nat) : (s.watch r u l n i).power = s.power := by
  unfold State.watch; dsimp only; repeat (first | rfl | split | (simp; done))
@[simp] theorem watch_pair (r u l n i : Nat) : (s.watch r u l n i).pair = s.pair := by
  unfold State.watch; dsimp only; repeat (first | rfl | split | (simp; done))
@[simp] theorem watch_upd (r u l n i : Nat) : (s.watch r u l n i).upd = s.upd := by
  unfold State.watch; dsimp only; repeat (first | rfl | split | (simp; done))
@[simp] theorem watch_start (r u l n i : Nat) : (s.watch r u l n i).start = s.start := by
  unfold State.watch; dsimp only; repeat (first | rfl | split | (simp; done))
@[simp] theorem watch_part (r u l n i : Nat) : (s.watch r u l n i).part = s.part := by
  unfold State.watch; dsimp only; repeat (first | rfl | split | (simp; done))

@[simp] theorem release_pending (k i : Nat) : (s.release k i).pending = s.pending := rfl
@[simp] theorem release_free (k i : Nat) : (s.release k i).free = s.free := rfl
@[simp] theorem release_now (k i : Nat) : (s.release k i).now = s.now := rfl
@[simp] theorem release_lastResp (k i : Nat) : (s.release k i).lastResp = s.lastResp := rfl
@[simp] theorem release_obj (k i : Nat) : (s.release k i).obj = s.obj := rfl
@[simp] theorem release_reg (k i : Nat) : (s.release k i).reg = s.reg := rfl
@[simp] theorem release_mem (k i : Nat) : (s.release k i).mem = s.mem := rfl
@[simp] theorem release_flash (k i : Nat) : (s.release k i).flash = s.flash := rfl
@[simp] theorem release_dict (k i : Nat) : (s.release k i).dict = s.dict := rfl
@[simp] theorem release_rf (k i : Nat) : (s.release k i).rf = s.rf := rfl
@[simp] theorem release_mac (k i : Nat) : (s.release k i).mac = s.mac := rfl
@[simp] theorem release_chain (k i : Nat) : (s.release k i).chain = s.chain := rfl
@[simp] theorem release_pp (k i : Nat) : (s.release k i).pp = s.pp := rfl
@[simp] theorem release_tm (k i : Nat) : (s.release k i).tm = s.tm := rfl
@[simp] theorem release_wired (k i : Nat) : (s.release k i).wired = s.wired := rfl
@[simp] theorem release_datum (k i : Nat) : (s.release k i).datum = s.datum := rfl
@[simp] theorem release_sec (k i : Nat) : (s.release k i).sec = s.sec := rfl
@[simp] theorem release_dram (k i : Nat) : (s.release k i).dram = s.dram := rfl
@[simp] theorem release_dma (k i : Nat) : (s.release k i).dma = s.dma := rfl
@[simp] theorem release_cores (k i : Nat) : (s.release k i).cores = s.cores := rfl
@[simp] theorem release_pair (k i : Nat) : (s.release k i).pair = s.pair := rfl
@[simp] theorem release_log (k i : Nat) : (s.release k i).log = s.log := rfl
@[simp] theorem release_upd (k i : Nat) : (s.release k i).upd = s.upd := rfl
@[simp] theorem release_start (k i : Nat) : (s.release k i).start = s.start := rfl
@[simp] theorem release_part (k i : Nat) : (s.release k i).part = s.part := rfl

@[simp] theorem grant_pending (k i u : Nat) : (s.grant k i u).pending = s.pending := by
  unfold State.grant; dsimp only; split <;> rfl
@[simp] theorem grant_free (k i u : Nat) : (s.grant k i u).free = s.free := by
  unfold State.grant; dsimp only; split <;> rfl
@[simp] theorem grant_now (k i u : Nat) : (s.grant k i u).now = s.now := by
  unfold State.grant; dsimp only; split <;> rfl
@[simp] theorem grant_lastResp (k i u : Nat) : (s.grant k i u).lastResp = s.lastResp := by
  unfold State.grant; dsimp only; split <;> rfl
@[simp] theorem grant_obj (k i u : Nat) : (s.grant k i u).obj = s.obj := by
  unfold State.grant; dsimp only; split <;> rfl
@[simp] theorem grant_reg (k i u : Nat) : (s.grant k i u).reg = s.reg := by
  unfold State.grant; dsimp only; split <;> rfl
@[simp] theorem grant_mem (k i u : Nat) : (s.grant k i u).mem = s.mem := by
  unfold State.grant; dsimp only; split <;> rfl
@[simp] theorem grant_flash (k i u : Nat) : (s.grant k i u).flash = s.flash := by
  unfold State.grant; dsimp only; split <;> rfl
@[simp] theorem grant_dict (k i u : Nat) : (s.grant k i u).dict = s.dict := by
  unfold State.grant; dsimp only; split <;> rfl
@[simp] theorem grant_rf (k i u : Nat) : (s.grant k i u).rf = s.rf := by
  unfold State.grant; dsimp only; split <;> rfl
@[simp] theorem grant_mac (k i u : Nat) : (s.grant k i u).mac = s.mac := by
  unfold State.grant; dsimp only; split <;> rfl
@[simp] theorem grant_chain (k i u : Nat) : (s.grant k i u).chain = s.chain := by
  unfold State.grant; dsimp only; split <;> rfl
@[simp] theorem grant_pp (k i u : Nat) : (s.grant k i u).pp = s.pp := by
  unfold State.grant; dsimp only; split <;> rfl
@[simp] theorem grant_tm (k i u : Nat) : (s.grant k i u).tm = s.tm := by
  unfold State.grant; dsimp only; split <;> rfl
@[simp] theorem grant_wired (k i u : Nat) : (s.grant k i u).wired = s.wired := by
  unfold State.grant; dsimp only; split <;> rfl
@[simp] theorem grant_datum (k i u : Nat) : (s.grant k i u).datum = s.datum := by
  unfold State.grant; dsimp only; split <;> rfl
@[simp] theorem grant_sec (k i u : Nat) : (s.grant k i u).sec = s.sec := by
  unfold State.grant; dsimp only; split <;> rfl
@[simp] theorem grant_dram (k i u : Nat) : (s.grant k i u).dram = s.dram := by
  unfold State.grant; dsimp only; split <;> rfl
@[simp] theorem grant_dma (k i u : Nat) : (s.grant k i u).dma = s.dma := by
  unfold State.grant; dsimp only; split <;> rfl
@[simp] theorem grant_cores (k i u : Nat) : (s.grant k i u).cores = s.cores := by
  unfold State.grant; dsimp only; split <;> rfl
@[simp] theorem grant_pair (k i u : Nat) : (s.grant k i u).pair = s.pair := by
  unfold State.grant; dsimp only; split <;> rfl
@[simp] theorem grant_log (k i u : Nat) : (s.grant k i u).log = s.log := by
  unfold State.grant; dsimp only; split <;> rfl
@[simp] theorem grant_upd (k i u : Nat) : (s.grant k i u).upd = s.upd := by
  unfold State.grant; dsimp only; split <;> rfl
@[simp] theorem grant_start (k i u : Nat) : (s.grant k i u).start = s.start := by
  unfold State.grant; dsimp only; split <;> rfl
@[simp] theorem grant_part (k i u : Nat) : (s.grant k i u).part = s.part := by
  unfold State.grant; dsimp only; split <;> rfl

end Sys2Proof.Machine
end

