-- ==== Sys2Proof/Laws/Read.lean ====
section
/-! SUPPORT. Which updates leave an object, a register, a thread, a core or an operand as it reads. -/

namespace Sys2Proof.Machine
open Sys2Proof
variable (s : State)

@[simp] theorem objB_setDict (x : Dict) (i' e' : Nat) : (s.setDict x).objB i' e' = s.objB i' e' := rfl
@[simp] theorem objB_setRf (x : Rf) (i' e' : Nat) : (s.setRf x).objB i' e' = s.objB i' e' := rfl
@[simp] theorem objB_setMac (x : Mac) (i' e' : Nat) : (s.setMac x).objB i' e' = s.objB i' e' := rfl
@[simp] theorem objB_setChain (x : ChainUnit) (i' e' : Nat) : (s.setChain x).objB i' e' = s.objB i' e' := rfl
@[simp] theorem objB_setPp (x : PpUnit) (i' e' : Nat) : (s.setPp x).objB i' e' = s.objB i' e' := rfl
@[simp] theorem objB_setTm (x : TmUnit) (i' e' : Nat) : (s.setTm x).objB i' e' = s.objB i' e' := rfl
@[simp] theorem objB_setWired (x : Wired) (i' e' : Nat) : (s.setWired x).objB i' e' = s.objB i' e' := rfl
@[simp] theorem objB_setDatum (x : DatumUnit) (i' e' : Nat) : (s.setDatum x).objB i' e' = s.objB i' e' := rfl
@[simp] theorem objB_setSec (x : Sec) (i' e' : Nat) : (s.setSec x).objB i' e' = s.objB i' e' := rfl
@[simp] theorem objB_setDram (x : Dram) (i' e' : Nat) : (s.setDram x).objB i' e' = s.objB i' e' := rfl
@[simp] theorem objB_setDma (x : Dma) (i' e' : Nat) : (s.setDma x).objB i' e' = s.objB i' e' := rfl
@[simp] theorem objB_setPower (x : Power) (i' e' : Nat) : (s.setPower x).objB i' e' = s.objB i' e' := rfl
@[simp] theorem objB_setPair (x : Pair) (i' e' : Nat) : (s.setPair x).objB i' e' = s.objB i' e' := rfl
@[simp] theorem objB_setLog (x : Log) (i' e' : Nat) : (s.setLog x).objB i' e' = s.objB i' e' := rfl
@[simp] theorem objB_setUpd (x : Update) (i' e' : Nat) : (s.setUpd x).objB i' e' = s.objB i' e' := rfl
@[simp] theorem objB_setStart (x : Start) (i' e' : Nat) : (s.setStart x).objB i' e' = s.objB i' e' := rfl
@[simp] theorem objB_setReg (a v : Nat) (i' e' : Nat) : (s.setReg a v).objB i' e' = s.objB i' e' := rfl
@[simp] theorem objB_modCore (c : CoreId) (f : CoreSt → CoreSt) (i' e' : Nat) : (s.modCore c f).objB i' e' = s.objB i' e' := rfl
@[simp] theorem objB_setThread (t : Nat) (x : Thread) (i' e' : Nat) : (s.setThread t x).objB i' e' = s.objB i' e' := rfl
@[simp] theorem objB_setOpnd (o : Nat) (x : Operand) (i' e' : Nat) : (s.setOpnd o x).objB i' e' = s.objB i' e' := rfl
@[simp] theorem objB_modFe (r : Radio) (f : FrontEnd → FrontEnd) (i' e' : Nat) : (s.modFe r f).objB i' e' = s.objB i' e' := rfl
@[simp] theorem objB_modTrx (t : Trx) (f : Transceiver → Transceiver) (i' e' : Nat) : (s.modTrx t f).objB i' e' = s.objB i' e' := rfl
@[simp] theorem objB_modTpo (o : Fin 4) (f : Tpo → Tpo) (i' e' : Nat) : (s.modTpo o f).objB i' e' = s.objB i' e' := rfl
@[simp] theorem objB_modCr (r : Radio) (f : ChainRadio → ChainRadio) (i' e' : Nat) : (s.modCr r f).objB i' e' = s.objB i' e' := rfl
@[simp] theorem objB_modLane (l : Fin 12) (f : LaneSt → LaneSt) (i' e' : Nat) : (s.modLane l f).objB i' e' = s.objB i' e' := rfl
@[simp] theorem objB_setQueue (q : Nat) (x : Queue) (i' e' : Nat) : (s.setQueue q x).objB i' e' = s.objB i' e' := rfl
@[simp] theorem objB_setNode (k : Nat) (x : Node) (i' e' : Nat) : (setNode s k x).objB i' e' = s.objB i' e' := rfl
@[simp] theorem objB_setKey (n : Nat) (k : KeySlot) (i' e' : Nat) : (setKey s n k).objB i' e' = s.objB i' e' := rfl
@[simp] theorem objB_modSess (n : Nat) (f : Session → Session) (i' e' : Nat) : (modSess s n f).objB i' e' = s.objB i' e' := rfl
@[simp] theorem objB_setExec (n : Nat) (e : Exec) (i' e' : Nat) : (setExec s n e).objB i' e' = s.objB i' e' := rfl
@[simp] theorem objB_setTrav (k : Nat) (t : Traverse) (i' e' : Nat) : (setTrav s k t).objB i' e' = s.objB i' e' := rfl
@[simp] theorem objB_setCause (c : CoreId) (b : Nat) (i' e' : Nat) : (setCause s c b).objB i' e' = s.objB i' e' := rfl
@[simp] theorem objB_modEth (p : Nat) (f : EthPort → EthPort) (i' e' : Nat) : (s.modEth p f).objB i' e' = s.objB i' e' := rfl
@[simp] theorem objB_modRank (k : Nat) (f : Rank → Rank) (i' e' : Nat) : (modRank s k f).objB i' e' = s.objB i' e' := rfl
@[simp] theorem objB_setCur (c : Fin 64) (x : Option DmaCur) (i' e' : Nat) : (setCur s c x).objB i' e' = s.objB i' e' := rfl
@[simp] theorem objB_keepQueue (q : State) (i e : Nat) : (s.keepQueue q).objB i e = q.objB i e := rfl
@[simp] theorem objB_draw (i' e' : Nat) : (s.draw.2).objB i' e' = s.objB i' e' := rfl
@[simp] theorem objB_drawIn (lo hi : Nat) (i' e' : Nat) : ((s.drawIn lo hi).2).objB i' e' = s.objB i' e' := rfl
@[simp] theorem objB_drawBytes (n : Nat) (i' e' : Nat) : ((s.drawBytes n).2).objB i' e' = s.objB i' e' := rfl
@[simp] theorem objB_putRec (r : LogRec) (i' e' : Nat) : (putRec s r).objB i' e' = s.objB i' e' := rfl
@[simp] theorem objB_release (k i : Nat) (i' e' : Nat) : (s.release k i).objB i' e' = s.objB i' e' := rfl
@[simp] theorem objB_grant (k i u : Nat) (i' e' : Nat) : (s.grant k i u).objB i' e' = s.objB i' e' := by
  unfold State.objB State.dflt; rw [grant_obj, grant_part]

@[simp] theorem objN_setDict (x : Dict) (i' e' : Nat) : (s.setDict x).objN i' e' = s.objN i' e' := rfl
@[simp] theorem objN_setRf (x : Rf) (i' e' : Nat) : (s.setRf x).objN i' e' = s.objN i' e' := rfl
@[simp] theorem objN_setMac (x : Mac) (i' e' : Nat) : (s.setMac x).objN i' e' = s.objN i' e' := rfl
@[simp] theorem objN_setChain (x : ChainUnit) (i' e' : Nat) : (s.setChain x).objN i' e' = s.objN i' e' := rfl
@[simp] theorem objN_setPp (x : PpUnit) (i' e' : Nat) : (s.setPp x).objN i' e' = s.objN i' e' := rfl
@[simp] theorem objN_setTm (x : TmUnit) (i' e' : Nat) : (s.setTm x).objN i' e' = s.objN i' e' := rfl
@[simp] theorem objN_setWired (x : Wired) (i' e' : Nat) : (s.setWired x).objN i' e' = s.objN i' e' := rfl
@[simp] theorem objN_setDatum (x : DatumUnit) (i' e' : Nat) : (s.setDatum x).objN i' e' = s.objN i' e' := rfl
@[simp] theorem objN_setSec (x : Sec) (i' e' : Nat) : (s.setSec x).objN i' e' = s.objN i' e' := rfl
@[simp] theorem objN_setDram (x : Dram) (i' e' : Nat) : (s.setDram x).objN i' e' = s.objN i' e' := rfl
@[simp] theorem objN_setDma (x : Dma) (i' e' : Nat) : (s.setDma x).objN i' e' = s.objN i' e' := rfl
@[simp] theorem objN_setPower (x : Power) (i' e' : Nat) : (s.setPower x).objN i' e' = s.objN i' e' := rfl
@[simp] theorem objN_setPair (x : Pair) (i' e' : Nat) : (s.setPair x).objN i' e' = s.objN i' e' := rfl
@[simp] theorem objN_setLog (x : Log) (i' e' : Nat) : (s.setLog x).objN i' e' = s.objN i' e' := rfl
@[simp] theorem objN_setUpd (x : Update) (i' e' : Nat) : (s.setUpd x).objN i' e' = s.objN i' e' := rfl
@[simp] theorem objN_setStart (x : Start) (i' e' : Nat) : (s.setStart x).objN i' e' = s.objN i' e' := rfl
@[simp] theorem objN_setReg (a v : Nat) (i' e' : Nat) : (s.setReg a v).objN i' e' = s.objN i' e' := rfl
@[simp] theorem objN_modCore (c : CoreId) (f : CoreSt → CoreSt) (i' e' : Nat) : (s.modCore c f).objN i' e' = s.objN i' e' := rfl
@[simp] theorem objN_setThread (t : Nat) (x : Thread) (i' e' : Nat) : (s.setThread t x).objN i' e' = s.objN i' e' := rfl
@[simp] theorem objN_setOpnd (o : Nat) (x : Operand) (i' e' : Nat) : (s.setOpnd o x).objN i' e' = s.objN i' e' := rfl
@[simp] theorem objN_modFe (r : Radio) (f : FrontEnd → FrontEnd) (i' e' : Nat) : (s.modFe r f).objN i' e' = s.objN i' e' := rfl
@[simp] theorem objN_modTrx (t : Trx) (f : Transceiver → Transceiver) (i' e' : Nat) : (s.modTrx t f).objN i' e' = s.objN i' e' := rfl
@[simp] theorem objN_modTpo (o : Fin 4) (f : Tpo → Tpo) (i' e' : Nat) : (s.modTpo o f).objN i' e' = s.objN i' e' := rfl
@[simp] theorem objN_modCr (r : Radio) (f : ChainRadio → ChainRadio) (i' e' : Nat) : (s.modCr r f).objN i' e' = s.objN i' e' := rfl
@[simp] theorem objN_modLane (l : Fin 12) (f : LaneSt → LaneSt) (i' e' : Nat) : (s.modLane l f).objN i' e' = s.objN i' e' := rfl
@[simp] theorem objN_setQueue (q : Nat) (x : Queue) (i' e' : Nat) : (s.setQueue q x).objN i' e' = s.objN i' e' := rfl
@[simp] theorem objN_setNode (k : Nat) (x : Node) (i' e' : Nat) : (setNode s k x).objN i' e' = s.objN i' e' := rfl
@[simp] theorem objN_setKey (n : Nat) (k : KeySlot) (i' e' : Nat) : (setKey s n k).objN i' e' = s.objN i' e' := rfl
@[simp] theorem objN_modSess (n : Nat) (f : Session → Session) (i' e' : Nat) : (modSess s n f).objN i' e' = s.objN i' e' := rfl
@[simp] theorem objN_setExec (n : Nat) (e : Exec) (i' e' : Nat) : (setExec s n e).objN i' e' = s.objN i' e' := rfl
@[simp] theorem objN_setTrav (k : Nat) (t : Traverse) (i' e' : Nat) : (setTrav s k t).objN i' e' = s.objN i' e' := rfl
@[simp] theorem objN_setCause (c : CoreId) (b : Nat) (i' e' : Nat) : (setCause s c b).objN i' e' = s.objN i' e' := rfl
@[simp] theorem objN_modEth (p : Nat) (f : EthPort → EthPort) (i' e' : Nat) : (s.modEth p f).objN i' e' = s.objN i' e' := rfl
@[simp] theorem objN_modRank (k : Nat) (f : Rank → Rank) (i' e' : Nat) : (modRank s k f).objN i' e' = s.objN i' e' := rfl
@[simp] theorem objN_setCur (c : Fin 64) (x : Option DmaCur) (i' e' : Nat) : (setCur s c x).objN i' e' = s.objN i' e' := rfl
@[simp] theorem objN_keepQueue (q : State) (i e : Nat) : (s.keepQueue q).objN i e = q.objN i e := rfl
@[simp] theorem objN_draw (i' e' : Nat) : (s.draw.2).objN i' e' = s.objN i' e' := rfl
@[simp] theorem objN_drawIn (lo hi : Nat) (i' e' : Nat) : ((s.drawIn lo hi).2).objN i' e' = s.objN i' e' := rfl
@[simp] theorem objN_drawBytes (n : Nat) (i' e' : Nat) : ((s.drawBytes n).2).objN i' e' = s.objN i' e' := rfl
@[simp] theorem objN_putRec (r : LogRec) (i' e' : Nat) : (putRec s r).objN i' e' = s.objN i' e' := rfl
@[simp] theorem objN_release (k i : Nat) (i' e' : Nat) : (s.release k i).objN i' e' = s.objN i' e' := rfl
@[simp] theorem objN_grant (k i u : Nat) (i' e' : Nat) : (s.grant k i u).objN i' e' = s.objN i' e' := by
  unfold State.objN State.objB State.dflt; rw [grant_obj, grant_part]

@[simp] theorem objF_setDict (x : Dict) (i' e' o' w' : Nat) : (s.setDict x).objF i' e' o' w' = s.objF i' e' o' w' := rfl
@[simp] theorem objF_setRf (x : Rf) (i' e' o' w' : Nat) : (s.setRf x).objF i' e' o' w' = s.objF i' e' o' w' := rfl
@[simp] theorem objF_setMac (x : Mac) (i' e' o' w' : Nat) : (s.setMac x).objF i' e' o' w' = s.objF i' e' o' w' := rfl
@[simp] theorem objF_setChain (x : ChainUnit) (i' e' o' w' : Nat) : (s.setChain x).objF i' e' o' w' = s.objF i' e' o' w' := rfl
@[simp] theorem objF_setPp (x : PpUnit) (i' e' o' w' : Nat) : (s.setPp x).objF i' e' o' w' = s.objF i' e' o' w' := rfl
@[simp] theorem objF_setTm (x : TmUnit) (i' e' o' w' : Nat) : (s.setTm x).objF i' e' o' w' = s.objF i' e' o' w' := rfl
@[simp] theorem objF_setWired (x : Wired) (i' e' o' w' : Nat) : (s.setWired x).objF i' e' o' w' = s.objF i' e' o' w' := rfl
@[simp] theorem objF_setDatum (x : DatumUnit) (i' e' o' w' : Nat) : (s.setDatum x).objF i' e' o' w' = s.objF i' e' o' w' := rfl
@[simp] theorem objF_setSec (x : Sec) (i' e' o' w' : Nat) : (s.setSec x).objF i' e' o' w' = s.objF i' e' o' w' := rfl
@[simp] theorem objF_setDram (x : Dram) (i' e' o' w' : Nat) : (s.setDram x).objF i' e' o' w' = s.objF i' e' o' w' := rfl
@[simp] theorem objF_setDma (x : Dma) (i' e' o' w' : Nat) : (s.setDma x).objF i' e' o' w' = s.objF i' e' o' w' := rfl
@[simp] theorem objF_setPower (x : Power) (i' e' o' w' : Nat) : (s.setPower x).objF i' e' o' w' = s.objF i' e' o' w' := rfl
@[simp] theorem objF_setPair (x : Pair) (i' e' o' w' : Nat) : (s.setPair x).objF i' e' o' w' = s.objF i' e' o' w' := rfl
@[simp] theorem objF_setLog (x : Log) (i' e' o' w' : Nat) : (s.setLog x).objF i' e' o' w' = s.objF i' e' o' w' := rfl
@[simp] theorem objF_setUpd (x : Update) (i' e' o' w' : Nat) : (s.setUpd x).objF i' e' o' w' = s.objF i' e' o' w' := rfl
@[simp] theorem objF_setStart (x : Start) (i' e' o' w' : Nat) : (s.setStart x).objF i' e' o' w' = s.objF i' e' o' w' := rfl
@[simp] theorem objF_setReg (a v : Nat) (i' e' o' w' : Nat) : (s.setReg a v).objF i' e' o' w' = s.objF i' e' o' w' := rfl
@[simp] theorem objF_modCore (c : CoreId) (f : CoreSt → CoreSt) (i' e' o' w' : Nat) : (s.modCore c f).objF i' e' o' w' = s.objF i' e' o' w' := rfl
@[simp] theorem objF_setThread (t : Nat) (x : Thread) (i' e' o' w' : Nat) : (s.setThread t x).objF i' e' o' w' = s.objF i' e' o' w' := rfl
@[simp] theorem objF_setOpnd (o : Nat) (x : Operand) (i' e' o' w' : Nat) : (s.setOpnd o x).objF i' e' o' w' = s.objF i' e' o' w' := rfl
@[simp] theorem objF_modFe (r : Radio) (f : FrontEnd → FrontEnd) (i' e' o' w' : Nat) : (s.modFe r f).objF i' e' o' w' = s.objF i' e' o' w' := rfl
@[simp] theorem objF_modTrx (t : Trx) (f : Transceiver → Transceiver) (i' e' o' w' : Nat) : (s.modTrx t f).objF i' e' o' w' = s.objF i' e' o' w' := rfl
@[simp] theorem objF_modTpo (o : Fin 4) (f : Tpo → Tpo) (i' e' o' w' : Nat) : (s.modTpo o f).objF i' e' o' w' = s.objF i' e' o' w' := rfl
@[simp] theorem objF_modCr (r : Radio) (f : ChainRadio → ChainRadio) (i' e' o' w' : Nat) : (s.modCr r f).objF i' e' o' w' = s.objF i' e' o' w' := rfl
@[simp] theorem objF_modLane (l : Fin 12) (f : LaneSt → LaneSt) (i' e' o' w' : Nat) : (s.modLane l f).objF i' e' o' w' = s.objF i' e' o' w' := rfl
@[simp] theorem objF_setQueue (q : Nat) (x : Queue) (i' e' o' w' : Nat) : (s.setQueue q x).objF i' e' o' w' = s.objF i' e' o' w' := rfl
@[simp] theorem objF_setNode (k : Nat) (x : Node) (i' e' o' w' : Nat) : (setNode s k x).objF i' e' o' w' = s.objF i' e' o' w' := rfl
@[simp] theorem objF_setKey (n : Nat) (k : KeySlot) (i' e' o' w' : Nat) : (setKey s n k).objF i' e' o' w' = s.objF i' e' o' w' := rfl
@[simp] theorem objF_modSess (n : Nat) (f : Session → Session) (i' e' o' w' : Nat) : (modSess s n f).objF i' e' o' w' = s.objF i' e' o' w' := rfl
@[simp] theorem objF_setExec (n : Nat) (e : Exec) (i' e' o' w' : Nat) : (setExec s n e).objF i' e' o' w' = s.objF i' e' o' w' := rfl
@[simp] theorem objF_setTrav (k : Nat) (t : Traverse) (i' e' o' w' : Nat) : (setTrav s k t).objF i' e' o' w' = s.objF i' e' o' w' := rfl
@[simp] theorem objF_setCause (c : CoreId) (b : Nat) (i' e' o' w' : Nat) : (setCause s c b).objF i' e' o' w' = s.objF i' e' o' w' := rfl
@[simp] theorem objF_modEth (p : Nat) (f : EthPort → EthPort) (i' e' o' w' : Nat) : (s.modEth p f).objF i' e' o' w' = s.objF i' e' o' w' := rfl
@[simp] theorem objF_modRank (k : Nat) (f : Rank → Rank) (i' e' o' w' : Nat) : (modRank s k f).objF i' e' o' w' = s.objF i' e' o' w' := rfl
@[simp] theorem objF_setCur (c : Fin 64) (x : Option DmaCur) (i' e' o' w' : Nat) : (setCur s c x).objF i' e' o' w' = s.objF i' e' o' w' := rfl
@[simp] theorem objF_keepQueue (q : State) (i e o w : Nat) : (s.keepQueue q).objF i e o w = q.objF i e o w := rfl
@[simp] theorem objF_draw (i' e' o' w' : Nat) : (s.draw.2).objF i' e' o' w' = s.objF i' e' o' w' := rfl
@[simp] theorem objF_drawIn (lo hi : Nat) (i' e' o' w' : Nat) : ((s.drawIn lo hi).2).objF i' e' o' w' = s.objF i' e' o' w' := rfl
@[simp] theorem objF_drawBytes (n : Nat) (i' e' o' w' : Nat) : ((s.drawBytes n).2).objF i' e' o' w' = s.objF i' e' o' w' := rfl
@[simp] theorem objF_putRec (r : LogRec) (i' e' o' w' : Nat) : (putRec s r).objF i' e' o' w' = s.objF i' e' o' w' := rfl
@[simp] theorem objF_release (k i : Nat) (i' e' o' w' : Nat) : (s.release k i).objF i' e' o' w' = s.objF i' e' o' w' := rfl
@[simp] theorem objF_grant (k i u : Nat) (i' e' o' w' : Nat) : (s.grant k i u).objF i' e' o' w' = s.objF i' e' o' w' := by
  unfold State.objF State.objB State.dflt; rw [grant_obj, grant_part]

@[simp] theorem objI_setDict (x : Dict) (i' e' o' w' : Nat) : (s.setDict x).objI i' e' o' w' = s.objI i' e' o' w' := rfl
@[simp] theorem objI_setRf (x : Rf) (i' e' o' w' : Nat) : (s.setRf x).objI i' e' o' w' = s.objI i' e' o' w' := rfl
@[simp] theorem objI_setMac (x : Mac) (i' e' o' w' : Nat) : (s.setMac x).objI i' e' o' w' = s.objI i' e' o' w' := rfl
@[simp] theorem objI_setChain (x : ChainUnit) (i' e' o' w' : Nat) : (s.setChain x).objI i' e' o' w' = s.objI i' e' o' w' := rfl
@[simp] theorem objI_setPp (x : PpUnit) (i' e' o' w' : Nat) : (s.setPp x).objI i' e' o' w' = s.objI i' e' o' w' := rfl
@[simp] theorem objI_setTm (x : TmUnit) (i' e' o' w' : Nat) : (s.setTm x).objI i' e' o' w' = s.objI i' e' o' w' := rfl
@[simp] theorem objI_setWired (x : Wired) (i' e' o' w' : Nat) : (s.setWired x).objI i' e' o' w' = s.objI i' e' o' w' := rfl
@[simp] theorem objI_setDatum (x : DatumUnit) (i' e' o' w' : Nat) : (s.setDatum x).objI i' e' o' w' = s.objI i' e' o' w' := rfl
@[simp] theorem objI_setSec (x : Sec) (i' e' o' w' : Nat) : (s.setSec x).objI i' e' o' w' = s.objI i' e' o' w' := rfl
@[simp] theorem objI_setDram (x : Dram) (i' e' o' w' : Nat) : (s.setDram x).objI i' e' o' w' = s.objI i' e' o' w' := rfl
@[simp] theorem objI_setDma (x : Dma) (i' e' o' w' : Nat) : (s.setDma x).objI i' e' o' w' = s.objI i' e' o' w' := rfl
@[simp] theorem objI_setPower (x : Power) (i' e' o' w' : Nat) : (s.setPower x).objI i' e' o' w' = s.objI i' e' o' w' := rfl
@[simp] theorem objI_setPair (x : Pair) (i' e' o' w' : Nat) : (s.setPair x).objI i' e' o' w' = s.objI i' e' o' w' := rfl
@[simp] theorem objI_setLog (x : Log) (i' e' o' w' : Nat) : (s.setLog x).objI i' e' o' w' = s.objI i' e' o' w' := rfl
@[simp] theorem objI_setUpd (x : Update) (i' e' o' w' : Nat) : (s.setUpd x).objI i' e' o' w' = s.objI i' e' o' w' := rfl
@[simp] theorem objI_setStart (x : Start) (i' e' o' w' : Nat) : (s.setStart x).objI i' e' o' w' = s.objI i' e' o' w' := rfl
@[simp] theorem objI_setReg (a v : Nat) (i' e' o' w' : Nat) : (s.setReg a v).objI i' e' o' w' = s.objI i' e' o' w' := rfl
@[simp] theorem objI_modCore (c : CoreId) (f : CoreSt → CoreSt) (i' e' o' w' : Nat) : (s.modCore c f).objI i' e' o' w' = s.objI i' e' o' w' := rfl
@[simp] theorem objI_setThread (t : Nat) (x : Thread) (i' e' o' w' : Nat) : (s.setThread t x).objI i' e' o' w' = s.objI i' e' o' w' := rfl
@[simp] theorem objI_setOpnd (o : Nat) (x : Operand) (i' e' o' w' : Nat) : (s.setOpnd o x).objI i' e' o' w' = s.objI i' e' o' w' := rfl
@[simp] theorem objI_modFe (r : Radio) (f : FrontEnd → FrontEnd) (i' e' o' w' : Nat) : (s.modFe r f).objI i' e' o' w' = s.objI i' e' o' w' := rfl
@[simp] theorem objI_modTrx (t : Trx) (f : Transceiver → Transceiver) (i' e' o' w' : Nat) : (s.modTrx t f).objI i' e' o' w' = s.objI i' e' o' w' := rfl
@[simp] theorem objI_modTpo (o : Fin 4) (f : Tpo → Tpo) (i' e' o' w' : Nat) : (s.modTpo o f).objI i' e' o' w' = s.objI i' e' o' w' := rfl
@[simp] theorem objI_modCr (r : Radio) (f : ChainRadio → ChainRadio) (i' e' o' w' : Nat) : (s.modCr r f).objI i' e' o' w' = s.objI i' e' o' w' := rfl
@[simp] theorem objI_modLane (l : Fin 12) (f : LaneSt → LaneSt) (i' e' o' w' : Nat) : (s.modLane l f).objI i' e' o' w' = s.objI i' e' o' w' := rfl
@[simp] theorem objI_setQueue (q : Nat) (x : Queue) (i' e' o' w' : Nat) : (s.setQueue q x).objI i' e' o' w' = s.objI i' e' o' w' := rfl
@[simp] theorem objI_setNode (k : Nat) (x : Node) (i' e' o' w' : Nat) : (setNode s k x).objI i' e' o' w' = s.objI i' e' o' w' := rfl
@[simp] theorem objI_setKey (n : Nat) (k : KeySlot) (i' e' o' w' : Nat) : (setKey s n k).objI i' e' o' w' = s.objI i' e' o' w' := rfl
@[simp] theorem objI_modSess (n : Nat) (f : Session → Session) (i' e' o' w' : Nat) : (modSess s n f).objI i' e' o' w' = s.objI i' e' o' w' := rfl
@[simp] theorem objI_setExec (n : Nat) (e : Exec) (i' e' o' w' : Nat) : (setExec s n e).objI i' e' o' w' = s.objI i' e' o' w' := rfl
@[simp] theorem objI_setTrav (k : Nat) (t : Traverse) (i' e' o' w' : Nat) : (setTrav s k t).objI i' e' o' w' = s.objI i' e' o' w' := rfl
@[simp] theorem objI_setCause (c : CoreId) (b : Nat) (i' e' o' w' : Nat) : (setCause s c b).objI i' e' o' w' = s.objI i' e' o' w' := rfl
@[simp] theorem objI_modEth (p : Nat) (f : EthPort → EthPort) (i' e' o' w' : Nat) : (s.modEth p f).objI i' e' o' w' = s.objI i' e' o' w' := rfl
@[simp] theorem objI_modRank (k : Nat) (f : Rank → Rank) (i' e' o' w' : Nat) : (modRank s k f).objI i' e' o' w' = s.objI i' e' o' w' := rfl
@[simp] theorem objI_setCur (c : Fin 64) (x : Option DmaCur) (i' e' o' w' : Nat) : (setCur s c x).objI i' e' o' w' = s.objI i' e' o' w' := rfl
@[simp] theorem objI_keepQueue (q : State) (i e o w : Nat) : (s.keepQueue q).objI i e o w = q.objI i e o w := rfl
@[simp] theorem objI_draw (i' e' o' w' : Nat) : (s.draw.2).objI i' e' o' w' = s.objI i' e' o' w' := rfl
@[simp] theorem objI_drawIn (lo hi : Nat) (i' e' o' w' : Nat) : ((s.drawIn lo hi).2).objI i' e' o' w' = s.objI i' e' o' w' := rfl
@[simp] theorem objI_drawBytes (n : Nat) (i' e' o' w' : Nat) : ((s.drawBytes n).2).objI i' e' o' w' = s.objI i' e' o' w' := rfl
@[simp] theorem objI_putRec (r : LogRec) (i' e' o' w' : Nat) : (putRec s r).objI i' e' o' w' = s.objI i' e' o' w' := rfl
@[simp] theorem objI_release (k i : Nat) (i' e' o' w' : Nat) : (s.release k i).objI i' e' o' w' = s.objI i' e' o' w' := rfl
@[simp] theorem objI_grant (k i u : Nat) (i' e' o' w' : Nat) : (s.grant k i u).objI i' e' o' w' = s.objI i' e' o' w' := by
  unfold State.objI State.objB State.dflt; rw [grant_obj, grant_part]

@[simp] theorem regAt_setDict (x : Dict) (a' : Nat) : (s.setDict x).regAt a' = s.regAt a' := rfl
@[simp] theorem regAt_setRf (x : Rf) (a' : Nat) : (s.setRf x).regAt a' = s.regAt a' := rfl
@[simp] theorem regAt_setMac (x : Mac) (a' : Nat) : (s.setMac x).regAt a' = s.regAt a' := rfl
@[simp] theorem regAt_setChain (x : ChainUnit) (a' : Nat) : (s.setChain x).regAt a' = s.regAt a' := rfl
@[simp] theorem regAt_setPp (x : PpUnit) (a' : Nat) : (s.setPp x).regAt a' = s.regAt a' := rfl
@[simp] theorem regAt_setTm (x : TmUnit) (a' : Nat) : (s.setTm x).regAt a' = s.regAt a' := rfl
@[simp] theorem regAt_setWired (x : Wired) (a' : Nat) : (s.setWired x).regAt a' = s.regAt a' := rfl
@[simp] theorem regAt_setDatum (x : DatumUnit) (a' : Nat) : (s.setDatum x).regAt a' = s.regAt a' := rfl
@[simp] theorem regAt_setSec (x : Sec) (a' : Nat) : (s.setSec x).regAt a' = s.regAt a' := rfl
@[simp] theorem regAt_setDram (x : Dram) (a' : Nat) : (s.setDram x).regAt a' = s.regAt a' := rfl
@[simp] theorem regAt_setDma (x : Dma) (a' : Nat) : (s.setDma x).regAt a' = s.regAt a' := rfl
@[simp] theorem regAt_setPower (x : Power) (a' : Nat) : (s.setPower x).regAt a' = s.regAt a' := rfl
@[simp] theorem regAt_setPair (x : Pair) (a' : Nat) : (s.setPair x).regAt a' = s.regAt a' := rfl
@[simp] theorem regAt_setLog (x : Log) (a' : Nat) : (s.setLog x).regAt a' = s.regAt a' := rfl
@[simp] theorem regAt_setUpd (x : Update) (a' : Nat) : (s.setUpd x).regAt a' = s.regAt a' := rfl
@[simp] theorem regAt_setStart (x : Start) (a' : Nat) : (s.setStart x).regAt a' = s.regAt a' := rfl
@[simp] theorem regAt_setObj (i e : Nat) (v : Bytes) (a' : Nat) : (s.setObj i e v).regAt a' = s.regAt a' := rfl
@[simp] theorem regAt_setObjF (i e o w v : Nat) (a' : Nat) : (s.setObjF i e o w v).regAt a' = s.regAt a' := rfl
@[simp] theorem regAt_patchObj (i e o : Nat) (v : Bytes) (a' : Nat) : (s.patchObj i e o v).regAt a' = s.regAt a' := rfl
@[simp] theorem regAt_addObjF (i e o w n : Nat) (a' : Nat) : (s.addObjF i e o w n).regAt a' = s.regAt a' := rfl
@[simp] theorem regAt_stat (i e k n : Nat) (a' : Nat) : (s.stat i e k n).regAt a' = s.regAt a' := rfl
@[simp] theorem regAt_setFlag (i e b : Nat) (a' : Nat) : (s.setFlag i e b).regAt a' = s.regAt a' := rfl
@[simp] theorem regAt_clearFlags (i e b : Nat) (a' : Nat) : (s.clearFlags i e b).regAt a' = s.regAt a' := rfl
@[simp] theorem regAt_modCore (c : CoreId) (f : CoreSt → CoreSt) (a' : Nat) : (s.modCore c f).regAt a' = s.regAt a' := rfl
@[simp] theorem regAt_setThread (t : Nat) (x : Thread) (a' : Nat) : (s.setThread t x).regAt a' = s.regAt a' := rfl
@[simp] theorem regAt_setOpnd (o : Nat) (x : Operand) (a' : Nat) : (s.setOpnd o x).regAt a' = s.regAt a' := rfl
@[simp] theorem regAt_modFe (r : Radio) (f : FrontEnd → FrontEnd) (a' : Nat) : (s.modFe r f).regAt a' = s.regAt a' := rfl
@[simp] theorem regAt_modTrx (t : Trx) (f : Transceiver → Transceiver) (a' : Nat) : (s.modTrx t f).regAt a' = s.regAt a' := rfl
@[simp] theorem regAt_modTpo (o : Fin 4) (f : Tpo → Tpo) (a' : Nat) : (s.modTpo o f).regAt a' = s.regAt a' := rfl
@[simp] theorem regAt_modCr (r : Radio) (f : ChainRadio → ChainRadio) (a' : Nat) : (s.modCr r f).regAt a' = s.regAt a' := rfl
@[simp] theorem regAt_modLane (l : Fin 12) (f : LaneSt → LaneSt) (a' : Nat) : (s.modLane l f).regAt a' = s.regAt a' := rfl
@[simp] theorem regAt_setQueue (q : Nat) (x : Queue) (a' : Nat) : (s.setQueue q x).regAt a' = s.regAt a' := rfl
@[simp] theorem regAt_setNode (k : Nat) (x : Node) (a' : Nat) : (setNode s k x).regAt a' = s.regAt a' := rfl
@[simp] theorem regAt_setKey (n : Nat) (k : KeySlot) (a' : Nat) : (setKey s n k).regAt a' = s.regAt a' := rfl
@[simp] theorem regAt_modSess (n : Nat) (f : Session → Session) (a' : Nat) : (modSess s n f).regAt a' = s.regAt a' := rfl
@[simp] theorem regAt_setExec (n : Nat) (e : Exec) (a' : Nat) : (setExec s n e).regAt a' = s.regAt a' := rfl
@[simp] theorem regAt_setTrav (k : Nat) (t : Traverse) (a' : Nat) : (setTrav s k t).regAt a' = s.regAt a' := rfl
@[simp] theorem regAt_modEth (p : Nat) (f : EthPort → EthPort) (a' : Nat) : (s.modEth p f).regAt a' = s.regAt a' := rfl
@[simp] theorem regAt_modRank (k : Nat) (f : Rank → Rank) (a' : Nat) : (modRank s k f).regAt a' = s.regAt a' := rfl
@[simp] theorem regAt_setCur (c : Fin 64) (x : Option DmaCur) (a' : Nat) : (setCur s c x).regAt a' = s.regAt a' := rfl
@[simp] theorem regAt_keepQueue (q : State) (a : Nat) : (s.keepQueue q).regAt a = q.regAt a := rfl
@[simp] theorem regAt_draw (a' : Nat) : (s.draw.2).regAt a' = s.regAt a' := rfl
@[simp] theorem regAt_drawIn (lo hi : Nat) (a' : Nat) : ((s.drawIn lo hi).2).regAt a' = s.regAt a' := rfl
@[simp] theorem regAt_drawBytes (n : Nat) (a' : Nat) : ((s.drawBytes n).2).regAt a' = s.regAt a' := rfl
@[simp] theorem regAt_putRec (r : LogRec) (a' : Nat) : (putRec s r).regAt a' = s.regAt a' := rfl
@[simp] theorem regAt_deliverRec (r : LogRec) (a' : Nat) : (deliverRec s r).regAt a' = s.regAt a' := by
  unfold State.regAt; rw [deliverRec_reg]
@[simp] theorem regAt_logEvent (u c k i d : Nat) (a' : Nat) : (s.logEvent u c k i d).regAt a' = s.regAt a' := by
  unfold State.regAt; rw [logEvent_reg]
@[simp] theorem regAt_watch (r u l n i : Nat) (a' : Nat) : (s.watch r u l n i).regAt a' = s.regAt a' := by
  unfold State.regAt; rw [watch_reg]
@[simp] theorem regAt_release (k i : Nat) (a' : Nat) : (s.release k i).regAt a' = s.regAt a' := rfl
@[simp] theorem regAt_grant (k i u : Nat) (a' : Nat) : (s.grant k i u).regAt a' = s.regAt a' := by
  unfold State.regAt; rw [grant_reg]

@[simp] theorem thread_setDict (x : Dict) (t' : Nat) : (s.setDict x).thread t' = s.thread t' := rfl
@[simp] theorem thread_setRf (x : Rf) (t' : Nat) : (s.setRf x).thread t' = s.thread t' := rfl
@[simp] theorem thread_setMac (x : Mac) (t' : Nat) : (s.setMac x).thread t' = s.thread t' := rfl
@[simp] theorem thread_setChain (x : ChainUnit) (t' : Nat) : (s.setChain x).thread t' = s.thread t' := rfl
@[simp] theorem thread_setPp (x : PpUnit) (t' : Nat) : (s.setPp x).thread t' = s.thread t' := rfl
@[simp] theorem thread_setTm (x : TmUnit) (t' : Nat) : (s.setTm x).thread t' = s.thread t' := rfl
@[simp] theorem thread_setWired (x : Wired) (t' : Nat) : (s.setWired x).thread t' = s.thread t' := rfl
@[simp] theorem thread_setDatum (x : DatumUnit) (t' : Nat) : (s.setDatum x).thread t' = s.thread t' := rfl
@[simp] theorem thread_setSec (x : Sec) (t' : Nat) : (s.setSec x).thread t' = s.thread t' := rfl
@[simp] theorem thread_setDram (x : Dram) (t' : Nat) : (s.setDram x).thread t' = s.thread t' := rfl
@[simp] theorem thread_setDma (x : Dma) (t' : Nat) : (s.setDma x).thread t' = s.thread t' := rfl
@[simp] theorem thread_setPower (x : Power) (t' : Nat) : (s.setPower x).thread t' = s.thread t' := rfl
@[simp] theorem thread_setPair (x : Pair) (t' : Nat) : (s.setPair x).thread t' = s.thread t' := rfl
@[simp] theorem thread_setLog (x : Log) (t' : Nat) : (s.setLog x).thread t' = s.thread t' := rfl
@[simp] theorem thread_setUpd (x : Update) (t' : Nat) : (s.setUpd x).thread t' = s.thread t' := rfl
@[simp] theorem thread_setStart (x : Start) (t' : Nat) : (s.setStart x).thread t' = s.thread t' := rfl
@[simp] theorem thread_setObj (i e : Nat) (v : Bytes) (t' : Nat) : (s.setObj i e v).thread t' = s.thread t' := rfl
@[simp] theorem thread_setObjF (i e o w v : Nat) (t' : Nat) : (s.setObjF i e o w v).thread t' = s.thread t' := rfl
@[simp] theorem thread_patchObj (i e o : Nat) (v : Bytes) (t' : Nat) : (s.patchObj i e o v).thread t' = s.thread t' := rfl
@[simp] theorem thread_addObjF (i e o w n : Nat) (t' : Nat) : (s.addObjF i e o w n).thread t' = s.thread t' := rfl
@[simp] theorem thread_stat (i e k n : Nat) (t' : Nat) : (s.stat i e k n).thread t' = s.thread t' := rfl
@[simp] theorem thread_setFlag (i e b : Nat) (t' : Nat) : (s.setFlag i e b).thread t' = s.thread t' := rfl
@[simp] theorem thread_clearFlags (i e b : Nat) (t' : Nat) : (s.clearFlags i e b).thread t' = s.thread t' := rfl
@[simp] theorem thread_setReg (a v : Nat) (t' : Nat) : (s.setReg a v).thread t' = s.thread t' := rfl
@[simp] theorem thread_modCore (c : CoreId) (f : CoreSt → CoreSt) (t' : Nat) : (s.modCore c f).thread t' = s.thread t' := rfl
@[simp] theorem thread_setOpnd (o : Nat) (x : Operand) (t' : Nat) : (s.setOpnd o x).thread t' = s.thread t' := rfl
@[simp] theorem thread_modFe (r : Radio) (f : FrontEnd → FrontEnd) (t' : Nat) : (s.modFe r f).thread t' = s.thread t' := rfl
@[simp] theorem thread_modTrx (t : Trx) (f : Transceiver → Transceiver) (t' : Nat) : (s.modTrx t f).thread t' = s.thread t' := rfl
@[simp] theorem thread_modTpo (o : Fin 4) (f : Tpo → Tpo) (t' : Nat) : (s.modTpo o f).thread t' = s.thread t' := rfl
@[simp] theorem thread_modCr (r : Radio) (f : ChainRadio → ChainRadio) (t' : Nat) : (s.modCr r f).thread t' = s.thread t' := rfl
@[simp] theorem thread_modLane (l : Fin 12) (f : LaneSt → LaneSt) (t' : Nat) : (s.modLane l f).thread t' = s.thread t' := rfl
@[simp] theorem thread_setQueue (q : Nat) (x : Queue) (t' : Nat) : (s.setQueue q x).thread t' = s.thread t' := rfl
@[simp] theorem thread_setNode (k : Nat) (x : Node) (t' : Nat) : (setNode s k x).thread t' = s.thread t' := rfl
@[simp] theorem thread_setKey (n : Nat) (k : KeySlot) (t' : Nat) : (setKey s n k).thread t' = s.thread t' := rfl
@[simp] theorem thread_modSess (n : Nat) (f : Session → Session) (t' : Nat) : (modSess s n f).thread t' = s.thread t' := rfl
@[simp] theorem thread_setExec (n : Nat) (e : Exec) (t' : Nat) : (setExec s n e).thread t' = s.thread t' := rfl
@[simp] theorem thread_setTrav (k : Nat) (t : Traverse) (t' : Nat) : (setTrav s k t).thread t' = s.thread t' := rfl
@[simp] theorem thread_setCause (c : CoreId) (b : Nat) (t' : Nat) : (setCause s c b).thread t' = s.thread t' := rfl
@[simp] theorem thread_modEth (p : Nat) (f : EthPort → EthPort) (t' : Nat) : (s.modEth p f).thread t' = s.thread t' := rfl
@[simp] theorem thread_modRank (k : Nat) (f : Rank → Rank) (t' : Nat) : (modRank s k f).thread t' = s.thread t' := rfl
@[simp] theorem thread_setCur (c : Fin 64) (x : Option DmaCur) (t' : Nat) : (setCur s c x).thread t' = s.thread t' := rfl
@[simp] theorem thread_keepQueue (q : State) (t : Nat) : (s.keepQueue q).thread t = q.thread t := rfl
@[simp] theorem thread_draw (t' : Nat) : (s.draw.2).thread t' = s.thread t' := rfl
@[simp] theorem thread_drawIn (lo hi : Nat) (t' : Nat) : ((s.drawIn lo hi).2).thread t' = s.thread t' := rfl
@[simp] theorem thread_drawBytes (n : Nat) (t' : Nat) : ((s.drawBytes n).2).thread t' = s.thread t' := rfl
@[simp] theorem thread_putRec (r : LogRec) (t' : Nat) : (putRec s r).thread t' = s.thread t' := rfl
@[simp] theorem thread_deliverRec (r : LogRec) (t' : Nat) : (deliverRec s r).thread t' = s.thread t' := by
  unfold State.thread; rw [deliverRec_cores]
@[simp] theorem thread_logEvent (u c k i d : Nat) (t' : Nat) : (s.logEvent u c k i d).thread t' = s.thread t' := by
  unfold State.thread; rw [logEvent_cores]
@[simp] theorem thread_watch (r u l n i : Nat) (t' : Nat) : (s.watch r u l n i).thread t' = s.thread t' := by
  unfold State.thread; rw [watch_cores]
@[simp] theorem thread_release (k i : Nat) (t' : Nat) : (s.release k i).thread t' = s.thread t' := rfl
@[simp] theorem thread_grant (k i u : Nat) (t' : Nat) : (s.grant k i u).thread t' = s.thread t' := by
  unfold State.thread; rw [grant_cores]

@[simp] theorem core_setDict (x : Dict) (c' : CoreId) : (s.setDict x).core c' = s.core c' := rfl
@[simp] theorem core_setRf (x : Rf) (c' : CoreId) : (s.setRf x).core c' = s.core c' := rfl
@[simp] theorem core_setMac (x : Mac) (c' : CoreId) : (s.setMac x).core c' = s.core c' := rfl
@[simp] theorem core_setChain (x : ChainUnit) (c' : CoreId) : (s.setChain x).core c' = s.core c' := rfl
@[simp] theorem core_setPp (x : PpUnit) (c' : CoreId) : (s.setPp x).core c' = s.core c' := rfl
@[simp] theorem core_setTm (x : TmUnit) (c' : CoreId) : (s.setTm x).core c' = s.core c' := rfl
@[simp] theorem core_setWired (x : Wired) (c' : CoreId) : (s.setWired x).core c' = s.core c' := rfl
@[simp] theorem core_setDatum (x : DatumUnit) (c' : CoreId) : (s.setDatum x).core c' = s.core c' := rfl
@[simp] theorem core_setSec (x : Sec) (c' : CoreId) : (s.setSec x).core c' = s.core c' := rfl
@[simp] theorem core_setDram (x : Dram) (c' : CoreId) : (s.setDram x).core c' = s.core c' := rfl
@[simp] theorem core_setDma (x : Dma) (c' : CoreId) : (s.setDma x).core c' = s.core c' := rfl
@[simp] theorem core_setPower (x : Power) (c' : CoreId) : (s.setPower x).core c' = s.core c' := rfl
@[simp] theorem core_setPair (x : Pair) (c' : CoreId) : (s.setPair x).core c' = s.core c' := rfl
@[simp] theorem core_setLog (x : Log) (c' : CoreId) : (s.setLog x).core c' = s.core c' := rfl
@[simp] theorem core_setUpd (x : Update) (c' : CoreId) : (s.setUpd x).core c' = s.core c' := rfl
@[simp] theorem core_setStart (x : Start) (c' : CoreId) : (s.setStart x).core c' = s.core c' := rfl
@[simp] theorem core_setObj (i e : Nat) (v : Bytes) (c' : CoreId) : (s.setObj i e v).core c' = s.core c' := rfl
@[simp] theorem core_setObjF (i e o w v : Nat) (c' : CoreId) : (s.setObjF i e o w v).core c' = s.core c' := rfl
@[simp] theorem core_patchObj (i e o : Nat) (v : Bytes) (c' : CoreId) : (s.patchObj i e o v).core c' = s.core c' := rfl
@[simp] theorem core_addObjF (i e o w n : Nat) (c' : CoreId) : (s.addObjF i e o w n).core c' = s.core c' := rfl
@[simp] theorem core_stat (i e k n : Nat) (c' : CoreId) : (s.stat i e k n).core c' = s.core c' := rfl
@[simp] theorem core_setFlag (i e b : Nat) (c' : CoreId) : (s.setFlag i e b).core c' = s.core c' := rfl
@[simp] theorem core_clearFlags (i e b : Nat) (c' : CoreId) : (s.clearFlags i e b).core c' = s.core c' := rfl
@[simp] theorem core_setReg (a v : Nat) (c' : CoreId) : (s.setReg a v).core c' = s.core c' := rfl
@[simp] theorem core_setThread (t : Nat) (x : Thread) (c' : CoreId) : (s.setThread t x).core c' = s.core c' := rfl
@[simp] theorem core_setOpnd (o : Nat) (x : Operand) (c' : CoreId) : (s.setOpnd o x).core c' = s.core c' := rfl
@[simp] theorem core_modFe (r : Radio) (f : FrontEnd → FrontEnd) (c' : CoreId) : (s.modFe r f).core c' = s.core c' := rfl
@[simp] theorem core_modTrx (t : Trx) (f : Transceiver → Transceiver) (c' : CoreId) : (s.modTrx t f).core c' = s.core c' := rfl
@[simp] theorem core_modTpo (o : Fin 4) (f : Tpo → Tpo) (c' : CoreId) : (s.modTpo o f).core c' = s.core c' := rfl
@[simp] theorem core_modCr (r : Radio) (f : ChainRadio → ChainRadio) (c' : CoreId) : (s.modCr r f).core c' = s.core c' := rfl
@[simp] theorem core_modLane (l : Fin 12) (f : LaneSt → LaneSt) (c' : CoreId) : (s.modLane l f).core c' = s.core c' := rfl
@[simp] theorem core_setQueue (q : Nat) (x : Queue) (c' : CoreId) : (s.setQueue q x).core c' = s.core c' := rfl
@[simp] theorem core_setNode (k : Nat) (x : Node) (c' : CoreId) : (setNode s k x).core c' = s.core c' := rfl
@[simp] theorem core_setKey (n : Nat) (k : KeySlot) (c' : CoreId) : (setKey s n k).core c' = s.core c' := rfl
@[simp] theorem core_modSess (n : Nat) (f : Session → Session) (c' : CoreId) : (modSess s n f).core c' = s.core c' := rfl
@[simp] theorem core_setExec (n : Nat) (e : Exec) (c' : CoreId) : (setExec s n e).core c' = s.core c' := rfl
@[simp] theorem core_setTrav (k : Nat) (t : Traverse) (c' : CoreId) : (setTrav s k t).core c' = s.core c' := rfl
@[simp] theorem core_setCause (c : CoreId) (b : Nat) (c' : CoreId) : (setCause s c b).core c' = s.core c' := rfl
@[simp] theorem core_modEth (p : Nat) (f : EthPort → EthPort) (c' : CoreId) : (s.modEth p f).core c' = s.core c' := rfl
@[simp] theorem core_modRank (k : Nat) (f : Rank → Rank) (c' : CoreId) : (modRank s k f).core c' = s.core c' := rfl
@[simp] theorem core_setCur (c : Fin 64) (x : Option DmaCur) (c' : CoreId) : (setCur s c x).core c' = s.core c' := rfl
@[simp] theorem core_keepQueue (q : State) (c : CoreId) : (s.keepQueue q).core c = q.core c := rfl
@[simp] theorem core_draw (c' : CoreId) : (s.draw.2).core c' = s.core c' := rfl
@[simp] theorem core_drawIn (lo hi : Nat) (c' : CoreId) : ((s.drawIn lo hi).2).core c' = s.core c' := rfl
@[simp] theorem core_drawBytes (n : Nat) (c' : CoreId) : ((s.drawBytes n).2).core c' = s.core c' := rfl
@[simp] theorem core_putRec (r : LogRec) (c' : CoreId) : (putRec s r).core c' = s.core c' := rfl
@[simp] theorem core_deliverRec (r : LogRec) (c' : CoreId) : (deliverRec s r).core c' = s.core c' := by
  unfold State.core; rw [deliverRec_cores]
@[simp] theorem core_logEvent (u c k i d : Nat) (c' : CoreId) : (s.logEvent u c k i d).core c' = s.core c' := by
  unfold State.core; rw [logEvent_cores]
@[simp] theorem core_watch (r u l n i : Nat) (c' : CoreId) : (s.watch r u l n i).core c' = s.core c' := by
  unfold State.core; rw [watch_cores]
@[simp] theorem core_release (k i : Nat) (c' : CoreId) : (s.release k i).core c' = s.core c' := rfl
@[simp] theorem core_grant (k i u : Nat) (c' : CoreId) : (s.grant k i u).core c' = s.core c' := by
  unfold State.core; rw [grant_cores]

@[simp] theorem opnd_setDict (x : Dict) (o' : Nat) : (s.setDict x).opnd o' = s.opnd o' := rfl
@[simp] theorem opnd_setRf (x : Rf) (o' : Nat) : (s.setRf x).opnd o' = s.opnd o' := rfl
@[simp] theorem opnd_setMac (x : Mac) (o' : Nat) : (s.setMac x).opnd o' = s.opnd o' := rfl
@[simp] theorem opnd_setChain (x : ChainUnit) (o' : Nat) : (s.setChain x).opnd o' = s.opnd o' := rfl
@[simp] theorem opnd_setPp (x : PpUnit) (o' : Nat) : (s.setPp x).opnd o' = s.opnd o' := rfl
@[simp] theorem opnd_setTm (x : TmUnit) (o' : Nat) : (s.setTm x).opnd o' = s.opnd o' := rfl
@[simp] theorem opnd_setWired (x : Wired) (o' : Nat) : (s.setWired x).opnd o' = s.opnd o' := rfl
@[simp] theorem opnd_setDatum (x : DatumUnit) (o' : Nat) : (s.setDatum x).opnd o' = s.opnd o' := rfl
@[simp] theorem opnd_setSec (x : Sec) (o' : Nat) : (s.setSec x).opnd o' = s.opnd o' := rfl
@[simp] theorem opnd_setDram (x : Dram) (o' : Nat) : (s.setDram x).opnd o' = s.opnd o' := rfl
@[simp] theorem opnd_setDma (x : Dma) (o' : Nat) : (s.setDma x).opnd o' = s.opnd o' := rfl
@[simp] theorem opnd_setPower (x : Power) (o' : Nat) : (s.setPower x).opnd o' = s.opnd o' := rfl
@[simp] theorem opnd_setPair (x : Pair) (o' : Nat) : (s.setPair x).opnd o' = s.opnd o' := rfl
@[simp] theorem opnd_setLog (x : Log) (o' : Nat) : (s.setLog x).opnd o' = s.opnd o' := rfl
@[simp] theorem opnd_setUpd (x : Update) (o' : Nat) : (s.setUpd x).opnd o' = s.opnd o' := rfl
@[simp] theorem opnd_setStart (x : Start) (o' : Nat) : (s.setStart x).opnd o' = s.opnd o' := rfl
@[simp] theorem opnd_setObj (i e : Nat) (v : Bytes) (o' : Nat) : (s.setObj i e v).opnd o' = s.opnd o' := rfl
@[simp] theorem opnd_setObjF (i e o w v : Nat) (o' : Nat) : (s.setObjF i e o w v).opnd o' = s.opnd o' := rfl
@[simp] theorem opnd_patchObj (i e o : Nat) (v : Bytes) (o' : Nat) : (s.patchObj i e o v).opnd o' = s.opnd o' := rfl
@[simp] theorem opnd_addObjF (i e o w n : Nat) (o' : Nat) : (s.addObjF i e o w n).opnd o' = s.opnd o' := rfl
@[simp] theorem opnd_stat (i e k n : Nat) (o' : Nat) : (s.stat i e k n).opnd o' = s.opnd o' := rfl
@[simp] theorem opnd_setFlag (i e b : Nat) (o' : Nat) : (s.setFlag i e b).opnd o' = s.opnd o' := rfl
@[simp] theorem opnd_clearFlags (i e b : Nat) (o' : Nat) : (s.clearFlags i e b).opnd o' = s.opnd o' := rfl
@[simp] theorem opnd_setReg (a v : Nat) (o' : Nat) : (s.setReg a v).opnd o' = s.opnd o' := rfl
@[simp] theorem opnd_modCore (c : CoreId) (f : CoreSt → CoreSt) (o' : Nat) : (s.modCore c f).opnd o' = s.opnd o' := rfl
@[simp] theorem opnd_setThread (t : Nat) (x : Thread) (o' : Nat) : (s.setThread t x).opnd o' = s.opnd o' := rfl
@[simp] theorem opnd_modFe (r : Radio) (f : FrontEnd → FrontEnd) (o' : Nat) : (s.modFe r f).opnd o' = s.opnd o' := rfl
@[simp] theorem opnd_modTrx (t : Trx) (f : Transceiver → Transceiver) (o' : Nat) : (s.modTrx t f).opnd o' = s.opnd o' := rfl
@[simp] theorem opnd_modTpo (o : Fin 4) (f : Tpo → Tpo) (o' : Nat) : (s.modTpo o f).opnd o' = s.opnd o' := rfl
@[simp] theorem opnd_modCr (r : Radio) (f : ChainRadio → ChainRadio) (o' : Nat) : (s.modCr r f).opnd o' = s.opnd o' := rfl
@[simp] theorem opnd_modLane (l : Fin 12) (f : LaneSt → LaneSt) (o' : Nat) : (s.modLane l f).opnd o' = s.opnd o' := rfl
@[simp] theorem opnd_setQueue (q : Nat) (x : Queue) (o' : Nat) : (s.setQueue q x).opnd o' = s.opnd o' := rfl
@[simp] theorem opnd_setNode (k : Nat) (x : Node) (o' : Nat) : (setNode s k x).opnd o' = s.opnd o' := rfl
@[simp] theorem opnd_setKey (n : Nat) (k : KeySlot) (o' : Nat) : (setKey s n k).opnd o' = s.opnd o' := rfl
@[simp] theorem opnd_modSess (n : Nat) (f : Session → Session) (o' : Nat) : (modSess s n f).opnd o' = s.opnd o' := rfl
@[simp] theorem opnd_setExec (n : Nat) (e : Exec) (o' : Nat) : (setExec s n e).opnd o' = s.opnd o' := rfl
@[simp] theorem opnd_setTrav (k : Nat) (t : Traverse) (o' : Nat) : (setTrav s k t).opnd o' = s.opnd o' := rfl
@[simp] theorem opnd_setCause (c : CoreId) (b : Nat) (o' : Nat) : (setCause s c b).opnd o' = s.opnd o' := rfl
@[simp] theorem opnd_modEth (p : Nat) (f : EthPort → EthPort) (o' : Nat) : (s.modEth p f).opnd o' = s.opnd o' := rfl
@[simp] theorem opnd_modRank (k : Nat) (f : Rank → Rank) (o' : Nat) : (modRank s k f).opnd o' = s.opnd o' := rfl
@[simp] theorem opnd_setCur (c : Fin 64) (x : Option DmaCur) (o' : Nat) : (setCur s c x).opnd o' = s.opnd o' := rfl
@[simp] theorem opnd_keepQueue (q : State) (o : Nat) : (s.keepQueue q).opnd o = q.opnd o := rfl
@[simp] theorem opnd_draw (o' : Nat) : (s.draw.2).opnd o' = s.opnd o' := rfl
@[simp] theorem opnd_drawIn (lo hi : Nat) (o' : Nat) : ((s.drawIn lo hi).2).opnd o' = s.opnd o' := rfl
@[simp] theorem opnd_drawBytes (n : Nat) (o' : Nat) : ((s.drawBytes n).2).opnd o' = s.opnd o' := rfl
@[simp] theorem opnd_putRec (r : LogRec) (o' : Nat) : (putRec s r).opnd o' = s.opnd o' := rfl
@[simp] theorem opnd_deliverRec (r : LogRec) (o' : Nat) : (deliverRec s r).opnd o' = s.opnd o' := by
  unfold State.opnd; rw [deliverRec_cores]
@[simp] theorem opnd_logEvent (u c k i d : Nat) (o' : Nat) : (s.logEvent u c k i d).opnd o' = s.opnd o' := by
  unfold State.opnd; rw [logEvent_cores]
@[simp] theorem opnd_watch (r u l n i : Nat) (o' : Nat) : (s.watch r u l n i).opnd o' = s.opnd o' := by
  unfold State.opnd; rw [watch_cores]
@[simp] theorem opnd_release (k i : Nat) (o' : Nat) : (s.release k i).opnd o' = s.opnd o' := rfl
@[simp] theorem opnd_grant (k i u : Nat) (o' : Nat) : (s.grant k i u).opnd o' = s.opnd o' := by
  unfold State.opnd; rw [grant_cores]

@[simp] theorem fe_setDict (x : Dict) (r' : Radio) : (s.setDict x).fe r' = s.fe r' := rfl
@[simp] theorem fe_setMac (x : Mac) (r' : Radio) : (s.setMac x).fe r' = s.fe r' := rfl
@[simp] theorem fe_setChain (x : ChainUnit) (r' : Radio) : (s.setChain x).fe r' = s.fe r' := rfl
@[simp] theorem fe_setPp (x : PpUnit) (r' : Radio) : (s.setPp x).fe r' = s.fe r' := rfl
@[simp] theorem fe_setTm (x : TmUnit) (r' : Radio) : (s.setTm x).fe r' = s.fe r' := rfl
@[simp] theorem fe_setWired (x : Wired) (r' : Radio) : (s.setWired x).fe r' = s.fe r' := rfl
@[simp] theorem fe_setDatum (x : DatumUnit) (r' : Radio) : (s.setDatum x).fe r' = s.fe r' := rfl
@[simp] theorem fe_setSec (x : Sec) (r' : Radio) : (s.setSec x).fe r' = s.fe r' := rfl
@[simp] theorem fe_setDram (x : Dram) (r' : Radio) : (s.setDram x).fe r' = s.fe r' := rfl
@[simp] theorem fe_setDma (x : Dma) (r' : Radio) : (s.setDma x).fe r' = s.fe r' := rfl
@[simp] theorem fe_setPower (x : Power) (r' : Radio) : (s.setPower x).fe r' = s.fe r' := rfl
@[simp] theorem fe_setPair (x : Pair) (r' : Radio) : (s.setPair x).fe r' = s.fe r' := rfl
@[simp] theorem fe_setLog (x : Log) (r' : Radio) : (s.setLog x).fe r' = s.fe r' := rfl
@[simp] theorem fe_setUpd (x : Update) (r' : Radio) : (s.setUpd x).fe r' = s.fe r' := rfl
@[simp] theorem fe_setStart (x : Start) (r' : Radio) : (s.setStart x).fe r' = s.fe r' := rfl
@[simp] theorem fe_setObj (i e : Nat) (v : Bytes) (r' : Radio) : (s.setObj i e v).fe r' = s.fe r' := rfl
@[simp] theorem fe_setObjF (i e o w v : Nat) (r' : Radio) : (s.setObjF i e o w v).fe r' = s.fe r' := rfl
@[simp] theorem fe_patchObj (i e o : Nat) (v : Bytes) (r' : Radio) : (s.patchObj i e o v).fe r' = s.fe r' := rfl
@[simp] theorem fe_addObjF (i e o w n : Nat) (r' : Radio) : (s.addObjF i e o w n).fe r' = s.fe r' := rfl
@[simp] theorem fe_stat (i e k n : Nat) (r' : Radio) : (s.stat i e k n).fe r' = s.fe r' := rfl
@[simp] theorem fe_setFlag (i e b : Nat) (r' : Radio) : (s.setFlag i e b).fe r' = s.fe r' := rfl
@[simp] theorem fe_clearFlags (i e b : Nat) (r' : Radio) : (s.clearFlags i e b).fe r' = s.fe r' := rfl
@[simp] theorem fe_setReg (a v : Nat) (r' : Radio) : (s.setReg a v).fe r' = s.fe r' := rfl
@[simp] theorem fe_modCore (c : CoreId) (f : CoreSt → CoreSt) (r' : Radio) : (s.modCore c f).fe r' = s.fe r' := rfl
@[simp] theorem fe_setThread (t : Nat) (x : Thread) (r' : Radio) : (s.setThread t x).fe r' = s.fe r' := rfl
@[simp] theorem fe_setOpnd (o : Nat) (x : Operand) (r' : Radio) : (s.setOpnd o x).fe r' = s.fe r' := rfl
@[simp] theorem fe_modTrx (t : Trx) (f : Transceiver → Transceiver) (r' : Radio) : (s.modTrx t f).fe r' = s.fe r' := rfl
@[simp] theorem fe_modTpo (o : Fin 4) (f : Tpo → Tpo) (r' : Radio) : (s.modTpo o f).fe r' = s.fe r' := rfl
@[simp] theorem fe_modCr (r : Radio) (f : ChainRadio → ChainRadio) (r' : Radio) : (s.modCr r f).fe r' = s.fe r' := rfl
@[simp] theorem fe_modLane (l : Fin 12) (f : LaneSt → LaneSt) (r' : Radio) : (s.modLane l f).fe r' = s.fe r' := rfl
@[simp] theorem fe_setQueue (q : Nat) (x : Queue) (r' : Radio) : (s.setQueue q x).fe r' = s.fe r' := rfl
@[simp] theorem fe_setNode (k : Nat) (x : Node) (r' : Radio) : (setNode s k x).fe r' = s.fe r' := rfl
@[simp] theorem fe_setKey (n : Nat) (k : KeySlot) (r' : Radio) : (setKey s n k).fe r' = s.fe r' := rfl
@[simp] theorem fe_modSess (n : Nat) (f : Session → Session) (r' : Radio) : (modSess s n f).fe r' = s.fe r' := rfl
@[simp] theorem fe_setExec (n : Nat) (e : Exec) (r' : Radio) : (setExec s n e).fe r' = s.fe r' := rfl
@[simp] theorem fe_setTrav (k : Nat) (t : Traverse) (r' : Radio) : (setTrav s k t).fe r' = s.fe r' := rfl
@[simp] theorem fe_setCause (c : CoreId) (b : Nat) (r' : Radio) : (setCause s c b).fe r' = s.fe r' := rfl
@[simp] theorem fe_modEth (p : Nat) (f : EthPort → EthPort) (r' : Radio) : (s.modEth p f).fe r' = s.fe r' := rfl
@[simp] theorem fe_modRank (k : Nat) (f : Rank → Rank) (r' : Radio) : (modRank s k f).fe r' = s.fe r' := rfl
@[simp] theorem fe_setCur (c : Fin 64) (x : Option DmaCur) (r' : Radio) : (setCur s c x).fe r' = s.fe r' := rfl
@[simp] theorem fe_keepQueue (q : State) (r : Radio) : (s.keepQueue q).fe r = q.fe r := rfl
@[simp] theorem fe_draw (r' : Radio) : (s.draw.2).fe r' = s.fe r' := rfl
@[simp] theorem fe_drawIn (lo hi : Nat) (r' : Radio) : ((s.drawIn lo hi).2).fe r' = s.fe r' := rfl
@[simp] theorem fe_drawBytes (n : Nat) (r' : Radio) : ((s.drawBytes n).2).fe r' = s.fe r' := rfl
@[simp] theorem fe_putRec (r : LogRec) (r' : Radio) : (putRec s r).fe r' = s.fe r' := rfl
@[simp] theorem fe_deliverRec (r : LogRec) (r' : Radio) : (deliverRec s r).fe r' = s.fe r' := by
  unfold State.fe; rw [deliverRec_rf]
@[simp] theorem fe_logEvent (u c k i d : Nat) (r' : Radio) : (s.logEvent u c k i d).fe r' = s.fe r' := by
  unfold State.fe; rw [logEvent_rf]
@[simp] theorem fe_watch (r u l n i : Nat) (r' : Radio) : (s.watch r u l n i).fe r' = s.fe r' := by
  unfold State.fe; rw [watch_rf]
@[simp] theorem fe_release (k i : Nat) (r' : Radio) : (s.release k i).fe r' = s.fe r' := rfl
@[simp] theorem fe_grant (k i u : Nat) (r' : Radio) : (s.grant k i u).fe r' = s.fe r' := by
  unfold State.fe; rw [grant_rf]

@[simp] theorem trx_setDict (x : Dict) (x' : Trx) : (s.setDict x).trx x' = s.trx x' := rfl
@[simp] theorem trx_setMac (x : Mac) (x' : Trx) : (s.setMac x).trx x' = s.trx x' := rfl
@[simp] theorem trx_setChain (x : ChainUnit) (x' : Trx) : (s.setChain x).trx x' = s.trx x' := rfl
@[simp] theorem trx_setPp (x : PpUnit) (x' : Trx) : (s.setPp x).trx x' = s.trx x' := rfl
@[simp] theorem trx_setTm (x : TmUnit) (x' : Trx) : (s.setTm x).trx x' = s.trx x' := rfl
@[simp] theorem trx_setWired (x : Wired) (x' : Trx) : (s.setWired x).trx x' = s.trx x' := rfl
@[simp] theorem trx_setDatum (x : DatumUnit) (x' : Trx) : (s.setDatum x).trx x' = s.trx x' := rfl
@[simp] theorem trx_setSec (x : Sec) (x' : Trx) : (s.setSec x).trx x' = s.trx x' := rfl
@[simp] theorem trx_setDram (x : Dram) (x' : Trx) : (s.setDram x).trx x' = s.trx x' := rfl
@[simp] theorem trx_setDma (x : Dma) (x' : Trx) : (s.setDma x).trx x' = s.trx x' := rfl
@[simp] theorem trx_setPower (x : Power) (x' : Trx) : (s.setPower x).trx x' = s.trx x' := rfl
@[simp] theorem trx_setPair (x : Pair) (x' : Trx) : (s.setPair x).trx x' = s.trx x' := rfl
@[simp] theorem trx_setLog (x : Log) (x' : Trx) : (s.setLog x).trx x' = s.trx x' := rfl
@[simp] theorem trx_setUpd (x : Update) (x' : Trx) : (s.setUpd x).trx x' = s.trx x' := rfl
@[simp] theorem trx_setStart (x : Start) (x' : Trx) : (s.setStart x).trx x' = s.trx x' := rfl
@[simp] theorem trx_setObj (i e : Nat) (v : Bytes) (x' : Trx) : (s.setObj i e v).trx x' = s.trx x' := rfl
@[simp] theorem trx_setObjF (i e o w v : Nat) (x' : Trx) : (s.setObjF i e o w v).trx x' = s.trx x' := rfl
@[simp] theorem trx_patchObj (i e o : Nat) (v : Bytes) (x' : Trx) : (s.patchObj i e o v).trx x' = s.trx x' := rfl
@[simp] theorem trx_addObjF (i e o w n : Nat) (x' : Trx) : (s.addObjF i e o w n).trx x' = s.trx x' := rfl
@[simp] theorem trx_stat (i e k n : Nat) (x' : Trx) : (s.stat i e k n).trx x' = s.trx x' := rfl
@[simp] theorem trx_setFlag (i e b : Nat) (x' : Trx) : (s.setFlag i e b).trx x' = s.trx x' := rfl
@[simp] theorem trx_clearFlags (i e b : Nat) (x' : Trx) : (s.clearFlags i e b).trx x' = s.trx x' := rfl
@[simp] theorem trx_setReg (a v : Nat) (x' : Trx) : (s.setReg a v).trx x' = s.trx x' := rfl
@[simp] theorem trx_modCore (c : CoreId) (f : CoreSt → CoreSt) (x' : Trx) : (s.modCore c f).trx x' = s.trx x' := rfl
@[simp] theorem trx_setThread (t : Nat) (x : Thread) (x' : Trx) : (s.setThread t x).trx x' = s.trx x' := rfl
@[simp] theorem trx_setOpnd (o : Nat) (x : Operand) (x' : Trx) : (s.setOpnd o x).trx x' = s.trx x' := rfl
@[simp] theorem trx_modFe (r : Radio) (f : FrontEnd → FrontEnd) (x' : Trx) : (s.modFe r f).trx x' = s.trx x' := rfl
@[simp] theorem trx_modTpo (o : Fin 4) (f : Tpo → Tpo) (x' : Trx) : (s.modTpo o f).trx x' = s.trx x' := rfl
@[simp] theorem trx_modCr (r : Radio) (f : ChainRadio → ChainRadio) (x' : Trx) : (s.modCr r f).trx x' = s.trx x' := rfl
@[simp] theorem trx_modLane (l : Fin 12) (f : LaneSt → LaneSt) (x' : Trx) : (s.modLane l f).trx x' = s.trx x' := rfl
@[simp] theorem trx_setQueue (q : Nat) (x : Queue) (x' : Trx) : (s.setQueue q x).trx x' = s.trx x' := rfl
@[simp] theorem trx_setNode (k : Nat) (x : Node) (x' : Trx) : (setNode s k x).trx x' = s.trx x' := rfl
@[simp] theorem trx_setKey (n : Nat) (k : KeySlot) (x' : Trx) : (setKey s n k).trx x' = s.trx x' := rfl
@[simp] theorem trx_modSess (n : Nat) (f : Session → Session) (x' : Trx) : (modSess s n f).trx x' = s.trx x' := rfl
@[simp] theorem trx_setExec (n : Nat) (e : Exec) (x' : Trx) : (setExec s n e).trx x' = s.trx x' := rfl
@[simp] theorem trx_setTrav (k : Nat) (t : Traverse) (x' : Trx) : (setTrav s k t).trx x' = s.trx x' := rfl
@[simp] theorem trx_setCause (c : CoreId) (b : Nat) (x' : Trx) : (setCause s c b).trx x' = s.trx x' := rfl
@[simp] theorem trx_modEth (p : Nat) (f : EthPort → EthPort) (x' : Trx) : (s.modEth p f).trx x' = s.trx x' := rfl
@[simp] theorem trx_modRank (k : Nat) (f : Rank → Rank) (x' : Trx) : (modRank s k f).trx x' = s.trx x' := rfl
@[simp] theorem trx_setCur (c : Fin 64) (x : Option DmaCur) (x' : Trx) : (setCur s c x).trx x' = s.trx x' := rfl
@[simp] theorem trx_keepQueue (q : State) (x : Trx) : (s.keepQueue q).trx x = q.trx x := rfl
@[simp] theorem trx_draw (x' : Trx) : (s.draw.2).trx x' = s.trx x' := rfl
@[simp] theorem trx_drawIn (lo hi : Nat) (x' : Trx) : ((s.drawIn lo hi).2).trx x' = s.trx x' := rfl
@[simp] theorem trx_drawBytes (n : Nat) (x' : Trx) : ((s.drawBytes n).2).trx x' = s.trx x' := rfl
@[simp] theorem trx_putRec (r : LogRec) (x' : Trx) : (putRec s r).trx x' = s.trx x' := rfl
@[simp] theorem trx_deliverRec (r : LogRec) (x' : Trx) : (deliverRec s r).trx x' = s.trx x' := by
  unfold State.trx; rw [deliverRec_rf]
@[simp] theorem trx_logEvent (u c k i d : Nat) (x' : Trx) : (s.logEvent u c k i d).trx x' = s.trx x' := by
  unfold State.trx; rw [logEvent_rf]
@[simp] theorem trx_watch (r u l n i : Nat) (x' : Trx) : (s.watch r u l n i).trx x' = s.trx x' := by
  unfold State.trx; rw [watch_rf]
@[simp] theorem trx_release (k i : Nat) (x' : Trx) : (s.release k i).trx x' = s.trx x' := rfl
@[simp] theorem trx_grant (k i u : Nat) (x' : Trx) : (s.grant k i u).trx x' = s.trx x' := by
  unfold State.trx; rw [grant_rf]

end Sys2Proof.Machine
end

