-- ==== Sys2Proof/Laws/Exec.lean ====
section
/-! SUPPORT. How a command reaches its unit, and what is read after a write of an object, a register, a core, a thread or an
operand. -/

namespace Sys2Proof.Machine
open Sys2Proof

/-- A command of a released device has its unit's effect. -/
theorem live_up {s : State} {f : State → State} (h : s.start.phase = .released) : live s f = .next (s.keepQueue (f s)) := by
  unfold live; rw [if_pos h]

/-- A command to a unit that reset holds changes nothing. -/
theorem live_down {s : State} {f : State → State} (h : s.start.phase ≠ .released) : live s f = .next s := by
  unfold live; rw [if_neg h]

theorem aon_next (s : State) (f : State → State) : aon s f = .next (s.keepQueue (f s)) := rfl

/-! ### Vectors by number -/

theorem vget_vset {α : Type} {n : Nat} (v : Vector α n) (i j : Nat) (x d : α) :
    vget (vset v i x) j d = if i = j ∧ i < n then x else vget v j d := by
  unfold vget vset
  rw [Vector.toList_setIfInBounds, List.getElem?_set]
  by_cases h : i = j
  · subst h
    by_cases hn : i < n
    · simp [hn]
    · have : v.toList[i]? = none := List.getElem?_eq_none (by simpa using hn)
      simp [hn]
  · simp [h]

theorem vmod_get {α : Type} {n : Nat} (v : Vector α n) (i j : Fin n) (f : α → α) :
    (vmod v i f)[j] = if i = j then f v[i] else v[j] := by
  unfold vmod
  by_cases h : i = j
  · subst h; simp
  · have : (i : Nat) ≠ j := fun e => h (Fin.ext e)
    simp only [Fin.getElem_fin, h, if_false]
    rw [Vector.getElem_set_ne _ _ this]

/-! ### Objects and registers -/

theorem dflt_setObj (s : State) (i e i' e' : Nat) (v : Bytes) : (s.setObj i e v).dflt i' e' = s.dflt i' e' := rfl

theorem objB_setObj (s : State) (i e i' e' : Nat) (v : Bytes) :
    (s.setObj i e v).objB i' e' = if okey i' e' = okey i e then (if v = s.dflt i e then s.dflt i' e' else v) else s.objB i' e' := by
  unfold State.objB
  rw [dflt_setObj]
  unfold State.setObj tputD
  dsimp only
  by_cases hv : v = s.dflt i e
  · rw [if_pos hv, tget_tdel]
    by_cases hk : okey i' e' = okey i e <;> simp [hk, hv]
  · rw [if_neg hv, tget_tput]
    by_cases hk : okey i' e' = okey i e <;> simp [hk, hv]

/-- An object that has been stored reads as it was stored. -/
@[simp] theorem objB_setObj_same (s : State) (i e : Nat) (v : Bytes) : (s.setObj i e v).objB i e = v := by
  rw [objB_setObj, if_pos rfl]; split
  · rename_i h; exact h.symm
  · rfl

theorem objB_setObj_other (s : State) {i e i' e' : Nat} (v : Bytes) (h : okey i' e' ≠ okey i e) :
    (s.setObj i e v).objB i' e' = s.objB i' e' := by rw [objB_setObj, if_neg h]

/-- The object store alone decides what is read. -/
theorem objB_congr {s t : State} (h : t.obj = s.obj) (hp : t.part = s.part) (i e : Nat) : t.objB i e = s.objB i e := by
  unfold State.objB State.dflt; rw [h, hp]

theorem regAt_setReg (s : State) (a b v : Nat) : (s.setReg a v).regAt b = if b = a then v else s.regAt b := by
  unfold State.regAt State.setReg tgetD tputD
  dsimp only
  by_cases hv : v = regDefault a
  · rw [if_pos hv, tget_tdel]
    by_cases hb : b = a
    · subst hb; simp [hv]
    · simp [hb]
  · rw [if_neg hv, tget_tput]
    by_cases hb : b = a
    · subst hb; simp
    · simp [hb]

@[simp] theorem regAt_setReg_same (s : State) (a v : Nat) : (s.setReg a v).regAt a = v := by rw [regAt_setReg, if_pos rfl]

/-! ### Values and flags -/

theorem leNat_le (w v : Nat) : leNat (le w v) = v % 256 ^ w := by
  induction w generalizing v with
  | zero => simp [le, leNat, Nat.mod_one]
  | succ w ih =>
    simp only [le, leNat, ih, BitVec.toNat_ofNat]
    show v % 256 + _ = _
    rw [Nat.pow_succ, Nat.mul_comm (256 ^ w) 256, Nat.mod_mul]

@[simp] theorem le_length (w v : Nat) : (le w v).length = w := by
  induction w generalizing v with
  | zero => rfl
  | succ w ih => simp [le, ih]

theorem testBit_setBit (n b : Nat) : (setBit n b true).testBit b = true := by
  unfold setBit; rw [if_pos rfl]; split
  · assumption
  · rename_i h; rw [Nat.add_comm, Nat.testBit_two_pow_add_eq]; simpa using h

/-- A setting event leaves its flag set. -/
theorem bit_setFlag (s : State) {i e b : Nat} (hb : b < 32) (hk : okey (counterOf i e b).1 (counterOf i e b).2 ≠ okey i e) :
    bit ((s.setFlag i e b).objN i e) b = true := by
  unfold State.setFlag State.objN bit
  dsimp only
  rw [objB_setObj_other _ _ (Ne.symm hk), objB_setObj_same, leNat_le,
    show 256 ^ 4 = 2 ^ 32 from rfl, Nat.testBit_mod_two_pow, testBit_setBit]
  simp [hb]

/-! ### Cores, threads, operands -/

theorem core_modCore (s : State) (c d : CoreId) (f : CoreSt → CoreSt) :
    (s.modCore c f).core d = if c = d then f (s.core c) else s.core d := vmod_get _ c d f

@[simp] theorem core_modCore_same (s : State) (c : CoreId) (f : CoreSt → CoreSt) : (s.modCore c f).core c = f (s.core c) := by
  rw [core_modCore, if_pos rfl]

theorem thread_setThread (s : State) (t u : Nat) (x : Thread) :
    (s.setThread t x).thread u = if u = t then x else s.thread u := tgetD_tputD s.cores.threads t u x {}

@[simp] theorem thread_setThread_same (s : State) (t : Nat) (x : Thread) : (s.setThread t x).thread t = x := by
  rw [thread_setThread, if_pos rfl]

theorem opnd_setOpnd (s : State) (o p : Nat) (x : Operand) :
    (s.setOpnd o x).opnd p = if p = o then x else s.opnd p := tgetD_tputD s.cores.opnds o p x {}

@[simp] theorem opnd_setOpnd_same (s : State) (o : Nat) (x : Operand) : (s.setOpnd o x).opnd o = x := by
  rw [opnd_setOpnd, if_pos rfl]

/-! ### Radios, transceivers, pulse outputs -/

theorem fe_modFe (s : State) (r q : Radio) (f : FrontEnd → FrontEnd) :
    (s.modFe r f).fe q = if r = q then f (s.fe r) else s.fe q := vmod_get _ r q f

@[simp] theorem fe_modFe_same (s : State) (r : Radio) (f : FrontEnd → FrontEnd) : (s.modFe r f).fe r = f (s.fe r) := by
  rw [fe_modFe, if_pos rfl]

theorem trx_modTrx (s : State) (t u : Trx) (f : Transceiver → Transceiver) :
    (s.modTrx t f).trx u = if t = u then f (s.trx t) else s.trx u := vmod_get _ t u f

@[simp] theorem trx_modTrx_same (s : State) (t : Trx) (f : Transceiver → Transceiver) : (s.modTrx t f).trx t = f (s.trx t) := by
  rw [trx_modTrx, if_pos rfl]

theorem tpo_modTpo (s : State) (o p : Fin 4) (f : Tpo → Tpo) :
    (s.modTpo o f).tpo p = if o = p then f (s.tpo o) else s.tpo p := vmod_get _ o p f

@[simp] theorem tpo_modTpo_same (s : State) (o : Fin 4) (f : Tpo → Tpo) : (s.modTpo o f).tpo o = f (s.tpo o) := by
  rw [tpo_modTpo, if_pos rfl]

end Sys2Proof.Machine
end

