-- ==== Sys2Proof/Laws/Dict.lean ====
section
/-! SUPPORT. What a command that is one write of an object answers: the engine's checks pass, the unit runs, its result is
answered and recorded, and the session executes nothing again. -/

namespace Sys2Proof.Machine
open Sys2Proof

/-- The state and the record of the session while its one write executes. -/
def writing (s : State) (n : Nat) (x : Session) (idx el : Nat) (v : Bytes) : State × Session :=
  let e : Exec := { seq := x.nextSeq, todo := [writeOp idx el v], room := pduRoom x.tr - 14, direct := true }
  (setExec s n e, { x with exec := some e })

/-- The answer is the last response, and the session executes nothing. -/
def ended (s : State) (n idx el : Nat) (v : Bytes) (r : Res) : State :=
  { s with lastResp := some (answerOp (writeOp idx el v) r [])
           dict := { s.dict with sessions := s.dict.sessions.map fun y => if y.num = n then { y with exec := none } else y } }

theorem sessOf_modSess {s : State} {n : Nat} {f : Session → Session} (hf : ∀ y, (f y).num = y.num) :
    sessOf (modSess s n f) n = (sessOf s n).map f := by
  unfold sessOf modSess
  show ((s.dict.sessions.map fun x => if x.num = n then f x else x).find? fun x => x.num == n) = _
  generalize s.dict.sessions = l
  induction l with
  | nil => rfl
  | cons y r ih =>
    by_cases h : y.num = n
    · simp [h, hf]
    · simp only [List.map_cons, h, if_false]
      rw [List.find?_cons_of_neg (by simpa using h), List.find?_cons_of_neg (by simpa using h), ih]

theorem sessOf_setExec (s : State) (n : Nat) (e : Exec) :
    sessOf (setExec s n e) n = (sessOf s n).map fun y => { y with exec := some e } := sessOf_modSess fun _ => rfl

theorem pduRoom_ge (tr : Transport) : 1200 ≤ pduRoom tr := by cases tr <;> simp [pduRoom]

/-- An execution with no operation left ends. -/
theorem runExec_done {env : Env} {u : State} {n k : Nat} {e : Exec} (hs : sessOf u n ≠ none) (hw : e.wait = none)
    (ht : e.todo = []) : runExec env n (k + 1) (setExec u n e) = finishExec (setExec u n e) n e := by
  obtain ⟨y, hy⟩ := Option.ne_none_iff_exists'.mp hs
  unfold runExec
  simp [sessOf_setExec, hy, hw, ht]

/-- The end of a command's execution: its session executes nothing. -/
theorem finishExec_direct {u : State} {n : Nat} {e : Exec} (hs : sessOf u n ≠ none) (hr : u.upd.resetDue = false)
    (hd : e.direct = true) (he : e.ending = false) :
    finishExec (setExec u n e) n e =
      { u with dict := { u.dict with sessions := u.dict.sessions.map fun y => if y.num = n then { y with exec := none } else y } } := by
  obtain ⟨y, hy⟩ := Option.ne_none_iff_exists'.mp hs
  unfold finishExec
  simp only [sessOf_setExec, hy, Option.map_some, hd, he, if_true, Bool.false_eq_true, if_false]
  unfold modSess setExec modSess State.setDict
  simp only [hr, Bool.false_eq_true, if_false]
  congr 2
  simp only [List.map_map]
  apply List.map_congr_left
  intro a _
  simp only [Function.comp_apply]
  split <;> simp_all

/-- A write that is answered at once: its answer, and the state its unit leaves. -/
theorem directOp_write {env : Env} {s t : State} {n : Nat} {x : Session} {idx el : Nat} {v : Bytes} {r : Res} (h : Sender s n x)
    (hw : opWrite env (writing s n x idx el v).2 (writeOp idx el v) (writing s n x idx el v).1 = (t, .done r []))
    (hs : sessOf t n ≠ none) (hr : t.upd.resetDue = false) :
    directOp env n (writeOp idx el v) s = ended t n idx el v r := by
  obtain ⟨-, h1, h2, h3, h4, h5⟩ := h
  have hroom := pduRoom_ge x.tr
  unfold writing at hw
  dsimp only at hw
  unfold directOp
  simp only [h1, h2, h3, Option.isSome_none, Bool.false_eq_true]
  rw [if_neg (by simp)]
  generalize he : ({ seq := x.nextSeq, todo := [writeOp idx el v], room := pduRoom x.tr - 14, direct := true } : Exec) = e at hw
  have hsess : sessOf (setExec s n e) n = some { x with exec := some e } := by
    rw [sessOf_setExec, h1]; rfl
  have het : e.todo = [writeOp idx el v] := by rw [← he]
  have hew : e.wait = none := by rw [← he]
  have hes : e.skipping = false := by rw [← he]
  have hed : e.direct = true := by rw [← he]
  have hee : e.ending = false := by rw [← he]
  have her : ¬ e.room < 14 := by rw [← he]; simp only; omega
  unfold runLeft
  simp only [hsess, Option.bind_some, het, List.length_cons, List.length_nil]
  have hmay : mayDo { x with exec := some e } 2 idx el = true := by unfold mayDo; simp [h4]
  have hrun : runOp env { x with exec := some e } (writeOp idx el v) (e.room - 14) (setExec s n e) = (t, .done r []) := by
    unfold runOp; simp [writeOp, reqOp, hmay]; exact hw
  unfold runExec
  simp only [hsess, hew, Option.isSome_none, Bool.false_eq_true, if_false, het, her, hes, hrun, List.length_nil, Nat.add_zero]
  rw [if_neg (show ¬ ((writeOp idx el v).opcode = 0x13 ∧ r = ok) from fun hh => by have := hh.1; simp [writeOp, reqOp] at this)]
  rw [runExec_done (u := { t with lastResp := some (answerOp (writeOp idx el v) r []) }) hs rfl (by simp [pushResp, het]), finishExec_direct (u := { t with lastResp := some (answerOp (writeOp idx el v) r []) })
    (e := pushResp e (writeOp idx el v) (answerOp (writeOp idx el v) r [])) hs hr hed hee]
  rfl

theorem findObj_of {s : State} {idx el : Nat} {row : ObjRow} (hf : isFwIdx idx = false) (ho : objRow? idx el = some row) :
    findObj s idx el = .ok row := by
  unfold findObj; simp [hf, ho]

/-- Objects whose write the engine hands to a unit's own command, which answers at once. -/
def plainCmd (idx : Nat) : Bool := !(isFwIdx idx || [0x130, 0x4002, 0x1202, 0x1601].contains idx)

/-- A write of a command object: the unit's command runs, its result is recorded and answered. -/
theorem valueRow_cmd {env : Env} {s t : State} {n : Nat} {x : Session} {idx el : Nat} {v : Bytes} {row : ObjRow} {r : Res}
    (h : Sender s n x) (hc : plainCmd idx = true) (ho : objRow? idx el = some row) (ha : row.acc = .cmd)
    (hp : passes s idx el v = true)
    (hu : unitCmd env (writing s n x idx el v).2 idx (taken idx el v) ((writing s n x idx el v).1.cmdOut idx el []) = (t, r))
    (hs : sessOf t n ≠ none) (hr : t.upd.resetDue = false) :
    valueRow env n idx el v s = ended (recordCmd t idx el (taken idx el v) r.1) n idx el v r := by
  have hf : isFwIdx idx = false := by
    unfold plainCmd at hc; simp at hc; exact hc.1
  have hi : idx ≠ 0x130 ∧ idx ≠ 0x4002 ∧ idx ≠ 0x1202 ∧ idx ≠ 0x1601 := by
    unfold plainCmd at hc; simp at hc; exact hc.2
  unfold valueRow
  refine directOp_write h ?_ ?_ ?_
  · unfold opWrite
    have hv : engineRes (writing s n x idx el v).1 row idx el v = ok := by
      unfold passes at hp; rw [ho] at hp; simpa [engineRes, writing] using hp
    have ht : taken idx el v = scrub row v := by unfold taken; rw [ho]
    simp only [writeOp, reqOp, findObj_of hf ho, writeDenied, ha]
    rw [if_neg (by simpa using hv), if_neg (by simp), if_neg (by simp [hf]), if_pos trivial]
    unfold writeCmd
    rw [if_neg hi.1]
    rw [← ht]
    dsimp only
    split
    · exact absurd rfl hi.2.1
    · exact absurd rfl hi.2.2.1
    · exact absurd rfl hi.2.2.2
    · rw [hu]
  · exact hs
  · exact hr

/-- A write of an object that is no command: its unit takes the value, when no Traverse reserves the object. -/
theorem valueRow_object {env : Env} {s t : State} {n : Nat} {x : Session} {idx el : Nat} {v : Bytes} {row : ObjRow} {r : Res}
    (h : Sender s n x) (hf : isFwIdx idx = false) (ho : objRow? idx el = some row) (ha : row.acc = .rw ∨ row.acc = .wo)
    (hp : passes s idx el v = true) (hb : reservedBy s none idx el = false)
    (hu : unitWrite idx el (taken idx el v) (writing s n x idx el v).1 = (t, r))
    (hs : sessOf t n ≠ none) (hr : t.upd.resetDue = false) :
    valueRow env n idx el v s = ended t n idx el v (stateBit row.acc idx r) := by
  unfold valueRow
  refine directOp_write h ?_ hs hr
  unfold opWrite
  have hv : engineRes (writing s n x idx el v).1 row idx el v = ok := by
    unfold passes at hp; rw [ho] at hp; simpa [engineRes, writing] using hp
  have ht : taken idx el v = scrub row v := by unfold taken; rw [ho]
  have hd : writeDenied row.acc = none := by rcases ha with ha | ha <;> rw [ha] <;> rfl
  have hc : row.acc ≠ .cmd := by rcases ha with ha | ha <;> rw [ha] <;> decide
  have hb' : reservedBy (writing s n x idx el v).1 none idx el = false := hb
  simp only [writeOp, reqOp, findObj_of hf ho, hd]
  split
  · exact absurd hv ‹_›
  split
  · rename_i e; rw [hb'] at e; exact absurd e.2 (by decide)
  split
  · rename_i e; rw [hf] at e; exact absurd e (by decide)
  rw [← ht, hu]

end Sys2Proof.Machine
end

