-- ==== Sys2Proof/Tests/Slice0.lean ====
section
/-! SUPPORT. Tests: each is one command on a small state that meets every hypothesis of its statement's clause, with a few fields of
the result as the rule gives them. -/

namespace Sys2Proof.Tests
open Sys2Proof Sys2Proof.Machine

set_option Elab.async false


/-! ### Helpers -/

/-- The device after reset. -/
def z : State := State.reset

/-- The state that a command answers. -/
def after (i : Instr) (s : State) : State := match exec i s with | .next t => t | _ => s

/-- The command answers a next state. -/
def goes (i : Instr) (s : State) : Bool := match exec i s with | .next _ => true | _ => false

/-- The session of dictionary port 0. -/
def port0 : Session := { num := 0xFF00, tr := .port 0, opened := true, rights := 2 }

/-- The parts of a permitted transmission: state, channel, power. -/
def pv (p : State × Option (Chan × Int)) : State := p.1
def pc (p : State × Option (Chan × Int)) : Chan := (p.2.map (·.1)).getD (chanOf 0 0)
def px (p : State × Option (Chan × Int)) : Int := (p.2.map (·.2)).getD 0

/-! ### The machine -/

theorem test_emptyQueue : z.pending = [] ∧ step z = .next z := ⟨rfl, rfl⟩
theorem test_canonicalForm : (memOk z = true ∧ regOk z = true ∧ objOk z = true) ∧ (match step { z with pending := [.dmaDoorbell 0 5 3] } with | .next t => t.pending.isEmpty | _ => false) = true := by decide +kernel
theorem test_resetIsolates : (after .aonPowerOn z).start.phase ≠ .released ∧ inAon (.create 0 0 0) = false ∧ (after (.create 0 0x01000000 0) (after .aonPowerOn z)).cores = (after .aonPowerOn z).cores := by decide +kernel
theorem test_commandFrames : goes (.yield 0) z = true ∧ (after (.yield 0) z).dram = z.dram := by decide +kernel

/-! ### Well-formedness: an ill-formed term for each check -/

theorem test_wf_session : (Instr.close 0x100).wellFormed = false ∧ (Instr.close 0xFF10).wellFormed = true := by decide +kernel
theorem test_wf_u16 : (Instr.describe 1 0x10000 0).wellFormed = false ∧ (Instr.describe 1 0xFFFF 0).wellFormed = true := by decide +kernel
theorem test_wf_access : (Instr.registerWrite 0 0 3 0).wellFormed = false ∧ (Instr.registerWrite 0 (2 ^ 64) 4 0).wellFormed = false := by decide +kernel
theorem test_wf_fits : (Instr.registerWrite 0 0 1 256).wellFormed = false ∧ (Instr.pairKick 0 (2 ^ 32)).wellFormed = false := by decide +kernel
theorem test_wf_value (v : Bytes) (h : v.length = 65536) : (Instr.staAlloc 1 v).wellFormed = false := by
  simp [Instr.wellFormed, writeOk, valueOk, h]
theorem test_wf_rest (v : Bytes) (h : v.length = 65535) : (Instr.revert 1 v).wellFormed = false := by
  simp [Instr.wellFormed, restOk, h]
theorem test_wf_open1 : (Instr.open1 .field (List.replicate 31 0) 1 (List.replicate 56 0)).wellFormed = false ∧
    (Instr.open1 .field (List.replicate 32 0) 9 (List.replicate 56 0)).wellFormed = false := by decide +kernel
theorem test_wf_flips : (Instr.coreLoad 0 0 4 false [72]).wellFormed = false := by decide +kernel
theorem test_wf_blockAckReq : (Instr.blockAckReq 0 1 16 0).wellFormed = false ∧ (Instr.blockAckReq 0 1 0 4096).wellFormed = false := by decide +kernel

/-! ### Dispatcher -/

namespace Cores

def runs5 : State :=
  { z with cores := { z.cores with threads := [(5, { st := .running, prio := 3, mask := 1, gen := 2, lastCore := some 0 })]
                                   cores := vmod z.cores.cores 0 fun k => { k with running := some 5 } } }
def waits5 : State := { z with cores := { z.cores with threads := [(5, { st := .waiting, prio := 3, mask := 1, waits := [20], bound := true, deadline := 9 })] } }
def ready5 : State := { z with cores := { z.cores with
  threads := [(5, { st := .ready, prio := 3, mask := 3, lastCore := some 0 }), (6, { st := .running, prio := 1, mask := 1, lastCore := some 0 })]
  cores := vmod z.cores.cores 0 fun k => { k with running := some 6 } } }
def reserved5 : State := { z with cores := { z.cores with
  threads := [(5, { st := .ready, prio := 3, mask := 3, waits := [20] })]
  cores := vmod z.cores.cores 0 fun k => { k with reserved := some 5 } } }

theorem test_create : let s : State := runs5; let c : CoreId := 0; let op : Nat := 0x01050000; let arg : Nat := 7; let k : Nat := 0; let t := after (.create c op arg) s;
    Up s ∧ bits op 24 8 ≠ 0 ∧ lowestFree s = some k ∧ (t.thread k).st = .ready ∧ (t.thread k).prio = bits op 16 5 ∧ (t.thread k).mask = bits op 24 8 := by decide +kernel
theorem test_wait : let s : State := runs5; let c : CoreId := 0; let op : Nat := 10; let arg : Nat := 20 + 21 * 4096 + 2 * 2 ^ 48; let k : Nat := 5; let t := after (.wait c op arg) s;
    Up s ∧ (s.core c).running = some k ∧ 1 ≤ bits arg 48 3 ∧ bits arg 48 3 ≤ 4 ∧ (∀ i < bits arg 48 3, (s.opnd (bits arg (12 * i) 12)).waiter = none) ∧ (∃ i < bits arg 48 3, (s.opnd (bits arg (12 * i) 12)).count = 0) ∧ (t.thread k).st = .waiting ∧ (t.core c).running = none ∧ (t.core c).result = 0 := by decide +kernel
theorem test_waitPresent : let s : State := runs5.setOpnd 20 { count := 1, value := 3 }; let c : CoreId := 0; let op : Nat := 10; let arg : Nat := 20 + 2 ^ 48; let k : Nat := 5; let t := after (.wait c op arg) s;
    Up s ∧ (s.core c).running = some k ∧ 1 ≤ bits arg 48 3 ∧ bits arg 48 3 ≤ 4 ∧ (∀ i < bits arg 48 3, 0 < (s.opnd (bits arg (12 * i) 12)).count ∧ ((s.opnd (bits arg (12 * i) 12)).waiter = none ∨ (s.opnd (bits arg (12 * i) 12)).waiter = some k)) ∧ (t.thread k).st = .ready ∧ (t.core c).running = none ∧ (t.core c).result = 0 := by decide +kernel
theorem test_waitRefused : let s : State := runs5; let c : CoreId := 0; let op : Nat := 10; let arg : Nat := 5 * 2 ^ 48; let k : Nat := 5;
    Up s ∧ (s.core c).running = some k ∧ (bits arg 48 3 = 0 ∨ 4 < bits arg 48 3) ∧ goes (.wait c op arg) s = true := by decide +kernel
theorem test_waitRefused_2 : let s : State := runs5.setOpnd 20 { count := 1, waiter := some 6 }; let c : CoreId := 0; let op : Nat := 10; let arg : Nat := 20 + 2 ^ 48; let k : Nat := 5;
    Up s ∧ (s.core c).running = some k ∧ 1 ≤ bits arg 48 3 ∧ bits arg 48 3 ≤ 4 ∧ (∃ i < bits arg 48 3, ∃ j, (s.opnd (bits arg (12 * i) 12)).waiter = some j ∧ j ≠ k) ∧ goes (.wait c op arg) s = true := by decide +kernel
theorem test_noThread : let s : State := runs5; let c : CoreId := 1;
    Up s ∧ (s.core c).running = none ∧ (s.core c).aborted = false ∧ goes (.yield c) s = true ∧ goes (.exit c) s = true := by decide +kernel
theorem test_noThread_2 : let s : State := after (.threadAbort 1 (5 + 2 * 512)) runs5; let c : CoreId := 0;
    Up s ∧ (s.core c).running = none ∧ (s.core c).aborted = true ∧ goes (.yield c) s = true ∧ goes (.exit c) s = true := by decide +kernel
theorem test_yield : let s : State := runs5; let c : CoreId := 0; let k : Nat := 5; let t := after (.yield c) s;
    Up s ∧ (s.core c).running = some k ∧ (t.thread k).st = .ready ∧ (t.thread k).since = s.cores.stamp ∧ (t.core c).running = none := by decide +kernel
theorem test_exit : let s : State := runs5; let c : CoreId := 0; let k : Nat := 5; let t := after (.exit c) s;
    Up s ∧ (s.core c).running = some k ∧ t.thread k = { gen := ((s.thread k).gen + 1) % 128 } := by decide +kernel
theorem test_post : let s : State := z; let c : CoreId := 0; let op : Nat := 20; let arg : Nat := 77; let t := after (.post c op arg) s;
    Up s ∧ 16 ≤ bits op 0 12 ∧ (t.opnd (bits op 0 12)).value = bits arg 0 32 ∧ (t.opnd (bits op 0 12)).count = (if (s.opnd (bits op 0 12)).count < 65535 then (s.opnd (bits op 0 12)).count + 1 else (s.opnd (bits op 0 12)).count) := by decide +kernel
theorem test_post_2 : let s : State := after (.wait 0 10 (20 + 2 ^ 48)) runs5; let c : CoreId := 0; let op : Nat := 20; let arg : Nat := 77; let t := after (.post c op arg) s;
    Up s ∧ 16 ≤ bits op 0 12 ∧ (t.opnd (bits op 0 12)).value = bits arg 0 32 ∧ (t.opnd (bits op 0 12)).count = (if (s.opnd (bits op 0 12)).count < 65535 then (s.opnd (bits op 0 12)).count + 1 else (s.opnd (bits op 0 12)).count) := by decide +kernel
theorem test_postFixed : let s : State := z; let c : CoreId := 0; let op : Nat := 15; let arg : Nat := 77;
    Up s ∧ bits op 0 12 < 16 ∧ goes (.post c op arg) s = true := by decide +kernel
theorem test_setPriority : let s : State := runs5; let c : CoreId := 0; let op : Nat := 0x02090000 + 5 + 2 * 512; let t := after (.setPriority c op) s;
    Up s ∧ handleLive s (bits op 0 16) = true ∧ bits op 24 8 ≠ 0 ∧ (t.core c).result = 0 := by decide +kernel
theorem test_staleHandle : let s : State := runs5; let c : CoreId := 0; let op : Nat := 0x02090000 + 5 + 3 * 512;
    Up s ∧ handleLive s (bits op 0 16) = false ∧ goes (.setPriority c op) s = true ∧ goes (.threadAbort c op) s = true := by decide +kernel
theorem test_threadAbort : let s : State := runs5; let c : CoreId := 1; let op : Nat := 5 + 2 * 512; let t := after (.threadAbort c op) s;
    Up s ∧ handleLive s (bits op 0 16) = true ∧ t.thread (bits op 0 9) = { gen := ((s.thread (bits op 0 9)).gen + 1) % 128 } ∧ bit (t.objN 0x6821 0) 2 = true := by decide +kernel
theorem test_dspNextRead : let s : State := reserved5; let c : CoreId := 0; let k : Nat := 5; let t := after (.dspNextRead c) s;
    Up s ∧ (s.core c).reserved = some k ∧ (s.core c).running = none ∧ (t.core c).running = some k ∧ (t.core c).reserved = none ∧ (t.thread k).st = .running := by decide +kernel
theorem test_dspNextEmpty : let s : State := runs5; let c : CoreId := 0;
    Up s ∧ ((s.core c).reserved = none ∨ (s.core c).running ≠ none) ∧ goes (.dspNextRead c) s = true := by decide +kernel
theorem test_waitTimeout : let s : State := { waits5 with now := 9 }; let k : Fin 512 := 5; let t := after (.waitTimeout k) s;
    Up s ∧ (s.thread k).st = .waiting ∧ (s.thread k).deadline ≠ 0 ∧ (s.thread k).deadline ≤ s.now ∧ (t.thread k).st = .ready ∧ (t.thread k).timedOut = true ∧ (t.thread k).waits = [] := by decide +kernel
theorem test_migrateExpiry : let s : State := { ready5 with now := 1000000000 }; let k : Fin 512 := 5; let n : Nat := 0; let t := after (.migrateExpiry k) s;
    Up s ∧ (s.thread k).lastCore = some n ∧ (s.thread k).st = .ready ∧ (s.thread k).anyCore = false ∧ (s.thread k).mask.testBit n = true ∧ isReserved s k = false ∧ runsAtLeast s n (s.thread k).prio = true ∧ (s.thread k).readyAt + s.objN 0x6802 0 * 1000 ≤ s.now ∧ bit (t.objN 0x6821 0) 4 = true := by decide +kernel

end Cores

/-! ### Datum and power grants -/

namespace Datum

def tpoState : State := ({ z with datum := { z.datum with tpo := vmod z.datum.tpo 1 fun _ => { next := some { frac := 5 } } } }).setObj 0x1210 2 (le 4 2 ++ zeros 12 ++ le 8 65536000 ++ le 8 65536)
def capCfg : State := z.setObj 0x1220 1 [1, 2, 0, 0]
def bookS : State := z.setObj 0x1310 0 (le 2 400 ++ le 2 100 ++ le 2 0)

theorem test_datumTick : let s : State := z; let t := after .datumTick s;
    datumRuns s = true ∧ t.now = s.now + 4 := by decide +kernel
theorem test_datumIncrApply : let s : State := { z with datum := { z.datum with incrPend := some 0x400000001 } }; let i : Nat := 0x400000001;
    Up s ∧ s.datum.incrPend = some i ∧ s.datum.running = true ∧ goes .datumIncrApply s = true := by decide +kernel
theorem test_tpoEdge : let s : State := tpoState; let o : Fin 4 := 1; let e : DatumVal := { frac := 5 }; let t := after (.tpoEdge o) s;
    Up s ∧ (s.tpo o).next = some e ∧ s.datum.running = true ∧ e.units < s.datum.t.units + s.datum.incr ∧ t.tpo o = { next := nextEdge s o e.units, pulses := ((s.tpo o).pulses + 1) % 2 ^ 32, late := (s.tpo o).late, pulse := some { endAt := s.now + s.objF 0x1210 (o + 1) 24 4, low := tpoLow s o } } := by decide +kernel
theorem test_dtmSnapRead : let s : State := { z with datum := { z.datum with t := { sec := 9 }, stepGen := 2 } }; let c : CoreId := 3; let t := after (.dtmSnapRead c) s;
    Up s ∧ t.datum.snaps[c] = { t := s.datum.t, gen := s.datum.stepGen } ∧ (t.core c).readData = s.datum.t.sec := by decide +kernel
theorem test_captureEdge : let s : State := capCfg; let i : Fin 3 := 0; let rising : Bool := true; let since : Nat := 200; let high : Nat := 50;
    Up s ∧ captures s i rising since high = true ∧ (s.datum.fifo[i]).length < 16 ∧ goes (.captureEdge i rising since high) s = true := by decide +kernel
theorem test_aonCalCount : let s : State := z; let n : Nat := 100;
    Up s ∧ s.datum.running = true ∧ goes (.aonCalCount n) s = true := by decide +kernel
theorem test_vidChangeFab : let s : State := { z with power := { z.power with vidFab := 60 } }; let t := after (.vidChange false) s;
    Up s ∧ settled s s.power.vidFabAt = true ∧ fabCode s ≠ s.power.vidFab ∧ t.power.vidFab = (if s.power.fabHeld then 70 else min 70 (max s.power.targetFab (vidOf (s.objN 0x1102 0)))) ∧ t.power.vidFabAt = some s.now ∧ grantUnits t 1 0 = fabricCharge (500 + 5 * t.power.vidFab) := by decide +kernel
theorem test_vidChangeFab_2 : let s : State := { z with power := { z.power with targetFab := 40, fabHeld := true, vidFab := 50 } }; let t := after (.vidChange false) s;
    Up s ∧ settled s s.power.vidFabAt = true ∧ fabCode s ≠ s.power.vidFab ∧ t.power.vidFab = (if s.power.fabHeld then 70 else min 70 (max s.power.targetFab (vidOf (s.objN 0x1102 0)))) ∧ t.power.vidFabAt = some s.now ∧ grantUnits t 1 0 = fabricCharge (500 + 5 * t.power.vidFab) := by decide +kernel
theorem test_vidChangeFab_3 : let s : State := { z with now := 10, power := { z.power with targetFab := 40, vidFabAt := some 0 } };
    Up s ∧ (settled s s.power.vidFabAt = false ∨ fabCode s = s.power.vidFab) ∧ goes (.vidChange false) s = true := by decide +kernel
theorem test_vidChangeCpu : let s : State := { z with now := 10, power := { z.power with vidCpuAt := some 0 } };
    Up s ∧ settled s s.power.vidCpuAt = false ∧ goes (.vidChange true) s = true := by decide +kernel
theorem test_vidChangeCpu_2 : let s : State := { z with power := { z.power with vidCpu := 60 } }; let t := after (.vidChange true) s;
    Up s ∧ settled s s.power.vidCpuAt = true ∧ s.power.pendingCore = [] ∧ pointVid (topPoint s) ≠ s.power.vidCpu ∧ t.power.vidCpu = pointVid (topPoint s) ∧ t.power.vidCpuAt = some s.now := by decide +kernel
theorem test_vidChangeCpu_3 : let s : State := { z with power := { z.power with pendingCore := [(2, 2)] } }; let c : CoreId := 2; let p : Nat := 2; let t := after (.vidChange true) s;
    Up s ∧ settled s s.power.vidCpuAt = true ∧ s.power.pendingCore = [(c.val, p)] ∧ s.power.vidCpu < pointVid p ∧ (∀ d : CoreId, (s.core d).point ≤ p) ∧ t.power.vidCpu = pointVid p ∧ t.power.vidCpuAt = some s.now ∧ t.power.pendingCore = [(c.val, p)] := by decide +kernel
theorem test_vidChangeCpu_4 : let s : State := { z with power := { z.power with vidCpu := 99, pendingCore := [(2, 1)] } }; let c : CoreId := 2; let p : Nat := 1; let t := after (.vidChange true) s;
    Up s ∧ settled s s.power.vidCpuAt = true ∧ s.power.pendingCore = [(c.val, p)] ∧ pointVid p ≤ s.power.vidCpu ∧ (t.core c).point = p ∧ t.power.pendingCore = [] := by decide +kernel
theorem test_monitorRefresh : let s : State := z; let rs : List Nat := [0, 0, 0, 1000, 1000, 1000, 1000, 1000];
    Up s ∧ rs.length = 8 ∧ (∀ x ∈ rs, x < 65536) ∧ goes (.monitorRefresh rs) s = true := by decide +kernel
theorem test_monitorRefresh_2 : let s : State := { z with power := { z.power with fabHeld := true } }; let rs : List Nat := [900, 900, 900, 1000, 1000, 1000, 1000, 1000];
    Up s ∧ rs.length = 8 ∧ (∀ x ∈ rs, x < 65536) ∧ goes (.monitorRefresh rs) s = true := by decide +kernel
theorem test_monitorFloor : let s : State := z; let rs : List Nat := [0, 0, 0, 1000, 1000, 1000, 1000, 1000]; let low : Nat := 1000;
    Up s ∧ rs.length = 8 ∧ (∀ x ∈ rs, x < 65536) ∧ 10 ≤ s.power.vidFab ∧ s.power.vidFab ≤ 70 ∧ rs.filter (readingValid (median2 rs)) ≠ [] ∧ low = (rs.filter (readingValid (median2 rs))).foldl min 2500 ∧ goes (.monitorRefresh rs) s = true := by decide +kernel
theorem test_monitorFloor_2 : let s : State := z; let rs : List Nat := [900, 900, 900, 1000, 1000, 1000, 1000, 1000]; let low : Nat := 900;
    Up s ∧ rs.length = 8 ∧ (∀ x ∈ rs, x < 65536) ∧ 10 ≤ s.power.vidFab ∧ s.power.vidFab ≤ 70 ∧ rs.filter (readingValid (median2 rs)) ≠ [] ∧ low = (rs.filter (readingValid (median2 rs))).foldl min 2500 ∧ goes (.monitorRefresh rs) s = true := by decide +kernel
theorem test_monitorFloor_3 : let s : State := { z with power := { z.power with vidFab := 70 } }; let rs : List Nat := [600, 600, 600, 610, 610, 610, 610, 610]; let low : Nat := 600;
    Up s ∧ rs.length = 8 ∧ (∀ x ∈ rs, x < 65536) ∧ 10 ≤ s.power.vidFab ∧ s.power.vidFab ≤ 70 ∧ rs.filter (readingValid (median2 rs)) ≠ [] ∧ low = (rs.filter (readingValid (median2 rs))).foldl min 2500 ∧ goes (.monitorRefresh rs) s = true := by decide +kernel
theorem test_monitorFloor_4 : let s : State := { z with power := { z.power with vidFab := 30 } }; let rs : List Nat := [2000, 2000, 2000, 2010, 2010, 2010, 2010, 2010]; let low : Nat := 2000;
    Up s ∧ rs.length = 8 ∧ (∀ x ∈ rs, x < 65536) ∧ 10 ≤ s.power.vidFab ∧ s.power.vidFab ≤ 70 ∧ rs.filter (readingValid (median2 rs)) ≠ [] ∧ low = (rs.filter (readingValid (median2 rs))).foldl min 2500 ∧ goes (.monitorRefresh rs) s = true := by decide +kernel
theorem test_powerRequest : let s : State := bookS; let r : Radio := 1; let units : Nat := 20; let id : Nat := 3; let t := after (.powerRequest (.booking r units id)) s;
    Up s ∧ units ≠ 0 ∧ units ≤ roomFor s 10 (bookKey r.val 5 id) true ∧ grantUnits t 10 (bookKey r.val 5 id) = units := by decide +kernel
theorem test_powerFixed : let s : State := z; let t := after (.powerRequest .floor) s;
    Up s ∧ grantUnits t 0 0 = 32 := by decide +kernel
theorem test_powerFixed_2 : let s : State := { bookS with power := { bookS.power with reclaimed := [{ kind := 6, inst := 1, units := 5 }] } }; let t := after (.powerRequest .floor) s;
    Up s ∧ grantUnits t 0 0 = 32 := by decide +kernel
theorem test_powerUnits : let s := bookS;
    isReclaimed s 3 4 = false ∧ trxCharge s 4 ≤ roomFor s 3 4 false ∧ grantUnits (after (.powerRequest (.trx 4)) s) 3 4 = trxCharge s 4 ∧ ((after (.powerRequest (.trx 4)) s).trx 4).powered = true ∧
    isReclaimed s 9 11 = false ∧ 2 ≤ roomFor s 9 11 false ∧ grantUnits (after (.powerRequest (.cipherLane 11)) s) 9 11 = 2 ∧
    isReclaimed s 7 0 = false ∧ 6 * 4 ≤ roomFor s 7 0 false ∧ grantUnits (after (.powerRequest (.pcieLane 4)) s) 7 0 = 24 ∧
    isReclaimed s 8 0 = false ∧ 16 * 2 ≤ roomFor s 8 0 false ∧ grantUnits (after (.powerRequest (.baseLane 2)) s) 8 0 = 32 := by decide +kernel
theorem test_powerUnits_2 : let s := bookS.setObj 0x5800 2 [2, 238, 5, 0];
    isReclaimed s 6 1 = false ∧ portCharge (s.objF 0x5800 2 0 1) ≤ roomFor s 6 1 false ∧ grantUnits (after (.powerRequest (.port 1)) s) 6 1 = 20 ∧
    0 ≤ ((coresReady s).core 7).point ∧ 0 ≤ pointOf (coreCap s) ∧ ((after (.powerRequest (.corePoint 7 0)) s).core 7).point = 0 ∧ grantUnits (after (.powerRequest (.corePoint 7 0)) s) 5 7 = pointCharge 0 := by decide +kernel
theorem test_powerUnits_3 : let s := after (.powerRequest (.corePoint 7 0)) bookS;
    ((coresReady s).core 7).point < 1 ∧ 1 ≤ pointOf (coreCap s) ∧ pointCharge 1 ≤ roomFor s 5 7 false ∧ (after (.powerRequest (.corePoint 7 1)) s).power.pendingCore.contains (7, 1) = true := by decide +kernel

end Datum

/-! ### Radios, front ends, baseband -/

namespace Radio

def ch6 : Chan := chanOf 2437000 20000
/-- Radio 0 with a front end changed so. -/
def fe0 (f : FrontEnd → FrontEnd) (s : State := z) : State := s.modFe 0 f
def rdy (s : State := z) : State := fe0 (fun f => { f with st := .ready, chan := some ch6, plan := 3 }) s
/-- TRX0 is assigned to Radio 0. -/
def asg : State := (z.setObj 0x2001 1 [1]).modTrx 0 fun x => { x with powered := true, calibrated := true }
def relk : State := fe0 (fun f => { f with st := .relock, chan := some ch6 }) asg
def heldP : PpduReq := { kind := 0, id := 7, ac := 0, sta := none, mpdus := 1, durNs := 1, dsss := false, deadline := some 5, power := 0, rffeDone := true, partnerIdle := true, busy := 0, form := 0, late := 0 }
def diagS : State := fe0 (fun f => { f with st := .diag, diag := { mode := 1, running := true } }) asg
def win0 : TrxWindow := { trx := 0, overs := 50, inChannel := -500, wideband := 0 }

def rxing : State := fe0 (fun f => { f with rx := some { refPower := -700 } }) (rdy asg)
def sent : State := ((z.setObj 0x2001 3 [0]).modTrx 2 fun x => { x with powered := true }).setObj 0x2030 3 ([2, 0] ++ zeros 2 ++ (le 4 2412000 ++ zeros 4) ++ (le 4 5180000 ++ zeros 4))
def chg : State := fe0 (fun f => { f with st := .changing, chan := some ch6, newChan := true }) asg
def flt : State := fe0 (fun f => { f with st := .fault, chan := some ch6 }) asg

def pre7 : Preamble := { power := -700 }
def sfBad : SigField := .plcp false 0
def sfOk : SigField := .lsig true true 100 60
def air7 : Air := { id := 7, kind := 1, s := 100, e := 2000, nominal := 1900, trx := [0], chan := ch6, power := 100 }
def rffeS : State := { z with rf := { z.rf with rffe := vmod z.rf.rffe 1 fun _ => [⟨1, 0, 0, 2, .regWrite 3 4, 7⟩, ⟨2, 0, 1, 2, .reg0Write 1, 7⟩] } }
def win4 (p : Int) : NfWindow := { power := p }
def wan : State → State := takeDeferred

theorem test_edgeNothing : let s : State := z;
    s.rf.deferred = [] := by decide +kernel
theorem test_edgeNothing_2 : let s : State := { rxing with rf := { rxing.rf with deferred := [(0x3020, 1, List.replicate 32 1)] } }; let p : Nat × Nat × Bytes := (0x3020, 1, List.replicate 32 1);
    p ∈ (takeDeferred s).rf.deferred := by decide +kernel
theorem test_trxJoinCalDone : let s : State := z.modTrx 3 fun x => { x with joining := true }; let x : Trx := 3; let temp : Int := 250;
    Up s ∧ (s.trx x).joining = true ∧ goes (.trxJoinCalDone x temp) s = true := by decide +kernel
theorem test_trxJoinCalDone_2 : let s : State := fe0 (fun f => { f with path := .fallback, lo := 5 }) (rdy (asg.modTrx 0 fun x => { x with joining := true })); let x : Trx := 0; let temp : Int := 250;
    Up s ∧ (s.trx x).joining = true ∧ goes (.trxJoinCalDone x temp) s = true := by decide +kernel
theorem test_channelChange : let s : State := fe0 (fun f => { f with st := .ready, pending := some ch6 }); let r : Radio := 0; let c : Chan := ch6; let w : State := takeDeferred s;
    Up s ∧ (w.fe r).pending = some c ∧ (w.fe r).st = .ready ∧ radioBoundary w r = true ∧ goes (.channelChange r) s = true := by decide +kernel
theorem test_channelChange_2 : let s : State := fe0 (fun f => { f with st := .ready, pending := some ch6, path := .fallback }) asg; let r : Radio := 0; let c : Chan := ch6; let w : State := takeDeferred s;
    Up s ∧ (w.fe r).pending = some c ∧ (w.fe r).st = .ready ∧ radioBoundary w r = true ∧ goes (.channelChange r) s = true := by decide +kernel
theorem test_channelChangeWaits : let s : State := rxing; let r : Radio := 0; let w : State := takeDeferred s;
    Up s ∧ ((w.fe r).pending = none ∨ (w.fe r).st ≠ .ready ∨ radioBoundary w r = false) ∧ goes (.channelChange r) s = true := by decide +kernel
theorem test_channelChangeWaits_2 : let s : State := fe0 (fun f => { f with pending := some ch6 }) rxing; let r : Radio := 0; let w : State := takeDeferred s;
    Up s ∧ ((w.fe r).pending = none ∨ (w.fe r).st ≠ .ready ∨ radioBoundary w r = false) ∧ goes (.channelChange r) s = true := by decide +kernel
theorem test_loLocked : let s : State := rdy; let r : Radio := 0;
    Up s ∧ (s.fe r).st ≠ .off ∧ goes (.loLocked r) s = true := by decide +kernel
theorem test_loLocked_2 : let s : State := fe0 (fun f => { f with path := .fallback }) (rdy asg); let r : Radio := 0;
    Up s ∧ (s.fe r).st ≠ .off ∧ goes (.loLocked r) s = true := by decide +kernel
theorem test_lockTimeout : let s : State := relk; let r : Radio := 0; let t := after (.lockTimeout r) s;
    Up s ∧ ((s.fe r).st = .changing ∨ (s.fe r).st = .relock) ∧ (t.fe r).attempts = (s.fe r).attempts + 1 ∧ (t.fe r).timeouts = ((s.fe r).timeouts + 1) % 2 ^ 32 ∧ (t.fe r).st = (if 3 ≤ (s.fe r).attempts + 1 then .fault else (s.fe r).st) := by decide +kernel
theorem test_lockTimeout_2 : let s : State := fe0 (fun f => { f with attempts := 2, held := [heldP] }) relk; let r : Radio := 0; let t := after (.lockTimeout r) s;
    Up s ∧ ((s.fe r).st = .changing ∨ (s.fe r).st = .relock) ∧ (t.fe r).attempts = (s.fe r).attempts + 1 ∧ (t.fe r).timeouts = ((s.fe r).timeouts + 1) % 2 ^ 32 ∧ (t.fe r).st = (if 3 ≤ (s.fe r).attempts + 1 then .fault else (s.fe r).st) := by decide +kernel
theorem test_overrangeWindow : let s : State := rdy (asg.modTrx 0 fun x => { x with qualified := true }); let r : Radio := 0; let x : TrxWindow := win0; let c : Chan := ch6; let t := after (.overrangeWindow r [x]) s;
    Up s ∧ trxAssign s x.trx = r.val + 1 ∧ (s.fe r).path = .sampling ∧ (s.fe r).chan = some c ∧ c.bw ≤ 160000 ∧ s.objN 0x2010 (r + 1) ≠ 1 ∧ windowQualifies s r x = true ∧ (t.trx x.trx).qualified = true ∧ (t.trx x.trx).overrange = ((s.trx x.trx).overrange + x.overs) % 2 ^ 32 := by decide +kernel
theorem test_overrangeWindow_2 : let s : State := rdy asg; let r : Radio := 0; let x : TrxWindow := win0; let c : Chan := ch6; let t := after (.overrangeWindow r [x]) s;
    Up s ∧ trxAssign s x.trx = r.val + 1 ∧ (s.fe r).path = .sampling ∧ (s.fe r).chan = some c ∧ c.bw ≤ 160000 ∧ s.objN 0x2010 (r + 1) ≠ 1 ∧ windowQualifies s r x = true ∧ (t.trx x.trx).qualified = true ∧ (t.trx x.trx).overrange = ((s.trx x.trx).overrange + x.overs) % 2 ^ 32 := by decide +kernel
theorem test_pathSwitch : let s : State := fe0 (fun f => { f with switchPending := some .fallback }) rdy; let r : Radio := 0; let w : State := takeDeferred s;
    Up s ∧ (w.fe r).switchPending ≠ none ∧ (w.fe r).switching = false ∧ (w.fe r).st = .ready ∧ allowedBoundary w r (w.fe r).switchAsked = true ∧ goes (.pathSwitch r) s = true := by decide +kernel
theorem test_pathSwitchDone : let s : State := fe0 (fun f => { f with switchPending := some .fallback, switching := true, switchWhy := 1 }) (rdy asg); let r : Radio := 0; let p : PathState := .fallback; let t := after (.pathSwitchDone r) s;
    Up s ∧ (s.fe r).switchPending = some p ∧ (s.fe r).switching = true ∧ (t.fe r).path = p ∧ (t.fe r).switching = false ∧ (t.fe r).switchPending = none := by decide +kernel
theorem test_pathSwitchDone_2 : let s : State := fe0 (fun f => { f with switchPending := some .probe, switching := true, path := .fallback }) (rdy asg); let r : Radio := 0; let p : PathState := .probe; let t := after (.pathSwitchDone r) s;
    Up s ∧ (s.fe r).switchPending = some p ∧ (s.fe r).switching = true ∧ (t.fe r).path = p ∧ (t.fe r).switching = false ∧ (t.fe r).switchPending = none := by decide +kernel
theorem test_blockHoldExpiry : let s : State := fe0 (fun f => { f with path := .fallback, reason := 1 }) rdy; let r : Radio := 0;
    Up s ∧ (s.fe r).path = .fallback ∧ (s.fe r).reason = 1 ∧ goes (.blockHoldExpiry r) s = true := by decide +kernel
theorem test_probeExpiry : let s : State := fe0 (fun f => { f with path := .probe, reason := 1 }) rdy; let r : Radio := 0;
    Up s ∧ (s.fe r).path = .probe ∧ (s.fe r).switchPending = none ∧ goes (.probeExpiry r) s = true := by decide +kernel
theorem test_imageRecalTimer : let s : State := rdy asg; let r : Radio := 0; let db : List Nat := [41];
    Up s ∧ (s.fe r).path ≠ .fallback ∧ (s.fe r).st ≠ .off ∧ db.length = (assigned s r).length ∧ goes (.imageRecalTimer r db) s = true := by decide +kernel
theorem test_fallbackCalStep : let s : State := { fe0 (fun f => { f with path := .fallback, lo := 9, loLocked := true }) (rdy asg) with now := 9000 }; let r : Radio := 0; let x : Trx := 0; let db : Nat := 40;
    Up s ∧ radioOf s x = some r ∧ (s.fe r).path = .fallback ∧ (s.fe r).st = .ready ∧ (s.fe r).rx = none ∧ (s.fe r).tx = none ∧ onAir s r = false ∧ ccaAll s r = false ∧ quietSlot s r = true ∧ goes (.fallbackCalStep x ⟨db, true⟩) s = true := by decide +kernel
theorem test_rffeWrite : let s : State := z; let b : Fin 3 := 1;
    Up s ∧ s.rf.rffe[b] = [] ∧ goes (.rffeWrite b) s = true := by decide +kernel
theorem test_rffeWrite_2 : let s : State := rffeS; let b : Fin 3 := 1; let x := ⟨1, 0, 0, 2, .regWrite 3 4, 7⟩; let l := [⟨2, 0, 1, 2, .reg0Write 1, 7⟩]; let t := after (.rffeWrite b) s;
    Up s ∧ s.rf.rffe[b] = x :: l ∧ s.now ≤ x.due ∧ t.rf.rffe[b] = l ∧ t.rf.rffeLast[b] = some (x.usid, x.cmd) ∧ t.rf.fe = s.rf.fe := by decide +kernel
theorem test_rffeWriteLate : let s : State := { fe0 (fun f => { f with air := [air7] }) rffeS with now := 50 }; let b : Fin 3 := 1; let x : Machine.RffeWrite := ⟨1, 0, 0, 2, .regWrite 3 4, 7⟩; let l : List Machine.RffeWrite := [⟨2, 0, 1, 2, .reg0Write 1, 7⟩]; let r : Radio := 0; let t := after (.rffeWrite b) s;
    Up s ∧ s.rf.rffe[b] = x :: l ∧ x.due < s.now ∧ x.radio = r.val ∧ (s.fe r).air.any (fun a => a.id == x.req && decide (s.now < a.e)) = true ∧ t.rf.rffeLast[b] = some (x.usid, x.cmd) ∧ bit (t.objN 0x2040 0) 3 = true ∧ (x.req, 0xFF) ∈ (t.fe r).returned := by decide +kernel
theorem test_dutyBucketRoll : let s : State := { z with rf := { z.rf with duty := vmod z.rf.duty 2 fun _ => [9, 8] } }; let b : Fin 16 := 2; let x : Nat := 9; let l : List Nat := [8]; let t := after (.dutyBucketRoll b) s;
    Up s ∧ s.rf.duty[b] = x :: l ∧ t.rf.duty[b] = 0 :: (x :: l).take 60 ∧ t.rf.fe = s.rf.fe := by decide +kernel
theorem test_diagTimeoutExpiry : let s : State := diagS; let r : Radio := 0; let t := after (.diagTimeoutExpiry r) s;
    Up s ∧ (s.fe r).st = .diag ∧ (s.fe r).diag.running = true ∧ (t.fe r).st = .off ∧ (t.fe r).diag = { (s.fe r).diag with running := false, ended := 2, remaining := 0 } ∧ bit (t.objN 0x2051 (r + 1)) 8 = true := by decide +kernel
theorem test_diagDurationEnd : let s : State := diagS; let r : Radio := 0; let t := after (.diagDurationEnd r) s;
    Up s ∧ (s.fe r).st = .diag ∧ (s.fe r).diag.running = true ∧ (t.fe r).st = .off ∧ (t.fe r).diag = { (s.fe r).diag with running := false, ended := 1, remaining := 0 } := by decide +kernel
theorem test_preambleDetect : let s : State := fe0 (fun f => { f with switchPending := some .fallback, switching := true }) (rdy asg); let r : Radio := 0; let p : Preamble := pre7; let w : State := takeDeferred s;
    Up s ∧ (w.fe r).st = .ready ∧ (w.fe r).switching = true ∧ goes (.preambleDetect r p.toCorrelation p.toTracking) s = true := by decide +kernel
theorem test_preambleDetect_2 : let s : State := rdy asg; let r : Radio := 0; let p : Preamble := { pre7 with cfo := 400000 }; let w : State := takeDeferred s;
    Up s ∧ ((w.fe r).st ≠ .ready ∨ (w.fe r).switching = false) ∧ (hears w r = false ∨ acquires w r p = false) ∧ goes (.preambleDetect r p.toCorrelation p.toTracking) s = true := by decide +kernel
theorem test_preambleDetect_3 : let s : State := rdy asg; let r : Radio := 0; let p : Preamble := pre7; let w : State := takeDeferred s;
    Up s ∧ hears w r = true ∧ acquires w r p = true ∧ (w.fe r).rx = none ∧ goes (.preambleDetect r p.toCorrelation p.toTracking) s = true := by decide +kernel
theorem test_newCorrelation : 
    True := by decide +kernel
theorem test_newCorrelation_2 : 
    True := by decide +kernel
theorem test_newCorrelation_3 : let s : State := fe0 (fun f => { f with rx := some { refPower := -700, sigOk := true } }) rxing; let r : Radio := 0; let p : Preamble := { pre7 with power := -600 }; let rc : Reception := { refPower := -700, sigOk := true }; let w : State := takeDeferred s;
    Up s ∧ (w.fe r).rx = some rc ∧ hears w r = true ∧ acquires w r p = true ∧ (if rc.sigOk then 100 else 60) ≤ p.power - rc.refPower ∧ goes (.restart r p) s = true := by decide +kernel
theorem test_restartNone : let s : State := rdy asg; let r : Radio := 0; let p : Preamble := pre7; let w : State := takeDeferred s;
    Up s ∧ ((w.fe r).rx = none ∨ hears w r = false ∨ acquires w r p = false) ∧ goes (.restart r p) s = true := by decide +kernel
theorem test_signalFieldDecode : let s : State := rdy asg; let r : Radio := 0; let sf : SigField := sfOk; let fm : Option Nat := some 1; let us : List RxUser := []; let w : State := takeDeferred s;
    Up s ∧ ((w.fe r).rx = none ∨ (∃ rc, (w.fe r).rx = some rc ∧ rc.sigOk = true)) ∧ goes (.signalFieldDecode r sf fm us) s = true := by decide +kernel
theorem test_signalFieldDecode_2 : let s : State := rxing; let r : Radio := 0; let sf : SigField := sfBad; let fm : Option Nat := none; let us : List RxUser := []; let rc := { refPower := -700 }; let w : State := takeDeferred s;
    Up s ∧ (w.fe r).rx = some rc ∧ rc.sigOk = false ∧ goes (.signalFieldDecode r sf fm us) s = true := by decide +kernel
theorem test_signalFieldDecode_3 : let s : State := rxing; let r : Radio := 0; let sf : SigField := sfOk; let fm : Option Nat := some 1; let us : List RxUser := [⟨true, 3000, 2⟩, ⟨true, 3000, 2⟩]; let rc := { refPower := -700 }; let w : State := takeDeferred s;
    Up s ∧ (w.fe r).rx = some rc ∧ rc.sigOk = false ∧ goes (.signalFieldDecode r sf fm us) s = true := by decide +kernel
theorem test_nfIntervalEnd : let s : State := rdy asg; let r : Radio := 0; let x : Trx := 0; let c : Chan := ch6; let win : List NfWindow := List.replicate 64 (win4 (-9800)); let ws : List Int := ((win.filter qualifies).map (normalised s x (sliceOf c))); let t := after (.nfIntervalEnd r x win) s;
    Up s ∧ trxAssign s x = r.val + 1 ∧ (s.fe r).chan = some c ∧ ws = (win.filter qualifies).map (normalised s x (sliceOf c)) ∧ t.objB 0x2131 (x + 1) = nfEnc (noiseFloor ws) ++ le 4 ws.length ++ s.datum.t.enc ∧ t.rf = s.rf := by decide +kernel
theorem test_nfIntervalEnd_2 : let s : State := rdy asg; let r : Radio := 0; let x : Trx := 0; let c : Chan := ch6; let win : List NfWindow := []; let ws : List Int := ((win.filter qualifies).map (normalised s x (sliceOf c))); let t := after (.nfIntervalEnd r x win) s;
    Up s ∧ trxAssign s x = r.val + 1 ∧ (s.fe r).chan = some c ∧ ws = (win.filter qualifies).map (normalised s x (sliceOf c)) ∧ t.objB 0x2131 (x + 1) = nfEnc (noiseFloor ws) ++ le 4 ws.length ++ s.datum.t.enc ∧ t.rf = s.rf := by decide +kernel
theorem test_sentinelDwellEnd : let s : State := sent; let x : Trx := 2; let pw : List Int := []; let mv : List Nat := []; let e : Nat := 0; let ws : List Int := []; let t := after (.sentinelDwellEnd x pw mv) s;
    Up s ∧ trxAssign s x = 0 ∧ 0 < scanCount s x ∧ (s.trx x).powered = true ∧ (s.trx x).dwellFrom + 1000000 * s.objF 0x2030 (x + 1) 2 2 ≤ s.now ∧ e = (s.trx x).scanAt % scanCount s x ∧ ws = ((dwellWindows pw mv).filter fun o => !o.change).map (normalised s x (scanChan s x e)) ∧ (t.trx x).dwellFrom = s.now := by decide +kernel
theorem test_sentinelDwellEnd_2 : let s : State := rdy (sent.setObj 0x2001 1 [1]); let x : Trx := 2; let pw : List Int := List.replicate 40 (-9000); let mv : List Nat := [3]; let e : Nat := 0; let ws : List Int := ((dwellWindows pw mv).filter fun o => !o.change).map (normalised s x (scanChan s x e)); let t := after (.sentinelDwellEnd x pw mv) s;
    Up s ∧ trxAssign s x = 0 ∧ 0 < scanCount s x ∧ (s.trx x).powered = true ∧ (s.trx x).dwellFrom + 1000000 * s.objF 0x2030 (x + 1) 2 2 ≤ s.now ∧ e = (s.trx x).scanAt % scanCount s x ∧ ws = ((dwellWindows pw mv).filter fun o => !o.change).map (normalised s x (scanChan s x e)) ∧ (t.trx x).dwellFrom = s.now := by decide +kernel
theorem test_channelChangeDone : let s : State := chg; let r : Radio := 0; let temps : List Int := [250]; let us : Nat := 190; let t := after (.channelChangeDone r temps us) s;
    Up s ∧ (s.fe r).st = .changing ∧ diagPending (s.fe r) = false ∧ (s.fe r).pending = none ∧ (s.fe r).held = [] ∧ (s.cr r).due = false ∧ (t.fe r).st = .ready ∧ gateOpen (t.fe r) = true ∧ (t.fe r).chan = (s.fe r).chan := by decide +kernel
theorem test_lockLost : let s : State := fe0 (fun f => { f with air := [air7] }) (rdy asg); let r : Radio := 0; let w : State := takeDeferred s;
    Up s ∧ (w.fe r).st ≠ .off ∧ (w.fe r).st ≠ .fault ∧ (w.fe r).st ≠ .diag ∧ diagPending (w.fe r) = false ∧ goes (.lockLost r) s = true := by decide +kernel
theorem test_lockLostDiag : let s : State := diagS; let r : Radio := 0; let w : State := takeDeferred s;
    Up s ∧ (w.fe r).st = .diag ∧ goes (.lockLost r) s = true := by decide +kernel
theorem test_relockDone : let s : State := relk; let r : Radio := 0; let temps : List Int := [250]; let t := after (.relockDone r temps) s;
    Up s ∧ (s.fe r).st = .relock ∧ diagPending (s.fe r) = false ∧ (s.fe r).pending = none ∧ (s.fe r).held = [] ∧ (s.cr r).due = false ∧ (t.fe r).st = .ready ∧ (t.fe r).chan = (s.fe r).chan := by decide +kernel
theorem test_faultRetry : let s : State := flt; let r : Radio := 0; let locks : Bool := true; let temps : List Int := [250]; let t := after (.faultRetry r locks temps) s;
    Up s ∧ (s.fe r).st = .fault ∧ diagPending (s.fe r) = false ∧ (s.fe r).pending = none ∧ (s.fe r).held = [] ∧ (s.cr r).due = false ∧ (t.fe r).st = (if locks then .ready else .fault) := by decide +kernel
theorem test_faultRetry_2 : let s : State := flt; let r : Radio := 0; let locks : Bool := false; let temps : List Int := [250]; let t := after (.faultRetry r locks temps) s;
    Up s ∧ (s.fe r).st = .fault ∧ diagPending (s.fe r) = false ∧ (s.fe r).pending = none ∧ (s.fe r).held = [] ∧ (s.cr r).due = false ∧ (t.fe r).st = (if locks then .ready else .fault) := by decide +kernel
theorem test_recalStart : let s : State := rdy asg; let r : Radio := 0; let temps : List Int := [90]; let w : State := takeDeferred s;
    Up s ∧ (w.fe r).st = .ready ∧ allowedBoundary w r w.now = true ∧ drifted w r temps = true ∧ goes (.recalStart r temps) s = true := by decide +kernel
theorem test_recalDone : let s : State := fe0 (fun f => { f with st := .recal }) (rdy asg); let r : Radio := 0; let temps : List Int := [250]; let t := after (.recalDone r temps) s;
    Up s ∧ (s.fe r).st = .recal ∧ diagPending (s.fe r) = false ∧ (s.fe r).pending = none ∧ (s.fe r).held = [] ∧ (s.cr r).due = false ∧ (t.fe r).st = .ready := by decide +kernel
theorem test_heldRequestDeadline : let s : State := fe0 (fun f => { f with held := [heldP] }) chg; let r : Radio := 0; let p : PpduReq := heldP; let l : List PpduReq := []; let t := after (.heldRequestDeadline r p.id) s;
    Up s ∧ gateOpen (s.fe r) = false ∧ (s.fe r).held = p :: l ∧ p.deadline ≠ none ∧ p.kind ≠ 2 ∧ bit (t.objN 0x2051 (r + 1)) 1 = true := by decide +kernel
theorem test_abortRadioTx : let s : State := diagS; let r : Radio := 0;
    Up s ∧ goes (.abortRadioTx r) s = true := by decide +kernel
theorem test_abortRadioTx_2 : let s : State := rdy asg; let r : Radio := 0;
    Up s ∧ goes (.abortRadioTx r) s = true := by decide +kernel
theorem test_abortRadioTx_3 : let s : State := { fe0 (fun f => { f with air := [air7] }) (rdy asg) with now := 200 }; let r : Radio := 0;
    Up s ∧ goes (.abortRadioTx r) s = true := by decide +kernel
theorem test_abortRadioRx : let s : State := rxing; let r : Radio := 0;
    Up s ∧ goes (.abortRadioRx r) s = true := by decide +kernel

end Radio

/-! ### Security -/

namespace Sec

def k1 : KeySlot := { st := 1, typ := 1, material := List.replicate 16 7, salt := [], counter := 9 }
def keyed : State := { z with sec := { z.sec with slots := [(4, k1)] } }
def job7 : Job := { id := 7, cls := 2, slot := 4, tx := false, bytes := 64 }
def jobTx : Job := { id := 8, cls := 1, slot := 4, tx := true, bytes := 64 }
def waitJ (j : Job) : State := { keyed with sec := { keyed.sec with waiting := [j] } }
def onLane (j : Job) : State := keyed.modLane 2 fun x => { x with job := some j }

def vInstall : Bytes := [1] ++ le 2 4 ++ le 8 9 ++ zeros 4 ++ List.replicate 16 7 ++ zeros 16
def rk : Rekey := { kind := 1, slot := 4, counter := 9, stamp := {} }
def fused : State := { z with part := { z.part with fuses := vset z.part.fuses 0 (1, zeros 64) } }
def fused2 : State := { fused with part := { fused.part with fuses := vset fused.part.fuses 1 (1, zeros 64) } }

theorem test_cipherJobStart : let s : State := waitJ job7; let l : Fin 12 := 2; let j : Job := job7; let key : EccObs := .clean; let t := after (.cipherJobStart l key) s;
    Up s ∧ (s.lane l).job = none ∧ (s.lane l).enabled = true ∧ nextJob s = some j ∧ (keyAt s j.slot).st = 1 ∧ acceptsType j.cls (keyAt s j.slot).typ = true ∧ (j.tx = false ∨ j.retryPn = true) ∧ key ≠ .poisoned ∧ (t.lane l).job = some { j with typ := (keyAt s j.slot).typ, material := (keyAt s j.slot).material, salt := (keyAt s j.slot).salt } := by decide +kernel
theorem test_cipherJobStart_2 : let s : State := waitJ job7; let l : Fin 12 := 2; let j : Job := job7; let key : EccObs := .corrected; let t := after (.cipherJobStart l key) s;
    Up s ∧ (s.lane l).job = none ∧ (s.lane l).enabled = true ∧ nextJob s = some j ∧ (keyAt s j.slot).st = 1 ∧ acceptsType j.cls (keyAt s j.slot).typ = true ∧ (j.tx = false ∨ j.retryPn = true) ∧ key ≠ .poisoned ∧ (t.lane l).job = some { j with typ := (keyAt s j.slot).typ, material := (keyAt s j.slot).material, salt := (keyAt s j.slot).salt } := by decide +kernel
theorem test_cipherJobStartTx : let s : State := waitJ jobTx; let l : Fin 12 := 2; let j : Job := jobTx; let x : Nat := 2 ^ 48 - 1 - 2 ^ 24; let t := after (.cipherJobStart l .clean) s;
    Up s ∧ (s.lane l).job = none ∧ (s.lane l).enabled = true ∧ nextJob s = some j ∧ (keyAt s j.slot).st = 1 ∧ acceptsType j.cls (keyAt s j.slot).typ = true ∧ j.tx = true ∧ j.retryPn = false ∧ keyLimit s (keyAt s j.slot).typ = some x ∧ (keyAt s j.slot).counter < x ∧ mirroring s = false ∧ ((t.lane l).job).isSome = true ∧ (keyAt t j.slot).counter = (keyAt s j.slot).counter + 1 := by decide +kernel
theorem test_cipherKeyPoison : let s : State := keyed; let l : Fin 12 := 2;
    Up s ∧ ((s.lane l).job.isSome = true ∨ (s.lane l).enabled = false ∨ nextJob s = none) ∧ goes (.cipherJobStart l .clean) s = true := by decide +kernel
theorem test_cipherKeyPoison_2 : let s : State := waitJ job7; let l : Fin 12 := 2; let j : Job := job7; let t := after (.cipherJobStart l .poisoned) s;
    Up s ∧ (s.lane l).job = none ∧ (s.lane l).enabled = true ∧ nextJob s = some j ∧ (keyAt s j.slot).st = 1 ∧ acceptsType j.cls (keyAt s j.slot).typ = true ∧ (t.lane l).job = none ∧ (keyAt t j.slot).st = 3 ∧ bit (t.objN 0x6020 0) 1 = true := by decide +kernel
theorem test_cipherJobDone : let s : State := onLane job7; let l : Fin 12 := 2; let tagOk : Bool := false; let j : Job := job7; let t := after (.cipherJobDone l tagOk) s;
    Up s ∧ (s.lane l).job = some j ∧ (t.lane l).job = none ∧ (t.lane l).jobs = ((s.lane l).jobs + 1) % 2 ^ 64 := by decide +kernel
theorem test_cipherJobDone_2 : let s : State := onLane job7; let l : Fin 12 := 2; let tagOk : Bool := true; let j : Job := job7; let t := after (.cipherJobDone l tagOk) s;
    Up s ∧ (s.lane l).job = some j ∧ (t.lane l).job = none ∧ (t.lane l).jobs = ((s.lane l).jobs + 1) % 2 ^ 64 := by decide +kernel
theorem test_cipherJobDone_3 : let s : State := onLane jobTx; let l : Fin 12 := 2; let tagOk : Bool := true; let j : Job := jobTx; let t := after (.cipherJobDone l tagOk) s;
    Up s ∧ (s.lane l).job = some j ∧ (t.lane l).job = none ∧ (t.lane l).jobs = ((s.lane l).jobs + 1) % 2 ^ 64 := by decide +kernel
theorem test_attestDone : let s : State := { z with sec := { z.sec with attesting := some (List.replicate 32 5) } }; let n : Bytes := List.replicate 32 5;
    Up s ∧ s.sec.attesting = some n ∧ goes .attestDone s = true := by decide +kernel
theorem test_entropyFail : let s : State := z;
    Up s ∧ goes .entropyFail s = true := by decide +kernel
theorem test_entropyRestored : let s : State := after .entropyFail z;
    Up s ∧ goes .entropyRestored s = true := by decide +kernel
theorem test_install : let s : State := z; let n : Nat := 0xFF00; let rest : Bytes := vInstall; let x : Session := port0; let v := taken 0x6001 0 (1 :: rest); let t := after (.install n rest) s;
    (Up s ∧ sessOf s n = some x ∧ x.opened = true ∧ x.exec = none ∧ x.rights = 2 ∧ s.upd.resetDue = false) ∧ passes s 0x6001 0 (1 :: rest) = true ∧ keyTypes.contains (fld v 1 1) = true ∧ fld v 2 2 < 8192 ∧ (keyAt s (fld v 2 2)).st = 0 ∧ beyondLimit s (fld v 1 1) (fld v 4 8) = false ∧ (keyLen (fld v 1 1) = 16 → fld v 32 16 = 0) ∧ (s.sec.slots.any fun p => p.2.st != 0 && p.2.typ == fld v 1 1 && p.2.material == sub v 16 (keyLen (fld v 1 1))) = false ∧ (t.lastResp.map fun z => (z.idx, z.el, (z.abort, z.detail))) = some (0x6001, 0, ok) ∧ (keyAt t (fld v 2 2)).st = 1 ∧ (keyAt t (fld v 2 2)).typ = fld v 1 1 := by decide +kernel
theorem test_erase : let s : State := keyed; let n : Nat := 0xFF00; let rest : Bytes := [0] ++ le 2 4 ++ zeros 44; let x : Session := port0; let k := fld (taken 0x6001 0 (2 :: rest)) 2 2; let t := after (.erase n rest) s;
    (Up s ∧ sessOf s n = some x ∧ x.opened = true ∧ x.exec = none ∧ x.rights = 2 ∧ s.upd.resetDue = false) ∧ passes s 0x6001 0 (2 :: rest) = true ∧ k < 8192 ∧ (keyAt s k).st ≠ 0 ∧ (t.lastResp.map fun z => (z.idx, z.el, (z.abort, z.detail))) = some (0x6001, 0, ok) ∧ (keyAt t k).st = 0 := by decide +kernel
theorem test_rekeyPop : let s : State := { keyed with sec := { keyed.sec with rekeys := [rk] } }; let n : Nat := 0xFF00; let v : Bytes := []; let x : Session := port0; let r : Rekey := rk; let l : List Rekey := []; let t := after (.rekeyPop n v) s;
    (Up s ∧ sessOf s n = some x ∧ x.opened = true ∧ x.exec = none ∧ x.rights = 2 ∧ s.upd.resetDue = false) ∧ passes s 0x6004 0 v = true ∧ s.sec.rekeys = r :: l ∧ (t.lastResp.map fun z => (z.idx, z.el, (z.abort, z.detail))) = some (0x6004, 0, ok) := by decide +kernel
theorem test_attest : let s : State := z; let n : Nat := 0xFF00; let v : Bytes := List.replicate 32 5; let x : Session := port0; let t := after (.attest n v) s;
    (Up s ∧ sessOf s n = some x ∧ x.opened = true ∧ x.exec = none ∧ x.rights = 2 ∧ s.upd.resetDue = false) ∧ passes s 0x6110 0 v = true ∧ s.sec.idFault = false ∧ s.sec.entropyOk = true ∧ s.sec.attesting = none ∧ (t.lastResp.map fun z => (z.idx, z.el, (z.abort, z.detail))) = some (0x6110, 0, ok) := by decide +kernel
theorem test_extend : let s : State := z; let n : Nat := 0xFF00; let v : Bytes := [6, 0] ++ zeros 64; let x : Session := port0;
    (Up s ∧ sessOf s n = some x ∧ x.opened = true ∧ x.exec = none ∧ x.rights = 2 ∧ s.upd.resetDue = false) ∧ passes s 0x6112 0 v = true ∧ 0xFF00 ≤ n ∧ goes (.extend n v) s = true := by decide +kernel
theorem test_program : let s : State := fused; let n : Nat := 0xFF00; let rest : Bytes := [2, 0] ++ zeros 4 ++ List.replicate 64 3 ++ zeros 172; let env : Env := {}; let x : Session := port0; let v := taken 0x6122 0 (1 :: rest); let t := after (.program n rest env) s;
    (Up s ∧ sessOf s n = some x ∧ x.opened = true ∧ x.exec = none ∧ x.rights = 2 ∧ s.upd.resetDue = false) ∧ passes s 0x6122 0 (1 :: rest) = true ∧ fuseState s (fld v 2 1) = 1 ∧ env.keyOk = true ∧ env.sigOk = true ∧ fld v 4 2 = s.part.fuseSeq ∧ 1 ≤ fld v 1 1 ∧ fld v 1 1 ≤ 3 ∧ fuseState s (fld v 1 1) = 0 ∧ s.power.supplyLow = false ∧ (t.lastResp.map fun z => (z.idx, z.el, (z.abort, z.detail))) = some (0x6122, 0, ok) ∧ vget t.part.fuses (fld v 1 1) (0, []) = (1, sub v 8 64) ∧ t.part.fuseSeq = (s.part.fuseSeq + 1) % 65536 := by decide +kernel
theorem test_revoke : let s : State := fused2; let n : Nat := 0xFF00; let rest : Bytes := [1, 0] ++ zeros 240; let env : Env := {}; let x : Session := port0; let v := taken 0x6122 0 (2 :: rest); let t := after (.revoke n rest env) s;
    (Up s ∧ sessOf s n = some x ∧ x.opened = true ∧ x.exec = none ∧ x.rights = 2 ∧ s.upd.resetDue = false) ∧ passes s 0x6122 0 (2 :: rest) = true ∧ fuseState s (fld v 2 1) = 1 ∧ env.keyOk = true ∧ env.sigOk = true ∧ fld v 4 2 = s.part.fuseSeq ∧ fld v 1 1 ≤ 3 ∧ fuseState s (fld v 1 1) = 1 ∧ fld v 1 1 ≠ fld v 2 1 ∧ s.power.supplyLow = false ∧ (t.lastResp.map fun z => (z.idx, z.el, (z.abort, z.detail))) = some (0x6122, 0, ok) ∧ fuseState t (fld v 1 1) = 2 ∧ t.part.fuseSeq = (s.part.fuseSeq + 1) % 65536 := by decide +kernel
theorem test_debugDisable : let s : State := fused; let n : Nat := 0xFF00; let rest : Bytes := [0, 0] ++ zeros 240; let env : Env := {}; let x : Session := port0; let v := taken 0x6122 0 (3 :: rest); let t := after (.debugDisable n rest env) s;
    (Up s ∧ sessOf s n = some x ∧ x.opened = true ∧ x.exec = none ∧ x.rights = 2 ∧ s.upd.resetDue = false) ∧ passes s 0x6122 0 (3 :: rest) = true ∧ fuseState s (fld v 2 1) = 1 ∧ env.keyOk = true ∧ env.sigOk = true ∧ fld v 4 2 = s.part.fuseSeq ∧ s.power.supplyLow = false ∧ (t.lastResp.map fun z => (z.idx, z.el, (z.abort, z.detail))) = some (0x6122, 0, ok) ∧ t.part.debugOff = true ∧ t.part.fuseSeq = (s.part.fuseSeq + 1) % 65536 := by decide +kernel
theorem test_respond : let s : State := { fused with sec := { fused.sec with challenge := some (zeros 32, 0) } }; let n : Nat := 0xFF00; let rest : Bytes := [0, 1] ++ zeros 172; let env : Env := {}; let x : Session := port0; let c : Bytes := zeros 32; let at_ : Nat := 0; let v := taken 0x6130 0 (2 :: rest);
    (Up s ∧ sessOf s n = some x ∧ x.opened = true ∧ x.exec = none ∧ x.rights = 2 ∧ s.upd.resetDue = false) ∧ passes s 0x6130 0 (2 :: rest) = true ∧ s.sec.challenge = some (c, at_) ∧ s.now ≤ at_ + 60000000000 ∧ fuseState s (fld v 1 1) = 1 ∧ env.keyOk = true ∧ env.sigOk = true ∧ s.part.debugOff = false ∧ goes (.respond n rest env) s = true := by decide +kernel
theorem test_challenge : let s := z; let t := after (.challenge 0xFF00 (zeros 174)) s;
    (Up s ∧ sessOf s 0xFF00 = some port0 ∧ port0.opened = true ∧ port0.exec = none ∧ port0.rights = 2 ∧ s.upd.resetDue = false) ∧ passes s 0x6130 0 (1 :: zeros 174) = true ∧ s.sec.idFault = false ∧ s.sec.entropyOk = true ∧
    (t.lastResp.map fun r => (r.idx, r.abort)) = some (0x6130, 0) ∧ t.sec.challenge.isSome = true := by decide +kernel

end Sec

/-! ### Traffic manager and wired ports -/

namespace Tm

def qf1 : QFrame := { id := 3, bytes := List.replicate 60 1, len := 64, cls := 0, tid := 0, dst := 0, entry := (0, 0), stamp := {}, cells := 1, inDram := false, weight := 1, burst := 0, seg := none, tstamp := false, ingress := none, truncated := false }
def tf1 (q : Nat) : TmFrame := { id := 3, ingress := none, cls := 0, tid := 0, dst := 0, entry := (0, 0), src := (0, 0), queues := [q], tstamp := false, seg := none, truncated := false, bytes := List.replicate 60 1 }
def ethUp : State := (z.setObj 0x5800 1 [3, 238, 5, 0]).modEth 0 fun e => { e with link := true }

def g0 : Gate := { enabled := true, entries := [(1, 1000), (2, 1000)], cycle := 2000 }
def staTm : State := z.setObj 0x3100 1 ([3, 0, 0, 0] ++ le 2 1 ++ [2, 0, 0, 0, 0, 1] ++ le 2 0xFFFF ++ [0, 0] ++ le 3 0x249249 ++ le 3 0x249249 ++ zeros 32 ++ [1] ++ zeros 89)
def ring0 : State := ((((z.setReg 0x13040000 0x2000).setReg 0x13040008 (2 ^ 31 + 0x304)).setReg 0x1304000C 4).setObj 0x4600 1 [1, 0, 0, 0]).setQueue 8224 { frames := [qf1] }
def ringS : State := storeBytes ring0 0x2000 (le 8 0x8000)
def queued : State := after (.frameEnqueue (tf1 8192)) ethUp
def rxf : RxFrame := { len := 64, fcsOk := true, etherType := 0x800, secTag := none, pcp := 0, velmoti := false, fecUncorr := 0, bytes := List.replicate 60 1 }
def pausing : State := ((z.setObj 0x5803 1 ([2, 0, 255, 255] ++ le 4 1 ++ le 4 0)).modEth 0 fun e => { e with pausing := 1 }).setQueue 8192 { frames := [{ qf1 with ingress := some 0 }] }
def txr : State := storeBytes (((z.setReg 0x13040800 0x2000).setReg 0x13040808 (2 ^ 31 + 0x304))) 0x2000 (le 8 0x8000 ++ le 8 (60 * 2 ^ 32 + 0xFF06))
def rootS : State := { z with wired := { z.wired with pcieRoot := true, pcieLink := true } }

theorem test_refill : let s : State := z.setObj 0x5010 3 (le 4 8000 ++ le 4 100);
    Up s ∧ memOk s = true ∧ regOk s = true ∧ objOk s = true ∧ goes .refill s = true := by decide +kernel
theorem test_gateEntryChange : let s : State := { z with tm := { z.tm with nextGate := vset z.tm.nextGate 1 (some g0) }, datum := { z.datum with t := { ns := 1500 } } }; let g : Fin 5 := 1; let t := after (.gateEntryChange g) s;
    Up s ∧ vget t.tm.gateEntry g.val 0 = entryIndex (vget t.tm.gates g.val {}) s.datum.t.units := by decide +kernel
theorem test_dramReturn : let s : State := staTm.setQueue 3 { frames := [{ qf1 with inDram := true }] }; let q : Nat := 3; let n : Nat := 1; let f : QFrame := { qf1 with inDram := true }; let t := after (.dramReturn q) s;
    Up s ∧ qSta q = some n ∧ (s.queue q).frames = [f] ∧ f.inDram = true ∧ asleepAll s n f.tid = false ∧ f.cells ≤ s.tm.freeCells ∧ (t.queue q).frames = [{ f with inDram := false }] := by decide +kernel
theorem test_ringRxDeliver : let s : State := ringS; let k : Fin 16 := 0; let q : Nat := 8224; let f : QFrame := qf1; let b := ringBase (.coreRx k); let a := s.regAt b + 32 * ringHead s b; let t := after (.ringRxDeliver ⟨.coreRx k, .clean, []⟩) s;
    Up s ∧ queueOf (.coreRx k) = some q ∧ ringReady s (.coreRx k) = true ∧ pairSends s q = true ∧ (s.queue q).frames = [f] ∧ f.seg = none ∧ ringAvail s (ringBase (.coreRx k)) ≠ 0 ∧ f.bytes.length ≤ ringBuf s (ringBase (.coreRx k)) ∧ (t.queue q).frames = [] ∧ bit (readWord t (a + 8)) 0 = true ∧ t.regAt (b + 0x10) = (ringHead s b + 1) % ringSize s b := by decide +kernel
theorem test_frameEnqueue : let s : State := z; let f : TmFrame := tf1 8192; let q : Nat := 8192;
    Up s ∧ f.queues = [q] ∧ q < 8443 ∧ (¬ (8296 ≤ q ∧ q < 8440 ∧ f.dst ≠ 0 ∧ s.objF 0x3810 f.dst 0 1 = 3)) ∧ policerOf s f = 0 ∧ (s.queue q).frames.any (·.inDram) = false ∧ chipCells (s.queue q) + cdiv (f.bytes.length + 4) 256 ≤ qLimit s q ∧ tgetD s.tm.cellRefs f.id 0 = 0 ∧ cdiv (f.bytes.length + 4) 256 + (if q < 8192 then s.objN 0x5041 0 else 0) ≤ s.tm.freeCells ∧ goes (.frameEnqueue f) s = true := by decide +kernel
theorem test_egressRequest : let s : State := queued; let p : Fin 2 := 0; let named : Option Nat := none; let ac : Option Nat := none; let bad : List Nat := []; let q : Nat := 8192; let f : QFrame := ((queued.queue 8192).frames.headD qf1); let u : State := (selectQueue (countHolds s 0) 0 (portEligible (countHolds s 0) 0)).2; let t := after (.egressRequest (.eth p) named ac .clean bad) s;
    Up s ∧ portUp s p.val = true ∧ selectQueue (countHolds s p.val) p.val (portEligible (countHolds s p.val) p.val) = (some q, u) ∧ (u.queue q).frames = [f] ∧ f.seg = none ∧ f.sentSegs = 0 ∧ f.tstamp = false ∧ oversize u p.val f.bytes = false ∧ macsecGrowth u p.val f.bytes = 0 ∧ portFits u p.val q s.datum.t.units (f.bytes.length + 4) = true ∧ t.tm.sent = { frame := f.id, port := p.val, fcsBad := f.truncated, bytes := f.bytes } :: s.tm.sent ∧ (t.queue q).frames = [] := by decide +kernel
theorem test_ethFrameReceive : let s : State := ethUp; let p : Fin 3 := 0; let f : RxFrame := rxf;
    Up s ∧ portUp s p.val = true ∧ (p.val < 2 → macsecOn s p.val = false) ∧ f.fecUncorr = 0 ∧ f.fcsOk = true ∧ 64 ≤ f.len ∧ f.len ≤ (if p.val < 2 then ethMax s p.val else fieldMax s) ∧ goes (.ethFrameReceive p f) s = true := by decide +kernel
theorem test_linkDown : let s : State := ethUp; let p : Fin 4 := 0; let t := after (.linkDown p) s;
    Up s ∧ portUp s p.val = true ∧ portUp t p.val = false ∧ bit (t.objN 0x5860 (p.val + 1)) 0 = true := by decide +kernel
theorem test_linkUp : let s : State := (z.setObj 0x5800 2 [3, 238, 5, 0]).setObj 0x1310 0 (le 2 400 ++ le 2 100 ++ le 2 0); let p : Fin 4 := 1; let fec : Bool := true; let an : Nat := 7; let speed : Nat := 0; let width : Nat := 0; let t := after (.linkUp p fec an speed width) s;
    Up s ∧ (p.val < 2 → ethMode s p.val ≠ 0) ∧ (s.start.limp = true → p.val = 2) ∧ (p.val < 2 → (portPowered s 6 p.val (portCharge (ethMode s p.val))).2 = true) ∧ (p.val = 3 → (portPowered s 7 0 (6 * width)).2 = true) ∧ portUp t p.val = true := by decide +kernel
theorem test_linkUp_2 : let s : State := z.setObj 0x1310 0 (le 2 400 ++ le 2 100 ++ le 2 0); let p : Fin 4 := 3; let fec : Bool := true; let an : Nat := 7; let speed : Nat := 2; let width : Nat := 2; let t := after (.linkUp p fec an speed width) s;
    Up s ∧ (p.val < 2 → ethMode s p.val ≠ 0) ∧ (s.start.limp = true → p.val = 2) ∧ (p.val < 2 → (portPowered s 6 p.val (portCharge (ethMode s p.val))).2 = true) ∧ (p.val = 3 → (portPowered s 7 0 (6 * width)).2 = true) ∧ portUp t p.val = true := by decide +kernel
theorem test_linkUpRefused : let s : State := z.setObj 0x1310 0 (le 2 274 ++ le 2 100 ++ le 2 0); let p : Fin 4 := 3; let fec : Bool := true; let an : Nat := 7; let speed : Nat := 2; let width : Nat := 2;
    Up s ∧ s.start.limp = false ∧ (p.val < 2 → ethMode s p.val ≠ 0 ∧ (portPowered s 6 p.val (portCharge (ethMode s p.val))).2 = false) ∧ p.val ≠ 2 ∧ (p.val = 3 → (portPowered s 7 0 (6 * width)).2 = false) ∧ goes (.linkUp p fec an speed width) s = true := by decide +kernel
theorem test_pauseReceive : let s : State := ethUp.setObj 0x5803 1 ([1, 0, 255, 255] ++ zeros 8); let p : Fin 2 := 0; let k : Nat := 40; let t := after (.pauseReceive p false 0 [k]) s;
    Up s ∧ pauseMode s p.val = 1 ∧ k ≠ 0 ∧ bit (t.objN 0x5860 (p.val + 1)) 5 = true := by decide +kernel
theorem test_pauseReceivePfc : let s : State := ethUp.setObj 0x5803 1 ([2, 0, 255, 255] ++ zeros 8); let p : Fin 2 := 0; let vec : Nat := 4; let ks : List Nat := [1, 2, 3, 4, 5, 6, 7, 8];
    Up s ∧ pauseMode s p.val = 2 ∧ ks.length = 8 ∧ goes (.pauseReceive p true vec ks) s = true := by decide +kernel
theorem test_pauseExpiry : let s : State := z.modEth 1 fun e => { e with paused := Vector.replicate 8 40 }; let p : Fin 2 := 1; let c : Fin 8 := 3; let t := after (.pauseExpiry p c) s;
    Up s ∧ vget (s.eth p.val).pauseEnd c.val 0 ≤ s.now ∧ vget (t.eth p.val).paused c.val 0 = 0 := by decide +kernel
theorem test_pauseRunning : let s : State := z.modEth 1 fun e => { e with paused := Vector.replicate 8 40, pauseEnd := Vector.replicate 8 40 }; let p : Fin 2 := 1; let c : Fin 8 := 3;
    Up s ∧ s.now < vget (s.eth p.val).pauseEnd c.val 0 ∧ goes (.pauseExpiry p c) s = true := by decide +kernel
theorem test_pauseRefresh : let s : State := { pausing with now := 1000000000 }; let p : Fin 2 := 0; let c : Fin 8 := 0; let b := if pauseMode s p.val = 1 then 0 else c.val; let q := s.objF 0x5803 (p.val + 1) 2 2; let t := after (.pauseRefresh p c) s;
    Up s ∧ pauseMode s p.val ≠ 0 ∧ bit (s.eth p.val).pausing b = true ∧ s.objF 0x5803 (p.val + 1) 8 4 < occupancyOf s p.val (if pauseMode s p.val = 1 then none else some c.val) ∧ vget (s.eth p.val).pauseAt b 0 + quantaNs s p.val q / 2 ≤ s.now ∧ 80 ≤ (s.objB 0x5802 (p.val + 1)).length ∧ vget (t.eth p.val).pauseAt b 0 = s.now ∧ t.objF 0x5802 (p.val + 1) 72 8 = min (s.objF 0x5802 (p.val + 1) 72 8 + 1) (2 ^ 64 - 1) := by decide +kernel
theorem test_txRingDoorbell : let s : State := txr; let j : Fin 4 := 0; let tail : Nat := 1; let words : List Nat := []; let bufs : List Bytes := []; let bad : List Nat := []; let d : TxDesc := (txDescs (txr.setReg 0x1304080C 1) (.coreTx 0) [] [] []).head (by decide +kernel); let t := after (.txRingDoorbell (.coreTx j) tail words bufs bad) s;
    Up s ∧ ringOn s (ringBase (.coreTx j)) = true ∧ txDescs (s.setReg (ringBase (.coreTx j) + 0xC) (tail % 4096)) (.coreTx j) words bufs bad = [d] ∧ d.isSeg = false ∧ d.sop = true ∧ d.eop = true ∧ d.bytes ≠ 0 ∧ d.bad = false ∧ bits d.w1 8 8 = 0xFF ∧ t.regAt (ringBase (.coreTx j) + 0xC) = tail % 4096 ∧ t.regAt (ringBase (.coreTx j) + 0x10) = (ringHead s (ringBase (.coreTx j)) + 1) % ringSize s (ringBase (.coreTx j)) := by decide +kernel
theorem test_plcaLost : let s : State := { (z.setObj 0x5820 0 [1, 2, 8, 32, 0, 128, 238, 5]) with wired := { z.wired with plcaOk := true } }; let t := after .plcaLost s;
    Up s ∧ plcaFollower s = true ∧ s.wired.plcaOk = true ∧ bit (t.objN 0x5860 3) 6 = true := by decide +kernel
theorem test_plcaRestored : let s : State := z;
    Up s ∧ s.objF 0x5820 0 0 1 = 1 ∧ goes .plcaRestored s = true := by decide +kernel
theorem test_uartDataWrite : let s : State := z; let c : CoreId := 0; let v : Nat := 0x141; let t := after (.uartDataWrite c v) s;
    Up s ∧ (uartDrain s).wired.uartTx.length < 64 ∧ t.wired.uartTx = (uartDrain s).wired.uartTx ++ [BitVec.ofNat 8 v] ∧ t.wired.uartSent = (uartDrain s).wired.uartSent := by decide +kernel
theorem test_uartDataRead : let s : State := { z with wired := { z.wired with uartRx := [7, 8] } }; let c : CoreId := 2; let x : Byte := 7; let l : Bytes := [8]; let t := after (.uartDataRead c) s;
    Up s ∧ s.wired.uartRx = x :: l ∧ (t.core c).readData = 256 + x.toNat := by decide +kernel
theorem test_uartRxByte : let s : State := z; let b : Byte := 9;
    Up s ∧ goes (.uartRxByte b) s = true := by decide +kernel
theorem test_uartRxByte_2 : let s : State := { z with wired := { z.wired with uartRx := zeros 64 } }; let b : Byte := 9;
    Up s ∧ goes (.uartRxByte b) s = true := by decide +kernel
theorem test_aerUncorrectable : let s : State := z; let t := after .aerUncorrectable s;
    Up s ∧ t.wired.aerUncorr = (s.wired.aerUncorr + 1) % 2 ^ 32 ∧ bit (t.objN 0x5860 4) 8 = true := by decide +kernel
theorem test_gpioOutWrite : let s : State := z.setObj 0x5840 4 [1, 0, 0]; let n : Nat := 0xFF00; let v : Bytes := le 4 0xFF; let x : Session := port0; let t := after (.gpioOutWrite n v) s;
    (Up s ∧ sessOf s n = some x ∧ x.opened = true ∧ x.exec = none ∧ x.rights = 2 ∧ s.upd.resetDue = false) ∧ passes s 0x5842 0 v = true ∧ reservedBy s none 0x5842 0 = false ∧ (t.lastResp.map fun z => (z.idx, z.el, (z.abort, z.detail))) = some (0x5842, 0, ok) := by decide +kernel
theorem test_pcieCfgRead : let s : State := rootS; let n : Nat := 0xFF00; let rest : Bytes := [0, 0, 0] ++ zeros 6; let env : Env := { pcie := some 0x1234 }; let x : Session := port0; let d : Nat := 0x1234; let t := after (.pcieCfgRead n rest env) s;
    (Up s ∧ sessOf s n = some x ∧ x.opened = true ∧ x.exec = none ∧ x.rights = 2 ∧ s.upd.resetDue = false) ∧ passes s 0x5832 0 (1 :: rest) = true ∧ s.wired.pcieRoot = true ∧ s.wired.pcieLink = true ∧ env.pcie = some d ∧ (t.lastResp.map fun z => (z.idx, z.el, (z.abort, z.detail))) = some (0x5832, 0, ok) ∧ (tgetD t.dict.cmds (okey 0x5832 0) {}).out = le 4 d := by decide +kernel
theorem test_pcieCfgWrite : let s : State := rootS; let n : Nat := 0xFF00; let rest : Bytes := [0, 0, 0] ++ zeros 6; let env : Env := { pcie := some 0 }; let x : Session := port0; let d : Nat := 0; let t := after (.pcieCfgWrite n rest env) s;
    (Up s ∧ sessOf s n = some x ∧ x.opened = true ∧ x.exec = none ∧ x.rights = 2 ∧ s.upd.resetDue = false) ∧ passes s 0x5832 0 (2 :: rest) = true ∧ s.wired.pcieRoot = true ∧ s.wired.pcieLink = true ∧ env.pcie = some d ∧ (t.lastResp.map fun z => (z.idx, z.el, (z.abort, z.detail))) = some (0x5832, 0, ok) := by decide +kernel
theorem test_i2cXfer : let s : State := z; let n : Nat := 0xFF00; let v : Bytes := [0, 0x50, 1, 2, 9]; let env : Env := { i2c := .acked [5, 6, 7] }; let x : Session := port0; let rd : Bytes := [5, 6, 7]; let t := after (.i2cXfer n v env) s;
    (Up s ∧ sessOf s n = some x ∧ x.opened = true ∧ x.exec = none ∧ x.rights = 2 ∧ s.upd.resetDue = false) ∧ passes s 0x5851 0 v = true ∧ (taken 0x5851 0 v).length = 4 + fld (taken 0x5851 0 v) 2 1 ∧ env.i2c = .acked rd ∧ (t.lastResp.map fun z => (z.idx, z.el, (z.abort, z.detail))) = some (0x5851, 0, ok) ∧ (tgetD t.dict.cmds (okey 0x5851 0) {}).out = rd.take (fld (taken 0x5851 0 v) 3 1) := by decide +kernel

end Tm

/-! ### MAC -/

namespace Mac

def wlan0 : State := (z.setObj 0x2100 1 [1]).modFe 0 fun f => { f with st := .ready, rx := some { refPower := -700, sigOk := true, format := some 1 } }
def entry (st ps : Nat) : Bytes := le 1 st ++ [0, 0, 0] ++ le 2 1 ++ [2, 0, 0, 0, 0, 1] ++ le 2 0xFFFF ++ [0, 0] ++ le 3 0x249249 ++ le 3 0x249249 ++ zeros 32 ++ [1] ++ le 1 ps ++ zeros 88
def sta1 : State := wlan0.setObj 0x3100 1 (entry 3 0)
def rxm : RxMpdu := { kind := 0, sta := 1, tid := 0, sn := 5, pn := 0, retry := false, fcsOk := true, protect := false, micOk := true, ackReq := false, fourAddr := false, snap := true, etherType := 0x800, pmBit := false, endsExchange := false, report := none, bss := 0, addr := [2, 0, 0, 0, 0, 1], robust := false, rssi := 0, rate := 0, body := zeros 30, more := [] }
def rxc : RxCtx := { sta := 1, tid := 0, win := 64, wstart := 3 }
def withRx (c : RxCtx) : State := { sta1 with mac := { sta1.mac with rxBa := [(2, c)] } }

def heldC : RxCtx := { rxc with held := [{ sn := 5, pn := 0, m := rxm }] }
def mtxS : State := storeBytes ((((wlan0.setReg (radioWindow 0 + 0x20) 0x2000).setReg (radioWindow 0 + 0x28) (2 ^ 31 + 4)))) 0x2000 (le 8 0x8000 ++ le 8 (0xFFFF * 2 ^ 48 + 30 * 2 ^ 32))
def vAlloc : Bytes := [0, 0, 0, 0, 2, 0, 0, 0, 0, 9, 0, 0]
def bss0 : State := wlan0.setObj 0x3010 1 ([1] ++ zeros 6 ++ [255, 0] ++ zeros 15)
def vBa (t w sn : Nat) : Bytes := [0] ++ le 2 1 ++ le 1 t ++ [0] ++ le 2 w ++ le 2 sn
def mtxD : MtxDesc := { idx := 0, sta := 0xFFFF, bss := 0, protect := 0, noAck := true, len := 30, life := 100 }
def onMtx (d : MtxDesc) : State := { mtxS with mac := { mtxS.mac with mtx := vset mtxS.mac.mtx 0 [d] } }
def regP : State := ((((((z.setObj 0x7000 0 [1]).setObj 0x7020 0 [1]).setObj 0x7020 1 (le 4 2400000 ++ le 4 2483500 ++ [4, 1] ++ le 2 200 ++ zeros 4)).setObj 0x2001 1 [1]).modFe 0 fun f => { f with st := .ready, chan := some (chanOf 2437000 20000) }).setObj 0x1311 1 ([2, 1] ++ le 2 250 ++ [8])).setObj 0x1310 0 (le 2 400 ++ le 2 100 ++ le 2 40)
def wlanP : State := ((regP.modTrx 0 fun x => { x with powered := true, calibrated := true }).setObj 0x2100 1 [1]).setObj 0x3010 1 ([1] ++ zeros 6 ++ [255, 0, 3] ++ zeros 14)
def mtxP (d : MtxDesc) : State := { storeBytes ((wlanP.setReg (radioWindow 0 + 0x20) 0x2000).setReg (radioWindow 0 + 0x28) (2 ^ 31 + 4)) 0x2000 (le 8 0x8000 ++ le 8 (0xFFFF * 2 ^ 48 + 30 * 2 ^ 32)) with mac := { wlanP.mac with mtx := vset wlanP.mac.mtx 0 [d] } }

/-- A beacon-protected descriptor. -/
def mtxB : MtxDesc := { mtxD with protect := 2 }

theorem test_blockAckReq : let s : State := withRx rxc; let r : Radio := 0; let sta : Nat := 1; let tid : Nat := 0; let sn : Nat := 9; let i : Nat := 2; let c : RxCtx := rxc;
    Up s ∧ isWlan s r = true ∧ delivers s r 0 = true ∧ rxCtx s sta tid = some (i, c) ∧ goes (.blockAckReq r sta tid sn) s = true := by decide +kernel
theorem test_blockAckReq_2 : let s : State := withRx rxc; let r : Radio := 0; let sta : Nat := 1; let tid : Nat := 0; let sn : Nat := 2; let i : Nat := 2; let c : RxCtx := rxc;
    Up s ∧ isWlan s r = true ∧ delivers s r 0 = true ∧ rxCtx s sta tid = some (i, c) ∧ goes (.blockAckReq r sta tid sn) s = true := by decide +kernel
theorem test_reorderTimeout : let s : State := { withRx heldC with now := 1000000000 }; let ctx : Nat := 2; let c : RxCtx := heldC; let h : HeldMpdu := heldC.held.head (by decide); let t := after (.reorderTimeout ctx) s;
    Up s ∧ tget s.mac.rxBa ctx = some c ∧ c.held = [h] ∧ h.since + s.objN 0x3021 0 * 1000000 ≤ s.now ∧ h.m.protect = false ∧ h.m.snap = true ∧ h.m.more = [] ∧ tget t.mac.rxBa ctx = some { c with held := [], wstart := snAdd h.sn 1 } ∧ bit (t.objN 0x3401 (lowLink s c.sta + 1)) 1 = true := by decide +kernel
theorem test_reorderTimeout_2 : let s : State := withRx heldC; let ctx : Nat := 2; let c : RxCtx := heldC; let h : HeldMpdu := heldC.held.head (by decide);
    Up s ∧ tget s.mac.rxBa ctx = some c ∧ c.held = [h] ∧ s.now < h.since + s.objN 0x3021 0 * 1000000 ∧ goes (.reorderTimeout ctx) s = true := by decide +kernel
theorem test_mpduReceive : let s : State := sta1; let r : Radio := 0; let m : RxMpdu := rxm; let w : State := takeDeferred s;
    Up s ∧ isWlan w r = true ∧ delivers w r m.user = true ∧ m.fcsOk = true ∧ m.ackReq = false ∧ m.kind = 0 ∧ 1 ≤ m.sta ∧ m.sta ≤ 2048 ∧ (w.objB 0x3100 m.sta).length = 144 ∧ staState w m.sta = 3 ∧ linkUp w m.sta r.val = true ∧ m.endsExchange = false ∧ m.report = none ∧ m.fourAddr = false ∧ m.protect = false ∧ m.retry = false ∧ mapBit (ulTtlm w m.sta) m.tid r.val = true ∧ rxCtx w m.sta m.tid = none ∧ m.snap = true ∧ m.more = [] ∧ goes (.mpduReceive r m) s = true := by decide +kernel
theorem test_mpduBad : let s : State := sta1; let r : Radio := 0; let m : RxMpdu := { rxm with fcsOk := false }; let w : State := takeDeferred s;
    Up s ∧ (m.fcsOk = false ∨ isWlan w r = false ∨ delivers w r m.user = false) ∧ goes (.mpduReceive r m) s = true := by decide +kernel
theorem test_aidRelease : let s : State := { z with mac := { z.mac with quar := [{ pool := 1, aid := 9, left := [3] }, { pool := 1, aid := 8, left := [] }] } }; let pool : Fin 3 := 1; let aid : Nat := 8; let tenSeconds : Bool := false;
    Up s ∧ goes (.aidRelease pool aid tenSeconds) s = true := by decide +kernel
theorem test_mtxDoorbell : let s : State := mtxS; let c : CoreId := 0; let r : Radio := 0; let tail : Nat := 1; let b := radioWindow r.val + 0x20; let a := s.regAt b / 64 * 64 + 32 * ringTail s b; let w := readWord s (a + 8); let t := after (.mtxDoorbell c r tail) s;
    Up s ∧ ringOn s b = true ∧ (tail % ringSize s b + ringSize s b - ringTail s b) % ringSize s b = 1 ∧ 24 ≤ bits w 32 16 ∧ bits w 32 16 ≤ 4096 ∧ bits w 26 2 = 0 ∧ bits w 48 16 = 0xFFFF ∧ t.regAt (b + 0xC) = tail % 4096 := by decide +kernel
theorem test_mtxComplete : let s : State := onMtx { mtxD with sta := 5 }; let r : Radio := 0; let desc : Nat := 0; let status : Nat := 0; let d : MtxDesc := { mtxD with sta := 5 }; let gone := d.sta ≠ 0xFFFF ∧ staState s d.sta = 0;
    Up s ∧ (s.mac.mtx[r]).find? (fun d => d.idx == desc) = some d ∧ gone ∧ goes (.mtxComplete r desc status) s = true := by decide +kernel
theorem test_mtxComplete_2 : let s : State := { onMtx mtxD with now := 1000000000 }; let r : Radio := 0; let desc : Nat := 0; let status : Nat := 0; let d : MtxDesc := mtxD; let expired := d.since + 1000 * (if d.life = 0 then 1000000 else d.life) ≤ s.now; let gone := d.sta ≠ 0xFFFF ∧ staState s d.sta = 0;
    Up s ∧ (s.mac.mtx[r]).find? (fun d => d.idx == desc) = some d ∧ (¬ gone) ∧ expired ∧ goes (.mtxComplete r desc status) s = true := by decide +kernel
theorem test_mtxComplete_3 : let s : State := (onMtx mtxD).modFe 0 fun f => { f with st := .fault }; let r : Radio := 0; let desc : Nat := 0; let status : Nat := 0; let d : MtxDesc := mtxD; let expired := d.since + 1000 * (if d.life = 0 then 1000000 else d.life) ≤ s.now; let gone := d.sta ≠ 0xFFFF ∧ staState s d.sta = 0; let q := mtxRadio s r d;
    Up s ∧ (s.mac.mtx[r]).find? (fun d => d.idx == desc) = some d ∧ (¬ gone) ∧ (¬ expired) ∧ status ≤ 1 ∧ (s.fe q).st = .fault ∧ goes (.mtxComplete r desc status) s = true := by decide +kernel
theorem test_mtxComplete_4 : let s : State := (onMtx mtxD).modFe 0 fun f => { f with st := .changing }; let r : Radio := 0; let desc : Nat := 0; let status : Nat := 0; let d : MtxDesc := mtxD; let expired := d.since + 1000 * (if d.life = 0 then 1000000 else d.life) ≤ s.now; let gone := d.sta ≠ 0xFFFF ∧ staState s d.sta = 0; let q := mtxRadio s r d;
    Up s ∧ (s.mac.mtx[r]).find? (fun d => d.idx == desc) = some d ∧ (¬ gone) ∧ (¬ expired) ∧ (1 < status ∨ ((s.fe q).st ≠ .fault ∧ (gateOpen (s.fe q) = false ∨ mtxHeld s r q d = true))) ∧ goes (.mtxComplete r desc status) s = true := by decide +kernel
theorem test_staAlloc : let s : State := bss0; let n : Nat := 0xFF00; let v : Bytes := vAlloc; let x : Session := port0; let i : Nat := 0; let a : Nat := 0; let u := taken 0x3102 0 v; let t := after (.staAlloc n v) s;
    (Up s ∧ sessOf s n = some x ∧ x.opened = true ∧ x.exec = none ∧ x.rights = 2 ∧ s.upd.resetDue = false) ∧ passes s 0x3102 0 v = true ∧ fld u 2 1 ≠ 2 ∧ (findLt 2048 fun k => staState s (k + 1) == 0) = some i ∧ (findLt 2007 fun k => !aidTaken s (bssPool s (fld u 0 1) (fld u 1 1)) (k + 1)) = some a ∧ bssOn s (fld u 0 1) (fld u 1 1) = true ∧ ((setElements s 0x3100).any fun m => decide (1 ≤ m) && staState s m != 0 && sub (s.objB 0x3100 m) 6 6 == sub u 4 6) = false ∧ (t.lastResp.map fun z => (z.idx, z.el, (z.abort, z.detail))) = some (0x3102, 0, ok) ∧ (tgetD t.dict.cmds (okey 0x3102 0) {}).out = le 2 (i + 1) ++ le 2 (a + 1) ∧ staState t (i + 1) = 1 := by decide +kernel
theorem test_staEntryWrite : let s : State := wlan0.setObj 0x3100 1 (entry 1 1); let n : Nat := 0xFF00; let el : Nat := 1; let v : Bytes := entry 3 0; let x : Session := port0; let u := taken 0x3100 el v; let t := after (.staEntryWrite n el v) s;
    (Up s ∧ sessOf s n = some x ∧ x.opened = true ∧ x.exec = none ∧ x.rights = 2 ∧ s.upd.resetDue = false) ∧ passes s 0x3100 el v = true ∧ reservedBy s none 0x3100 el = false ∧ 1 ≤ el ∧ staState s el ≠ 0 ∧ sub u 1 2 = sub (s.objB 0x3100 el) 1 2 ∧ sub u 4 8 = sub (s.objB 0x3100 el) 4 8 ∧ fld u 0 1 ≠ 0 ∧ staGroupOk s (fld u 26 2) = true ∧ fld u 26 2 = staGroup s el ∧ mapsServed u (fld u 16 3) = true ∧ mapsServed u (fld u 19 3) = true ∧ (∀ r < 3, linkUp s el r = true → fld u (linkOff r 6) 1 ≠ 0) ∧ (t.lastResp.map fun z => (z.idx, z.el, (z.abort, z.detail))) = some (0x3100, el, ok) ∧ t.objB 0x3100 el = (List.range 3).foldl (fun v r => patch v (linkOff r 7) (sub (s.objB 0x3100 el) (linkOff r 7) 1)) u := by decide +kernel
theorem test_staFree : let s : State := { sta1 with mac := { sta1.mac with aids := [1] } }; let n : Nat := 0xFF00; let v : Bytes := [1, 0]; let x : Session := port0; let k := fld (taken 0x3103 0 v) 0 2; let t := after (.staFree n v) s;
    (Up s ∧ sessOf s n = some x ∧ x.opened = true ∧ x.exec = none ∧ x.rights = 2 ∧ s.upd.resetDue = false) ∧ passes s 0x3103 0 v = true ∧ 1 ≤ k ∧ k ≤ 2048 ∧ staState s k ≠ 0 ∧ s.mac.rxBa = [] ∧ s.mac.txBa = [] ∧ twtSet s = [] ∧ (∀ r : Radio, s.mac.mtx[r] = []) ∧ staAid s k ≠ 0 ∧ (t.lastResp.map fun z => (z.idx, z.el, (z.abort, z.detail))) = some (0x3103, 0, ok) ∧ staState t k = 0 ∧ (2048 * staMld s k + staAid s k) ∉ t.mac.aids := by decide +kernel
theorem test_addRx : let s : State := sta1; let n : Nat := 0xFF00; let rest : Bytes := vBa 0 64 7; let x : Session := port0; let i : Nat := 0; let u := taken 0x3202 0 (1 :: rest); let t := after (.addRx n rest) s;
    (Up s ∧ sessOf s n = some x ∧ x.opened = true ∧ x.exec = none ∧ x.rights = 2 ∧ s.upd.resetDue = false) ∧ passes s 0x3202 0 (1 :: rest) = true ∧ 1 ≤ fld u 6 2 ∧ fld u 6 2 ≤ 1024 ∧ fld u 8 2 ≤ 4095 ∧ rxCtx s (fld u 2 2) (fld u 4 1) = none ∧ freeCtx s.mac.rxBa = some i ∧ (t.lastResp.map fun z => (z.idx, z.el, (z.abort, z.detail))) = some (0x3202, 0, ok) ∧ (tgetD t.dict.cmds (okey 0x3202 0) {}).out = le 2 (i + 1) ∧ tget t.mac.rxBa i = some { sta := fld u 2 2, tid := fld u 4 1, win := fld u 6 2, wstart := fld u 8 2 } := by decide +kernel
theorem test_addTx : let s : State := sta1; let n : Nat := 0xFF00; let rest : Bytes := vBa 0 64 7; let x : Session := port0; let i : Nat := 0; let u := taken 0x3202 0 (2 :: rest); let t := after (.addTx n rest) s;
    (Up s ∧ sessOf s n = some x ∧ x.opened = true ∧ x.exec = none ∧ x.rights = 2 ∧ s.upd.resetDue = false) ∧ passes s 0x3202 0 (2 :: rest) = true ∧ 1 ≤ fld u 6 2 ∧ fld u 6 2 ≤ 1024 ∧ fld u 8 2 ≤ 4095 ∧ txCtx s (fld u 2 2) (fld u 4 1) = none ∧ freeCtx s.mac.txBa = some i ∧ (t.lastResp.map fun z => (z.idx, z.el, (z.abort, z.detail))) = some (0x3202, 0, ok) ∧ (tgetD t.dict.cmds (okey 0x3202 0) {}).out = le 2 (i + 1) ∧ tget t.mac.txBa i = some { sta := fld u 2 2, tid := fld u 4 1, win := fld u 6 2, wstart := fld u 8 2 } := by decide +kernel
theorem test_deleteRx : let s : State := withRx rxc; let n : Nat := 0xFF00; let rest : Bytes := vBa 0 1 0; let x : Session := port0; let i : Nat := 2; let c : RxCtx := rxc; let u := taken 0x3202 0 (3 :: rest); let t := after (.deleteRx n rest) s;
    (Up s ∧ sessOf s n = some x ∧ x.opened = true ∧ x.exec = none ∧ x.rights = 2 ∧ s.upd.resetDue = false) ∧ passes s 0x3202 0 (3 :: rest) = true ∧ rxCtx s (fld u 2 2) (fld u 4 1) = some (i, c) ∧ c.held = [] ∧ (t.lastResp.map fun z => (z.idx, z.el, (z.abort, z.detail))) = some (0x3202, 0, ok) ∧ tget t.mac.rxBa i = none := by decide +kernel
theorem test_deleteTx : let s : State := { sta1 with mac := { sta1.mac with txBa := [(2, { sta := 1, tid := 0, win := 64, wstart := 3 })] } }; let n : Nat := 0xFF00; let rest : Bytes := vBa 0 1 0; let x : Session := port0; let i : Nat := 2; let c : TxCtx := { sta := 1, tid := 0, win := 64, wstart := 3 }; let u := taken 0x3202 0 (4 :: rest); let t := after (.deleteTx n rest) s;
    (Up s ∧ sessOf s n = some x ∧ x.opened = true ∧ x.exec = none ∧ x.rights = 2 ∧ s.upd.resetDue = false) ∧ passes s 0x3202 0 (4 :: rest) = true ∧ txCtx s (fld u 2 2) (fld u 4 1) = some (i, c) ∧ (t.lastResp.map fun z => (z.idx, z.el, (z.abort, z.detail))) = some (0x3202, 0, ok) ∧ tget t.mac.txBa i = none := by decide +kernel
theorem test_mtxSent : let s : State := (mtxP mtxD).setObj 0x7000 0 [0]; let r : Radio := 0; let desc : Nat := 0; let status : Nat := 0; let d : MtxDesc := mtxD; let code := 0x24; let q := mtxRadio s r d;
    Up s ∧ (s.mac.mtx[r]).find? (fun d => d.idx == desc) = some d ∧ (d.sta = 0xFFFF ∨ staState s d.sta ≠ 0) ∧ s.now < d.since + 1000 * (if d.life = 0 then 1000000 else d.life) ∧ status ≤ 1 ∧ gateOpen (s.fe q) = true ∧ (ctlFamily s q).isSome = true ∧ mtxHeld s r q d = false ∧ (match (mtxAir s q d).2 with | .error c => c == code | _ => false) = true ∧ goes (.mtxComplete r desc status) s = true := by decide +kernel
theorem test_mtxSent_2 : let s : State := mtxP mtxD; let r : Radio := 0; let desc : Nat := 0; let status : Nat := 0; let d : MtxDesc := mtxD; let a : State := (mtxAir s 0 d).1; let q := mtxRadio s r d;
    Up s ∧ (s.mac.mtx[r]).find? (fun d => d.idx == desc) = some d ∧ (d.sta = 0xFFFF ∨ staState s d.sta ≠ 0) ∧ s.now < d.since + 1000 * (if d.life = 0 then 1000000 else d.life) ∧ status ≤ 1 ∧ gateOpen (s.fe q) = true ∧ (ctlFamily s q).isSome = true ∧ mtxHeld s r q d = false ∧ (mtxAir s q d).2.isOk = true ∧ (match (mtxPlace a r q d).2 with | .value _ => true | _ => false) = true ∧ goes (.mtxComplete r desc status) s = true := by decide +kernel
theorem test_mtxSent_3 : let s : State := { mtxP mtxB with sec := { (mtxP mtxB).sec with slots := [(0, { st := 2, typ := 3, material := [], salt := [], counter := 9 })] } }; let r : Radio := 0; let desc : Nat := 0; let status : Nat := 0; let d : MtxDesc := mtxB; let a : State := (mtxAir s 0 d).1; let q := mtxRadio s r d;
    Up s ∧ (s.mac.mtx[r]).find? (fun d => d.idx == desc) = some d ∧ (d.sta = 0xFFFF ∨ staState s d.sta ≠ 0) ∧ s.now < d.since + 1000 * (if d.life = 0 then 1000000 else d.life) ∧ status ≤ 1 ∧ gateOpen (s.fe q) = true ∧ (ctlFamily s q).isSome = true ∧ mtxHeld s r q d = false ∧ (mtxAir s q d).2.isOk = true ∧ (match (mtxPlace a r q d).2 with | .exhausted => true | _ => false) = true ∧ goes (.mtxComplete r desc status) s = true := by decide +kernel

end Mac

/-! ### Plans and TWT -/

namespace Plan

def wlan1 : State := (z.setObj 0x2100 1 [1]).modFe 0 fun f => { f with st := .ready }
def entryP (st ps : Nat) : Bytes := le 1 st ++ [0, 0, 0] ++ le 2 1 ++ [2, 0, 0, 0, 0, 1] ++ le 2 0xFFFF ++ [0, 0] ++ le 3 0x249249 ++ le 3 0x249249 ++ zeros 32 ++ [1] ++ le 1 ps ++ zeros 88
def staP : State := wlan1.setObj 0x3100 1 (entryP 3 0)
def agr (flags : Byte) : Bytes := le 2 1 ++ [0, 2, flags, 1] ++ le 2 4 ++ zeros 8 ++ le 4 4096 ++ zeros 4
def twtS (flags : Byte) : State := staP.setObj 0x3600 5 (agr flags)

def pl : Plan := { at_ := 0, ul := false, ac := 2, form := 0, users := [], units := 0, snap := [], cands := 3, stamp := { ns := 7 }, group := [] }
def regS : State := ((((z.setObj 0x7000 0 [1]).setObj 0x7020 0 [1]).setObj 0x7020 1 (le 4 2400000 ++ le 4 2483500 ++ [4, 1] ++ le 2 200 ++ zeros 4)).setObj 0x2001 1 [1]).modFe 0 fun f => { f with st := .ready, chan := some (chanOf 2437000 20000) }
def regB : State := ((regS.modTrx 0 fun x => { x with powered := true, calibrated := true }).setObj 0x1311 1 ([2, 1] ++ le 2 250 ++ [8])).setObj 0x1310 0 (le 2 400 ++ le 2 100 ++ le 2 40)
def vTwt : Bytes := [0] ++ le 2 1 ++ [0, 2, 0, 0] ++ le 2 4 ++ zeros 8 ++ le 4 4096

theorem test_planSnapshot : let s : State := wlan1.setObj 0x3500 1 (1 :: (wlan1.objB 0x3500 1).drop 1); let r : Radio := 0; let ul : Bool := false; let ac : Nat := 2; let t := after (.planSnapshot r ul ac) s;
    Up s ∧ isWlan s r = true ∧ planFlagOn s r.val (if ul then 1 else 0) = true ∧ ac < 4 ∧ (s.fe r).st ≠ .off ∧ t.mac.planning[r] = some (takeSnapshot s r ul ac) := by decide +kernel
theorem test_planDone : let s : State := { z with mac := { z.mac with planning := vset z.mac.planning 1 (some pl) } }; let r : Radio := 1; let ns : Nat := 50000; let p : Plan := pl; let t := after (.planDone r ns) s;
    Up s ∧ s.mac.planning[r] = some p ∧ t.mac.planning[r] = none ∧ t.mac.plan[r] = some p ∧ t.objB 0x3501 (r.val + 1) = p.stamp.enc ++ le 2 p.cands ++ le 2 p.users.length ++ le 2 0 ++ le 1 (min 255 p.units) ++ le 2 (min ns 40000) := by decide +kernel
theorem test_bookingRetry : let s : State := regB; let r : Radio := 1;
    Up s ∧ (s.fe r).st = .off ∧ goes (.bookingRetry r) s = true := by decide +kernel
theorem test_bookingRetry_2 : let s : State := regB; let r : Radio := 0; let u := 18; let t := after (.bookingRetry r) s;
    Up s ∧ (s.fe r).st ≠ .off ∧ (isWlan s r = false ∨ planFlagOn s r.val 3 = false) ∧ grantUnits s 10 (bookKey r.val 0 0) = 0 ∧ highestUnits s r = some u ∧ u ≠ 0 ∧ u ≤ roomFor s 10 (bookKey r.val 0 0) true ∧ grantUnits t 10 (bookKey r.val 0 0) = u := by decide +kernel
theorem test_bookingRetry_3 : let s : State := after (.bookingRetry 0) regB; let r : Radio := 0;
    Up s ∧ 0 < grantUnits s 10 (bookKey r.val 0 0) ∧ (isWlan s r = false ∨ planFlagOn s r.val 3 = false ∨ 0 < grantUnits s 10 (bookKey r.val 0 1)) ∧ goes (.bookingRetry r) s = true := by decide +kernel
theorem test_twtSpStart : let s : State := twtS 0; let a : Fin 1024 := 4; let x := 0;
    Up s ∧ twtActive s a.val = true ∧ s.mac.spOpen.contains a.val = false ∧ spPhase s a.val = some x ∧ x ≤ 4 ∧ goes (.twtSpStart a) s = true := by decide +kernel
theorem test_twtSpStart_2 : let s : State := twtS 2; let a : Fin 1024 := 4; let x := 0;
    Up s ∧ twtActive s a.val = true ∧ s.mac.spOpen.contains a.val = false ∧ spPhase s a.val = some x ∧ x ≤ 4 ∧ goes (.twtSpStart a) s = true := by decide +kernel
theorem test_twtSpStart_3 : let s : State := z; let a : Fin 1024 := 4;
    Up s ∧ (twtActive s a.val = false ∨ s.mac.spOpen.contains a.val = true ∨ spPhase s a.val = none ∨ ∃ x, spPhase s a.val = some x ∧ 4 < x) ∧ goes (.twtSpStart a) s = true := by decide +kernel
theorem test_twtSpEnd : let s : State := { after (.twtSpStart 4) (twtS 1) with mac := { (after (.twtSpStart 4) (twtS 1)).mac with tsf := 2000 } }; let a : Fin 1024 := 4; let t := after (.twtSpEnd a) s;
    Up s ∧ s.mac.spOpen.contains a.val = true ∧ (spPhase s a.val = none ∨ (∃ x, spPhase s a.val = some x ∧ (twtF s a.val 6 2 * 256 ≤ x ∨ twtF s a.val 16 4 ≤ twtF s a.val 6 2 * 256))) ∧ twtAwake t a.val = false := by decide +kernel
theorem test_twtSpEnd_2 : let s : State := after (.twtSpStart 4) (twtS 1); let a : Fin 1024 := 4; let x := 0;
    Up s ∧ s.mac.spOpen.contains a.val = true ∧ spPhase s a.val = some x ∧ x < twtF s a.val 6 2 * 256 ∧ twtF s a.val 6 2 * 256 < twtF s a.val 16 4 ∧ goes (.twtSpEnd a) s = true := by decide +kernel
theorem test_twtAdd : let s : State := staP; let n : Nat := 0xFF00; let rest : Bytes := vTwt; let x : Session := port0; let a : Nat := 0; let u := taken 0x3601 0 (1 :: rest); let t := after (.twtAdd n rest) s;
    (Up s ∧ sessOf s n = some x ∧ x.opened = true ∧ x.exec = none ∧ x.rights = 2 ∧ s.upd.resetDue = false) ∧ passes s 0x3601 0 (1 :: rest) = true ∧ 1 ≤ fld u 2 2 ∧ fld u 2 2 ≤ 2048 ∧ fld u 4 1 ≤ 2 ∧ fld u 5 1 ≤ 7 ∧ fld u 6 1 ≤ 3 ∧ fld u 8 2 ≠ 0 ∧ fld u 8 2 ≤ 255 ∧ 1024 ≤ fld u 18 4 ∧ fld u 8 2 * 256 ≤ fld u 18 4 ∧ (findLt 1024 fun a => !twtActive s a) = some a ∧ (twtSet s).filter (fun a => twtActive s a && twtSta s a == fld u 2 2) = [] ∧ staState s (fld u 2 2) = 3 ∧ linkUp s (fld u 2 2) (fld u 4 1) = true ∧ (t.lastResp.map fun z => (z.idx, z.el, (z.abort, z.detail))) = some (0x3601, 0, ok) ∧ (tgetD t.dict.cmds (okey 0x3601 0) {}).out = le 2 (a + 1) ∧ t.objB 0x3600 (a + 1) = sub u 2 5 ++ [1] ++ sub u 8 14 ++ zeros 4 := by decide +kernel
theorem test_twtDelete : let s : State := twtS 0; let n : Nat := 0xFF00; let rest : Bytes := [0] ++ le 2 1 ++ [2]; let x : Session := port0; let a : Nat := 4; let u := taken 0x3601 0 (2 :: rest); let t := after (.twtDelete n rest) s;
    (Up s ∧ sessOf s n = some x ∧ x.opened = true ∧ x.exec = none ∧ x.rights = 2 ∧ s.upd.resetDue = false) ∧ passes s 0x3601 0 (2 :: rest) = true ∧ (findLt 1024 fun a => twtActive s a && twtSta s a == fld u 2 2 && twtF s a 3 1 == fld u 4 1) = some a ∧ (t.lastResp.map fun z => (z.idx, z.el, (z.abort, z.detail))) = some (0x3601, 0, ok) ∧ (tgetD t.dict.cmds (okey 0x3601 0) {}).out = le 2 (a + 1) ∧ twtActive t a = false := by decide +kernel

end Plan

/-! ### PPDUs and beacons -/

namespace Ppdu

def regP : State := ((((((z.setObj 0x7000 0 [1]).setObj 0x7020 0 [1]).setObj 0x7020 1 (le 4 2400000 ++ le 4 2483500 ++ [4, 1] ++ le 2 200 ++ zeros 4)).setObj 0x2001 1 [1]).modFe 0 fun f => { f with st := .ready, chan := some (chanOf 2437000 20000) }).setObj 0x1311 1 ([2, 1] ++ le 2 250 ++ [8])).setObj 0x1310 0 (le 2 400 ++ le 2 100 ++ le 2 40)
def wlanP : State := ((regP.modTrx 0 fun x => { x with powered := true, calibrated := true }).setObj 0x2100 1 [1]).setObj 0x3010 1 ([1] ++ zeros 6 ++ [255, 0, 3] ++ zeros 14)
def entryT (ps caps : Nat) : Bytes := [3, 0, 0, 1] ++ le 2 1 ++ [2, 0, 0, 0, 0, 1] ++ le 2 0xFFFF ++ [0, 0] ++ le 3 0x249249 ++ le 3 0x249249 ++ zeros 32 ++ [1] ++ le 1 ps ++ zeros 3 ++ le 1 caps ++ zeros 84
def staT : State := wlanP.setObj 0x3100 1 (entryT 0 0)
def qfT : QFrame := { id := 3, bytes := List.replicate 60 1, len := 64, cls := 0, tid := 0, dst := 1, entry := (0, 0), stamp := {}, cells := 1, inDram := false, weight := 1, burst := 0, seg := none, tstamp := false, ingress := none, truncated := false }
def mpT : TxMpdu := { sta := 1, tid := 0, sn := 5, pn := 0, frame := qfT, tries := 1 }
def rqT : PpduReq := { kind := 1, id := 7, ac := 0, sta := some 1, mpdus := 1, durNs := 1000, dsss := false, deadline := none, power := 600, rffeDone := true, partnerIdle := true, busy := 0, form := 0, late := 0 }
def flyT : State := ({ staT with mac := { staT.mac with inFlight := vset staT.mac.inFlight 0 [mpT] } }).modFe 0 fun f => { f with tx := some { req := rqT, s := 0, power := 0, mpdus := [(1, 0, 5)], awaiting := true } }

def bkd : State := let s := (wlanP.book (bookKey 0 1 2) 18).1.setObj 0x3010 3 ([1] ++ zeros 6 ++ [255, 0, 3] ++ le 2 100 ++ le 2 2 ++ zeros 10); { s with mac := { s.mac with dtimCount := [(3, 2)], tsf := 32 } }
def prq : ProbeReq := { ssid := [], bssid := List.replicate 6 0xFF, addr := zeros 6, body := [] }
def prb : State := bkd.setObj 0x3012 3 (zeros 34 ++ le 2 12 ++ List.replicate 12 7)
def fet : State := { staT with mac := { staT.mac with fetched := vset staT.mac.fetched 0 [qfT] } }
def pol : State := { staT with mac := { staT.mac with retry := [mpT] } }
def usr (v : Bool) : TbUser := { sta := 1, valid := v, ac := 2, bytes := 700, lossSymbols := [] }
def prs : State := let s := ((staT.setObj 0x3100 1 ([3, 0, 2] ++ (entryT 0 0).drop 3)).setObj 0x3500 1 (8 :: (staT.objB 0x3500 1).drop 1)).setObj 0x7030 0 [1]
  ((s.setObj 0x7030 1 (le 4 2400000 ++ le 4 2483500 ++ le 2 1000 ++ le 4 3600)).book (bookKey 0 0 1) 18).1
def jobR : Job := { id := 7, cls := 4, slot := 4, tx := false, bytes := 64, owner := .dma }
def lanP (j : Job) (s : State := z) : State := s.modLane 2 fun x => { x with job := some j }
def rxR : Option Reception := some { refPower := -700, sigOk := true, format := some 1 }
def rxP (s : State) : State := s.modFe 0 fun f => { f with rx := rxR }
def closedP (s : State) : State := s.modFe 0 fun f => { f with st := .changing }
def flyX : Transmission := { req := rqT, s := 0, power := 0, mpdus := [(1, 0, 5)], awaiting := true }
def regE : RegChan := { lo := 0, hi := 0, bw := 0, tx := false, power := 0, dwell := 0 }

theorem test_ackReceive : let s : State := flyT; let r : Radio := 0; let acked : List (Nat × Nat × Nat) := [(1, 0, 5)]; let m : TxMpdu := mpT; let w : State := takeDeferred s;
    Up s ∧ (w.fe r).tx.isSome = true ∧ (w.fe r).held = [] ∧ w.mac.inFlight[r] = [m] ∧ (w.objB 0x3400 (r.val + 1)).length = 52 ∧ goes (.ackReceive r acked) s = true := by decide +kernel
theorem test_ackReceive_2 : let s : State := flyT; let r : Radio := 0; let acked : List (Nat × Nat × Nat) := []; let m : TxMpdu := mpT; let w : State := takeDeferred s;
    Up s ∧ (w.fe r).tx.isSome = true ∧ (w.fe r).held = [] ∧ w.mac.inFlight[r] = [m] ∧ (w.objB 0x3400 (r.val + 1)).length = 52 ∧ goes (.ackReceive r acked) s = true := by decide +kernel
theorem test_ackNone : let s : State := staT; let r : Radio := 0; let acked : List (Nat × Nat × Nat) := []; let w : State := takeDeferred s;
    Up s ∧ (w.fe r).tx = none ∧ goes (.ackReceive r acked) s = true ∧ goes (.ackTimeout r) s = true := by decide +kernel
theorem test_ackTimeout : let s : State := flyT; let r : Radio := 0; let m : TxMpdu := mpT; let x : Transmission := flyX; let w : State := takeDeferred s;
    Up s ∧ (w.fe r).tx = some x ∧ (w.fe r).held = [] ∧ w.mac.inFlight[r] = [m] ∧ goes (.ackTimeout r) s = true := by decide +kernel
theorem test_ackTimeout_2 : let s : State := flyT.setObj 0x3100 1 (entryT 1 0); let r : Radio := 0; let m : TxMpdu := mpT; let x : Transmission := flyX; let w : State := takeDeferred s;
    Up s ∧ (w.fe r).tx = some x ∧ (w.fe r).held = [] ∧ w.mac.inFlight[r] = [m] ∧ goes (.ackTimeout r) s = true := by decide +kernel
theorem test_ackTimeout_3 : let s : State := { flyT with mac := { flyT.mac with inFlight := vset staT.mac.inFlight 0 [{ mpT with tries := 200 }] } }; let r : Radio := 0; let m : TxMpdu := { mpT with tries := 200 }; let x : Transmission := flyX; let w : State := takeDeferred s;
    Up s ∧ (w.fe r).tx = some x ∧ (w.fe r).held = [] ∧ w.mac.inFlight[r] = [m] ∧ goes (.ackTimeout r) s = true := by decide +kernel
theorem test_tbtt : let s : State := bkd; let r : Radio := 0; let b : Fin 16 := 2; let w : State := takeDeferred s;
    Up s ∧ isWlan w r = true ∧ bssOn w r.val b.val = true ∧ pairSends w 0 = true ∧ w.mac.tsf % (bssF w r.val b.val 10 2 * 1024) = 16 * bssF w r.val b.val 12 2 ∧ gateOpen (w.fe r) = true ∧ 0 < grantUnits w 10 (bookKey r.val 1 b.val) ∧ (powered w.draw.2 r (ownReq 2 b.val 3 0 w.draw.1 none)).2.isSome = true ∧ bit (bssF w r.val b.val 14 1) 0 = false ∧ tgetD w.mac.dtimCount (bssEl r.val b.val) 0 ≠ 0 ∧ goes (.tbtt r b true) s = true := by decide +kernel
theorem test_tbttBusy : let s : State := bkd; let r : Radio := 0; let b : Fin 16 := 2; let w : State := takeDeferred s;
    Up s ∧ isWlan w r = true ∧ bssOn w r.val b.val = true ∧ pairSends w 0 = true ∧ w.mac.tsf % (bssF w r.val b.val 10 2 * 1024) = 16 * bssF w r.val b.val 12 2 ∧ goes (.tbtt r b false) s = true := by decide +kernel
theorem test_tbttBusy_2 : let s : State := closedP bkd; let r : Radio := 0; let b : Fin 16 := 2; let w : State := takeDeferred s;
    Up s ∧ isWlan w r = true ∧ bssOn w r.val b.val = true ∧ pairSends w 0 = true ∧ w.mac.tsf % (bssF w r.val b.val 10 2 * 1024) = 16 * bssF w r.val b.val 12 2 ∧ gateOpen (w.fe r) = false ∧ (w.fe r).st ≠ .fault ∧ goes (.tbtt r b true) s = true := by decide +kernel
theorem test_tbttNot : let s : State := bkd; let r : Radio := 0; let b : Fin 16 := 3; let free : Bool := true; let w : State := takeDeferred s;
    Up s ∧ (isWlan w r = false ∨ bssOn w r.val b.val = false ∨ pairSends w 0 = false ∨ w.mac.tsf % (bssF w r.val b.val 10 2 * 1024) ≠ 16 * bssF w r.val b.val 12 2) ∧ goes (.tbtt r b free) s = true := by decide +kernel
theorem test_probeRequest : let s : State := rxP prb; let r : Radio := 0; let b : Fin 16 := 2; let p : ProbeReq := prq;
    Up s ∧ isWlan s r = true ∧ bssOn s r.val b.val = true ∧ delivers s r 0 = true ∧ pairSends s 0 = true ∧ s.objB 0x3012 (bssEl r.val b.val) ≠ [] ∧ p.ssid = [] ∧ p.bssid = List.replicate 6 0xFF ∧ gateOpen (s.fe r) = true ∧ (s.fe r).tx = none ∧ (powered s.draw.2 r (ownReq 1 b.val 3 4 s.draw.1 none)).2.isSome = true ∧ bit (bssF s r.val b.val 14 1) 2 = false ∧ goes (.probeRequest r b p) s = true := by decide +kernel
theorem test_probeNotMine : let s : State := prb; let r : Radio := 0; let b : Fin 16 := 2; let p : ProbeReq := prq;
    Up s ∧ (isWlan s r = false ∨ bssOn s r.val b.val = false ∨ delivers s r 0 = false ∨ (p.bssid ≠ List.replicate 6 0xFF ∧ p.bssid ≠ sub (s.objB 0x3010 (bssEl r.val b.val)) 1 6)) ∧ goes (.probeRequest r b p) s = true := by decide +kernel
theorem test_ppduAssembly : let s : State := fet; let r : Radio := 0; let p : PpduReq := rqT; let n : Nat := 1; let f : QFrame := qfT; let w : State := takeDeferred s;
    Up s ∧ isWlan w r = true ∧ (w.fe r).tx = none ∧ onAir w r = false ∧ (w.fe r).st = .ready ∧ pairSends w 0 = true ∧ p.kind = 1 ∧ p.form = 0 ∧ p.mpdus = 1 ∧ p.sta = some n ∧ (powered w r p).2.isSome = true ∧ userOk w r.val n p = true ∧ isGroup n = false ∧ w.mac.retry = [] ∧ w.mac.barOwed = [] ∧ (∀ k : Radio, w.mac.inFlight[k] = []) ∧ w.mac.fetched[r] = [f] ∧ (∀ k : Radio, k ≠ r → w.mac.fetched[k] = []) ∧ f.dst = n ∧ acOf f.tid = p.ac ∧ mapBit (dlTtlm w n) f.tid r.val = true ∧ f.len ≤ 2 ^ 32 ∧ txCtx w n f.tid = none ∧ staCipher w n = 0 ∧ staFlag w n 0 = true ∧ mirroring w = false ∧ goes (.ppduAssembly r p) s = true := by decide +kernel
theorem test_ppduHeld : let s : State := fet; let r : Radio := 0; let p : PpduReq := { rqT with kind := 4 }; let w : State := takeDeferred s;
    Up s ∧ (isWlan w r = false ∨ (w.fe r).tx.isSome = true ∨ onAir w r = true ∨ pairSends w 0 = false ∨ p.kind = 4) ∧ goes (.ppduAssembly r p) s = true := by decide +kernel
theorem test_ppduHeld_2 : let s : State := closedP fet; let r : Radio := 0; let p : PpduReq := rqT; let w : State := takeDeferred s;
    Up s ∧ isWlan w r = true ∧ (w.fe r).tx = none ∧ onAir w r = false ∧ gateOpen (w.fe r) = false ∧ pairSends w 0 = true ∧ p.kind ≠ 4 ∧ p.kind ≠ 0 ∧ (w.fe r).st ≠ .fault ∧ goes (.ppduAssembly r p) s = true := by decide +kernel
theorem test_ppduHeld_3 : let s : State := closedP fet; let r : Radio := 0; let p : PpduReq := { rqT with kind := 0 }; let w : State := takeDeferred s;
    Up s ∧ isWlan w r = true ∧ (w.fe r).tx = none ∧ onAir w r = false ∧ gateOpen (w.fe r) = false ∧ pairSends w 0 = true ∧ p.kind ≠ 4 ∧ p.kind = 0 ∧ goes (.ppduAssembly r p) s = true := by decide +kernel
theorem test_psPoll : let s : State := rxP pol; let r : Radio := 0; let n : Nat := 1; let a : Nat := 0; let l : List Nat := []; let m : TxMpdu := mpT; let t := after (.psPoll r n) s;
    Up s ∧ isWlan s r = true ∧ delivers s r 0 = true ∧ staState s n = 3 ∧ linkUp s n r.val = true ∧ heldAcs s r.val n [0, 1, 2, 3] = a :: l ∧ gateOpen (s.fe r) = true ∧ (s.fe r).tx = none ∧ nstrBlocked s.draw.2 r.val n { ownReq 1 0 a 5 s.draw.1 none with sta := some n, busy := 15 } = false ∧ (powered s.draw.2 r { ownReq 1 0 a 5 s.draw.1 none with sta := some n, busy := 15 }).2.isSome = true ∧ isGroup n = false ∧ (s.queue (qStation n a)).frames = [] ∧ s.mac.retry = [m] ∧ (∀ k : Radio, s.mac.inFlight[k] = []) ∧ m.sta = n ∧ acOf m.tid = a ∧ mpduSpent s r.val m = false ∧ m.frame.len ≤ 2 ^ 32 ∧ mapBit (dlTtlm s n) m.tid r.val = true ∧ txCtx s n m.tid = none ∧ 8192 ≤ m.slot ∧ t.mac.retry = [] := by decide +kernel
theorem test_powerSaveNot : let s : State := rxP pol; let r : Radio := 0; let n : Nat := 2; let k : Nat := 1; let acs : List Nat := [0];
    Up s ∧ (isWlan s r = false ∨ delivers s r 0 = false ∨ staState s n ≠ 3 ∨ linkUp s n r.val = false) ∧ goes (.psPoll r n) s = true ∧ goes (.uapsdTrigger r n ⟨k, acs⟩) s = true := by decide +kernel
theorem test_uapsdTrigger : let s : State := rxP (wlanP.setObj 0x3100 1 (entryT 1 32)); let r : Radio := 0; let n : Nat := 1; let k : Nat := 4; let acs : List Nat := [1];
    Up s ∧ isWlan s r = true ∧ delivers s r 0 = true ∧ staState s n = 3 ∧ linkUp s n r.val = true ∧ linkCaps s n r.val 5 = true ∧ heldAcs s r.val n acs = [] ∧ goes (.uapsdTrigger r n ⟨k, acs⟩) s = true := by decide +kernel
theorem test_uapsdTrigger_2 : let s : State := closedP (rxP (pol.setObj 0x3100 1 (entryT 1 32))); let r : Radio := 0; let n : Nat := 1; let k : Nat := 4; let acs : List Nat := [0]; let a := 0; let l := [];
    Up s ∧ isWlan s r = true ∧ delivers s r 0 = true ∧ staState s n = 3 ∧ linkUp s n r.val = true ∧ linkCaps s n r.val 5 = true ∧ heldAcs s r.val n acs = a :: l ∧ (gateOpen (s.fe r) = true → (s.fe r).tx.isSome = true) ∧ (s.fe r).st ≠ .fault ∧ goes (.uapsdTrigger r n ⟨k, acs⟩) s = true := by decide +kernel
theorem test_tbPpduReceive : let s : State := flyT; let r : Radio := 0; let start : Nat := 10000; let u : TbUser := usr true; let x : Transmission := flyX; let w : State := takeDeferred s;
    Up s ∧ (w.fe r).tx = some x ∧ (w.fe r).held = [] ∧ x.req.form ≠ 3 ∧ tbInTime w r start = true ∧ u.valid = true ∧ (u.bcc = true → u.rate ≤ 3467 ∧ u.nss ≤ 4) ∧ u.sta < 65536 ∧ u.ac < 4 ∧ u.bytes < 2 ^ 32 ∧ (w.objB 0x3510 u.sta).length = 64 ∧ goes (.tbPpduReceive r ⟨start, [u]⟩) s = true := by decide +kernel
theorem test_tbMissed : let s : State := { flyT with mac := { flyT.mac with missRun := [(1, 2)] } }; let r : Radio := 0; let start : Nat := 10000; let u : TbUser := usr false; let x : Transmission := flyX; let w : State := takeDeferred s;
    Up s ∧ (w.fe r).tx = some x ∧ (w.fe r).held = [] ∧ (u.valid = false ∨ tbInTime w r start = false) ∧ goes (.tbPpduReceive r ⟨start, [u]⟩) s = true := by decide +kernel
theorem test_tbNone : let s : State := staT; let r : Radio := 0; let start : Nat := 0; let us : List TbUser := [usr true]; let w : State := takeDeferred s;
    Up s ∧ (w.fe r).tx = none ∧ goes (.tbPpduReceive r ⟨start, us⟩) s = true := by decide +kernel
theorem test_peerTrigger : let s : State := rxP prs; let r : Radio := 0; let n : Nat := 1; let dur : Nat := 5000; let fam : Nat := 0; let i : Nat := 0; let cs : Bool := true; let busy : Bool := false; let c : Chan := chanOf 2437000 20000; let start : Nat := max (startOf s 0 c) (s.now + sifs c); let e : RegChan := (match regJudge s 0 c 600 start (5000 + rampDown s 0 0) with | .ok e => e | .error _ => regE); let t := after (.peerTrigger r n cs busy dur) s;
    Up s ∧ isWlan s r = true ∧ delivers s r 0 = true ∧ planFlagOn s r.val 3 = true ∧ staKind s n = 2 ∧ staState s n = 3 ∧ (cs && busy) = false ∧ gateOpen (s.fe r) = true ∧ peerBooked s r.val = true ∧ (s.fe r).chan = some c ∧ ctlFamily s r = some fam ∧ start = max (startOf s r c) (s.now + sifs c) ∧ (regJudge s r c 600 start (dur + rampDown s r fam)).isOk = true ∧ (grantedPower s r e c 600 (grantUnits s 10 (bookKey r.val 0 1))).isSome = true ∧ dutyBands s c = [i] ∧ i < 16 ∧ dutyUsed t i = dutyUsed s i + (dur + rampDown s r fam) := by decide +kernel
theorem test_peerTriggerNot : let s : State := rxP prs; let r : Radio := 0; let n : Nat := 1; let dur : Nat := 5000; let cs : Bool := true; let busy : Bool := true;
    Up s ∧ (isWlan s r = false ∨ delivers s r 0 = false ∨ planFlagOn s r.val 3 = false ∨ staKind s n ≠ 2 ∨ staState s n ≠ 3 ∨ (cs && busy) = true) ∧ goes (.peerTrigger r n cs busy dur) s = true := by decide +kernel
theorem test_laneParity : let s : State := lanP jobR; let l : Fin 12 := 2; let j : Job := jobR; let t := after (.laneParity l) s;
    Up s ∧ (s.lane l).job = some j ∧ (t.lane l).job = none ∧ (t.lane l).parity = ((s.lane l).parity + 1) % 2 ^ 32 ∧ (t.lane l).reload = true := by decide +kernel
theorem test_parityRetry : let s : State := lanP { jobR with cls := 1, tx := true, slot := 0xFFFF, owner := .mpdu } flyT; let l : Fin 12 := 2; let j : Job := { jobR with cls := 1, tx := true, slot := 0xFFFF, owner := .mpdu }; let m : TxMpdu := mpT; let t := after (.laneParity l) s;
    Up s ∧ (s.lane l).job = some j ∧ j.owner = .mpdu ∧ s.mac.inFlight[(0 : Radio)] = [m] ∧ s.mac.inFlight[(1 : Radio)] = [] ∧ s.mac.inFlight[(2 : Radio)] = [] ∧ m.pn = j.counter ∧ m.slot = j.slot ∧ t.mac.inFlight[(0 : Radio)] = [] ∧ t.mac.retry = { m with tries := m.tries - 1 } :: s.mac.retry := by decide +kernel
theorem test_abortCipherLane : let s : State := lanP jobR; let l : Fin 12 := 2; let j := jobR; let t := after (.abortCipherLane l) s;
    Up s ∧ (s.lane l).job = some j ∧ (t.lane l).job = none ∧ (t.lane l).aborts = ((s.lane l).aborts + 1) % 2 ^ 32 ∧ t.dict.lastAbort = le 1 3 ++ [0] ++ le 2 l.val := by decide +kernel
theorem test_abortCipherLane_2 : let s : State := z; let l : Fin 12 := 2; let t := after (.abortCipherLane l) s;
    Up s ∧ (s.lane l).job = none ∧ t.dict.lastAbort = le 1 3 ++ [0] ++ le 2 l.val ∧ t.dict.abortCode = 0 ∧ t.dict.abortNs = 0 := by decide +kernel

end Ppdu

/-! ### Chain mode -/

namespace Chain

def regC : State := (((((((z.setObj 0x7000 0 [1]).setObj 0x7020 0 [1]).setObj 0x7020 1 (le 4 2400000 ++ le 4 2483500 ++ [4, 1] ++ le 2 200 ++ zeros 4)).setObj 0x2001 1 [1]).modFe 0 fun f => { f with st := .ready, chan := some (chanOf 2437000 100) }).setObj 0x1311 1 ([2, 1] ++ le 2 250 ++ [8])).setObj 0x1310 0 (le 2 400 ++ le 2 100 ++ le 2 40)).setObj 0x2100 1 [2]
def chainS : State := (((regC.modTrx 0 fun x => { x with powered := true, calibrated := true }).setObj 0x3802 1 (le 4 2437000 ++ le 2 200 ++ [1, 0] ++ le 2 5)).setObj 0x3803 1 ([2, 0] ++ le 2 1 ++ [0, 79] ++ le 2 8 ++ [1, 19] ++ zeros 120)).setObj 0x6000 9 (zeros 16)
def keyC (s : State) : State := { s with sec := { s.sec with slots := [(0, { st := 1, typ := 3, material := List.replicate 16 7, salt := [], counter := 9 })] } }
def onC (f : ChainRadio → ChainRadio := id) : State := let s := keyC chainS; s.modCr 0 fun x => f { x with running := true, number := 4, sched := latchSched s 0 }
def memC (f : ChainRadio → ChainRadio := id) : State := (onC f).setObj 0x3800 1 [1]

def sharedS : State := let s := memC fun x => { x with inSlot := some 0, mst := .joining, joinDue := true, sched := { x.sched with persist := 0, runs := [(1, 2, 80)] } }
  s.setObj 0x3801 1 (zeros 10 ++ le 2 256 ++ [16, 0, 1, 1] ++ zeros 11)
def formC : State := ((onC fun x => { x with inSlot := some 0, slot := 1 }).book (bookKey 0 2 0) 18).1
def memE : Bytes := [1, 0] ++ le 2 0x20 ++ List.replicate 8 3 ++ le 2 0 ++ le 2 1 ++ zeros 32
def cfr : ChainFrame := { kind := 1, seq := 6, retry := false, more := false, missed := 0, srcShort := 0x20, srcExt := [], keyIndex := 1, counter := 12, fcsOk := true, micOk := true, ar := false, pan := 0, errUs := 0, rssi := 0, body := le 2 0x800 ++ [1, 2] }
def ctx (k : Nat) : ChainTx := { entry := 0, kind := 1, seq := 3, tries := k, body := [] }
def jr : JoinRec := { radio := 0, rejoin := false, ext := List.replicate 8 3, fsk := 1, ofdm := 0, rssi := 0, stamp := {} }
def pendC : State := let s : State := onC; s.setChain { s.chain with pending := vset s.chain.pending 2 (some jr) }
def vJoin : Bytes := [0] ++ le 2 3 ++ le 2 0x20 ++ le 2 0 ++ le 2 2 ++ [0, 0]
def rxC (s : State) : State := s.modFe 0 fun f => { f with rx := some { refPower := -700, sigOk := true, format := some 1 } }
/-- The chain timer at `k` ticks. -/
def tk (k : Nat) (s : State) : State := { s with now := 4 * k, chain := { s.chain with ticks := k } }
/-- The statement's transmission of a shared position. -/
def shR (s : State) (x : ChainTx) (k u n : Nat) : State × Option (Chan × Int) :=
  let w := s.draw.2.draw.2
  let o := 400000 + k * (s.cr 0).sched.step * 1000000 + n * ccaWindow w 0
  let g := w.requestUpTo 4 0 u
  let a := g.1.grant 10 (bookKey 0 5 0) g.2
  let rate := cfgBeaconRate (s.objB 0x3801 1)
  chainMay a 0 (bookKey 0 5 0) { start := (a.cr 0).slotAt + o, ns := chainAir a 0 rate (chainOctets a 0 x.kind x.body.length), rate := rate }
def bfR (s : State) : State × Option (Chan × Int) :=
  let start := (s.cr 0).slotAt + 400000
  let body := beaconBody s 0 (s.datum.t.addNs (start - s.now)) (s.objN 0x1203 0 == 1)
  let cfg := (s.cr 0).sched.cfg
  chainMay s 0 (bookKey 0 2 0) { start := start, ns := chainAir s 0 (cfgBeaconRate cfg) (chainOctets s 0 0 body.length), rate := cfgBeaconRate cfg }
def tkn (t : State × Take) : Nat := match t.2 with | .value n => n | _ => 0

theorem test_chainHead : let s : State := tk 256000000 (onC); let r : Radio := 0; let t := after (.chainHead r) s;
    Up s ∧ isCoordinator s r = true ∧ (s.cr r).running = true ∧ chainPast s r ((s.cr r).sched.len - (s.cr r).sched.window) = true ∧ (t.cr r).nextSched = some (latchSched s r) ∧ (t.cr r).announce = announcements s r ∧ (t.cr r).number = (s.cr r).number := by decide +kernel
theorem test_chainHead_2 : let s : State := onC; let r : Radio := 0;
    Up s ∧ (isCoordinator s r = false ∨ (s.cr r).running = false ∨ chainPast s r ((s.cr r).sched.len - (s.cr r).sched.window) = false) ∧ goes (.chainHead r) s = true := by decide +kernel
theorem test_chainStart : let s : State := tk 256000000 onC; let r : Radio := 0; let w : State := takeDeferred (slotEdge s 0);
    Up s ∧ (w.fe r).st ≠ .off ∧ isCoordinator w r = true ∧ (w.cr r).running = true ∧ chainPast w r (w.cr r).sched.len = true ∧ goes (.chainStart r) s = true := by decide +kernel
theorem test_chainStart_2 : let s : State := { onC (fun x => { x with running := false }) with datum := { z.datum with t := { sec := 128 } } }; let r : Radio := 0; let w : State := takeDeferred (slotEdge s 0);
    Up s ∧ (w.fe r).st ≠ .off ∧ isCoordinator w r = true ∧ (w.cr r).running = false ∧ firstBegin w r (latchSched w r).len = true ∧ goes (.chainStart r) s = true := by decide +kernel
theorem test_chainStart_3 : let s : State := onC; let r : Radio := 0; let w : State := takeDeferred (slotEdge s 0);
    Up s ∧ (w.fe r).st ≠ .off ∧ isCoordinator w r = true ∧ (((w.cr r).running = true ∧ chainPast w r (w.cr r).sched.len = false) ∨ ((w.cr r).running = false ∧ firstBegin w r (latchSched w r).len = false)) ∧ goes (.chainStart r) s = true := by decide +kernel
theorem test_slotStart : let s : State := tk 256000000 (onC fun x => { x with slot := 1 }); let r : Radio := 0; let rffe : Bool := true; let late : List Nat := []; let w : State := takeDeferred (slotEdge s 0);
    Up s ∧ isChain w r = true ∧ (w.cr r).running = true ∧ (w.cr r).slot < (slotList (w.cr r).sched.runs).length ∧ (w.fe r).st ≠ .off ∧ chainPast w r (slotBegin (w.cr r).sched (w.cr r).slot) = true ∧ goes (.slotStart ⟨r, rffe, late⟩) s = true := by decide +kernel
theorem test_slotStart_2 : let s : State := tk 256000000 (memC fun x => { x with slot := 1, mst := .synced }); let r : Radio := 0; let rffe : Bool := true; let late : List Nat := []; let w : State := takeDeferred (slotEdge s 0);
    Up s ∧ isChain w r = true ∧ (w.cr r).running = true ∧ (w.cr r).slot < (slotList (w.cr r).sched.runs).length ∧ (w.fe r).st ≠ .off ∧ chainPast w r (slotBegin (w.cr r).sched (w.cr r).slot) = true ∧ goes (.slotStart ⟨r, rffe, late⟩) s = true := by decide +kernel
theorem test_slotStartNot : let s : State := onC fun x => { x with slot := 1 }; let r : Radio := 0; let rffe : Bool := true; let late : List Nat := []; let w : State := takeDeferred (slotEdge s 0);
    Up s ∧ (isChain w r = false ∨ (w.cr r).running = false ∨ (slotList (w.cr r).sched.runs).length ≤ (w.cr r).slot ∨ (w.fe r).st = .off ∨ chainPast w r (slotBegin (w.cr r).sched (w.cr r).slot) = false) ∧ goes (.slotStart ⟨r, rffe, late⟩) s = true := by decide +kernel
/-- The hypotheses on SHARED_POSITION, the draw of an offset being `n` modulo 8. -/
def sharedWit (n : Nat) : Prop := let s : State := { sharedS with now := 10000 }; let r : Radio := 0; let k : Nat := 0; let i : Nat := 0; let u : Nat := 18; let cca : List CcaObs := []; let x : ChainTx := (joinTx s 0).getD (ctx 0); let v : State := pv (shR s x 0 18 n); let cfg := s.objB 0x3801 (r.val + 1); let rate := cfgBeaconRate cfg; let ns := chainAir s r rate (chainOctets s r x.kind x.body.length); let w := s.draw.2.draw.2; let o := 400000 + k * (s.cr r).sched.step * 1000000 + n * ccaWindow w r; let g := w.requestUpTo 4 r.val u; let a := g.1.grant 10 (bookKey r.val 5 0) g.2;
    Up s ∧ isMember s r = true ∧ (s.cr r).running = true ∧ (s.cr r).inSlot = some i ∧ slotKind (s.cr r).sched i = some 2 ∧ (s.cr r).await = none ∧ (s.cr r).mst = .joining ∧ (joinTx s r).isSome = true ∧ (s.cr r).sched.persist = 0 ∧ fitsAt (s.cr r) (400000 + k * (s.cr r).sched.step * 1000000) ns (ackAir s r rate (x.kind == 4)) (chainRamp s r rate) = true ∧ fitsAt (s.cr r) o ns (ackAir s r rate (x.kind == 4)) (chainRamp s r rate) = true ∧ chainIdle w r cca = true ∧ highestUnits w r = some u ∧ (chainMay a r (bookKey r.val 5 0) { start := (a.cr r).slotAt + o, ns := chainAir a r rate (chainOctets a r x.kind x.body.length), rate := rate }).2.isSome = true ∧ (match (takeCounter v (cfgJoinKey cfg)).2 with | .value _ => true | _ => false) = true
theorem test_sharedDraw : ∀ n < 8, sharedWit n := by unfold sharedWit; decide +kernel
theorem test_sharedPosition : sharedWit (({ sharedS with now := 10000 } : State).draw.2.draw.1 % 8) := test_sharedDraw _ (Nat.mod_lt _ (by decide))
theorem test_sharedNot : let s : State := onC; let r : Radio := 0; let k : Nat := 0; let cca : List CcaObs := [];
    Up s ∧ (isMember s r = false ∨ (s.cr r).running = false ∨ (s.cr r).inSlot = none ∨ (s.cr r).await.isSome = true ∨ (s.cr r).mst = .scan ∨ ((s.cr r).mst = .joining ∧ joinTx s r = none)) ∧ goes (.sharedPosition r k cca) s = true := by decide +kernel
theorem test_beaconForm : let s : State := { onC (fun x => { x with inSlot := some 0, slot := 1 }) with now := 360000 }; let r : Radio := 0; let t := after (.beaconForm r) s;
    Up s ∧ isCoordinator s r = true ∧ (s.cr r).running = true ∧ (s.cr r).inSlot = some 0 ∧ (s.cr r).formed = none ∧ (s.cr r).slotAt + 400000 ≤ s.now + 40000 ∧ grantUnits s 10 (bookKey r.val 2 0) = 0 ∧ bit (t.objN 0x3841 (r.val + 1)) 6 = true ∧ t.chain = s.chain := by decide +kernel
theorem test_beaconForm_2 : let s : State := { formC with now := 360000 }; let r : Radio := 0; let u : State := pv (bfR s); let start := (s.cr r).slotAt + 400000; let sy := s.objN 0x1203 0 == 1; let t0 := s.datum.t.addNs (start - s.now); let body := beaconBody s r t0 sy; let cfg := (s.cr r).sched.cfg; let t := after (.beaconForm r) s;
    Up s ∧ isCoordinator s r = true ∧ (s.cr r).running = true ∧ (s.cr r).inSlot = some 0 ∧ (s.cr r).formed = none ∧ (s.cr r).slotAt + 400000 ≤ s.now + 40000 ∧ grantUnits s 10 (bookKey r.val 2 0) ≠ 0 ∧ (chainMay s r (bookKey r.val 2 0) { start := start, ns := chainAir s r (cfgBeaconRate cfg) (chainOctets s r 0 body.length), rate := cfgBeaconRate cfg }).2.isSome = true ∧ (match (takeCounter u (cfgNetKey cfg)).2 with | .value _ => true | _ => false) = true ∧ (t.cr r).formed = some (t0, sy, start) ∧ (t.cr r).stepped = false ∧ (t.cr r).number = (s.cr r).number := by decide +kernel
theorem test_beaconFormNot : let s : State := formC; let r : Radio := 0;
    Up s ∧ (isCoordinator s r = false ∨ (s.cr r).running = false ∨ (s.cr r).inSlot ≠ some 0 ∨ (s.cr r).formed.isSome = true ∨ s.now + 40000 < (s.cr r).slotAt + 400000) ∧ goes (.beaconForm r) s = true := by decide +kernel
theorem test_chainFrameReceive : let s : State := rxC (onC.setObj 0x3810 5 memE); let r : Radio := 0; let f : ChainFrame := cfr; let n : Nat := 5; let w : State := takeDeferred s;
    Up s ∧ isCoordinator w r = true ∧ delivers w r 0 = true ∧ f.fcsOk = true ∧ f.pan = cfgPan (chainCfg w r) ∧ f.micOk = true ∧ f.keyIndex = 1 ∧ memberByShort w r.val f.srcShort = some n ∧ servesRx w 2 (mKey w n) = true ∧ (mF w n 32 4 = 0 ∨ mF w n 20 4 < f.counter) ∧ f.ar = false ∧ f.retry = false ∧ f.kind = 1 ∧ (w.cr r).inSlot = none ∧ goes (.chainFrameReceive r f) s = true := by decide +kernel
theorem test_chainReplay : let s : State := rxC (after (.chainFrameReceive 0 cfr) (rxC (onC.setObj 0x3810 5 memE))); let r : Radio := 0; let f : ChainFrame := cfr; let n : Nat := 5; let w : State := takeDeferred s;
    Up s ∧ isCoordinator w r = true ∧ delivers w r 0 = true ∧ f.fcsOk = true ∧ f.pan = cfgPan (chainCfg w r) ∧ f.keyIndex = 1 ∧ memberByShort w r.val f.srcShort = some n ∧ f.micOk = true ∧ servesRx w 2 (mKey w n) = true ∧ mF w n 32 4 ≠ 0 ∧ f.counter ≤ mF w n 20 4 ∧ goes (.chainFrameReceive r f) s = true := by decide +kernel
theorem test_chainReplay_2 : let s : State := rxC (onC.setObj 0x3810 5 memE); let r : Radio := 0; let f : ChainFrame := { cfr with micOk := false }; let n : Nat := 5; let w : State := takeDeferred s;
    Up s ∧ isCoordinator w r = true ∧ delivers w r 0 = true ∧ f.fcsOk = true ∧ f.pan = cfgPan (chainCfg w r) ∧ f.keyIndex = 1 ∧ memberByShort w r.val f.srcShort = some n ∧ (f.micOk = false ∨ servesRx w 2 (mKey w n) = false) ∧ goes (.chainFrameReceive r f) s = true := by decide +kernel
theorem test_chainNotOurs : let s : State := rxC onC; let r : Radio := 0; let f : ChainFrame := { cfr with pan := 3 }; let w : State := takeDeferred s;
    Up s ∧ (isChain w r = false ∨ delivers w r 0 = false ∨ f.fcsOk = false ∨ f.pan ≠ cfgPan (chainCfg w r)) ∧ goes (.chainFrameReceive r f) s = true := by decide +kernel
theorem test_chainAckTimeout : let s : State := onC; let r : Radio := 0;
    Up s ∧ (s.cr r).await = none ∧ goes (.chainAckTimeout r) s = true := by decide +kernel
theorem test_chainAckTimeout_2 : let s : State := onC fun x => { x with await := some (ctx 1) }; let r : Radio := 0; let a := ctx 1;
    Up s ∧ (s.cr r).await = some a ∧ a.tries ≤ cfgRetry (chainCfg s r) ∧ goes (.chainAckTimeout r) s = true := by decide +kernel
theorem test_chainAckTimeout_3 : let s : State := onC fun x => { x with await := some (ctx 4) }; let r : Radio := 0; let a := ctx 4; let t := after (.chainAckTimeout r) s;
    Up s ∧ (s.cr r).await = some a ∧ cfgRetry (chainCfg s r) < a.tries ∧ (s.cr r).inSlot = none ∧ t.objF 0x3840 (r.val + 1) 28 4 = (s.objF 0x3840 (r.val + 1) 28 4 + 1) % 2 ^ 32 := by decide +kernel
theorem test_beaconMissed : let s : State := memC fun x => { x with mst := .synced, missed := 1 }; let r : Radio := 0; let t := after (.beaconMissed r) s;
    Up s ∧ isMember s r = true ∧ ((s.cr r).mst = .synced ∨ (s.cr r).mst = .holdover) ∧ (t.cr r).missed = (s.cr r).missed + 1 := by decide +kernel
theorem test_beaconMissed_2 : let s : State := memC fun x => { x with mst := .synced, missed := 2 }; let r : Radio := 0; let t := after (.beaconMissed r) s;
    Up s ∧ isMember s r = true ∧ ((s.cr r).mst = .synced ∨ (s.cr r).mst = .holdover) ∧ (t.cr r).missed = (s.cr r).missed + 1 := by decide +kernel
theorem test_beaconMissed_3 : let s : State := memC fun x => { x with mst := .holdover, missed := 6 }; let r : Radio := 0; let t := after (.beaconMissed r) s;
    Up s ∧ isMember s r = true ∧ ((s.cr r).mst = .synced ∨ (s.cr r).mst = .holdover) ∧ (t.cr r).missed = (s.cr r).missed + 1 := by decide +kernel
theorem test_beaconMissed_4 : let s : State := memC fun x => { x with mst := .holdover, missed := 7 }; let r : Radio := 0; let t := after (.beaconMissed r) s;
    Up s ∧ isMember s r = true ∧ ((s.cr r).mst = .synced ∨ (s.cr r).mst = .holdover) ∧ (t.cr r).missed = (s.cr r).missed + 1 := by decide +kernel
theorem test_joinTimeout : let s : State := memC fun x => { x with mst := .joining, await := some (ctx 1) }; let r : Radio := 0; let t := after (.joinTimeout r) s;
    Up s ∧ isMember s r = true ∧ (s.cr r).mst = .joining ∧ (s.cr r).backoff = 0 ∧ (s.cr r).joinDue = false ∧ 4 ≤ joinChains s r ∧ (t.cr r).await = none ∧ (t.cr r).joinDue = false := by decide +kernel
theorem test_joinTimeout_2 : let s : State := onC; let r : Radio := 0;
    Up s ∧ (isMember s r = false ∨ (s.cr r).mst ≠ .joining ∨ (s.cr r).backoff ≠ 0 ∨ (s.cr r).joinDue = true ∨ joinChains s r < 4) ∧ goes (.joinTimeout r) s = true := by decide +kernel
theorem test_joinBackoffExpiry : let s : State := memC fun x => { x with mst := .joining, backoff := 4 }; let r : Radio := 0;
    Up s ∧ isMember s r = true ∧ (s.cr r).mst = .joining ∧ (s.cr r).backoff ≠ 0 ∧ (s.cr r).backoff ≤ joinChains s r ∧ goes (.joinBackoffExpiry r) s = true := by decide +kernel
theorem test_joinBackoffExpiry_2 : let s : State := memC fun x => { x with mst := .joining, backoff := 5 }; let r : Radio := 0;
    Up s ∧ (isMember s r = false ∨ (s.cr r).mst ≠ .joining ∨ (s.cr r).backoff = 0 ∨ joinChains s r < (s.cr r).backoff) ∧ goes (.joinBackoffExpiry r) s = true := by decide +kernel
theorem test_scanAdvance : let s : State := { (memC fun x => { x with mst := .scan }).setObj 0x3802 1 (le 4 2437000 ++ le 2 200 ++ [3, 0] ++ le 2 5) with now := 100000000000 }; let r : Radio := 0;
    Up s ∧ isMember s r = true ∧ (s.cr r).mst = .scan ∧ (s.cr r).scanAt + ((latchSched s r).m + 1) * (latchSched s r).len * 250000 ≤ s.now ∧ goes (.scanAdvance r) s = true := by decide +kernel
theorem test_scanAdvance_2 : let s : State := memC fun x => { x with mst := .scan }; let r : Radio := 0;
    Up s ∧ (isMember s r = false ∨ (s.cr r).mst ≠ .scan ∨ s.now < (s.cr r).scanAt + ((latchSched s r).m + 1) * (latchSched s r).len * 250000) ∧ goes (.scanAdvance r) s = true := by decide +kernel
theorem test_joinPendingExpiry : let s : State := pendC; let i : Fin 16 := 2; let t := after (.joinPendingExpiry i) s;
    Up s ∧ t.chain.pending[i] = none ∧ t.chain.radios = s.chain.radios := by decide +kernel
theorem test_memberJoin : let s : State := pendC; let n : Nat := 0xFF00; let rest : Bytes := vJoin; let x : Session := port0; let m : Nat := 0; let j : JoinRec := jr; let h : j.radio < 3 := (by decide); let u := taken 0x3812 0 (1 :: rest); let t := after (.memberJoin n rest) s;
    (Up s ∧ sessOf s n = some x ∧ x.opened = true ∧ x.exec = none ∧ x.rights = 2 ∧ s.upd.resetDue = false) ∧ passes s 0x3812 0 (1 :: rest) = true ∧ (¬ (bit (fld u 10 1) 7 = true ∧ fld u 10 1 % 8 = 7)) ∧ (findLt 1024 fun n => mState s (n + 1) == 0) = some m ∧ fld u 2 2 ≤ 16 ∧ pendingAt s (fld u 2 2) = some j ∧ slotTaken s ⟨j.radio, h⟩ (fld u 8 2) = false ∧ isCoordinator s ⟨j.radio, h⟩ = true ∧ fld u 4 2 ≠ 0 ∧ fld u 4 2 ≤ 0xFFFD ∧ memberByShort s j.radio (fld u 4 2) = none ∧ j.ext.length = 8 ∧ (t.lastResp.map fun z => (z.idx, z.el, (z.abort, z.detail))) = some (0x3812, 0, ok) ∧ (tgetD t.dict.cmds (okey 0x3812 0) {}).out = le 2 (m + 1) ∧ mState t (m + 1) = 1 := by decide +kernel
theorem test_memberReject : let s : State := pendC; let n : Nat := 0xFF00; let rest : Bytes := [2] ++ le 2 3 ++ zeros 8; let x : Session := port0; let j : JoinRec := jr; let h : j.radio < 3 := (by decide); let u := taken 0x3812 0 (2 :: rest); let t := after (.memberReject n rest) s;
    (Up s ∧ sessOf s n = some x ∧ x.opened = true ∧ x.exec = none ∧ x.rights = 2 ∧ s.upd.resetDue = false) ∧ passes s 0x3812 0 (2 :: rest) = true ∧ fld u 1 1 ≤ 4 ∧ fld u 2 2 ≤ 16 ∧ pendingAt s (fld u 2 2) = some j ∧ (t.lastResp.map fun z => (z.idx, z.el, (z.abort, z.detail))) = some (0x3812, 0, ok) ∧ pendingAt t (fld u 2 2) = none ∧ (t.cr ⟨j.radio, h⟩).resps = (s.cr ⟨j.radio, h⟩).resps ++ [{ kind := 5, ext := j.ext, entry := 0, status := fld u 1 1 }] := by decide +kernel
theorem test_memberRemove : let s : State := onC.setObj 0x3810 5 memE; let n : Nat := 0xFF00; let rest : Bytes := [0] ++ le 2 5 ++ zeros 8; let x : Session := port0; let k := fld (taken 0x3812 0 (3 :: rest)) 2 2;
    (Up s ∧ sessOf s n = some x ∧ x.opened = true ∧ x.exec = none ∧ x.rights = 2 ∧ s.upd.resetDue = false) ∧ passes s 0x3812 0 (3 :: rest) = true ∧ 1 ≤ k ∧ k ≤ 1024 ∧ mState s k ≠ 0 := by decide +kernel

end Chain

/-! ### Packet processor -/

namespace Pp

def svc : State := z.setObj 0x4000 0 [0]
def brE (flags kind idx : Nat) : Bytes := [2, 0, 0, 0, 0, 7] ++ le 2 0 ++ le 1 flags ++ le 1 kind ++ le 2 idx ++ le 2 0
def pkt : Packet := { ingress := 0, kind := 0, source := 0, tid := 0, bss := 99, truncated := false, poisonHeader := false, poisonEntry := none, corrEntry := none, bytes := [2, 0, 0, 0, 0, 7, 2, 0, 0, 0, 0, 8, 0x88, 0xB6] ++ zeros 46 }
def ppS : State := (svc.setObj 0x4200 3 (brE 1 0 1)).setObj 0x4200 4 (brE 3 0 1)

def ctxP (o : Nat) : PpCtx := { version := 0, order := o, ingress := 0, src := (0, 0), tid := 0, entry := (0, 0), truncated := false, outs := [{ queues := [8192], dst := 0, cls := 0, seg := none, bytes := zeros 60 }] }
def ctxS (a b : Nat) : State := { z with pp := { z.pp with ctxs := [(1, ctxP a), (2, ctxP b)], ctxNext := 3 } }
def flE : Bytes := List.replicate 44 9 ++ [1] ++ zeros 27
def opn : State := { z with pp := { z.pp with openCh := [(0x4200, 3, brE 1 0 1)] } }
def vRule : Bytes := [0, 0, 0] ++ [1] ++ zeros 175
def vBr : Bytes := [0] ++ brE 0 0 2
def rtE (f : Byte) : Bytes := zeros 10 ++ [255, 255, 10, 0, 0, 0, 104, f, 0, 0] ++ le 2 1 ++ [2, 0, 0, 0, 0, 3] ++ le 2 0 ++ [0, 0]
def fKey : Bytes := List.replicate 44 9
def vFl : Bytes := [0] ++ fKey ++ [0, 0, 0, 0] ++ le 2 1 ++ [2, 0, 0, 0, 0, 3] ++ le 2 0 ++ le 2 0xFFFF ++ zeros 4

theorem test_packetIngress : let s : State := ppS; let p : Packet := pkt; let u : State := (takeEntered s pkt).1; let e : Entered := (takeEntered s pkt).2; let t := after (.packetIngress p) s;
    Up s ∧ s.pp.ctxs.length < 1024 ∧ takeEntered s p = (u, e) ∧ p.poisonHeader = false ∧ steered u p = false ∧ standsBy u = false ∧ (u.objN 0x4000 0 ≠ 1 ∨ u.pp.committed ≠ 0) ∧ p.poisonEntry = none ∧ olderThan u e.stamp = [] ∧ (tget t.pp.ctxs s.pp.ctxNext).isSome = true ∧ goes (.packetIngress p) s = true := by decide +kernel
theorem test_packetIngress_2 : let s : State := ppS; let p : Packet := { pkt with corrEntry := some (0x4200, 3) }; let u : State := (takeEntered s { pkt with corrEntry := some (0x4200, 3) }).1; let e : Entered := (takeEntered s { pkt with corrEntry := some (0x4200, 3) }).2; let t := after (.packetIngress p) s;
    Up s ∧ s.pp.ctxs.length < 1024 ∧ takeEntered s p = (u, e) ∧ p.poisonHeader = false ∧ steered u p = false ∧ standsBy u = false ∧ (u.objN 0x4000 0 ≠ 1 ∨ u.pp.committed ≠ 0) ∧ p.poisonEntry = none ∧ olderThan u e.stamp = [] ∧ (tget t.pp.ctxs s.pp.ctxNext).isSome = true ∧ goes (.packetIngress p) s = true := by decide +kernel
theorem test_packetFull : let s : State := { z with pp := { z.pp with ctxs := (List.range 1024).map fun k => (k, ctxP 0) } }; let p : Packet := pkt; let t := after (.packetIngress p) s;
    Up s ∧ 1024 ≤ s.pp.ctxs.length ∧ bit (t.objN 0x4701 0) 2 = true := by decide +kernel
theorem test_packetNoVersion : let s : State := z; let p : Packet := pkt; let u : State := (takeEntered s pkt).1; let e : Entered := (takeEntered s pkt).2; let t := after (.packetIngress p) s;
    Up s ∧ s.pp.ctxs.length < 1024 ∧ takeEntered s p = (u, e) ∧ p.poisonHeader = false ∧ steered u p = false ∧ standsBy u = false ∧ u.objN 0x4000 0 = 1 ∧ u.pp.committed = 0 ∧ bit (t.objN 0x4701 0) 3 = true := by decide +kernel
theorem test_packetBridged : let s : State := ppS; let p : Packet := pkt; let u : State := (takeEntered s pkt).1; let e : Entered := (takeEntered s pkt).2; let el : Nat := 3; let b : Bytes := brE 1 0 1; let k := (parsePacket u p).key; let t := after (.packetIngress p) s;
    Up s ∧ s.pp.ctxs.length < 1024 ∧ takeEntered s p = (u, e) ∧ p.poisonHeader = false ∧ steered u p = false ∧ standsBy u = false ∧ (u.objN 0x4000 0 ≠ 1 ∨ u.pp.committed ≠ 0) ∧ p.poisonEntry = none ∧ p.corrEntry = none ∧ olderThan u e.stamp = [] ∧ p.truncated = false ∧ p.ingress < 4 ∧ e.cls = none ∧ validEls u 0x4100 = [] ∧ flowFind u (flowKey k) = none ∧ bit k.flags 5 = false ∧ bit k.flags 6 = false ∧ bit k.flags 7 = false ∧ bridgeOf u k.dmac k.vlan0 = some (el, b) ∧ fld b 9 1 = 0 ∧ fld b 10 2 ≤ 3 ∧ (tget t.pp.ctxs s.pp.ctxNext).isSome = true ∧ goes (.packetIngress p) s = true := by decide +kernel
theorem test_packetHandoff : let s : State := ctxS 7 8; let n : Nat := 2; let c : PpCtx := ctxP 8;
    Up s ∧ tget s.pp.ctxs n = some c ∧ (s.pp.ctxs.any fun e => decide (e.1 < n) && e.2.order == c.order) = false ∧ goes (.packetHandoff n) s = true := by decide +kernel
theorem test_packetOrder : let s : State := ctxS 7 7; let n : Nat := 2; let c : PpCtx := ctxP 7;
    Up s ∧ tget s.pp.ctxs n = some c ∧ (s.pp.ctxs.any fun e => decide (e.1 < n) && e.2.order == c.order) = true ∧ goes (.packetHandoff n) s = true := by decide +kernel
theorem test_bridgeAgeExpiry : let s : State := { ppS with now := 10000000000000 }; let el : Nat := 3; let t := after (.bridgeAgeExpiry el) s;
    Up s ∧ 1 ≤ el ∧ el < 65536 ∧ recValid 0x4200 (s.objB 0x4200 el) = true ∧ bit (fld (s.objB 0x4200 el) 8 1) 1 = false ∧ lastHit s 0x4200 el + s.objN 0x4007 0 * 1000000000 ≤ s.now ∧ t.objB 0x4200 el = zeros 14 ∧ tget t.pp.hitAt (okey 0x4200 el) = none := by decide +kernel
theorem test_bridgeStatic : let s : State := ppS; let el : Nat := 4;
    Up s ∧ (bit (fld (s.objB 0x4200 el) 8 1) 1 = true ∨ s.now < lastHit s 0x4200 el + s.objN 0x4007 0 * 1000000000) ∧ goes (.bridgeAgeExpiry el) s = true := by decide +kernel
theorem test_flowIdleExpiry : let s : State := { svc.setObj 0x4401 5 flE with now := 1000000000000 }; let e : Nat := 32772; let t := after (.flowIdleExpiry e) s;
    Up s ∧ e < 131072 ∧ flowValid s e = true ∧ bit (fld (flowRec s e) 44 1) 2 = false ∧ lastHit s (entryAt 0x4400 e).1 (entryAt 0x4400 e).2 + flowIdle s e * 1000000000 ≤ s.now ∧ flowRec t e = zeros 72 ∧ e ∉ t.pp.finSeen := by decide +kernel
theorem test_ppModeWrite : let s : State := z; let n : Nat := 0xFF00; let v : Bytes := [0]; let x : Session := port0; let t := after (.ppModeWrite n v) s;
    (Up s ∧ sessOf s n = some x ∧ x.opened = true ∧ x.exec = none ∧ x.rights = 2 ∧ s.upd.resetDue = false) ∧ passes s 0x4000 0 v = true ∧ reservedBy s none 0x4000 0 = false ∧ s.pp.openCh = [] ∧ (t.lastResp.map fun z => (z.idx, z.el, (z.abort, z.detail))) = some (0x4000, 0, ok) ∧ t.objB 0x4000 0 = taken 0x4000 0 v := by decide +kernel
theorem test_ppModeWrite_2 : let s : State := opn; let n : Nat := 0xFF00; let v : Bytes := [0]; let x : Session := port0; let t := after (.ppModeWrite n v) s;
    (Up s ∧ sessOf s n = some x ∧ x.opened = true ∧ x.exec = none ∧ x.rights = 2 ∧ s.upd.resetDue = false) ∧ passes s 0x4000 0 v = true ∧ reservedBy s none 0x4000 0 = false ∧ s.pp.openCh ≠ [] ∧ (t.lastResp.map fun z => (z.idx, z.el, (z.abort, z.detail))) = some (0x4000, 0, (ppRefuse aState 0x1007)) := by decide +kernel
theorem test_tableEntryWrite : let s : State := svc; let n : Nat := 0xFF00; let idx : Nat := 0x4200; let el : Nat := 9; let v : Bytes := brE 1 0 2; let x : Session := port0; let t := after (.tableEntryWrite n idx el v) s;
    (Up s ∧ sessOf s n = some x ∧ x.opened = true ∧ x.exec = none ∧ x.rights = 2 ∧ s.upd.resetDue = false) ∧ passes s idx el v = true ∧ reservedBy s none idx el = false ∧ idx ∈ [0x4100, 0x4200, 0x4300, 0x4301] ∧ 1 ≤ el ∧ inService s = true ∧ recValid idx (taken idx el v) = true ∧ duplicates s idx el (taken idx el v) = false ∧ (t.lastResp.map fun z => (z.idx, z.el, (z.abort, z.detail))) = some (idx, el, ok) ∧ t.objB idx el = taken idx el v := by decide +kernel
theorem test_commit : let s : State := opn; let n : Nat := 0xFF00; let i : Nat := 0x4200; let e : Nat := 3; let v : Bytes := brE 1 0 1; let x : Session := port0; let t := after (.commit n) s;
    (Up s ∧ sessOf s n = some x ∧ x.opened = true ∧ x.exec = none ∧ x.rights = 2 ∧ s.upd.resetDue = false) ∧ passes s 0x4002 0 [1] = true ∧ canCommit s = true ∧ s.pp.openCh = [(i, e, v)] ∧ e < 65536 ∧ tableOf i ≠ none ∧ recValid i v = true ∧ (t.lastResp.map fun z => (z.idx, z.el, (z.abort, z.detail))) = some (0x4002, 0, ok) ∧ t.pp.openCh = [] ∧ t.objB i e = v := by decide +kernel
theorem test_discard : let s : State := opn; let n : Nat := 0xFF00; let x : Session := port0; let t := after (.discard n) s;
    (Up s ∧ sessOf s n = some x ∧ x.opened = true ∧ x.exec = none ∧ x.rights = 2 ∧ s.upd.resetDue = false) ∧ passes s 0x4002 0 [2] = true ∧ (t.lastResp.map fun z => (z.idx, z.el, (z.abort, z.detail))) = some (0x4002, 0, ok) := by decide +kernel
theorem test_ruleInsert : let s : State := svc; let n : Nat := 0xFF00; let el : Nat := 1; let rest : Bytes := vRule; let b : Bytes := 1 :: zeros 175; let x : Session := port0; let u := taken 0x4101 0 (1 :: rest); let t := after (.ruleInsert n rest) s;
    (Up s ∧ sessOf s n = some x ∧ x.opened = true ∧ x.exec = none ∧ x.rights = 2 ∧ s.upd.resetDue = false) ∧ passes s 0x4101 0 (1 :: rest) = true ∧ tableRec 0x4100 (u.drop 4) = some b ∧ inService s = true ∧ u.length = 180 ∧ recValid 0x4100 b = true ∧ freeView s 0x4100 4096 = some el ∧ (t.lastResp.map fun z => (z.idx, z.el, (z.abort, z.detail))) = some (0x4101, 0, ok) ∧ (tgetD t.dict.cmds (okey 0x4101 0) {}).out = le 2 el ∧ t.objB 0x4100 el = b := by decide +kernel
theorem test_ruleDelete : let s : State := svc.setObj 0x4100 6 (1 :: zeros 175); let n : Nat := 0xFF00; let rest : Bytes := [0, 6, 0]; let x : Session := port0; let el := fld (taken 0x4101 0 (2 :: rest)) 2 2; let t := after (.ruleDelete n rest) s;
    (Up s ∧ sessOf s n = some x ∧ x.opened = true ∧ x.exec = none ∧ x.rights = 2 ∧ s.upd.resetDue = false) ∧ passes s 0x4101 0 (2 :: rest) = true ∧ inService s = true ∧ 1 ≤ el ∧ el ≤ 4096 ∧ recValid 0x4100 (s.objB 0x4100 el) = true ∧ (t.lastResp.map fun z => (z.idx, z.el, (z.abort, z.detail))) = some (0x4101, 0, ok) ∧ t.objB 0x4100 el = zeros 176 := by decide +kernel
theorem test_bridgeInsert : let s : State := svc; let n : Nat := 0xFF00; let el : Nat := 1; let rest : Bytes := vBr; let r : Bytes := (tableRec 0x4200 ((taken 0x4201 0 (1 :: vBr)).drop 2)).getD []; let x : Session := port0; let u := taken 0x4201 0 (1 :: rest); let b := setFld (setFld r 8 1 3) 12 2 0; let t := after (.bridgeInsert n rest) s;
    (Up s ∧ sessOf s n = some x ∧ x.opened = true ∧ x.exec = none ∧ x.rights = 2 ∧ s.upd.resetDue = false) ∧ passes s 0x4201 0 (1 :: rest) = true ∧ (tableRec 0x4200 (u.drop 2)).isSome = true ∧ inService s = true ∧ u.length = 16 ∧ findKey s 0x4200 (sub b 0 8) = none ∧ freeView s 0x4200 32768 = some el ∧ (t.lastResp.map fun z => (z.idx, z.el, (z.abort, z.detail))) = some (0x4201, 0, ok) ∧ (tgetD t.dict.cmds (okey 0x4201 0) {}).out = le 2 el ∧ t.objB 0x4200 el = b := by decide +kernel
theorem test_bridgeDelete : let s : State := svc.setObj 0x4200 3 (brE 3 0 1); let n : Nat := 0xFF00; let i : Nat := 0x4200; let el : Nat := 3; let b : Bytes := brE 3 0 1; let rest : Bytes := vBr; let x : Session := port0; let u := taken 0x4201 0 (2 :: rest); let t := after (.bridgeDelete n rest) s;
    (Up s ∧ sessOf s n = some x ∧ x.opened = true ∧ x.exec = none ∧ x.rights = 2 ∧ s.upd.resetDue = false) ∧ passes s 0x4201 0 (2 :: rest) = true ∧ inService s = true ∧ u.length = 16 ∧ findKey s 0x4200 (sub (u.drop 2) 0 8) = some (i, el, b) ∧ (t.lastResp.map fun z => (z.idx, z.el, (z.abort, z.detail))) = some (0x4201, 0, ok) ∧ (tgetD t.dict.cmds (okey 0x4201 0) {}).out = le 2 el ∧ t.objB 0x4200 el = zeros 14 := by decide +kernel
theorem test_bridgeFlush : let s : State := ppS; let n : Nat := 0xFF00; let rest : Bytes := [0]; let x : Session := port0; let t := after (.bridgeFlush n rest) s;
    (Up s ∧ sessOf s n = some x ∧ x.opened = true ∧ x.exec = none ∧ x.rights = 2 ∧ s.upd.resetDue = false) ∧ passes s 0x4201 0 (3 :: rest) = true ∧ fld (taken 0x4201 0 (3 :: rest)) 0 1 = 3 ∧ inService s = true ∧ (t.lastResp.map fun z => (z.idx, z.el, (z.abort, z.detail))) = some (0x4201, 0, ok) := by decide +kernel
theorem test_routeInsert : let s : State := svc; let n : Nat := 0xFF00; let el : Nat := 1; let rest : Bytes := 0 :: rtE 0; let r : Bytes := (tableRec 0x4300 ((taken 0x4310 0 (1 :: 0 :: rtE 0)).drop 2)).getD []; let x : Session := port0; let u := taken 0x4310 0 (1 :: rest); let b := setFld r 17 1 (setBit (fld r 17 1) 0 true); let t := after (.routeInsert n rest) s;
    (Up s ∧ sessOf s n = some x ∧ x.opened = true ∧ x.exec = none ∧ x.rights = 2 ∧ s.upd.resetDue = false) ∧ passes s 0x4310 0 (1 :: rest) = true ∧ (tableRec 0x4300 (u.drop 2)).isSome = true ∧ inService s = true ∧ findKey s 0x4300 (sub b 0 17) = none ∧ freeView s 0x4300 32768 = some el ∧ (t.lastResp.map fun z => (z.idx, z.el, (z.abort, z.detail))) = some (0x4310, 0, ok) ∧ (tgetD t.dict.cmds (okey 0x4310 0) {}).out = le 2 el ∧ t.objB 0x4300 el = b := by decide +kernel
theorem test_routeDelete : let s : State := svc.setObj 0x4301 7 (rtE 1); let n : Nat := 0xFF00; let i : Nat := 0x4301; let el : Nat := 7; let b : Bytes := rtE 1; let rest : Bytes := 0 :: rtE 0; let x : Session := port0; let u := taken 0x4310 0 (2 :: rest); let t := after (.routeDelete n rest) s;
    (Up s ∧ sessOf s n = some x ∧ x.opened = true ∧ x.exec = none ∧ x.rights = 2 ∧ s.upd.resetDue = false) ∧ passes s 0x4310 0 (2 :: rest) = true ∧ inService s = true ∧ findKey s 0x4300 (sub (u.drop 2) 0 17) = some (i, el, b) ∧ (t.lastResp.map fun z => (z.idx, z.el, (z.abort, z.detail))) = some (0x4310, 0, ok) ∧ (tgetD t.dict.cmds (okey 0x4310 0) {}).out = le 2 el ∧ t.objB i el = zeros 32 := by decide +kernel
theorem test_flowInsert : let s : State := svc; let n : Nat := 0xFF00; let e : Nat := (flowSlotView s fKey).getD 0; let rest : Bytes := vFl; let r : Bytes := (tableRec 0x4400 ((taken 0x4410 0 (1 :: vFl)).drop 2 ++ zeros 8)).getD []; let x : Session := port0; let u := taken 0x4410 0 (1 :: rest); let b := setFld (setFld r 44 1 5) 60 4 0xFFFFFFFF; let t := after (.flowInsert n rest) s;
    (Up s ∧ sessOf s n = some x ∧ x.opened = true ∧ x.exec = none ∧ x.rights = 2 ∧ s.upd.resetDue = false) ∧ passes s 0x4410 0 (1 :: rest) = true ∧ (tableRec 0x4400 (u.drop 2 ++ zeros 8)).isSome = true ∧ inService s = true ∧ u.length = 66 ∧ flowFindView s (sub u 2 44) = none ∧ (flowSlotView s (sub u 2 44)).isSome = true ∧ (t.lastResp.map fun z => (z.idx, z.el, (z.abort, z.detail))) = some (0x4410, 0, ok) ∧ (tgetD t.dict.cmds (okey 0x4410 0) {}).out = le 4 e ∧ flowRec t e = b := by decide +kernel
theorem test_flowDelete : let s : State := after (.flowInsert 0xFF00 vFl) svc; let n : Nat := 0xFF00; let e : Nat := (flowFindView s fKey).getD 0; let rest : Bytes := vFl; let x : Session := port0; let u := taken 0x4410 0 (2 :: rest); let t := after (.flowDelete n rest) s;
    (Up s ∧ sessOf s n = some x ∧ x.opened = true ∧ x.exec = none ∧ x.rights = 2 ∧ s.upd.resetDue = false) ∧ passes s 0x4410 0 (2 :: rest) = true ∧ inService s = true ∧ u.length = 66 ∧ (flowFindView s (sub u 2 44)).isSome = true ∧ (t.lastResp.map fun z => (z.idx, z.el, (z.abort, z.detail))) = some (0x4410, 0, ok) ∧ (tgetD t.dict.cmds (okey 0x4410 0) {}).out = le 4 e ∧ flowRec t e = zeros 72 := by decide +kernel
theorem test_flowFlush : let s : State := (svc.setObj 0x4401 5 flE).setObj 0x4403 2 (fKey ++ [5] ++ zeros 27); let n : Nat := 0xFF00; let rest : Bytes := [0]; let x : Session := port0; let t := after (.flowFlush n rest) s;
    (Up s ∧ sessOf s n = some x ∧ x.opened = true ∧ x.exec = none ∧ x.rights = 2 ∧ s.upd.resetDue = false) ∧ passes s 0x4410 0 (3 :: rest) = true ∧ fld (taken 0x4410 0 (3 :: rest)) 0 1 = 3 ∧ inService s = true ∧ (∀ i ∈ [0x4400, 0x4401, 0x4402, 0x4403], ∀ el ∈ setElements s i, el ≤ 32768) ∧ (t.lastResp.map fun z => (z.idx, z.el, (z.abort, z.detail))) = some (0x4410, 0, ok) := by decide +kernel

end Pp

/-! ### DRAM and DMA -/

namespace Dram

def initS : State := after (.mcInit 0) z
def trainS : State := after .initDone initS
def dramS : State := after (.mcService 0) trainS
def dA : Nat := 0x800000000

def rdS : State := after (.dramRead (dA + 68) 8) dramS
def bank3 : State := { dramS with dram := { dramS.dram with banks := [(67, { row := some 5 })] } }
def mg (b : Nat) : State := { dramS with dram := { dramS.dram with mig := { st := 1, src := 0, spare := 1, blocks := b, total := 5 } } }
def spareS : State := let s := z.setObj 0x6400 1 [224, 21, 2, 8, 16, 1]; after (.mcService 0) (after .initDone (after (.mcInit 0) s))
/-- A channel with one descriptor, enabled. -/
def ch5 (st : Nat) : State := setChState (((z.setReg (chBase 5) 0x08002000).setReg (chBase 5 + 8) (2 ^ 31 + 4)).setReg (chBase 5 + 0xC) 1) 5 st
def fil : DmaCur := { d := { src := 0x0102030405060708, dst := 0x08003000, len := 8, op := 1, srcW := 8, dstW := 8, key := 0, srcPcie := false, dstPcie := false, notify := false, aad := 0, addr := 0x08002000 }, packing := false, opnd := 0 }
def run5 : State := setCur (ch5 1) 5 (some fil)

theorem test_dramRead : let s : State := dramS; let addr : Nat := dA + 68; let len : Nat := 8; let l : Nat := dA / 64 + 1; let off : Nat := 4; let n : Nat := 8; let t := after (.dramRead addr len) s;
    Up s ∧ s.dram.st = .service ∧ len ≠ 0 ∧ dramHas s addr = true ∧ dramHas s (addr + len - 1) = true ∧ linesOf addr len = [(l, off, n)] ∧ s.dram.held = [] ∧ 1 ≤ readsFree s ∧ unissued s l = none ∧ t.dram.held = [] := by decide +kernel
theorem test_dramForward : let s : State := after (.dramWrite dA (List.replicate 64 7)) dramS; let addr : Nat := dA + 3; let len : Nat := 2; let l : Nat := dA / 64; let off : Nat := 3; let n : Nat := 2; let w : WrEnt := (s.dram.wrs[0]?).getD { line := 0, offs := [], order := 0 };
    Up s ∧ s.dram.st = .service ∧ len ≠ 0 ∧ dramHas s addr = true ∧ dramHas s (addr + len - 1) = true ∧ linesOf addr len = [(l, off, n)] ∧ s.dram.held = [] ∧ 1 ≤ readsFree s ∧ (unissued s l).isSome = true ∧ ((List.range n).all fun i => w.offs.contains (off + i)) = true ∧ s.dram.poison = [] ∧ goes (.dramRead addr len) s = true := by decide +kernel
theorem test_dramReadHeld : let s : State := { dramS with dram := { dramS.dram with st := .selfRefresh } }; let addr : Nat := dA + 68; let len : Nat := 8; let l : Nat := dA / 64 + 1; let off : Nat := 4; let n : Nat := 8;
    Up s ∧ len ≠ 0 ∧ dramHas s addr = true ∧ dramHas s (addr + len - 1) = true ∧ linesOf addr len = [(l, off, n)] ∧ s.dram.held = [] ∧ (s.dram.st = .selfRefresh ∨ s.dram.st = .service ∧ readsFree s = 0) ∧ goes (.dramRead addr len) s = true := by decide +kernel
theorem test_dramWrite : let s : State := dramS; let addr : Nat := dA; let data : Bytes := List.replicate 64 7; let t := after (.dramWrite addr data) s;
    Up s ∧ s.dram.st = .service ∧ addr % 64 = 0 ∧ data.length = 64 ∧ dramHas s addr = true ∧ dramHas s (addr + 63) = true ∧ s.dram.held = [] ∧ 1 ≤ writesFree s ∧ unissued s (addr / 64) = none ∧ readMemN t.mem addr 64 = data := by decide +kernel
theorem test_dramWriteHeld : let s : State := { dramS with dram := { dramS.dram with st := .selfRefresh } }; let addr : Nat := dA; let l : Nat := dA / 64; let off : Nat := 0; let n : Nat := 64; let data : Bytes := List.replicate 64 7;
    Up s ∧ data ≠ [] ∧ dramHas s addr = true ∧ dramHas s (addr + data.length - 1) = true ∧ linesOf addr data.length = [(l, off, n)] ∧ s.dram.held = [] ∧ (s.dram.st = .selfRefresh ∨ s.dram.st = .service ∧ writesFree s = 0 ∧ unissued s l = none) ∧ goes (.dramWrite addr data) s = true := by decide +kernel
theorem test_dramIssue : let s : State := rdS; let sc : Fin 2 := 1; let e : RdEnt := (s.dram.rds[0]?).getD { line := 0, off := 0, data := [], order := 0, since := 0 }; let t := after (.dramIssue sc []) s;
    Up s ∧ s.dram.st = .service ∧ s.dram.held = [] ∧ s.dram.drain = false ∧ s.dram.wrs = [] ∧ 0 < s.objF 0x6401 0 0 1 ∧ s.dram.rds = [e] ∧ readReady s sc.val e = true ∧ e.merge = false ∧ s.dram.poison = [] ∧ t.dram.rds = [] := by decide +kernel
theorem test_dramIssueWrite : let s : State := after (.dramWrite dA (List.replicate 64 7)) dramS; let sc : Fin 2 := 0; let w : WrEnt := (s.dram.wrs[0]?).getD { line := 0, offs := [], order := 0 }; let t := after (.dramIssue sc []) s;
    Up s ∧ s.dram.st = .service ∧ s.dram.held = [] ∧ s.dram.drain = false ∧ s.dram.rds = [] ∧ 1 < s.objF 0x6401 0 0 1 ∧ s.dram.wrs = [w] ∧ writeReady s sc.val w = true ∧ t.dram.wrs = [] ∧ t.dram.rds = [] := by decide +kernel
theorem test_rowIdleClose : let s : State := { bank3 with now := 5000 }; let cs : Fin 4 := 1; let sc : Fin 2 := 0; let bank : Nat := 3; let key := (cs.val * 2 + sc.val) * 32 + bank % 32; let t := after (.rowIdleClose cs sc bank) s;
    Up s ∧ (tgetD s.dram.banks key {}).used + 1000 ≤ s.now ∧ tgetD t.dram.banks key {} = { tgetD s.dram.banks key {} with row := none } := by decide +kernel
theorem test_rowInUse : let s : State := bank3; let cs : Fin 4 := 1; let sc : Fin 2 := 0; let bank : Nat := 3;
    Up s ∧ s.now < (tgetD s.dram.banks ((cs.val * 2 + sc.val) * 32 + bank % 32) {}).used + 1000 ∧ goes (.rowIdleClose cs sc bank) s = true := by decide +kernel
theorem test_refresh : let s : State := { bank3 with now := 5000, dram := { bank3.dram with banks := [(3, { row := some 5, ctr := 1 })], postponed := vset bank3.dram.postponed 0 2 } }; let cs : Fin 4 := 0; let t := after (.refresh cs) s;
    Up s ∧ s.dram.st = .service ∧ (vget s.dram.ranks cs.val {}).st ≠ 0 ∧ vget s.dram.refreshAt cs.val 0 + refreshNs s ≤ s.now ∧ s.dram.drain = false ∧ s.dram.rds = [] ∧ vget t.dram.postponed cs.val 9 = 0 ∧ vget t.dram.refreshAt cs.val 0 = s.now := by decide +kernel
theorem test_refreshPostponed : let s : State := { rdS with now := 5000 }; let cs : Fin 4 := 0; let t := after (.refresh cs) s;
    Up s ∧ s.dram.st = .service ∧ (vget s.dram.ranks cs.val {}).st ≠ 0 ∧ s.dram.rds ≠ [] ∧ vget s.dram.refreshAt cs.val 0 + refreshNs s ≤ s.now ∧ vget s.dram.postponed cs.val 0 < 4 ∧ vget t.dram.postponed cs.val 9 = vget s.dram.postponed cs.val 0 + 1 := by decide +kernel
theorem test_refreshNotDue : let s : State := bank3; let cs : Fin 4 := 0;
    Up s ∧ s.now < vget s.dram.refreshAt cs.val 0 + refreshNs s ∧ goes (.refresh cs) s = true := by decide +kernel
theorem test_tempPoll : let s : State := dramS; let b : Bool := true;
    Up s ∧ s.dram.st = .service ∧ goes (.tempPoll b) s = true := by decide +kernel
theorem test_caParityAlert : let s : State := { dramS with dram := { dramS.dram with cmds := vset dramS.dram.cmds 1 [0, 0] } }; let sc : Fin 2 := 1; let k : Nat := 1; let cs : Nat := 0; let t := after (.caParityAlert sc k) s;
    Up s ∧ s.dram.st = .service ∧ (vget s.dram.cmds sc.val [])[k]? = some cs ∧ cs < 4 ∧ cfgSpare s = false ∧ (vget t.dram.ranks cs {}).ca = ((vget s.dram.ranks cs {}).ca + 1) % 2 ^ 32 ∧ bit (t.objN 0x6407 0) 2 = true := by decide +kernel
theorem test_migrationBlock : let s : State := { mg 2 with now := 9000000 };
    Up s ∧ s.dram.mig.st = 1 ∧ s.dram.mig.blockAt + blockNs s ≤ s.now ∧ s.dram.mig.blocks + 1 < s.dram.mig.total ∧ goes (.migrationBlock 0) s = true := by decide +kernel
theorem test_migrationLast : let s : State := { mg 4 with now := 9000000 }; let l : Nat := 0; let t := after (.migrationBlock 0) s;
    Up s ∧ s.dram.mig.st = 1 ∧ s.dram.mig.blockAt + blockNs s ≤ s.now ∧ s.dram.mig.total ≤ s.dram.mig.blocks + 1 ∧ s.dram.mig.src < 4 ∧ s.dram.mig.spare < 4 ∧ s.dram.mig.src ≠ s.dram.mig.spare ∧ (findLt 4 fun l => vget s.dram.rankMap l 0 == s.dram.mig.src && decide (l < activeRanks s)) = some l ∧ t.dram.mig.st = 3 ∧ vget t.dram.rankMap l 9 = s.dram.mig.spare ∧ (vget t.dram.ranks s.dram.mig.src {}).st = 5 := by decide +kernel
theorem test_migrationNotDue : let s : State := mg 2; let k : Nat := 0;
    Up s ∧ s.now < s.dram.mig.blockAt + blockNs s ∧ goes (.migrationBlock k) s = true := by decide +kernel
theorem test_abortDramMigration : let s : State := mg 2; let t := after .abortDramMigration s;
    Up s ∧ s.dram.mig.st = 1 ∧ s.dram.mig.blocks + 1 < s.dram.mig.total ∧ t.dram.mig.st = 2 ∧ t.dict.lastAbort = le 1 7 ++ [0] ++ le 2 0 ∧ t.dict.abortCode = 0 := by decide +kernel
theorem test_mcInit : let s : State := z; let c : CoreId := 0; let t := after (.mcInit c) s;
    Up s ∧ s.dram.st = .off ∧ t.dram.st = .init ∧ t.dram.rds = [] ∧ t.dram.wrs = [] := by decide +kernel
theorem test_mcInit_2 : let s : State := initS; let c : CoreId := 0;
    Up s ∧ s.dram.st ≠ .off ∧ goes (.mcInit c) s = true := by decide +kernel
theorem test_initDone : let s : State := initS;
    Up s ∧ s.dram.st = .init ∧ goes .initDone s = true := by decide +kernel
theorem test_initTimeout : let s : State := initS; let t := after .initTimeout s;
    Up s ∧ s.dram.st = .init ∧ grantUnits t 2 0 = 0 := by decide +kernel
theorem test_mcService : let s : State := trainS; let c : CoreId := 0;
    Up s ∧ s.dram.st = .training ∧ goes (.mcService c) s = true := by decide +kernel
theorem test_mcService_2 : let s : State := z; let c : CoreId := 0;
    Up s ∧ s.dram.st ≠ .training ∧ goes (.mcService c) s = true := by decide +kernel
theorem test_trnStart : let s : State := trainS; let c : CoreId := 0; let v : Nat := 2 ^ 31 + 2 * 2 ^ 20 + 5; let t := after (.trnStart c v) s;
    Up s ∧ v < 2 ^ 32 ∧ bit v 31 = true ∧ s.dram.st = .training ∧ bit (s.regAt (mcReg 0x14)) 0 = false ∧ bits v 20 4 ≤ 4 ∧ 1 ≤ bits v 0 16 ∧ bit (t.regAt (mcReg 0x14)) 0 = true ∧ bits (t.regAt (mcReg 0x10)) 0 16 = bits v 0 16 := by decide +kernel
theorem test_trnDone : let s : State := after (.trnStart 0 (2 ^ 31 + 5)) trainS; let f : Nat := 3; let e : Nat := 4; let t := after (.trnDone f e) s;
    Up s ∧ bit (s.regAt (mcReg 0x14)) 0 = true ∧ t.regAt (mcReg 0x14) = 2 ∧ t.regAt (mcReg 0x20) = f % 2 ^ 36 ∧ t.regAt (mcReg 0x28) = e % 2 ^ 32 := by decide +kernel
theorem test_mrw : let s : State := trainS; let c : CoreId := 0; let v : Nat := 2 ^ 31 + 0x1234; let t := after (.mrw c v) s;
    Up s ∧ v < 2 ^ 32 ∧ bit v 30 = false ∧ bit v 31 = true ∧ (s.dram.st = .init ∨ s.dram.st = .training) ∧ tget t.dram.modeRegs (bits v 27 3 * 256 + bits v 8 8) = some (v % 256) ∧ bit (t.regAt (mcReg 0x34)) 8 = true := by decide +kernel
theorem test_mrr : let s : State := dramS; let c : CoreId := 0; let v : Nat := 2 ^ 31 + 2 ^ 30 + 0x400; let d : Nat := 0x99; let t := after (.mrr c v d) s;
    Up s ∧ v < 2 ^ 32 ∧ bit v 30 = true ∧ bit v 31 = true ∧ (s.dram.st = .init ∨ s.dram.st = .training ∨ s.dram.st = .service) ∧ t.regAt (mcReg 0x34) = 256 + d % 256 := by decide +kernel
theorem test_laneDelayWrite : let s : State := trainS; let c : CoreId := 0; let a : Nat := mcReg 0x1008; let v : Nat := 0x50003; let t := after (.laneDelayWrite c a v) s;
    Up s ∧ isLaneDelay a = true ∧ s.dram.st = .training ∧ t.regAt a = bits v 16 10 * 2 ^ 16 + v % 1024 := by decide +kernel
theorem test_laneDelayWrite_2 : let s : State := dramS; let c : CoreId := 0; let a : Nat := mcReg 0x1008; let v : Nat := 0x50003; let t := after (.laneDelayWrite c a v) s;
    Up s ∧ isLaneDelay a = true ∧ s.dram.st ≠ .training ∧ bit (t.objN 0x6407 0) 5 = true := by decide +kernel
theorem test_migrateStart : let s : State := spareS; let n : Nat := 0xFF00; let rest : Bytes := [0]; let x : Session := port0; let cs := fld (taken 0x6404 0 (1 :: rest)) 1 1; let t := after (.migrateStart n rest) s;
    (Up s ∧ sessOf s n = some x ∧ x.opened = true ∧ x.exec = none ∧ x.rights = 2 ∧ s.upd.resetDue = false) ∧ passes s 0x6404 0 (1 :: rest) = true ∧ cs ≤ 3 ∧ migrating s = false ∧ cfgSpare s = true ∧ (vget s.dram.ranks (spareCs s) {}).st = 2 ∧ (vget s.dram.ranks cs {}).st = 1 ∧ (t.lastResp.map fun z => (z.idx, z.el, (z.abort, z.detail))) = some (0x6404, 0, ok) ∧ (vget t.dram.ranks cs {}).st = 3 := by decide +kernel
theorem test_migrateResume : let s : State := { spareS with dram := { spareS.dram with mig := { st := 2 } } }; let n : Nat := 0xFF00; let rest : Bytes := [0]; let x : Session := port0; let t := after (.migrateResume n rest) s;
    (Up s ∧ sessOf s n = some x ∧ x.opened = true ∧ x.exec = none ∧ x.rights = 2 ∧ s.upd.resetDue = false) ∧ passes s 0x6404 0 (2 :: rest) = true ∧ fld (taken 0x6404 0 (2 :: rest)) 0 1 = 2 ∧ s.dram.mig.st = 2 ∧ (t.lastResp.map fun z => (z.idx, z.el, (z.abort, z.detail))) = some (0x6404, 0, ok) := by decide +kernel
theorem test_dmaDoorbell : let s : State := ch5 0; let k : CoreId := 0; let c : Fin 64 := 5; let tail : Nat := 3; let t := after (.dmaDoorbell k c tail) s;
    Up s ∧ chState s c.val = 0 ∧ chOn s c.val = true ∧ chStop s c.val = false ∧ chHead s c.val ≠ tail % 4096 % chSize s c.val ∧ t.regAt (chBase c.val + 0xC) = tail % 4096 ∧ chState t c.val = 1 := by decide +kernel
theorem test_dmaStop : let s : State := ch5 0; let k : CoreId := 0; let c : Fin 64 := 5; let t := after (.dmaStop k c) s;
    Up s ∧ chStop t c.val = true := by decide +kernel
theorem test_dmaStop_2 : let s : State := setCur (ch5 1) 5 (some (dmaLoad z 5)); let k : CoreId := 0; let c : Fin 64 := 5; let t := after (.dmaStop k c) s;
    Up s ∧ chStop t c.val = true := by decide +kernel
theorem test_dmaStopRelease : let s : State := after (.dmaStop 0 5) (ch5 0); let k : CoreId := 0; let c : Fin 64 := 5; let t := after (.dmaStopRelease k c) s;
    Up s ∧ chState s c.val = 3 ∧ chOn s c.val = true ∧ chStop t c.val = false ∧ chState t c.val = (if chWork s c.val then 1 else 0) := by decide +kernel
theorem test_dmaResume : let s : State := ch5 4; let k : CoreId := 0; let c : Fin 64 := 5; let t := after (.dmaResume k c) s;
    Up s ∧ chState s c.val = 4 ∧ chOn s c.val = true ∧ chStop s c.val = false ∧ chState t c.val = (if chWork s c.val then 1 else 0) := by decide +kernel
theorem test_abortDmaChannel : let s : State := run5; let c : Fin 64 := 5; let x : DmaCur := fil; let t := after (.abortDmaChannel c) s;
    Up s ∧ chState s c.val = 1 ∧ dmaCur s c = some x ∧ x.job = none ∧ allMemory s x.d.addr 32 = true ∧ x.d.notify = false ∧ chState t c.val = 4 ∧ dmaCur t c = none ∧ bits (readWord t (x.d.addr + 16)) 8 8 = 6 := by decide +kernel
theorem test_dmaBurst : let s : State := run5; let c : Fin 64 := 5; let x : DmaCur := fil; let t := after (.dmaBurst ⟨none, .clean⟩) s;
    Up s ∧ nextChannel s = some c.val ∧ dmaCur s c = some x ∧ x.d.op = 1 ∧ x.d.dstPcie = false ∧ x.d.dstW = 8 ∧ x.d.len = 8 ∧ x.pos = 0 ∧ x.poisoned = false ∧ x.d.dst % 8 = 0 ∧ 0x08000000 ≤ x.d.dst ∧ x.d.dst + 8 ≤ 0x08000000 + 1024 * s.objN 0x6801 1 ∧ inUnitWindow x.d.dst = false ∧ dmaCur t c = some { x with pos := 8, ready := true, status := 0 } ∧ t.dma.rr = c.val ∧ readMemN t.mem x.d.dst 8 = le 8 x.d.src := by decide +kernel
theorem test_dmaDescriptorDone : let s : State := after (.dmaBurst ⟨none, .clean⟩) run5; let c : Fin 64 := 5; let x : DmaCur := { fil with pos := 8, ready := true, status := 0 }; let t := after (.dmaDescriptorDone c) s;
    Up s ∧ dmaCur s c = some x ∧ x.ready = true ∧ x.status = 0 ∧ x.d.notify = false ∧ allMemory s x.d.addr 32 = true ∧ chState s c.val = 1 ∧ dmaCur t c = none ∧ bits (readWord t (x.d.addr + 16)) 8 8 = 0 ∧ bit (readWord t (x.d.addr + 16)) 0 = true := by decide +kernel

end Dram

/-! ### Supply, log, reset, update -/

namespace Reset

def wlBase : State := (((((z.setObj 0x7000 0 [1, 0]).setObj 0x7020 0 [1, 0]).setObj 0x7020 1 (le 4 5000000 ++ le 4 6000000 ++ [4, 1] ++ le 2 300 ++ le 2 200)).setObj 0x2001 1 [1]).setObj 0x1311 1 ([5, 1] ++ le 2 200 ++ [20] ++ zeros 21)).setObj 0x3010 1 ([1] ++ zeros 9 ++ [100] ++ zeros 69)
def wl : State := ((wlBase.setObj 0x2100 1 [1, 0, 0, 0]).modFe 0 fun f => { f with st := .ready, chan := some (chanOf 5500000 20000) }).modTrx 0 fun x => { x with powered := true, calibrated := true }
def rest6 : State := { z with power := { z.power with restoring := true, reclaimed := [{ kind := 6, inst := 1, units := 5 }] } }
def lin : LogIn := { unit := 0x110, cls := 3, code := 7, sec := 0, ns := 0, stepGen := 0, inst := 1, detail := 9 }
def r4 : LogRec := { unit := 0x10, cls := 4, code := 7, stamp := {}, gen := 0, unitSeq := 0, inst := 1, detail := 9 }
def logged : State := let s := { z with datum := { z.datum with t := { ns := 20000 } } }; s.setLog { s.log with waiting := [r4] }
def cold : State := after .aonPowerOn z
def stB : State := { cold with start := { cold.start with phase := .stepB, xoEn := true, pg := 15 } }
def limpS : State := { z with start := { z.start with limp := true, refRun := 0 } }
def trialS : State := { z with upd := { z.upd with st := .trial, trial := some 1, trialBooted := true } }
def hdrP : Bytes := [0x52, 0x4E, 0x53, 0x49, 1, 2] ++ zeros 10 ++ le 4 9 ++ le 4 64 ++ [2, 0] ++ zeros 486
def prof : State := { z with upd := { z.upd with profiles := vset z.upd.profiles 1 { header := some hdrP, payload := [] }, scheduled := some ([(0x7020, 1, List.replicate 14 1)], {}, 1) } }
def hdrF : Bytes := [0x52, 0x4E, 0x53, 0x49, 1, 1, 0x16, 0x37] ++ le 2 1 ++ le 2 1 ++ zeros 8 ++ le 4 8 ++ [0, 1] ++ zeros 486
def recv : State := match execBegin 0xFF00 (zeros 3 ++ hdrF) {} z with | .next t => t | _ => z
def filled : State := match execUpdateData 0xFF00 (le 4 0 ++ List.replicate 8 5) recv with | .next t => t | _ => z
def bin : BootIn := { pufTries := [true], pcieRole := false, pairId := false, trialChecksOk := true, confirmedChecksOk := true, otherChecksOk := true, profileOk := true }

theorem test_beaconBooking : let s : State := wl; let r : Radio := 0; let b : Fin 16 := 0; let u : Nat := (highestUnits wl 0).getD 0; let t := after (.beaconBooking r b) s;
    Up s ∧ isWlan s r = true ∧ bssOn s r.val b.val = true ∧ (s.fe r).st ≠ .off ∧ (16 * bssF s r.val b.val 12 2 + bssF s r.val b.val 10 2 * 1024 - s.mac.tsf % (bssF s r.val b.val 10 2 * 1024)) % (bssF s r.val b.val 10 2 * 1024) ≤ 1000 ∧ (highestUnits s r).isSome = true ∧ u ≠ 0 ∧ u ≤ roomFor s 10 (bookKey r.val 1 b.val) true ∧ grantUnits t 10 (bookKey r.val 1 b.val) = u := by decide +kernel
theorem test_supplyFailAssert : let s : State := z.setObj 0x1310 0 (le 2 400 ++ le 2 300); let low : Nat := 200; let t := after (.supplyFailAssert low) s;
    Up s ∧ 200 ≤ low ∧ s.power.supplyLow = false ∧ committed s ≤ s.objF 0x1310 0 2 2 ∧ bit (t.objN 0x1330 0) 0 = true ∧ budget t = t.objF 0x1310 0 2 2 := by decide +kernel
theorem test_supplyGlitch : let s : State := z; let low : Nat := 199;
    Up s ∧ low < 200 ∧ goes (.supplyFailAssert low) s = true := by decide +kernel
theorem test_supplyBack : let s : State := { z with power := { z.power with supplyLow := true } };
    Up s ∧ s.power.supplyLow = true ∧ goes .supplyBack s = true := by decide +kernel
theorem test_supplyRestore : let s : State := { rest6 with now := 2000000000 }; let g : Grant := { kind := 6, inst := 1, units := 5 }; let t := after .supplyRestore s;
    Up s ∧ s.power.restoring = true ∧ s.power.supplyLow = false ∧ (s.datum.running = false ∨ s.power.backAt + 1000000000 ≤ s.now) ∧ s.power.reclaimed = [g] ∧ g.kind = 6 ∧ g.units ≠ 0 ∧ g.units ≤ roomFor { s with power := { s.power with restoring := false, reclaimed := [] } } 6 g.inst false ∧ t.power.restoring = false ∧ t.power.reclaimed = [] ∧ grantUnits t 6 g.inst = g.units := by decide +kernel
theorem test_supplyWaits : let s : State := rest6;
    Up s ∧ s.datum.running = true ∧ s.now < s.power.backAt + 1000000000 ∧ goes .supplyRestore s = true := by decide +kernel
theorem test_powerCmdStandby : let s : State := z; let n : Nat := 0xFF00; let rest : Bytes := zeros 15; let x : Session := port0; let u := taken 0x1301 0 (1 :: rest); let mask := if fld u 2 2 = 0 then s.objN 0x1304 0 else fld u 2 2; let t := after (.powerCmdStandby n rest) s;
    (Up s ∧ sessOf s n = some x ∧ x.opened = true ∧ x.exec = none ∧ x.rights = 2 ∧ s.upd.resetDue = false) ∧ passes s 0x1301 0 (1 :: rest) = true ∧ fld u 0 1 = 1 ∧ fld u 2 2 < 64 ∧ entryRefusers s false mask = [] ∧ (t.lastResp.map fun z => (z.idx, z.el, (z.abort, z.detail))) = some (0x1301, 0, ok) := by decide +kernel
theorem test_powerCmdHibernate : let s : State := z; let n : Nat := 0xFF00; let rest : Bytes := [0, 2, 0] ++ zeros 12; let x : Session := port0; let u := taken 0x1301 0 (2 :: rest); let mask := if fld u 2 2 = 0 then s.objN 0x1304 0 else fld u 2 2; let t := after (.powerCmdHibernate n rest) s;
    (Up s ∧ sessOf s n = some x ∧ x.opened = true ∧ x.exec = none ∧ x.rights = 2 ∧ s.upd.resetDue = false) ∧ passes s 0x1301 0 (2 :: rest) = true ∧ fld u 0 1 = 2 ∧ fld u 2 2 < 64 ∧ entryRefusers s true mask = [] ∧ (t.lastResp.map fun z => (z.idx, z.el, (z.abort, z.detail))) = some (0x1301, 0, ok) := by decide +kernel
theorem test_powerRefused : let s : State := { z with start := { z.start with limp := true } }; let n : Nat := 0xFF00; let unit : Nat := 0x50; let sub_ : Nat := 0x508; let l : List (Nat × Nat) := []; let rest : Bytes := zeros 15; let x : Session := port0; let u := taken 0x1301 0 (1 :: rest); let t := after (.powerCmdStandby n rest) s;
    (Up s ∧ sessOf s n = some x ∧ x.opened = true ∧ x.exec = none ∧ x.rights = 2 ∧ s.upd.resetDue = false) ∧ passes s 0x1301 0 (1 :: rest) = true ∧ fld u 0 1 = 1 ∧ fld u 2 2 < 64 ∧ entryRefusers s false (if fld u 2 2 = 0 then s.objN 0x1304 0 else fld u 2 2) = (unit, sub_) :: l ∧ (t.lastResp.map fun z => (z.idx, z.el, (z.abort, z.detail))) = some (0x1301, 0, (aRefused, det unit sub_)) ∧ bit (t.objN 0x1330 0) 3 = true := by decide +kernel
theorem test_logDeliver : let s : State := z; let r : LogIn := lin;
    Up s ∧ r.cls ≤ 4 ∧ r.cls ≠ 1 ∧ unitIds.contains (r.unit % 256) = true ∧ goes (.logDeliver r) s = true := by decide +kernel
theorem test_logUnlisted : let s : State := z; let r : LogIn := { lin with unit := 0xEE };
    Up s ∧ (4 < r.cls ∨ unitIds.contains (r.unit % 256) = false) ∧ goes (.logDeliver r) s = true := by decide +kernel
theorem test_logCommit : let s : State := logged; let r : LogRec := r4; let t := after .logCommit s;
    Up s ∧ s.log.waiting = [r] ∧ recDue s r = true ∧ t.log.waiting = [] ∧ t.log.recs = (s.log.recs.filter fun y => y.seq % 1024 ≠ s.log.nextSeq % 1024) ++ [{ r with seq := s.log.nextSeq }] := by decide +kernel
theorem test_logAck : let s : State := after .logCommit logged; let n : Nat := 0xFF00; let v : Bytes := le 4 5; let x : Session := port0; let t := after (.logAck n v) s;
    (Up s ∧ sessOf s n = some x ∧ x.opened = true ∧ x.exec = none ∧ x.rights = 2 ∧ s.upd.resetDue = false) ∧ passes s 0x7F02 0 v = true ∧ (t.lastResp.map fun z => (z.idx, z.el, (z.abort, z.detail))) = some (0x7F02, 0, ok) := by decide +kernel
theorem test_resetN : let s : State := { after (.dramWrite 0 []) z with mem := [(5, 1)] }; let low : Nat := 1000; let t := after (.resetN low) s;
    s.start.phase ≠ .off ∧ 1000 ≤ low ∧ (t.start.phase = .stepA ∨ t.start.phase = .stepB) ∧ t.start.cause = 1 ∧ t.start.enHold = true := by decide +kernel
theorem test_resetN_2 : let s : State := z; let low : Nat := 999;
    s.start.phase ≠ .off ∧ low < 1000 ∧ goes (.resetN low) s = true := by decide +kernel
theorem test_powerGood : let s : State := after (.powerGood 2) (after (.powerGood 1) (after (.powerGood 0) cold)); let i : Fin 8 := 3;
    s.start.phase ≠ .off ∧ goes (.powerGood i) s = true := by decide +kernel
theorem test_pgLost : let s : State := z; let i : Fin 8 := 6; let t := after (.pgLost i) s;
    Up s ∧ bit s.start.pg i = true ∧ (if i.val < 4 then s.start.enHold else s.start.enMain) = true ∧ (t.start.faults.getLast?).isSome = true ∧ t.start.phase = .reassert ∧ t.start.enHold = false ∧ t.start.enMain = false := by decide +kernel
theorem test_pllLost : let s : State := z; let d : Fin 14 := 7; let t := after (.pllLost d) s;
    Up s ∧ fatalPll d.val = true ∧ s.power.now_ ≤ 2 ∧ s.start.limp = false ∧ (t.start.faults.getLast?).isSome = true ∧ t.start.phase = .reassert ∧ t.start.enHold = false ∧ t.start.enMain = false := by decide +kernel
theorem test_refWindow : let s : State := after (.refWindow 78125) stB; let n : Nat := 78203;
    s.start.phase = .stepB ∧ s.start.xoEn = true ∧ goes (.refWindow n) s = true := by decide +kernel
theorem test_refWindow_2 : let s : State := stB; let n : Nat := 78125;
    s.start.phase = .stepB ∧ s.start.xoEn = true ∧ goes (.refWindow n) s = true := by decide +kernel
theorem test_refWindow_3 : let s : State := stB; let n : Nat := 78204;
    s.start.phase = .stepB ∧ s.start.xoEn = true ∧ goes (.refWindow n) s = true := by decide +kernel
theorem test_startupStepTimeout : let s : State := cold; let w : Nat := 0; let t := after (.startupStepTimeout w) s;
    s.start.phase = .stepA ∧ s.start.enHold = true ∧ s.start.fromStandby = false ∧ t.start.enHold = false := by decide +kernel
theorem test_startupStepTimeout_2 : let s : State := { cold with start := { cold.start with attempts := 3 } }; let w : Nat := 0; let t := after (.startupStepTimeout w) s;
    s.start.phase = .stepA ∧ s.start.enHold = true ∧ s.start.fromStandby = false ∧ t.start.enHold = false := by decide +kernel
theorem test_enableReassert : let s : State := after (.startupStepTimeout 0) cold;
    holdGood s.start = false ∧ s.start.phase = .stepA ∧ s.start.enHold = false ∧ goes .enableReassert s = true := by decide +kernel
theorem test_enableReassert_2 : let s : State := after (.pgLost 0) z; let t := after .enableReassert s;
    holdGood s.start = false ∧ s.start.phase = .reassert ∧ t.start.phase = .stepA ∧ t.start.enHold = true := by decide +kernel
theorem test_failRetryExpiry : let s : State := after (.startupStepTimeout 0) { cold with start := { cold.start with attempts := 3 } }; let t := after .failRetryExpiry s;
    s.start.phase = .failed ∧ s.start.failRetry ≠ 0 ∧ holdGood s.start = false ∧ t.start.phase = .stepA ∧ t.start.enHold = true := by decide +kernel
theorem test_rcTrim : let s : State := limpS; let v : Nat := 0x10005;
    Up s ∧ s.start.limp = true ∧ goes (.rcTrim v) s = true := by decide +kernel
theorem test_limpRefCheck : let s : State := limpS; let a : Nat := 78047; let b : Nat := 78203;
    Up s ∧ s.start.limp = true ∧ goes (.limpRefCheck a b) s = true := by decide +kernel
theorem test_limpRefCheck_2 : let s : State := limpS; let a : Nat := 78047; let b : Nat := 78046;
    Up s ∧ s.start.limp = true ∧ goes (.limpRefCheck a b) s = true := by decide +kernel
theorem test_thermReading : let s : State := z; let i : Fin 9 := 3; let v : Int := -500;
    Up s ∧ goes (.thermReading i v) s = true := by decide +kernel
theorem test_thermReading_2 : let s : State := z; let i : Fin 9 := 3; let v : Int := 1501;
    Up s ∧ goes (.thermReading i v) s = true := by decide +kernel
theorem test_thermTrip : let s : State := after (.thermReading 8 1220) z; let i : Fin 9 := 8; let t := after (.thermTrip i) s;
    Up s ∧ bit s.start.thermValid i = true ∧ 1220 ≤ s.objI 0x1700 (i + 1) 0 2 ∧ (t.start.faults.getLast?).isSome = true ∧ t.start.phase = .failed ∧ t.start.enHold = false ∧ t.start.enMain = false := by decide +kernel
theorem test_aonPowerOn : let s : State := z; let t := after .aonPowerOn s;
    t.start.phase = .stepA ∧ t.start.enHold = true ∧ t.start.cause = 0 := by decide +kernel
theorem test_powerLoss : let s : State := z; let t := after .powerLoss s;
    t.start.phase = .off ∧ t.power.grants = [] ∧ t.mem = [] := by decide +kernel
theorem test_trialWindowExpiry : let s : State := trialS; let t := after .trialWindowExpiry s;
    Up s ∧ s.upd.st = .trial ∧ (t.start.phase = .stepA ∨ t.start.phase = .stepB) ∧ t.start.cause = 3 ∧ t.upd.fallCause = 1 := by decide +kernel
theorem test_profileApply : let s : State := prof; let i : Nat := 0x7020; let e : Nat := 1; let slot : Nat := 1; let v : Bytes := List.replicate 14 1; let d : DatumVal := {};
    Up s ∧ s.upd.scheduled = some ([(i, e, v)], d, slot) ∧ d.le s.datum.t = true ∧ 0x7003 ≤ i ∧ i ≤ 0x70FF ∧ e < 65536 ∧ goes .profileApply s = true := by decide +kernel
theorem test_abortUpdate : let s : State := filled; let t := after .abortUpdate s;
    Up s ∧ (s.upd.st = .receiving ∨ s.upd.st = .ready) ∧ t.upd.st = .idle ∧ t.upd.result = aAborted ∧ t.upd.received = [] := by decide +kernel
theorem test_begin : let s : State := z; let n : Nat := 0xFF00; let rest : Bytes := zeros 3 ++ hdrF; let env : Env := {}; let x : Session := port0; let u := taken 0x1601 0 (1 :: rest); let h := u.drop 4; let t := after (.begin n rest env) s;
    (Up s ∧ sessOf s n = some x ∧ x.opened = true ∧ x.exec = none ∧ x.rights = 2 ∧ s.upd.resetDue = false) ∧ passes s 0x1601 0 (1 :: rest) = true ∧ fld u 0 1 = 1 ∧ u.length = 516 ∧ updRefusal s = none ∧ s.upd.st = .idle ∧ verifyHeader env h s = 0 ∧ hdrType h = 1 ∧ s.pair.en = false ∧ s.upd.running ≤ 1 ∧ (t.lastResp.map fun z => (z.idx, z.el, (z.abort, z.detail))) = some (0x1601, 0, ok) ∧ t.upd.st = .receiving ∧ t.upd.header = h := by decide +kernel
theorem test_updateData : let s : State := recv; let n : Nat := 0xFF00; let v : Bytes := le 4 0 ++ List.replicate 8 5; let x : Session := port0; let u := taken 0x1602 0 v; let t := after (.updateData n v) s;
    (Up s ∧ sessOf s n = some x ∧ x.opened = true ∧ x.exec = none ∧ x.rights = 2 ∧ s.upd.resetDue = false) ∧ passes s 0x1602 0 v = true ∧ reservedBy s none 0x1602 0 = false ∧ updRefusal s = none ∧ s.upd.st = .receiving ∧ fld u 0 4 = s.upd.received.length ∧ fld u 0 4 + (u.length - 4) ≤ hdrLen s.upd.header ∧ (t.lastResp.map fun z => (z.idx, z.el, (z.abort, z.detail))) = some (0x1602, 0, ok) := by decide +kernel
theorem test_finish : let s : State := filled; let n : Nat := 0xFF00; let rest : Bytes := zeros 3; let env : Env := {}; let x : Session := port0; let u := taken 0x1601 0 (2 :: rest); let t := after (.finish n rest env) s;
    (Up s ∧ sessOf s n = some x ∧ x.opened = true ∧ x.exec = none ∧ x.rights = 2 ∧ s.upd.resetDue = false) ∧ passes s 0x1601 0 (2 :: rest) = true ∧ fld u 0 1 = 2 ∧ u.length ≠ 516 ∧ updRefusal s = none ∧ s.upd.st = .receiving ∧ s.upd.received.length = hdrLen s.upd.header ∧ s.upd.profile = false ∧ s.upd.target < 2 ∧ env.digestOk = true ∧ (t.lastResp.map fun z => (z.idx, z.el, (z.abort, z.detail))) = some (0x1601, 0, ok) ∧ t.upd.st = .ready ∧ vget t.upd.images s.upd.target {} = { header := some s.upd.header, payload := s.upd.received } := by decide +kernel
theorem test_finish_2 : let s : State := filled; let n : Nat := 0xFF00; let rest : Bytes := zeros 3; let env : Env := { digestOk := false }; let x : Session := port0; let u := taken 0x1601 0 (2 :: rest); let t := after (.finish n rest env) s;
    (Up s ∧ sessOf s n = some x ∧ x.opened = true ∧ x.exec = none ∧ x.rights = 2 ∧ s.upd.resetDue = false) ∧ passes s 0x1601 0 (2 :: rest) = true ∧ fld u 0 1 = 2 ∧ u.length ≠ 516 ∧ updRefusal s = none ∧ s.upd.st = .receiving ∧ s.upd.received.length = hdrLen s.upd.header ∧ s.upd.profile = false ∧ s.upd.target < 2 ∧ env.digestOk = false ∧ (t.lastResp.map fun z => (z.idx, z.el, (z.abort, z.detail))) = some (0x1601, 0, (updRefused 0x127)) ∧ t.upd.st = .idle := by decide +kernel
theorem test_activate : let s : State := after (.finish 0xFF00 (zeros 3) {}) filled; let n : Nat := 0xFF00; let rest : Bytes := zeros 3; let x : Session := port0; let u := taken 0x1601 0 (3 :: rest); let t := after (.activate n rest) s;
    (Up s ∧ sessOf s n = some x ∧ x.opened = true ∧ x.exec = none ∧ x.rights = 2 ∧ s.upd.resetDue = false) ∧ passes s 0x1601 0 (3 :: rest) = true ∧ fld u 0 1 = 3 ∧ u.length ≠ 516 ∧ updRefusal s = none ∧ s.upd.st = .ready ∧ s.upd.profile = false ∧ (t.lastResp.map fun z => (z.idx, z.el, (z.abort, z.detail))) = some (0x1601, 0, ok) ∧ t.upd.trial = some s.upd.target ∧ t.upd.trialBooted = false := by decide +kernel
theorem test_updateDiscard : let s : State := filled; let n : Nat := 0xFF00; let rest : Bytes := zeros 3; let x : Session := port0; let u := taken 0x1601 0 (4 :: rest); let t := after (.updateDiscard n rest) s;
    (Up s ∧ sessOf s n = some x ∧ x.opened = true ∧ x.exec = none ∧ x.rights = 2 ∧ s.upd.resetDue = false) ∧ passes s 0x1601 0 (4 :: rest) = true ∧ fld u 0 1 = 4 ∧ u.length ≠ 516 ∧ (s.upd.st = .receiving ∨ s.upd.st = .ready) ∧ (t.lastResp.map fun z => (z.idx, z.el, (z.abort, z.detail))) = some (0x1601, 0, ok) ∧ t.upd.st = .idle ∧ t.upd.received = [] := by decide +kernel
theorem test_revert : let s : State := trialS; let n : Nat := 0xFF00; let rest : Bytes := zeros 3; let x : Session := port0; let u := taken 0x1601 0 (5 :: rest); let t := after (.revert n rest) s;
    (Up s ∧ sessOf s n = some x ∧ x.opened = true ∧ x.exec = none ∧ x.rights = 2 ∧ s.upd.resetDue = false) ∧ passes s 0x1601 0 (5 :: rest) = true ∧ fld u 0 1 = 5 ∧ u.length ≠ 516 ∧ s.upd.st = .trial ∧ (t.lastResp.map fun z => (z.idx, z.el, (z.abort, z.detail))) = some (0x1601, 0, ok) ∧ t.upd.fallCause = 3 ∧ (t.start.phase = .stepA ∨ t.start.phase = .stepB) := by decide +kernel
theorem test_benchmark : let s : State := trialS; let n : Nat := 0xFF00; let v : Bytes := le 4 1; let k : Nat := 1; let x : Session := port0; let t := after (.benchmark n v) s;
    (Up s ∧ sessOf s n = some x ∧ x.opened = true ∧ x.exec = none ∧ x.rights = 2 ∧ s.upd.resetDue = false) ∧ passes s 0x1600 0 v = true ∧ 0xFF00 ≤ n ∧ leNat (taken 0x1600 0 v) = s.part.fwVersion ∧ s.upd.st = .trial ∧ s.upd.trial = some k ∧ s.power.supplyLow = false ∧ (t.lastResp.map fun z => (z.idx, z.el, (z.abort, z.detail))) = some (0x1600, 0, ok) ∧ t.upd.st = .idle ∧ t.upd.confirmed = k := by decide +kernel
theorem test_resetRelease : let s : State := { after (.resetN 1000) z with start := { z.start with phase := .pll, booted := false } }; let b : BootIn := bin;
    s.start.phase = .pll ∧ s.start.locked ≠ 0 ∧ s.start.fromStandby = false ∧ s.start.limp = false ∧ s.upd.trial = none ∧ b.confirmedChecksOk = true ∧ goes (.resetRelease b) s = true := by decide +kernel

end Reset

/-! ### Pair, stakes, steps, sleep -/

namespace Pair

def armed : State := setTrav z 2 { st := .armed, owner := 0xFF00, staged := [(0x3020, 1, List.replicate 32 1), (0x3020, 2, List.replicate 32 2)], t := {} }
def armedB : State := (setTrav (z.setObj 0x2100 1 [1]) 2 { st := .armed, owner := 0xFF00, staged := [(0x3020, 1, List.replicate 32 1)], t := {} }).modFe 0 fun f => { f with st := .ready, rx := some { refPower := -700 } }
def asP (st : PairState) : State := { z with pair := { z.pair with st, link := true, en := true } }
def activeP : State := { asP .active with pair := { (asP .active).pair with partner := 3, activeOut := true } }
def hb (st id : Nat) : Heartbeat := { state := st, pairId := id, health := 7, updating := false, trial := false, ackSeq := 0, stampSec := 0, stampNs := 0, stampFrac := 0, synced := true, tsf := 0, roundTripNs := 0, rateDiff := 0 }
def missing (st : PairState) : State := { asP st with pair := { (asP st).pair with missed := 2 } }
def owed (x : MirrorItem) : State := { activeP with pair := { activeP.pair with unacked := [{ seq := 9, cls := 1, item := x, at_ := 0 }] } }
def syncS : State := { asP .syncing with datum := { z.datum with followRun := 16 } }
def claimP (peer : Bool) (id : Nat) : State := { asP .wait with pair := { (asP .wait).pair with claiming := true, activeOut := true, peerIn := peer, id } }
def bothP : State := { activeP with pair := { activeP.pair with peerIn := true, id := 1 } }
def stp (f : Bool) : StepReq := { absolute := false, units := 1000 * 4294967296, follow := f, sess := none }
def stepS (f : Bool) : State := { z with datum := { z.datum with steps := [stp f] } }
def sleepS (h : Bool) : State := { z with power := { z.power with entry := some { hibernate := h, mask := 1, stamp := {}, alarm := [] } } }
def wokeS : State := let s := after (.wake 0) (after .entryDone (sleepS false)); { s with start := { s.start with phase := .pll } }

theorem test_stakeInstant : let s : State := armed; let k : Fin 4 := 2; let t := after (.stakeInstant k) s;
    Up s ∧ (travAt s k).st = .armed ∧ (travAt s k).t.units ≤ s.datum.t.units ∧ s.rf.deferred = [] ∧ (∀ p ∈ (travAt s k).staged, p.1 = 0x3020 ∧ 1 ≤ p.2.1 ∧ p.2.1 ≤ 3 ∧ ∀ r : Radio, r.val = p.2.1 - 1 → radioBoundary s r = true) ∧ t.obj = ((travAt s k).staged.foldl (fun s p => s.setObj p.1 p.2.1 p.2.2) s).obj ∧ (travAt t k).st = .applying ∧ (travAt t k).late = false := by decide +kernel
theorem test_stakeWaits : let s : State := armedB; let k : Fin 4 := 2; let t := after (.stakeInstant k) s;
    Up s ∧ (travAt s k).st = .armed ∧ (travAt s k).t.units ≤ s.datum.t.units ∧ s.rf.deferred = [] ∧ (∀ p ∈ (travAt s k).staged, p.1 = 0x3020 ∧ 1 ≤ p.2.1 ∧ p.2.1 ≤ 3 ∧ ∀ r : Radio, r.val = p.2.1 - 1 → radioBoundary s r = false) ∧ t.rf.deferred = (travAt s k).staged ∧ (travAt t k).st = .applying := by decide +kernel
theorem test_stakeEarly : let s : State := armed; let k : Fin 4 := 1;
    Up s ∧ ((travAt s k).st ≠ .armed ∨ s.datum.t.units < (travAt s k).t.units) ∧ goes (.stakeInstant k) s = true := by decide +kernel
theorem test_heartbeatSend : let s : State := asP .wait;
    Up s ∧ s.pair.st ≠ .solo ∧ s.pair.st ≠ .fenced ∧ s.pair.link = true ∧ s.power.now_ ≤ 2 ∧ goes .heartbeatSend s = true := by decide +kernel
theorem test_heartbeatReceive : let s : State := asP .active; let h : Heartbeat := hb 3 1;
    Up s ∧ s.pair.st = .active ∧ s.pair.link = true ∧ s.pair.handing = false ∧ s.upd.peerTie = false ∧ h.pairId ≠ s.pair.id ∧ (h.state = 2 ∨ h.state = 3) ∧ goes (.heartbeatReceive h) s = true := by decide +kernel
theorem test_heartbeatReceive_2 : let s : State := activeP; let h : Heartbeat := hb 1 1;
    Up s ∧ s.pair.st = .active ∧ s.pair.link = true ∧ s.pair.handing = false ∧ s.upd.peerTie = false ∧ h.pairId ≠ s.pair.id ∧ h.state ≠ 2 ∧ h.state ≠ 3 ∧ goes (.heartbeatReceive h) s = true := by decide +kernel
theorem test_heartbeatReceive_3 : let s : State := asP .active; let h : Heartbeat := hb 3 0; let t := after (.heartbeatReceive h) s;
    Up s ∧ s.pair.st = .active ∧ s.pair.link = true ∧ s.pair.handing = false ∧ s.upd.peerTie = false ∧ h.pairId = s.pair.id ∧ bit (t.objN 0x1405 0) 5 = true := by decide +kernel
theorem test_heartbeatActive : let s : State := asP .wait; let h : Heartbeat := hb 4 1; let t := after (.heartbeatReceive h) s;
    Up s ∧ s.pair.st = .wait ∧ s.pair.link = true ∧ s.upd.peerTie = false ∧ h.pairId ≠ s.pair.id ∧ h.state = 4 ∧ s.start.limp = false ∧ t.pair.st = .syncing ∧ t.pair.claiming = false ∧ t.pair.activeOut = false := by decide +kernel
theorem test_heartbeatMissed : let s : State := { activeP with pair := { activeP.pair with missed := 2 } };
    Up s ∧ s.upd.peerTie = false ∧ s.pair.st = .active ∧ 2 ≤ s.pair.missed ∧ goes .heartbeatMissed s = true := by decide +kernel
theorem test_heartbeatMissed_2 : let s : State := asP .standby;
    Up s ∧ s.upd.peerTie = false ∧ s.pair.st = .standby ∧ s.pair.missed < 2 ∧ goes .heartbeatMissed s = true := by decide +kernel
theorem test_heartbeatMissed_3 : let s : State := missing .syncing; let t := after .heartbeatMissed s;
    Up s ∧ s.upd.peerTie = false ∧ s.pair.st = .syncing ∧ 2 ≤ s.pair.missed ∧ t.pair.st = .wait ∧ t.pair.missed = 0 ∧ t.sec.slots = [] := by decide +kernel
theorem test_mirror : let s : State := asP .standby; let c : Nat := 3; let idx : Nat := 0x3020; let el : Nat := 1; let v : Bytes := List.replicate 32 1;
    Up s ∧ standsBy s = true ∧ el < 65536 ∧ idx ≠ 0x1201 ∧ idx ≠ 0x1300 ∧ idx ≠ 0x2004 ∧ idx ≠ 0x0110 ∧ idx ≠ 0x0111 ∧ goes (.mirror c s.pair.inSeq (.object idx el v) true) s = true := by decide +kernel
theorem test_mirrorBad : let s : State := asP .standby; let c : Nat := 3; let q : Nat := 1; let x : MirrorItem := .aids []; let ok : Bool := false;
    Up s ∧ standsBy s = true ∧ ok = false ∧ goes (.mirror c q x ok) s = true := by decide +kernel
theorem test_mirrorBad_2 : let s : State := asP .standby; let c : Nat := 3; let q : Nat := 2; let x : MirrorItem := .aids []; let ok : Bool := true;
    Up s ∧ standsBy s = true ∧ ok = true ∧ q ≠ s.pair.inSeq ∧ goes (.mirror c q x ok) s = true := by decide +kernel
theorem test_mirrorAck : let s : State := owed (.object 0x3020 1 []); let i := 0x3020; let e := 1; let v := []; let u : MirrorFrame := { seq := 9, cls := 1, item := .object 0x3020 1 [], at_ := 0 };
    Up s ∧ s.pair.unacked = [u] ∧ s.pair.handing = false ∧ u.item = .object i e v ∧ goes (.mirrorAck u.seq) s = true := by decide +kernel
theorem test_mirrorAck_2 : let s : State := owed (.key 5 1 1 77 [] []); let n := 5; let st := 1; let ty := 1; let ctr := 77; let m := []; let sa := []; let u : MirrorFrame := { seq := 9, cls := 1, item := .key 5 1 1 77 [] [], at_ := 0 };
    Up s ∧ s.pair.unacked = [u] ∧ s.pair.handing = false ∧ u.item = .key n st ty ctr m sa ∧ goes (.mirrorAck u.seq) s = true := by decide +kernel
theorem test_mirrorAck_3 : let s : State := owed (.seqCounter 2 3 44); let sta := 2; let tid := 3; let sn := 44; let u : MirrorFrame := { seq := 9, cls := 1, item := .seqCounter 2 3 44, at_ := 0 };
    Up s ∧ s.pair.unacked = [u] ∧ s.pair.handing = false ∧ u.item = .seqCounter sta tid sn ∧ goes (.mirrorAck u.seq) s = true := by decide +kernel
theorem test_mirrorResend : let s : State := owed (.aids []);
    Up s ∧ goes .mirrorResend s = true := by decide +kernel
theorem test_resyncReq : let s : State := asP .active; let t := after .resyncReq s;
    Up s ∧ s.pair.st = .active ∧ t.pair.partner = 2 ∧ t.pair.unacked.map (·.item) = (fullCopy s).map (·.2) ∧ t.pair.unacked.map (·.cls) = (fullCopy s).map (·.1) := by decide +kernel
theorem test_resyncData : let s : State := syncS; let c : Nat := 3; let p : Nat := 100; let idx : Nat := 0x3020; let el : Nat := 1; let v : Bytes := List.replicate 32 1; let last : Bool := true; let t := after (.resyncData c s.pair.inSeq (.object idx el v) true last p) s;
    Up s ∧ s.pair.st = .syncing ∧ el < 65536 ∧ idx ≠ 0x1201 ∧ idx ≠ 0x1300 ∧ idx ≠ 0x2004 ∧ idx ≠ 0x0110 ∧ idx ≠ 0x0111 ∧ t.pair.inSeq = (s.pair.inSeq + 1) % 2 ^ 32 ∧ t.pair.copyDone = (s.pair.copyDone || last) ∧ t.pair.st = (if (s.pair.copyDone || last) = true ∧ 16 ≤ s.datum.followRun then .standby else .syncing) := by decide +kernel
theorem test_stakeMirrorTimeout : let s : State := setTrav activeP 1 { st := .armed, mirroring := true }; let k : Fin 4 := 1; let t := after (.stakeMirrorTimeout k) s;
    Up s ∧ (travAt s k).mirroring = true ∧ (∀ x ∈ s.dict.sessions, x.exec = none) ∧ (travAt t k).mirroring = false ∧ (travAt t k).st = (travAt s k).st ∧ t.pair.partner = 1 := by decide +kernel
theorem test_waitExpiry : let s : State := asP .wait;
    Up s ∧ s.pair.st = .wait ∧ s.pair.claiming = false ∧ s.start.limp = false ∧ s.pair.peerIn = false ∧ goes .waitExpiry s = true := by decide +kernel
theorem test_waitExpiry_2 : let s : State := { asP .wait with pair := { (asP .wait).pair with peerIn := true } }; let t := after .waitExpiry s;
    Up s ∧ s.pair.st = .wait ∧ s.pair.claiming = false ∧ s.start.limp = false ∧ s.pair.peerIn = true ∧ bit (t.objN 0x1405 0) 1 = true := by decide +kernel
theorem test_claimSample : let s : State := claimP true 1;
    Up s ∧ s.pair.claiming = true ∧ s.pair.retryClaim = false ∧ s.pair.peerIn = true ∧ s.pair.id = 1 ∧ goes .claimSample s = true := by decide +kernel
theorem test_claimSample_2 : let s : State := claimP true 0;
    Up s ∧ s.pair.claiming = true ∧ s.pair.retryClaim = false ∧ s.pair.peerIn = true ∧ s.pair.id ≠ 1 ∧ goes .claimSample s = true := by decide +kernel
theorem test_claimWon : let s : State := claimP false 1; let t := after .claimSample s;
    Up s ∧ s.pair.claiming = true ∧ s.pair.retryClaim = false ∧ s.pair.peerIn = false ∧ t.pair.st = .active ∧ t.pair.activeOut = true ∧ t.pair.claiming = false := by decide +kernel
theorem test_peerActiveChange : let s : State := z; let level : Bool := true;
    s.pair.retryClaim = false ∧ s.pair.switchHeld = false ∧ s.pair.heard = false ∧ goes (.peerActiveChange level) s = true := by decide +kernel
theorem test_peerActiveHeld : let s : State := { claimP true 0 with pair := { (claimP true 0).pair with retryClaim := true } };
    Up s ∧ s.pair.peerIn = true ∧ s.pair.retryClaim = true ∧ goes .peerActiveHeld s = true := by decide +kernel
theorem test_peerActiveHeld_2 : let s : State := bothP; let t := after .peerActiveHeld s;
    Up s ∧ s.pair.peerIn = true ∧ s.pair.retryClaim = false ∧ s.pair.st = .active ∧ s.pair.id = 1 ∧ t.pair.st = .fenced ∧ t.pair.activeOut = false ∧ t.pair.unacked = [] := by decide +kernel
theorem test_switchover : let s : State := asP .standby; let t := after .switchover s;
    Up s ∧ s.pair.st = .standby ∧ s.pair.peerIn = false ∧ t.pair.st = .active ∧ t.pair.activeOut = true ∧ t.pair.takeovers = (s.pair.takeovers + 1) % 2 ^ 32 := by decide +kernel
theorem test_switchover_2 : let s : State := { asP .standby with pair := { (asP .standby).pair with peerIn := true } };
    Up s ∧ s.pair.st = .standby ∧ s.pair.peerIn = true ∧ goes .switchover s = true := by decide +kernel
theorem test_failover : let s : State := { missing .standby with mac := { (missing .standby).mac with snCtr := [(17, 4000)] } }; let t := after .heartbeatMissed s;
    Up s ∧ s.upd.peerTie = false ∧ s.pair.st = .standby ∧ 2 ≤ s.pair.missed ∧ s.pair.peerIn = false ∧ t.pair.st = .active ∧ t.pair.activeOut = true ∧ t.pair.partner = 0 := by decide +kernel
theorem test_pairKick : let s : State := activeP; let c : CoreId := 0; let v : Nat := 1;
    Up s ∧ bit v 0 = true ∧ s.pair.st = .active ∧ goes (.pairKick c v) s = true := by decide +kernel
theorem test_kickTimeout : let s : State := activeP; let t := after .kickTimeout s;
    Up s ∧ s.pair.st = .active ∧ s.pair.kickAt ≤ s.now ∧ t.pair.st = .fenced ∧ t.pair.activeOut = false ∧ t.pair.unacked = [] := by decide +kernel
theorem test_kickRunning : let s : State := { activeP with pair := { activeP.pair with kickAt := 5 } };
    Up s ∧ s.now < s.pair.kickAt ∧ goes .kickTimeout s = true := by decide +kernel
theorem test_pairSwitchover : let s : State := owed (.key 5 1 1 77 [] []); let n : Nat := 0xFF00; let x : Session := port0; let t := after (.pairSwitchover n) s;
    (Up s ∧ sessOf s n = some x ∧ x.opened = true ∧ x.exec = none ∧ x.rights = 2 ∧ s.upd.resetDue = false) ∧ s.pair.st = .active ∧ s.pair.partner = 3 ∧ reservationsAcked s = false ∧ (t.lastResp.map fun z => (z.idx, z.el, (z.abort, z.detail))) = some (0x1402, 0, ok) := by decide +kernel
theorem test_switchReasons : let s : State := z; let n : Nat := 0xFF00; let x : Session := port0; let t := after (.pairSwitchover n) s;
    (Up s ∧ sessOf s n = some x ∧ x.opened = true ∧ x.exec = none ∧ x.rights = 2 ∧ s.upd.resetDue = false) ∧ s.pair.st ≠ .active ∧ (t.lastResp.map fun z => (z.idx, z.el, (z.abort, z.detail))) = some (0x1402, 0, (aState, det 0x60 0x601)) := by decide +kernel
theorem test_switchReasons_2 : let s : State := asP .active; let n : Nat := 0xFF00; let x : Session := port0; let t := after (.pairSwitchover n) s;
    (Up s ∧ sessOf s n = some x ∧ x.opened = true ∧ x.exec = none ∧ x.rights = 2 ∧ s.upd.resetDue = false) ∧ s.pair.st = .active ∧ s.pair.partner ≠ 3 ∧ (t.lastResp.map fun z => (z.idx, z.el, (z.abort, z.detail))) = some (0x1402, 0, (aState, det 0x60 0x602)) := by decide +kernel
theorem test_switchDone : let s : State := activeP; let n : Nat := 0xFF00; let x : Session := port0; let t := after (.pairSwitchover n) s;
    (Up s ∧ sessOf s n = some x ∧ x.opened = true ∧ x.exec = none ∧ x.rights = 2 ∧ s.upd.resetDue = false) ∧ s.pair.st = .active ∧ s.pair.partner = 3 ∧ reservationsAcked s = true ∧ (t.lastResp.map fun z => (z.idx, z.el, (z.abort, z.detail))) = some (0x1402, 0, ok) ∧ t.pair.st = .wait ∧ t.pair.activeOut = false := by decide +kernel
theorem test_resync : let s : State := asP .standby; let n : Nat := 0xFF00; let x : Session := port0; let t := after (.resync n) s;
    (Up s ∧ sessOf s n = some x ∧ x.opened = true ∧ x.exec = none ∧ x.rights = 2 ∧ s.upd.resetDue = false) ∧ s.pair.st = .standby ∧ (t.lastResp.map fun z => (z.idx, z.el, (z.abort, z.detail))) = some (0x1402, 0, ok) ∧ t.pair.st = .syncing ∧ t.pair.copyDone = false := by decide +kernel
theorem test_stepApply : let s : State := stepS false; let q : StepReq := stp false; let t := after .stepApply s;
    Up s ∧ s.datum.steps = [q] ∧ q.follow = false ∧ q.sess = none ∧ s.datum.running = true ∧ (∀ k : Fin 4, (travAt s k).st ≠ .armed) ∧ 0 ≤ stepResult s q ∧ stepResult s q < (datumLimit : Int) ∧ t.datum.t = datumOf (stepResult s q).toNat ∧ t.datum.stepGen = (s.datum.stepGen + 1) % 2 ^ 32 ∧ t.datum.lastStep = t.datum.t := by decide +kernel
theorem test_followStep : let s : State := stepS true; let q : StepReq := stp true; let t := after .followStep s;
    Up s ∧ s.datum.steps = [q] ∧ q.follow = true ∧ s.datum.running = true ∧ (∀ k : Fin 4, (travAt s k).st ≠ .armed) ∧ 0 ≤ stepResult s q ∧ stepResult s q < (datumLimit : Int) ∧ t.datum.t = datumOf (stepResult s q).toNat ∧ t.datum.stepGen = (s.datum.stepGen + 1) % 2 ^ 32 ∧ t.datum.steps = [] := by decide +kernel
theorem test_datumAdvance : let s : State := { z with datum := { z.datum with restored := false, d0 := some ({ sec := 1 }, some (500 * 4294967296)) } }; let n : Nat := 10; let d0 : DatumVal := { sec := 1 }; let r : Option Nat := some (500 * 4294967296); let t := after (.datumAdvance n) s;
    Up s ∧ s.datum.running = true ∧ s.datum.restored = false ∧ s.datum.d0 = some (d0, r) ∧ s.power.asleep = none ∧ t.datum.t = datumOf (d0.units + advanceBy s.datum r n) ∧ t.datum.restored = true ∧ t.datum.d0 = none := by decide +kernel
theorem test_standby : let s : State := sleepS false; let e : SleepEntry := { hibernate := false, mask := 1, stamp := {}, alarm := [] }; let t := after .entryDone s;
    Up s ∧ s.power.entry = some e ∧ e.hibernate = false ∧ s.power.latch = 0 ∧ t.start.phase = .asleep ∧ t.start.enMain = false ∧ t.power.now_ = 3 := by decide +kernel
theorem test_hibernate : let s : State := sleepS true; let e : SleepEntry := { hibernate := true, mask := 1, stamp := {}, alarm := [] }; let t := after .entryDone s;
    Up s ∧ s.power.entry = some e ∧ e.hibernate = true ∧ s.power.latch = 0 ∧ t.start.phase = .asleep ∧ t.start.enMain = false ∧ t.start.enHold = false := by decide +kernel
theorem test_entryAborted : let s : State := sleepS true; let u : Nat := 0x31; let k : Nat := 2; let e : SleepEntry := { hibernate := true, mask := 1, stamp := {}, alarm := [] }; let t := after (.entryAborted u k) s;
    Up s ∧ s.power.entry = some e ∧ unitIds.contains u = true ∧ k ≤ 2 ∧ bit (t.objN 0x1330 0) 4 = true := by decide +kernel
theorem test_entryUnlisted : let s : State := sleepS true; let u : Nat := 0xEE; let k : Nat := 2;
    Up s ∧ unitIds.contains u = false ∧ goes (.entryAborted u k) s = true := by decide +kernel
theorem test_wake : let s : State := sleepS false; let i : Fin 6 := 0; let e : SleepEntry := { hibernate := false, mask := 1, stamp := {}, alarm := [] };
    bit e.mask i = true ∧ (e.hibernate = true → i.val < 3) ∧ wakeCounts s e i = true ∧ s.start.phase ≠ .failed ∧ s.power.entry = some e ∧ goes (.wake i) s = true := by decide +kernel
theorem test_wake_2 : let s : State := after .entryDone (sleepS true); let i : Fin 6 := 0; let e : SleepEntry := { hibernate := true, mask := 1, stamp := {}, alarm := [] }; let t := after (.wake i) s;
    bit e.mask i = true ∧ (e.hibernate = true → i.val < 3) ∧ wakeCounts s e i = true ∧ s.start.phase = .asleep ∧ s.power.entry = none ∧ s.power.asleep = some e ∧ (t.start.phase = .stepA ∨ t.start.phase = .stepB) ∧ t.start.enHold = true ∧ bit t.power.latch i = true := by decide +kernel
theorem test_wakeNot : let s : State := sleepS false; let i : Fin 6 := 1; let e : SleepEntry := { hibernate := false, mask := 1, stamp := {}, alarm := [] };
    s.start.phase ≠ .failed ∧ s.power.entry = some e ∧ wakeCounts s e i = false ∧ goes (.wake i) s = true := by decide +kernel
theorem test_pllLock : let s : State := { z with start := { z.start with phase := .pll, locked := 0 } };
    s.start.phase = .pll ∧ s.start.fromStandby = false ∧ goes .pllLock s = true := by decide +kernel
theorem test_pllLock_2 : let s : State := wokeS; let t := after .pllLock s;
    s.start.phase = .pll ∧ s.start.fromStandby = true ∧ Up t ∧ t.power.asleep = none ∧ t.power.now_ = (if s.start.limp then 5 else s.power.before) := by decide +kernel

end Pair

/-! ### Dictionary, sessions, windows -/

namespace Dict

/-- What the last answer is. -/
def said (t : State) : Option (Nat × Nat × Nat × Bytes) := t.lastResp.map fun r => (r.opcode, r.abort, r.detail, r.value)
def acV : Bytes := [3, 4, 5, 10, 0, 0, 244, 1, 7, 4, 10, 10, 0, 0, 244, 1, 1, 3, 4, 10, 94, 0, 200, 0, 1, 2, 3, 10, 47, 0, 100, 0]
def stS : State := after (.stage 0xFF00 0x3020 2 acV) z
def clS : State := after (.close 0xFF00) stS
def skS : State := after (.stake 0xFF00 (zeros 16) false) clS
def subV : Bytes := [2, 0, 10, 0] ++ le 4 100
def sbS : State := after (.subscribe 0xFF00 0x3020 1 subV) z
def remS : State := { z with dict := { z.dict with sessions := z.dict.sessions ++ [{ num := 5, tr := .field, opened := true, rights := 2, waiting := [{ seq := 4, enc := true, ops := [] }] }] } }
def declared : State := match execFwDeclare [{ idx := 0xE001, lo := 0, hi := 0, typ := 3, size := 2, access := 1 }] z with | .next t => t | _ => z
def asked : State := after (.read 0xFF00 0xE001 0 ⟨none, {}⟩) declared
def latch (p : Bool) : State := setTrav z 3 { st := .applying, staged := [(0x3020, 1, acV)], persist := p }
def vers : State := { z with pp := { z.pp with live := [0, 1], committed := 1 } }
def waitC : State := modSess z 0xFF00 fun x => { x with exec := some { seq := 1, todo := [writeOp 0x4002 0 [1]], room := 1000, wait := some .reclaim, direct := true } }
def pduA : Bytes := plainPdu 0 0xFF00 1 1 (le 1 1 ++ le 1 0 ++ le 2 1 ++ le 2 0 ++ le 2 0)
def pduR : Bytes := plainPdu 0x80 0xFF00 1 1 (encResp { opcode := 1, flags := 0, idx := 1, el := 0, abort := 0, detail := 0, value := le 2 0xA0 })
def keyS : State := (z.setObj 0x0110 2 (List.replicate 57 9)).setObj 0x0111 2 [2]
def opS : State := after (.open1 .field (zeros 32) 2 (zeros 56)) keyS
def rootS : State := { (after (.mcService 0) (after .initDone (after (.mcInit 0) (z.setObj 0x5831 0 (le 8 0x800000000 ++ le 4 16))))) with wired := { z.wired with pcieRoot := true } }
def q8 (w : Bool) : PcieIn := { bar0 := false, write := w, addr := 0x800000008, width := 8, value := 0x55, poisoned := false, ecc := .clean }
def legal : State := ((z.setObj 0x7000 0 [1, 0]).setObj 0x7020 0 [1, 0]).setObj 0x7020 1 (le 4 5000000 ++ le 4 6000000 ++ [4, 1] ++ le 2 300 ++ le 2 200)
def diagV : Bytes := [0] ++ le 2 1 ++ le 4 5500000 ++ [0, 0] ++ le 2 100 ++ le 4 1000 ++ [0, 0] ++ le 2 100 ++ le 2 100 ++ [0, 0]
def legalD : State := (legal.setObj 0x2001 1 [1]).setObj 0x1311 1 ([5, 1] ++ le 2 200 ++ [20] ++ zeros 21)
def diagC : Chan := chanOf 5500000 20000
/-- TPO_CFG: mode, START seconds, PERIOD and WIDTH of 1 us and 16 ns. -/
def tpoV (m : Byte) (start : Nat) : Bytes := [m, 0, 0, 0] ++ le 6 start ++ le 4 0 ++ le 2 0 ++ le 8 65536000 ++ le 4 16
def noRow : ObjRow := { ilo := 0, ihi := 0, elo := 0, ehi := 0, typ := 0, len := .exact 0, acc := .ro, dflt := [], pers := false, chks := [] }
def noChan : RegChan := { lo := 0, hi := 0, bw := 0, tx := false, power := 0, dwell := 0 }
def s1 : Session := (sessOf asked 0xFF00).getD port0
def e1 : Exec := s1.exec.getD { seq := 0, todo := [], room := 0 }
def o1 : Op := e1.todo.headD (reqOp 1 0 1 0 [])
def q1 : FwReq := asked.dict.fwReqs.headD { id := 0, sess := 0, op := o1 }
def wx : Session := (sessOf waitC 0xFF00).getD port0
def we : Exec := wx.exec.getD { seq := 0, todo := [], room := 0 }
def ldS : State := after (.registerWrite 0 0x08000010 4 0x11223344) z
def poiS : State := { ldS with dram := { ldS.dram with poison := [0x08000010] } }
def tp5 : State := { z with datum := { z.datum with t := { sec := 5, ns := 300 } } }
/-- A Traverse that stages a closure rule naming a firmware-served object. -/
def stF : State := setTrav declared 0 { st := .opened, owner := 0xFF00, staged := [(0x0140, 1, le 2 0x8000 ++ [1, 0, 1, 0] ++ le 4 0xE0010000 ++ zeros 114)] }
def plainRw (idx : Nat) : Bool :=
  !isFlagObj idx && !(tableOf idx).isSome && !([0x1602, 0x3100, 0x4000, 0x1201, 0x1210, 0x1312, 0x5842].contains idx) && !isFwIdx idx
def revPdu (s : State) (n k : Nat) : Bytes :=
  plainPdu 0x80 n k 1 (encResp { opcode := 1, flags := 0, idx := 1, el := 0, abort := 0, detail := 0, value := le 2 s.part.siliconRev })
def askPdu (n k : Nat) : Bytes := plainPdu 0 n k 1 (le 1 1 ++ le 1 0 ++ le 2 1 ++ le 2 0 ++ le 2 0)

theorem test_read : let s : State := z; let n : Nat := 0xFF00; let el : Nat := 1; let env : Env := {}; let x : Session := port0; let t := after (.read n 0x3020 el ⟨none, env⟩) s;
    (Up s ∧ sessOf s n = some x ∧ x.opened = true ∧ x.exec = none ∧ x.rights = 2 ∧ s.upd.resetDue = false) ∧ env.poisoned = false ∧ 1 ≤ el ∧ el ≤ 3 ∧ applyingSlot s 0x3020 el 1 = none ∧ (s.objB 0x3020 el).length ≤ 1000 ∧ t.lastResp = some { opcode := 1, flags := 0, idx := 0x3020, el, abort := 0, detail := 0, value := s.objB 0x3020 el } := by decide +kernel
theorem test_readPoisoned : let s : State := z; let n : Nat := 0xFF00; let el : Nat := 1; let env : Env := { poisoned := true }; let x : Session := port0; let t := after (.read n 0x3020 el ⟨none, env⟩) s;
    (Up s ∧ sessOf s n = some x ∧ x.opened = true ∧ x.exec = none ∧ x.rights = 2 ∧ s.upd.resetDue = false) ∧ env.poisoned = true ∧ 1 ≤ el ∧ el ≤ 3 ∧ applyingSlot s 0x3020 el 1 = none ∧ t.lastResp = some { opcode := 1, flags := 0, idx := 0x3020, el, abort := aAborted, detail := det 0x70 0xC, value := [] } := by decide +kernel
theorem test_readDatum : let s : State := z; let n : Nat := 0xFF00; let env : Env := {}; let x : Session := port0; let t := after (.read n 0x1200 0 ⟨none, env⟩) s;
    (Up s ∧ sessOf s n = some x ∧ x.opened = true ∧ x.exec = none ∧ x.rights = 2 ∧ s.upd.resetDue = false) ∧ env.poisoned = false ∧ applyingSlot s 0x1200 0 1 = none ∧ s.datum.restored = true ∧ t.lastResp = some { opcode := 1, flags := 0, idx := 0x1200, el := 0, abort := 0, detail := 0, value := s.datum.t.enc } := by decide +kernel
theorem test_readDatum_2 : let s : State := { z with datum := { z.datum with restored := false } }; let n : Nat := 0xFF00; let env : Env := {}; let x : Session := port0; let t := after (.read n 0x1200 0 ⟨none, env⟩) s;
    (Up s ∧ sessOf s n = some x ∧ x.opened = true ∧ x.exec = none ∧ x.rights = 2 ∧ s.upd.resetDue = false) ∧ env.poisoned = false ∧ applyingSlot s 0x1200 0 1 = none ∧ s.datum.restored = false ∧ t.lastResp = some { opcode := 1, flags := 0, idx := 0x1200, el := 0, abort := aBusy, detail := det 0x51 1, value := [] } := by decide +kernel
theorem test_readNone : let s : State := z; let n : Nat := 0xFF00; let idx : Nat := 0x3020; let el : Nat := 9; let env : Env := {}; let x : Session := port0; let t := after (.read n idx el ⟨none, env⟩) s;
    (Up s ∧ sessOf s n = some x ∧ x.opened = true ∧ x.exec = none ∧ x.rights = 2 ∧ s.upd.resetDue = false) ∧ isFwIdx idx = false ∧ objRow? idx el = none ∧ t.lastResp = some { opcode := 1, flags := 0, idx, el, abort := if hasIndex idx then aNoElement else aNoObject, detail := if hasIndex idx then det 0x70 0x11 else det 0x70 0x10, value := [] } := by decide +kernel
theorem test_readNone_2 : let s : State := z; let n : Nat := 0xFF00; let idx : Nat := 0x3FFF; let el : Nat := 0; let env : Env := {}; let x : Session := port0; let t := after (.read n idx el ⟨none, env⟩) s;
    (Up s ∧ sessOf s n = some x ∧ x.opened = true ∧ x.exec = none ∧ x.rights = 2 ∧ s.upd.resetDue = false) ∧ isFwIdx idx = false ∧ objRow? idx el = none ∧ t.lastResp = some { opcode := 1, flags := 0, idx, el, abort := if hasIndex idx then aNoElement else aNoObject, detail := if hasIndex idx then det 0x70 0x11 else det 0x70 0x10, value := [] } := by decide +kernel
theorem test_write : let s : State := z; let n : Nat := 0xFF00; let idx : Nat := 0x0101; let el : Nat := 0; let v : Bytes := [100, 0]; let env : Env := {}; let x : Session := port0; let row : ObjRow := (objRow? 0x0101 0).getD noRow; let t := after (.write n idx el v env) s;
    (Up s ∧ sessOf s n = some x ∧ x.opened = true ∧ x.exec = none ∧ x.rights = 2 ∧ s.upd.resetDue = false) ∧ (objRow? idx el).isSome = true ∧ row.acc = .rw ∧ plainRw idx = true ∧ passes s idx el v = true ∧ reservedBy s none idx el = false ∧ (t.lastResp.map fun z => (z.idx, z.el, (z.abort, z.detail))) = some (idx, el, ok) ∧ t.objB idx el = taken idx el v := by decide +kernel
theorem test_writeRefused : let s : State := z; let n : Nat := 0xFF00; let idx : Nat := 0x1200; let el : Nat := 0; let v : Bytes := []; let env : Env := {}; let x : Session := port0; let row : ObjRow := (objRow? 0x1200 0).getD noRow; let t := after (.write n idx el v env) s;
    (Up s ∧ sessOf s n = some x ∧ x.opened = true ∧ x.exec = none ∧ x.rights = 2 ∧ s.upd.resetDue = false) ∧ isFwIdx idx = false ∧ (objRow? idx el).isSome = true ∧ row.acc = .ro ∧ (t.lastResp.map fun z => (z.idx, z.el, (z.abort, z.detail))) = some (idx, el, (aAccess, det 0x70 0x12)) := by decide +kernel
theorem test_writeRefused_2 : let s : State := z; let n : Nat := 0xFF00; let idx : Nat := 0x3020; let el : Nat := 1; let v : Bytes := []; let env : Env := {}; let x : Session := port0; let row : ObjRow := (objRow? 0x3020 1).getD noRow; let t := after (.write n idx el v env) s;
    (Up s ∧ sessOf s n = some x ∧ x.opened = true ∧ x.exec = none ∧ x.rights = 2 ∧ s.upd.resetDue = false) ∧ isFwIdx idx = false ∧ (objRow? idx el).isSome = true ∧ row.acc = .rs ∧ (t.lastResp.map fun z => (z.idx, z.el, (z.abort, z.detail))) = some (idx, el, (aStageOnly, det 0x70 0x15)) := by decide +kernel
theorem test_writeRefused_3 : let s : State := z; let n : Nat := 0xFF00; let idx : Nat := 0x7000; let el : Nat := 0; let v : Bytes := []; let env : Env := {}; let x : Session := port0; let row : ObjRow := (objRow? 0x7000 0).getD noRow; let t := after (.write n idx el v env) s;
    (Up s ∧ sessOf s n = some x ∧ x.opened = true ∧ x.exec = none ∧ x.rights = 2 ∧ s.upd.resetDue = false) ∧ isFwIdx idx = false ∧ (objRow? idx el).isSome = true ∧ row.acc = .rl ∧ (t.lastResp.map fun z => (z.idx, z.el, (z.abort, z.detail))) = some (idx, el, (aLocked, det 0x70 0x16)) := by decide +kernel
theorem test_stage : let s : State := z; let n : Nat := 0xFF00; let el : Nat := 2; let k : Nat := 0; let v : Bytes := acV; let x : Session := port0; let t := after (.stage n 0x3020 el v) s;
    (Up s ∧ sessOf s n = some x ∧ x.opened = true ∧ x.exec = none ∧ x.rights = 2 ∧ s.upd.resetDue = false) ∧ 1 ≤ el ∧ el ≤ 3 ∧ passes s 0x3020 el v = true ∧ n ≠ 0 ∧ travOf s n = none ∧ findLt 4 (fun k => (travAt s k).st == .idle) = some k ∧ reservedBy s none 0x3020 el = false ∧ t.lastResp = some { opcode := 3, flags := 0, idx := 0x3020, el, abort := 0, detail := 0, value := [] } ∧ (travAt t k).st = .opened ∧ (travAt t k).owner = n := by decide +kernel
theorem test_close : let s : State := stS; let n : Nat := 0xFF00; let k : Nat := 0; let x : Session := port0; let t := after (.close n) s;
    (Up s ∧ sessOf s n = some x ∧ x.opened = true ∧ x.exec = none ∧ x.rights = 2 ∧ s.upd.resetDue = false) ∧ travOf s n = some k ∧ (travAt s k).st = .opened ∧ closureFailing s (travAt s k).staged = none ∧ fwWanted s (travAt s k).staged [] = [] ∧ reserving s (some k) = [] ∧ t.lastResp = some { opcode := 4, flags := 0, idx := 0, el := 0, abort := 0, detail := 0, value := [] } ∧ (travAt t k).st = .closed ∧ (travAt t k).staged = (travAt s k).staged := by decide +kernel
theorem test_closeFails : let s : State := after (.stage 0xFF00 0x2006 1 (le 2 900 ++ le 2 800 ++ le 2 200 ++ le 2 500)) z; let n : Nat := 0xFF00; let k : Nat := 0; let u : Nat := 1; let id : Nat := 278; let ord : Nat := 1; let x : Session := port0; let t := after (.close n) s;
    (Up s ∧ sessOf s n = some x ∧ x.opened = true ∧ x.exec = none ∧ x.rights = 2 ∧ s.upd.resetDue = false) ∧ travOf s n = some k ∧ (travAt s k).st = .opened ∧ closureFailing s (travAt s k).staged = some (u, id, ord) ∧ fwWanted s (travAt s k).staged [] = [] ∧ t.lastResp = some { opcode := 4, flags := 0, idx := 0, el := 0, abort := aClosure, detail := u * 0x1000000 + id, value := [] } ∧ (travAt t k).st = .opened ∧ (travAt t k).failing = ord := by decide +kernel
theorem test_closeAsks : let s : State := stF; let n : Nat := 0xFF00; let k : Nat := 0; let x : Session := port0; let t := after (.close n) s;
    (Up s ∧ sessOf s n = some x ∧ x.opened = true ∧ x.exec = none ∧ x.rights = 2 ∧ s.upd.resetDue = false) ∧ travOf s n = some k ∧ (travAt s k).st = .opened ∧ fwWanted s (travAt s k).staged [] ≠ [] ∧ (sessOf t n).isSome = true ∧ (travAt t k) = travAt s k ∧ t.lastResp = s.lastResp := by decide +kernel
theorem test_stake : let s : State := clS; let n : Nat := 0xFF00; let k : Nat := 0; let x : Session := port0; let tm := datumOf (s.datum.t.units + 2000000 * 4294967296); let t := after (.stake n (zeros 16) false) s;
    (Up s ∧ sessOf s n = some x ∧ x.opened = true ∧ x.exec = none ∧ x.rights = 2 ∧ s.upd.resetDue = false) ∧ travOf s n = some k ∧ (travAt s k).st = .closed ∧ (travAt s k).staged.all (fun p => p.1 == 0x3020) = true ∧ mirroring s = false ∧ t.lastResp = some { opcode := 5, flags := 0, idx := 0, el := 0, abort := 0, detail := 0, value := tm.enc } ∧ (travAt t k).st = .armed ∧ (travAt t k).t = tm := by decide +kernel
theorem test_abort : let s : State := stS; let n : Nat := 0xFF00; let k : Nat := 0; let x : Session := port0; let t := after (.abort n) s;
    (Up s ∧ sessOf s n = some x ∧ x.opened = true ∧ x.exec = none ∧ x.rights = 2 ∧ s.upd.resetDue = false) ∧ travOf s n = some k ∧ (travAt s k).st ≠ .applying ∧ t.lastResp = some { opcode := 6, flags := 0, idx := 0, el := 0, abort := 0, detail := 0, value := [] } ∧ (travAt t k).st = .idle ∧ (travAt t k).staged = [] := by decide +kernel
theorem test_abortTraverse : let s : State := skS; let k : Fin 4 := 0; let t := after (.abortTraverse k false) s;
    Up s ∧ ((travAt s k).st = .opened ∨ (travAt s k).st = .closed ∨ (travAt s k).st = .armed) ∧ (travAt t k).st = .idle ∧ (travAt t k).staged = [] ∧ (travAt t k).result = aAborted := by decide +kernel
theorem test_abortTraverse_2 : let s : State := setTrav z 1 { st := .applying }; let k : Fin 4 := 1; let t := after (.abortTraverse k false) s;
    Up s ∧ (travAt s k).st = .applying ∧ (travAt t k).st = .applying ∧ t.dict.abortCode = aState := by decide +kernel
theorem test_subscribe : let s : State := z; let n : Nat := 0xFF00; let el : Nat := 1; let v : Bytes := subV; let x : Session := port0; let t := after (.subscribe n 0x3020 el v) s;
    (Up s ∧ sessOf s n = some x ∧ x.opened = true ∧ x.exec = none ∧ x.rights = 2 ∧ s.upd.resetDue = false) ∧ 1 ≤ el ∧ el ≤ 3 ∧ v.length = 8 ∧ subRangeOk v = true ∧ fld v 0 1 ≠ 0 ∧ s.dict.subs = [] ∧ t.lastResp = some { opcode := 7, flags := 0, idx := 0x3020, el, abort := 0, detail := 0, value := [] } := by decide +kernel
theorem test_unsubscribe : let s : State := sbS; let n : Nat := 0xFF00; let el : Nat := 1; let v : Bytes := zeros 8; let x : Session := port0; let t := after (.subscribe n 0x3020 el v) s;
    (Up s ∧ sessOf s n = some x ∧ x.opened = true ∧ x.exec = none ∧ x.rights = 2 ∧ s.upd.resetDue = false) ∧ 1 ≤ el ∧ el ≤ 3 ∧ v.length = 8 ∧ fld v 0 1 = 0 ∧ t.lastResp = some { opcode := 7, flags := 0, idx := 0x3020, el, abort := 0, detail := 0, value := [] } := by decide +kernel
theorem test_notify : let s : State := { sbS with now := 100000000 }; let i : Nat := 0; let u : Sub := (s.dict.subs[0]?).getD { sess := 0, idx := 0, el := 0, mode := 0, minMs := 0, periodMs := 0 }; let x : Session := port0;
    Up s ∧ (s.dict.subs[i]?).isSome = true ∧ u.idx = 0x3020 ∧ 1 ≤ u.el ∧ u.el ≤ 3 ∧ subDue s u = true ∧ isLocal u.sess = true ∧ sessOf s u.sess = some x ∧ goes (.notify i) s = true := by decide +kernel
theorem test_endSession : let s : State := { stS with dict := { stS.dict with subs := sbS.dict.subs } }; let n : Nat := 0xFF00; let x : Session := port0; let t := after (.endSession n) s;
    (Up s ∧ sessOf s n = some x ∧ x.opened = true ∧ x.exec = none ∧ x.rights = 2 ∧ s.upd.resetDue = false) ∧ t.lastResp = some { opcode := 0x13, flags := 0, idx := 0, el := 0, abort := 0, detail := 0, value := [] } := by decide +kernel
theorem test_sessionIdleTimeout : let s : State := remS; let n : Nat := 0xFF00;
    Up s ∧ isLocal n = true ∧ goes (.sessionIdleTimeout n) s = true := by decide +kernel
theorem test_sessionIdleTimeout_2 : let s : State := remS; let n : Nat := 5; let t := after (.sessionIdleTimeout n) s;
    Up s ∧ isLocal n = false ∧ sessOf t n = none := by decide +kernel
theorem test_statsRead : let s : State := z.setObj 0x5802 1 (List.replicate 144 1); let n : Nat := 0xFF00; let el : Nat := 1; let x : Session := port0; let t := after (.statsRead n 0x5802 el) s;
    (Up s ∧ sessOf s n = some x ∧ x.opened = true ∧ x.exec = none ∧ x.rights = 2 ∧ s.upd.resetDue = false) ∧ 1 ≤ el ∧ el ≤ 2 ∧ applyingSlot s 0x5802 el 1 = none ∧ (s.objB 0x5802 el).length ≤ 1000 ∧ t.lastResp = some { opcode := 1, flags := 0, idx := 0x5802, el, abort := 0, detail := 0, value := s.objB 0x5802 el } ∧ t.objB 0x5802 el = zeros 144 := by decide +kernel
theorem test_fwAnswer : let s : State := asked; let r : Nat := 0; let c : Nat := 0; let d : Nat := 0; let v : Bytes := [7, 8]; let q : FwReq := q1; let x : Session := s1; let e : Exec := e1; let o : Op := o1; let t := after (.fwAnswer r c d v) s;
    Up s ∧ s.dict.fwReqs = [q] ∧ q.id = r ∧ q.op = o ∧ q.sess ≠ 0 ∧ s.dict.sessions.filter (fun x => waitsFor x (.firmware r)) = [x] ∧ sessOf s x.num = some x ∧ x.exec = some e ∧ e.todo = [o] ∧ e.direct = true ∧ e.ending = false ∧ o.opcode = 1 ∧ s.upd.resetDue = false ∧ c < 65536 ∧ d < 2 ^ 32 ∧ (c = 0 ∨ unitIds.contains (d / 0x1000000 % 256) = true) ∧ 14 + (if c = 0 then (answerValue s q v).length else 0) ≤ e.room ∧ t.dict.fwReqs = [] ∧ t.lastResp = some { opcode := 1, flags := o.flags, idx := o.idx, el := o.el, abort := c, detail := if c = 0 then 0 else d, value := if c = 0 then answerValue s q v else [] } := by decide +kernel
theorem test_fwAnswer_2 : let s : State := asked; let r : Nat := 0; let q : FwReq := q1; let x : Session := s1; let e : Exec := e1; let o : Op := o1; let t := after (.fwTimeout r) s;
    Up s ∧ s.dict.fwReqs = [q] ∧ q.id = r ∧ q.op = o ∧ q.sess ≠ 0 ∧ s.dict.sessions.filter (fun x => waitsFor x (.firmware r)) = [x] ∧ sessOf s x.num = some x ∧ x.exec = some e ∧ e.todo = [o] ∧ e.direct = true ∧ e.ending = false ∧ o.opcode = 1 ∧ s.upd.resetDue = false ∧ 14 ≤ e.room ∧ t.dict.fwReqs = [] ∧ t.lastResp = some { opcode := 1, flags := o.flags, idx := o.idx, el := o.el, abort := aTimeout, detail := det 0x70 3, value := [] } := by decide +kernel
theorem test_fwUnlisted : let s : State := asked; let r : Nat := 0; let c : Nat := 5; let d : Nat := 0xEE000000; let v : Bytes := [];
    Up s ∧ c % 65536 ≠ 0 ∧ unitIds.contains (d / 0x1000000 % 256) = false ∧ goes (.fwAnswer r c d v) s = true := by decide +kernel
theorem test_fwLate : let s : State := asked; let r : Nat := 7; let c : Nat := 0; let d : Nat := 0; let v : Bytes := [];
    Up s ∧ (∀ q ∈ s.dict.fwReqs, q.id ≠ r) ∧ goes (.fwAnswer r c d v) s = true ∧ goes (.fwTimeout r) s = true := by decide +kernel
theorem test_fwDeclare : let s : State := z; let l : List FwObject := [{ idx := 0xE001, lo := 0, hi := 0, typ := 3, size := 2, access := 1 }];
    Up s ∧ s.dict.declared = none ∧ s.start.rescue = false ∧ goes (.fwDeclare l) s = true := by decide +kernel
theorem test_stakeLatched : let s : State := latch true; let k : Fin 4 := 3; let t := after (.stakeLatched k) s;
    Up s ∧ (travAt s k).st = .applying ∧ (travAt s k).waitReclaim = false ∧ (∀ x ∈ s.dict.sessions, x.exec = none) ∧ (travAt t k).st = .idle ∧ (travAt t k).result = 0 ∧ (travAt t k).t = (travAt s k).t := by decide +kernel
theorem test_stakeLatched_2 : let s : State := latch false; let k : Fin 4 := 3; let t := after (.stakeLatched k) s;
    Up s ∧ (travAt s k).st = .applying ∧ (travAt s k).waitReclaim = false ∧ (∀ x ∈ s.dict.sessions, x.exec = none) ∧ (travAt t k).st = .idle ∧ (travAt t k).result = 0 ∧ (travAt t k).t = (travAt s k).t := by decide +kernel
theorem test_persistSave : let s : State := after (.stakeLatched 3) (latch true); let a : Tab Bytes := s.flash.saving.getD []; let t := after (.persistSave false) s;
    Up s ∧ (s.flash.saving).isSome = true ∧ t.flash.saved = a ∧ t.flash.saved2 = a ∧ t.flash.saving = none := by decide +kernel
theorem test_persistSave_2 : let s : State := after (.stakeLatched 3) (latch true); let t := after (.persistSave true) s;
    Up s ∧ (s.flash.saving).isSome = true ∧ t.flash.saving = none := by decide +kernel
theorem test_versionReclaim : let s : State := vers; let n : Nat := 0;
    Up s ∧ reclaimable s n = true ∧ (∀ x ∈ s.dict.sessions, x.exec = none) ∧ (∀ k : Fin 4, (travAt s k).st ≠ .applying) ∧ goes (.versionReclaim n) s = true := by decide +kernel
theorem test_versionLiveTimeout : let s : State := waitC; let x : Session := wx; let e : Exec := we; let o : Op := writeOp 0x4002 0 [1]; let t := after .versionLiveTimeout s;
    Up s ∧ s.dict.sessions.filter (fun x => waitsFor x .reclaim) = [x] ∧ sessOf s x.num = some x ∧ x.exec = some e ∧ e.todo = [o] ∧ e.direct = true ∧ e.ending = false ∧ o.opcode = 2 ∧ 14 ≤ e.room ∧ s.upd.resetDue = false ∧ t.lastResp = some { opcode := 2, flags := o.flags, idx := o.idx, el := o.el, abort := aBusy, detail := det 0x10 0x1005, value := [] } := by decide +kernel
theorem test_abortThread : let s : State := z.setThread 7 { z.thread 7 with st := .ready }; let k : Fin 512 := 7; let t := after (.abortThread k) s;
    Up s ∧ (s.thread k).st ≠ .free ∧ t.thread k = { gen := ((s.thread k).gen + 1) % 128 } ∧ bit (t.objN 0x6821 0) 2 = true ∧ t.dict.lastAbort = le 1 5 ++ [0] ++ le 2 k.val := by decide +kernel
theorem test_abortThread_2 : let s : State := z; let k : Fin 512 := 7; let t := after (.abortThread k) s;
    Up s ∧ (s.thread k).st = .free ∧ t.dict.lastAbort = le 1 5 ++ [0] ++ le 2 k.val ∧ t.dict.abortCode = 0 ∧ t.dict.abortNs = 0 := by decide +kernel
theorem test_pduReceive : let s : State := z; let c : Fin 8 := 0; let p : Bytes := []; let env : Env := {}; let x : Session := port0; let t := after (.pduReceive (.port c) ((askPdu (0xFF00 + c.val) x.nextSeq).take 12) ((askPdu (0xFF00 + c.val) x.nextSeq).drop 12) p env) s;
    (Up s ∧ sessOf s (0xFF00 + c.val) = some x ∧ x.exec = none ∧ x.held = [] ∧ x.rights = 2 ∧ 0 < x.nextSeq ∧ x.nextSeq < 0xFFFFFFFF ∧ s.upd.resetDue = false ∧ applyingSlot s 1 0 1 = none) ∧ (vget s.dict.chans c.val {}).busy = false ∧ (vget t.dict.chans c.val {}).busy = false ∧ (vget t.dict.chans c.val {}).done = true ∧ (vget t.dict.chans c.val {}).rspBuf = revPdu s (0xFF00 + c.val) x.nextSeq := by decide +kernel
theorem test_pduBusy : let s : State := modChan z 0 fun x => { x with busy := true }; let c : Fin 8 := 0; let raw : Bytes := pduA; let p : Bytes := []; let env : Env := {};
    Up s ∧ (vget s.dict.chans c.val {}).busy = true ∧ goes (.pduReceive (.port c) raw [] p env) s = true := by decide +kernel
theorem test_dpGo : let s : State := modChan z 0 fun x => { x with reqBuf := pduA }; let c : Fin 8 := 0; let env : Env := {}; let x : Session := port0; let t := after (.dpGo (c.castLE (by omega)) env) s;
    (Up s ∧ sessOf s (0xFF00 + c.val) = some x ∧ x.exec = none ∧ x.held = [] ∧ x.rights = 2 ∧ 0 < x.nextSeq ∧ x.nextSeq < 0xFFFFFFFF ∧ s.upd.resetDue = false ∧ applyingSlot s 1 0 1 = none) ∧ (vget s.dict.chans c.val {}).busy = false ∧ ((vget s.dict.chans c.val {}).reqBuf ++ zeros 4096).take 20 = askPdu (0xFF00 + c.val) x.nextSeq ∧ (vget t.dict.chans c.val {}).busy = false ∧ (vget t.dict.chans c.val {}).done = true ∧ (vget t.dict.chans c.val {}).rspBuf = revPdu s (0xFF00 + c.val) x.nextSeq := by decide +kernel
theorem test_pduExecute : let s : State := modSess z 0xFF00 fun x => { x with waiting := [{ seq := 1, enc := false, ops := [reqOp 1 0 1 0 []] }] }; let c : Fin 8 := 0; let env : Env := {}; let x : Session := { port0 with waiting := [{ seq := 1, enc := false, ops := [reqOp 1 0 1 0 []] }] }; let t := after (.pduExecute (0xFF00 + c.val) env) s;
    (Up s ∧ sessOf s (0xFF00 + c.val) = some x ∧ x.exec = none ∧ x.held = [] ∧ x.rights = 2 ∧ 0 < x.nextSeq ∧ x.nextSeq < 0xFFFFFFFF ∧ s.upd.resetDue = false ∧ applyingSlot s 1 0 1 = none) ∧ x.waiting = [{ seq := x.nextSeq, enc := false, ops := [reqOp 1 0 1 0 []] }] ∧ (vget t.dict.chans c.val {}).rspBuf = revPdu s (0xFF00 + c.val) x.nextSeq ∧ (sessOf t (0xFF00 + c.val)).isSome = true := by decide +kernel
theorem test_seqWaitExpiry : let s : State := remS; let n : Nat := 5; let p : Pdu := { seq := 4, enc := true, ops := [] }; let x : Session := { num := 5, tr := .field, opened := true, rights := 2, waiting := [{ seq := 4, enc := true, ops := [] }] }; let t := after (.seqWaitExpiry n) s;
    Up s ∧ sessOf s n = some x ∧ x.waiting = [p] ∧ x.nextSeq < p.seq ∧ sessOf t n = some { x with nextSeq := p.seq } ∧ t.obj = (s.addObjF 0x0112 3 0 4 (p.seq - x.nextSeq)).obj := by decide +kernel
theorem test_open1 : let s : State := keyS; let k : Nat := 2; let nm : Bytes := zeros 32; let em : Bytes := zeros 56;
    Up s ∧ transportOn s .field = true ∧ nm.length = 32 ∧ em.length = 56 ∧ k < 256 ∧ s.dict.open1Count = 0 ∧ s.sec.entropyOk = true ∧ s.sec.idFault = false ∧ slotRights s k ≠ 0 ∧ (∀ x ∈ s.dict.sessions, isLocal x.num = true) ∧ (∀ x ∈ s.dict.sessions, x.opened = true) ∧ goes (.open1 .field nm k em) s = true := by decide +kernel
theorem test_open3 : let s : State := opS; let n : Nat := 1; let env : Env := {}; let x : Session := (sessOf opS 1).getD port0;
    Up s ∧ (sessOf s n).isSome = true ∧ 0 < n ∧ n < 256 ∧ x.opened = false ∧ x.tr = .field ∧ transportOn s .field = true ∧ s.now ≤ x.openedAt + 5000000000 ∧ openRemote s < 16 ∧ env.sigOk = true := by decide +kernel
theorem test_open3_2 : let s : State := opS; let n : Nat := 1; let env : Env := { sigOk := false }; let x : Session := (sessOf opS 1).getD port0;
    Up s ∧ (sessOf s n).isSome = true ∧ 0 < n ∧ n < 256 ∧ x.opened = false ∧ x.tr = .field ∧ transportOn s .field = true ∧ s.now ≤ x.openedAt + 5000000000 ∧ openRemote s < 16 ∧ env.sigOk = false := by decide +kernel
theorem test_flagClear : let s : State := z.setObj 0x1104 0 (le 4 0xC); let idx : Nat := 0x1104; let el : Nat := 0; let ones : Nat := 4; let b : Nat := 2; let t := after (.flagClear idx el ones 0) s;
    Up s ∧ isFlagObj idx = true ∧ b < 32 ∧ bit (t.objN idx el) b = (bit (s.objN idx el) b && !bit ones b) := by decide +kernel
theorem test_flagClear_2 : let s : State := z.setObj 0x1104 0 (le 4 0xC); let idx : Nat := 0x1104; let el : Nat := 0; let ones : Nat := 4; let b : Nat := 2; let t := after (.flagClear idx el ones (2 ^ b)) s;
    Up s ∧ isFlagObj idx = true ∧ b < 32 ∧ okey (counterOf idx el b).1 (counterOf idx el b).2 ≠ okey idx el ∧ bit (t.objN idx el) b = true := by decide +kernel
theorem test_registerWrite : let s : State := z; let c : CoreId := 0; let a : Nat := 0x08000010; let w : Nat := 4; let v : Nat := 0x11223344; let t := after (.registerWrite c a w v) s;
    Up s ∧ inUnitWindow a = false ∧ allMemory s a w = true ∧ readMemN t.mem a w = le w v := by decide +kernel
theorem test_registerWrite_2 : let s : State := z; let c : CoreId := 0; let a : Nat := 0x100; let w : Nat := 4; let v : Nat := 1;
    Up s ∧ inUnitWindow a = false ∧ allMemory s a w = false ∧ goes (.registerWrite c a w v) s = true := by decide +kernel
theorem test_registerAlign : let s : State := z; let c : CoreId := 0; let a : Nat := 0x14000002; let w : Nat := 4; let v : Nat := 1;
    Up s ∧ inUnitWindow a = true ∧ ((w ≠ 4 ∧ w ≠ 8) ∨ a % w ≠ 0) ∧ goes (.registerWrite c a w v) s = true := by decide +kernel
theorem test_registerDma : let s : State := z; let c : CoreId := 0; let ch : Fin 64 := 5; let v : Nat := 3; let t := after (.registerWrite c (chBase ch.val + 0xC) 4 v) s;
    Up s ∧ t.regAt (chBase ch.val + 0xC) = v % 4096 := by decide +kernel
theorem test_registerDsp : let s : State := z; let c : CoreId := 0; let v : Nat := 3 * 2 ^ 60;
    Up s ∧ bits v 60 4 = 3 ∧ goes (.registerWrite c (dspBase c + 0x20) 8 v) s = true := by decide +kernel
theorem test_registerForeign : let s : State := z; let c : CoreId := 0; let d : CoreId := 1; let k : Nat := 4; let v : Nat := 0;
    Up s ∧ c ≠ d ∧ k < 32 ∧ goes (.registerWrite c (dspBase d + 8 * k) 8 v) s = true := by decide +kernel
theorem test_registerUart : let s : State := z; let c : CoreId := 0; let v : Nat := 65;
    Up s ∧ goes (.registerWrite c 0x10040000 4 v) s = true := by decide +kernel
theorem test_crossingSent : let s : State := z; let c : CoreId := 0; let v : Nat := 1; let t := after (.registerWrite c 0x14000000 4 v) s;
    Up s ∧ (tgetD s.start.crossings 0x14000000 {}).ackAt ≤ s.now ∧ (tget t.start.crossings 0x14000000).isSome = true ∧ t.pair.kickAt = (if bit v 0 = true ∧ s.pair.st = .active then s.now + s.pair.kickMs * 1000000 else s.pair.kickAt) := by decide +kernel
theorem test_crossingEarly : let s : State := after (.registerWrite 0 0x14000000 4 1) z; let c : CoreId := 0; let v : Nat := 1; let t := after (.registerWrite c 0x14000000 4 v) s;
    Up s ∧ s.now < (tgetD s.start.crossings 0x14000000 {}).ackAt ∧ bit (t.objN 0x1005 0) 0 = true ∧ t.objB 0x1004 0 = le 1 7 ++ le 1 10 ++ s.datum.t.enc := by decide +kernel
theorem test_coreLoad : let s : State := ldS; let c : CoreId := 1; let a : Nat := 0x08000010; let w : Nat := 4; let f : Bool := false; let flips : List Nat := [];
    Up s ∧ inUnitWindow a = false ∧ allMemory s a w = true ∧ loadOut s a flips = .clean ∧ goes (.coreLoad c a w f flips) s = true := by decide +kernel
theorem test_coreLoad_2 : let s : State := ldS; let c : CoreId := 1; let a : Nat := 0x08000010; let w : Nat := 4; let f : Bool := false; let flips : List Nat := [1]; let t := after (.coreLoad c a w f flips) s;
    Up s ∧ inUnitWindow a = false ∧ allMemory s a w = true ∧ (match loadOut s a flips with | .checkBit => true | .dataBit _ => true | _ => false) = true ∧ (t.core c).readData = leNat (readMemN s.mem a w) ∧ bit (t.objN 0x1104 0) 2 = true ∧ (t.core c).accessFault = (s.core c).accessFault := by decide +kernel
theorem test_coreLoad_3 : let s : State := ldS; let c : CoreId := 1; let a : Nat := 0x08000010; let w : Nat := 4; let f : Bool := true; let flips : List Nat := [1, 2]; let t := after (.coreLoad c a w f flips) s;
    Up s ∧ inUnitWindow a = false ∧ allMemory s a w = true ∧ loadOut s a flips = .uncorrectable ∧ f = true ∧ (t.core c).readData = leNat (readMemN s.mem a w) ∧ bit (t.objN 0x1104 0) 3 = true := by decide +kernel
theorem test_coreLoad_4 : let s : State := ldS; let c : CoreId := 1; let a : Nat := 0x08000010; let w : Nat := 4; let f : Bool := false; let flips : List Nat := [1, 2]; let t := after (.coreLoad c a w f flips) s;
    Up s ∧ inUnitWindow a = false ∧ allMemory s a w = true ∧ loadOut s a flips = .uncorrectable ∧ f = false ∧ (t.core c).accessFault = some (a, 1) ∧ (t.core c).readData = (s.core c).readData ∧ bit (t.objN 0x1104 0) 3 = true := by decide +kernel
theorem test_coreLoad_5 : let s : State := poiS; let c : CoreId := 1; let a : Nat := 0x08000010; let w : Nat := 4; let f : Bool := false; let flips : List Nat := []; let t := after (.coreLoad c a w f flips) s;
    Up s ∧ inUnitWindow a = false ∧ allMemory s a w = true ∧ loadOut s a flips = .poison ∧ (t.core c).accessFault = some (a, if f then 2 else 1) ∧ (t.core c).readData = (s.core c).readData ∧ bit (t.objN 0x1104 0) 3 = true := by decide +kernel
theorem test_loadRom : let s : State := z; let c : CoreId := 1; let a : Nat := 0x100; let w : Nat := 4; let f : Bool := true; let flips : List Nat := [];
    Up s ∧ a + w ≤ 0x10000 ∧ 1 ≤ w ∧ loadOut s a flips = .clean ∧ goes (.coreLoad c a w f flips) s = true := by decide +kernel
theorem test_loadDsp : let s : State := z; let c : CoreId := 1; let f : Bool := false; let flips : List Nat := [];
    Up s ∧ goes (.coreLoad c (dspBase c) 8 f flips) s = true := by decide +kernel
theorem test_loadAlign : let s : State := z; let c : CoreId := 1; let a : Nat := 0x14000002; let w : Nat := 4; let f : Bool := false; let flips : List Nat := [];
    Up s ∧ inUnitWindow a = true ∧ ((w ≠ 4 ∧ w ≠ 8) ∨ a % w ≠ 0) ∧ goes (.coreLoad c a w f flips) s = true := by decide +kernel
theorem test_loadFault : let s : State := z; let c : CoreId := 1; let a : Nat := 0x30000000; let w : Nat := 4; let f : Bool := false; let flips : List Nat := [];
    Up s ∧ inUnitWindow a = false ∧ allMemory s a w = false ∧ (inRom a && inRom (a + w - 1)) = false ∧ goes (.coreLoad c a w f flips) s = true := by decide +kernel
theorem test_inboundRequest : let s : State := rootS; let q : PcieIn := q8 true; let t := after (.inboundRequest q) s;
    Up s ∧ s.wired.pcieRoot = true ∧ q.bar0 = false ∧ inInbound s q.addr q.width = true ∧ (List.range q.width).all (fun i => dramHas s (q.addr + i)) = true ∧ q.write = true ∧ q.poisoned = false ∧ readMemN t.mem q.addr q.width = le q.width q.value := by decide +kernel
theorem test_inboundRequest_2 : let s : State := rootS; let q : PcieIn := q8 false; let t := after (.inboundRequest q) s;
    Up s ∧ s.wired.pcieRoot = true ∧ q.bar0 = false ∧ inInbound s q.addr q.width = true ∧ (List.range q.width).all (fun i => dramHas s (q.addr + i)) = true ∧ q.write = false ∧ q.ecc = .clean ∧ memPoisoned s q.addr q.width = false ∧ t.wired.completion = some (leNat (readMemN s.mem q.addr q.width), false, false) := by decide +kernel
theorem test_inboundRequest_3 : let s : State := rootS; let q : PcieIn := { q8 false with ecc := .poisoned }; let t := after (.inboundRequest q) s;
    Up s ∧ s.wired.pcieRoot = true ∧ q.bar0 = false ∧ inInbound s q.addr q.width = true ∧ (List.range q.width).all (fun i => dramHas s (q.addr + i)) = true ∧ q.write = false ∧ (q.ecc = .poisoned ∨ memPoisoned s q.addr q.width = true) ∧ t.wired.completion = some (leNat (readMemN s.mem q.addr q.width), true, false) ∧ bit (t.objN 0x1104 0) 3 = true := by decide +kernel
theorem test_inboundUnsupported : let s : State := z; let q : PcieIn := q8 true;
    Up s ∧ s.wired.pcieRoot = q.bar0 ∧ goes (.inboundRequest q) s = true := by decide +kernel
theorem test_describe : let s : State := z; let n : Nat := 0xFF00; let i : Nat := 0x3020; let e : Nat := 1; let x : Session := port0;
    (Up s ∧ sessOf s n = some x ∧ x.opened = true ∧ x.exec = none ∧ x.rights = 2 ∧ s.upd.resetDue = false) ∧ i < 65536 ∧ e < 65536 ∧ isFwIdx i = false ∧ (objRow? i e).isSome = true ∧ goes (.describe n i e) s = true := by decide +kernel
theorem test_diagTxStop : let s : State := z.modFe 0 fun f => { f with st := .diag, diag := { f.diag with running := true } }; let n : Nat := 0xFF00; let r : Radio := 0; let rest : Bytes := diagV; let x : Session := port0; let v := taken 0x7F80 0 (0 :: rest); let t := after (.diagTxStop n rest) s;
    (Up s ∧ sessOf s n = some x ∧ x.opened = true ∧ x.exec = none ∧ x.rights = 2 ∧ s.upd.resetDue = false) ∧ passes s 0x7F80 0 (0 :: rest) = true ∧ fld v 0 1 = 0 ∧ fld v 1 1 = r.val ∧ (s.fe r).diag.running = true ∧ (t.lastResp.map fun z => (z.idx, z.el, (z.abort, z.detail))) = some (0x7F80, 0, ok) ∧ (t.fe r).diag.running = false ∧ (t.fe r).diag.ended = 3 := by decide +kernel
theorem test_diagTxCw : let s : State := legalD; let n : Nat := 0xFF00; let u : Nat := 30; let r : Radio := 0; let e : RegChan := (permits legalD diagC).getD noChan; let rest : Bytes := diagV; let x : Session := port0; let v := taken 0x7F80 0 (1 :: rest); let t := after (.diagTxCw n rest) s;
    (Up s ∧ sessOf s n = some x ∧ x.opened = true ∧ x.exec = none ∧ x.rights = 2 ∧ s.upd.resetDue = false) ∧ passes s 0x7F80 0 (1 :: rest) = true ∧ (isLocal n = true ∧ fld v 0 1 = 1 ∧ fld v 1 1 = r.val ∧ (s.fe r).st = .off ∧ s.objN 0x7000 0 ≠ 0 ∧ permits s (chanOf (fld v 4 4) (bwKhz (fld v 8 1))) = some e ∧ fld v 2 2 ≠ 0 ∧ (maskTrx (fld v 2 2)).all (fun t => trxAssign s t == r.val + 1) = true ∧ fld v 12 4 ≤ s.objN 0x7F81 0 ∧ diagRange v = false ∧ txUnits s (maskTrx (fld v 2 2)) (fun t => dacPower s e (chanOf (fld v 4 4) (bwKhz (fld v 8 1))) (maskTrx (fld v 2 2)).length (10 * fldI v 10 2 - chainLoss (maskTrx (fld v 2 2)).length - 10 * s.objI 0x7010 (t + 1) (2 * bandOf (chanOf (fld v 4 4) (bwKhz (fld v 8 1)))) 2) t) = some u ∧ u ≤ roomFor s 4 r.val false) ∧ (t.lastResp.map fun z => (z.idx, z.el, (z.abort, z.detail))) = some (0x7F80, 0, ok) ∧ (t.fe r).diag.mode = 1 ∧ (t.fe r).diag.chan = some (chanOf (fld v 4 4) (bwKhz (fld v 8 1))) := by decide +kernel
theorem test_diagTxPacket : let s : State := legalD; let n : Nat := 0xFF00; let u : Nat := 30; let r : Radio := 0; let e : RegChan := (permits legalD diagC).getD noChan; let rest : Bytes := diagV; let x : Session := port0; let v := taken 0x7F80 0 (2 :: rest); let t := after (.diagTxPacket n rest) s;
    (Up s ∧ sessOf s n = some x ∧ x.opened = true ∧ x.exec = none ∧ x.rights = 2 ∧ s.upd.resetDue = false) ∧ passes s 0x7F80 0 (2 :: rest) = true ∧ (isLocal n = true ∧ fld v 0 1 = 2 ∧ fld v 1 1 = r.val ∧ (s.fe r).st = .off ∧ s.objN 0x7000 0 ≠ 0 ∧ permits s (chanOf (fld v 4 4) (bwKhz (fld v 8 1))) = some e ∧ fld v 2 2 ≠ 0 ∧ (maskTrx (fld v 2 2)).all (fun t => trxAssign s t == r.val + 1) = true ∧ fld v 12 4 ≤ s.objN 0x7F81 0 ∧ diagRange v = false ∧ txUnits s (maskTrx (fld v 2 2)) (fun t => dacPower s e (chanOf (fld v 4 4) (bwKhz (fld v 8 1))) (maskTrx (fld v 2 2)).length (10 * fldI v 10 2 - chainLoss (maskTrx (fld v 2 2)).length - 10 * s.objI 0x7010 (t + 1) (2 * bandOf (chanOf (fld v 4 4) (bwKhz (fld v 8 1)))) 2) t) = some u ∧ u ≤ roomFor s 4 r.val false) ∧ (t.lastResp.map fun z => (z.idx, z.el, (z.abort, z.detail))) = some (0x7F80, 0, ok) ∧ (t.fe r).diag.mode = 2 ∧ (t.fe r).diag.chan = some (chanOf (fld v 4 4) (bwKhz (fld v 8 1))) := by decide +kernel
theorem test_diagTxMask : let s : State := legalD; let n : Nat := 0xFF00; let u : Nat := 30; let r : Radio := 0; let e : RegChan := (permits legalD diagC).getD noChan; let rest : Bytes := diagV; let x : Session := port0; let v := taken 0x7F80 0 (3 :: rest); let t := after (.diagTxMask n rest) s;
    (Up s ∧ sessOf s n = some x ∧ x.opened = true ∧ x.exec = none ∧ x.rights = 2 ∧ s.upd.resetDue = false) ∧ passes s 0x7F80 0 (3 :: rest) = true ∧ (isLocal n = true ∧ fld v 0 1 = 3 ∧ fld v 1 1 = r.val ∧ (s.fe r).st = .off ∧ s.objN 0x7000 0 ≠ 0 ∧ permits s (chanOf (fld v 4 4) (bwKhz (fld v 8 1))) = some e ∧ fld v 2 2 ≠ 0 ∧ (maskTrx (fld v 2 2)).all (fun t => trxAssign s t == r.val + 1) = true ∧ fld v 12 4 ≤ s.objN 0x7F81 0 ∧ diagRange v = false ∧ txUnits s (maskTrx (fld v 2 2)) (fun t => dacPower s e (chanOf (fld v 4 4) (bwKhz (fld v 8 1))) (maskTrx (fld v 2 2)).length (10 * fldI v 10 2 - chainLoss (maskTrx (fld v 2 2)).length - 10 * s.objI 0x7010 (t + 1) (2 * bandOf (chanOf (fld v 4 4) (bwKhz (fld v 8 1)))) 2) t) = some u ∧ u ≤ roomFor s 4 r.val false) ∧ (t.lastResp.map fun z => (z.idx, z.el, (z.abort, z.detail))) = some (0x7F80, 0, ok) ∧ (t.fe r).diag.mode = 3 ∧ (t.fe r).diag.chan = some (chanOf (fld v 4 4) (bwKhz (fld v 8 1))) := by decide +kernel
theorem test_datumIncrWrite : let s : State := z; let n : Nat := 0xFF00; let v : Bytes := le 8 17179869185; let x : Session := port0; let t := after (.datumIncrWrite n v) s;
    (Up s ∧ sessOf s n = some x ∧ x.opened = true ∧ x.exec = none ∧ x.rights = 2 ∧ s.upd.resetDue = false) ∧ passes s 0x1201 0 v = true ∧ reservedBy s none 0x1201 0 = false ∧ (t.lastResp.map fun z => (z.idx, z.el, (z.abort, z.detail))) = some (0x1201, 0, ok) ∧ t.objB 0x1201 0 = taken 0x1201 0 v := by decide +kernel
theorem test_stepRelative : let s : State := z; let n : Nat := 0xFF00; let rest : Bytes := zeros 3 ++ le 8 65536 ++ zeros 4; let x : Session := port0; let v := taken 0x1202 0 (0 :: rest); let t := after (.stepRelative n rest) s;
    (Up s ∧ sessOf s n = some x ∧ x.opened = true ∧ x.exec = none ∧ x.rights = 2 ∧ s.upd.resetDue = false) ∧ passes s 0x1202 0 (0 :: rest) = true ∧ s.datum.restored = true ∧ fld v 0 1 = 0 ∧ (sessOf t n).isSome = true ∧ t.lastResp = s.lastResp := by decide +kernel
theorem test_stepAbsolute : let s : State := z; let n : Nat := 0xFF00; let rest : Bytes := zeros 3 ++ le 6 5 ++ le 4 7 ++ le 2 0; let x : Session := port0; let v := taken 0x1202 0 (1 :: rest); let t := after (.stepAbsolute n rest) s;
    (Up s ∧ sessOf s n = some x ∧ x.opened = true ∧ x.exec = none ∧ x.rights = 2 ∧ s.upd.resetDue = false) ∧ passes s 0x1202 0 (1 :: rest) = true ∧ s.datum.restored = true ∧ fld v 0 1 = 1 ∧ (sessOf t n).isSome = true ∧ t.lastResp = s.lastResp := by decide +kernel
theorem test_stepNotRestored : let s : State := { z with datum := { z.datum with restored := false } }; let n : Nat := 0xFF00; let rest : Bytes := zeros 3 ++ le 8 65536 ++ zeros 4; let x : Session := port0; let t := after (.stepRelative n rest) s;
    (Up s ∧ sessOf s n = some x ∧ x.opened = true ∧ x.exec = none ∧ x.rights = 2 ∧ s.upd.resetDue = false) ∧ passes s 0x1202 0 (0 :: rest) = true ∧ s.datum.restored = false ∧ (t.lastResp.map fun z => (z.idx, z.el, (z.abort, z.detail))) = some (0x1202, 0, (aBusy, det 0x51 1)) := by decide +kernel
theorem test_tpoCfgWrite : let s : State := tp5; let n : Nat := 0xFF00; let o : Fin 4 := 1; let v : Bytes := tpoV 0 0; let x : Session := port0; let t := after (.tpoCfgWrite n (o.val + 1) v) s;
    (Up s ∧ sessOf s n = some x ∧ x.opened = true ∧ x.exec = none ∧ x.rights = 2 ∧ s.upd.resetDue = false) ∧ passes s 0x1210 (o.val + 1) v = true ∧ reservedBy s none 0x1210 (o.val + 1) = false ∧ (t.lastResp.map fun z => (z.idx, z.el, (z.abort, z.detail))) = some (0x1210, (o.val + 1), ok) ∧ t.objB 0x1210 (o.val + 1) = taken 0x1210 (o.val + 1) v := by decide +kernel
theorem test_tpoCfgWrite_2 : let s : State := tp5; let n : Nat := 0xFF00; let o : Fin 4 := 1; let v : Bytes := tpoV 1 9; let x : Session := port0; let t := after (.tpoCfgWrite n (o.val + 1) v) s;
    (Up s ∧ sessOf s n = some x ∧ x.opened = true ∧ x.exec = none ∧ x.rights = 2 ∧ s.upd.resetDue = false) ∧ passes s 0x1210 (o.val + 1) v = true ∧ reservedBy s none 0x1210 (o.val + 1) = false ∧ (t.lastResp.map fun z => (z.idx, z.el, (z.abort, z.detail))) = some (0x1210, (o.val + 1), ok) ∧ t.objB 0x1210 (o.val + 1) = taken 0x1210 (o.val + 1) v := by decide +kernel
theorem test_tpoCfgWrite_3 : let s : State := tp5; let n : Nat := 0xFF00; let o : Fin 4 := 1; let v : Bytes := tpoV 1 4; let x : Session := port0; let t := after (.tpoCfgWrite n (o.val + 1) v) s;
    (Up s ∧ sessOf s n = some x ∧ x.opened = true ∧ x.exec = none ∧ x.rights = 2 ∧ s.upd.resetDue = false) ∧ passes s 0x1210 (o.val + 1) v = true ∧ reservedBy s none 0x1210 (o.val + 1) = false ∧ (t.lastResp.map fun z => (z.idx, z.el, (z.abort, z.detail))) = some (0x1210, (o.val + 1), ok) ∧ t.objB 0x1210 (o.val + 1) = taken 0x1210 (o.val + 1) v := by decide +kernel
theorem test_tpoCfgWrite_4 : let s : State := tp5; let n : Nat := 0xFF00; let o : Fin 4 := 1; let v : Bytes := tpoV 2 0; let x : Session := port0; let t := after (.tpoCfgWrite n (o.val + 1) v) s;
    (Up s ∧ sessOf s n = some x ∧ x.opened = true ∧ x.exec = none ∧ x.rights = 2 ∧ s.upd.resetDue = false) ∧ passes s 0x1210 (o.val + 1) v = true ∧ reservedBy s none 0x1210 (o.val + 1) = false ∧ (t.lastResp.map fun z => (z.idx, z.el, (z.abort, z.detail))) = some (0x1210, (o.val + 1), ok) ∧ t.objB 0x1210 (o.val + 1) = taken 0x1210 (o.val + 1) v := by decide +kernel
theorem test_coreDvfsWrite : let s : State := z; let n : Nat := 0xFF00; let c : CoreId := 0; let v : Bytes := le 2 400; let x : Session := port0; let p := pointOf (leNat (taken 0x1312 (c.val + 1) v)); let t := after (.coreDvfsWrite n (c.val + 1) v) s;
    (Up s ∧ sessOf s n = some x ∧ x.opened = true ∧ x.exec = none ∧ x.rights = 2 ∧ s.upd.resetDue = false) ∧ passes s 0x1312 (c.val + 1) v = true ∧ reservedBy s none 0x1312 (c.val + 1) = false ∧ p ≤ pointOf (coreCap s) ∧ p ≤ ((coresReady s).core c).point ∧ (t.lastResp.map fun z => (z.idx, z.el, (z.abort, z.detail))) = some (0x1312, (c.val + 1), ok) ∧ t.objB 0x1312 (c.val + 1) = taken 0x1312 (c.val + 1) v ∧ (t.core c).point = p := by decide +kernel
theorem test_coreDvfsWrite_2 : let s : State := z; let n : Nat := 0xFF00; let c : CoreId := 0; let v : Bytes := le 2 800; let x : Session := port0; let p := pointOf (leNat (taken 0x1312 (c.val + 1) v)); let t := after (.coreDvfsWrite n (c.val + 1) v) s;
    (Up s ∧ sessOf s n = some x ∧ x.opened = true ∧ x.exec = none ∧ x.rights = 2 ∧ s.upd.resetDue = false) ∧ passes s 0x1312 (c.val + 1) v = true ∧ reservedBy s none 0x1312 (c.val + 1) = false ∧ p ≤ pointOf (coreCap s) ∧ ((coresReady s).core c).point < p ∧ pointCharge p ≤ roomFor (coresReady s) 5 c.val false ∧ (t.lastResp.map fun z => (z.idx, z.el, (z.abort, z.detail))) = some (0x1312, (c.val + 1), ok) ∧ (t.core c).point = ((coresReady s).core c).point ∧ (c.val, p) ∈ t.power.pendingCore := by decide +kernel
theorem test_capturePop : let s : State := { z with datum := { z.datum with fifo := vset z.datum.fifo 2 [{ falling := true, gen := 3, stamp := { sec := 1 } }] } }; let n : Nat := 0xFF00; let v : Bytes := [2]; let i : Fin 3 := 2; let x : Session := port0; let r := { falling := true, gen := 3, stamp := { sec := 1 } }; let l := []; let t := after (.capturePop n v) s;
    (Up s ∧ sessOf s n = some x ∧ x.opened = true ∧ x.exec = none ∧ x.rights = 2 ∧ s.upd.resetDue = false) ∧ passes s 0x1222 0 v = true ∧ fld (taken 0x1222 0 v) 0 1 = i.val ∧ vget s.datum.fifo i [] = r :: l ∧ (t.lastResp.map fun z => (z.idx, z.el, (z.abort, z.detail))) = some (0x1222, 0, ok) ∧ vget t.datum.fifo i [] = l ∧ t.datum.popped = [1] ++ le 1 i.val ++ boolByte r.falling ++ [0] ++ le 4 r.gen ++ r.stamp.enc := by decide +kernel
theorem test_capturePop_2 : let s : State := z; let n : Nat := 0xFF00; let v : Bytes := [1]; let i : Fin 3 := 1; let x : Session := port0; let t := after (.capturePop n v) s;
    (Up s ∧ sessOf s n = some x ∧ x.opened = true ∧ x.exec = none ∧ x.rights = 2 ∧ s.upd.resetDue = false) ∧ passes s 0x1222 0 v = true ∧ fld (taken 0x1222 0 v) 0 1 = i.val ∧ vget s.datum.fifo i [] = [] ∧ (t.lastResp.map fun z => (z.idx, z.el, (z.abort, z.detail))) = some (0x1222, 0, ok) ∧ t.datum.popped = [0] ++ le 1 i.val ++ zeros 18 := by decide +kernel

end Dict

/-! ### Rules stated whole -/

namespace Stated

def fullT : State := { z with cores := { z.cores with threads := (List.range 512).map fun k => (k, { st := .ready }) } }
def answer (t : State) : Option (Nat × Nat × Bytes) := t.lastResp.map fun r => (r.abort, r.detail, r.value)
def sub0 (sess el : Nat) : Sub := { sess, idx := 0x3020, el, mode := 2, minMs := 1, periodMs := 100 }
def subbed (l : List Sub) : State := { z with dict := { z.dict with subs := l } }
def subW : Bytes := [2, 0, 10, 0] ++ le 4 200
def own (st : TravState) : State := setTrav z 1 { st, owner := 0xFF00 }
def ch6 (st : Nat) : State := setChState (((z.setReg (chBase 5) 0x08002000).setReg (chBase 5 + 8) (2 ^ 31 + 4)).setReg (chBase 5 + 0xC) 1) 5 st
def ended3 : DmaCur := { d := { src := 0, dst := 0x08003000, len := 8, op := 1, srcW := 8, dstW := 8, key := 0, srcPcie := false, dstPcie := false, notify := false, aad := 0, addr := 0x08002000 }, packing := false, opnd := 0, ready := true, status := 3 }
def stepB0 : State := { z with start := { z.start with phase := .stepB, xoEn := true, refRun := 0, pg := 15 } }
def noRow : ObjRow := { ilo := 0, ihi := 0, elo := 0, ehi := 0, typ := 0, len := .exact 0, acc := .ro, dflt := [], pers := false, chks := [] }

theorem test_capturePopRead : let s : State := { z with datum := { z.datum with fifo := vset z.datum.fifo 2 [{ falling := true, gen := 3, stamp := { sec := 1 } }] } }; let n : Nat := 0xFF00; let v : Bytes := [2]; let i : Fin 3 := 2; let env : Env := {}; let x : Session := port0; let t := after (.capturePop n v) s;
    (Up s ∧ sessOf s n = some x ∧ x.opened = true ∧ x.exec = none ∧ x.rights = 2 ∧ s.upd.resetDue = false) ∧ env.poisoned = false ∧ passes s 0x1222 0 v = true ∧ fld (taken 0x1222 0 v) 0 1 = i.val ∧ applyingSlot s 0x1222 0 1 = none ∧ (t.lastResp.map fun z => (z.idx, z.el, (z.abort, z.detail))) = some (0x1222, 0, ok) := by decide +kernel
theorem test_capturePopRead_2 : let s : State := z; let n : Nat := 0xFF00; let v : Bytes := [1]; let i : Fin 3 := 1; let env : Env := {}; let x : Session := port0; let t := after (.capturePop n v) s;
    (Up s ∧ sessOf s n = some x ∧ x.opened = true ∧ x.exec = none ∧ x.rights = 2 ∧ s.upd.resetDue = false) ∧ env.poisoned = false ∧ passes s 0x1222 0 v = true ∧ fld (taken 0x1222 0 v) 0 1 = i.val ∧ applyingSlot s 0x1222 0 1 = none ∧ (t.lastResp.map fun z => (z.idx, z.el, (z.abort, z.detail))) = some (0x1222, 0, ok) := by decide +kernel
theorem test_subFull : let s : State := subbed ((List.range 16).map fun k => { sub0 0xFF00 1 with idx := 0x3000 + k }); let n : Nat := 0xFF00; let el : Nat := 1; let v : Bytes := subW; let x : Session := port0; let rest := s.dict.subs.filter fun u => !(u.sess == n && u.idx == 0x3020 && u.el == el); let t := after (.subscribe n 0x3020 el v) s;
    (Up s ∧ sessOf s n = some x ∧ x.opened = true ∧ x.exec = none ∧ x.rights = 2 ∧ s.upd.resetDue = false) ∧ 1 ≤ el ∧ el ≤ 3 ∧ v.length = 8 ∧ subRangeOk v = true ∧ fld v 0 1 ≠ 0 ∧ (64 ≤ rest.length ∨ 16 ≤ (rest.filter fun u => u.sess == n).length) ∧ t.lastResp = some { opcode := 7, flags := 0, idx := 0x3020, el, abort := aFull, detail := 0x70000009, value := [] } := by decide +kernel
theorem test_subFull_2 : let s : State := subbed [sub0 0xFF00 1, sub0 5 1]; let n : Nat := 0xFF00; let el : Nat := 1; let v : Bytes := subW; let x : Session := port0; let rest := s.dict.subs.filter fun u => !(u.sess == n && u.idx == 0x3020 && u.el == el); let t := after (.subscribe n 0x3020 el v) s;
    (Up s ∧ sessOf s n = some x ∧ x.opened = true ∧ x.exec = none ∧ x.rights = 2 ∧ s.upd.resetDue = false) ∧ 1 ≤ el ∧ el ≤ 3 ∧ v.length = 8 ∧ subRangeOk v = true ∧ fld v 0 1 ≠ 0 ∧ rest.length < 64 ∧ (rest.filter fun u => u.sess == n).length < 16 ∧ t.lastResp = some { opcode := 7, flags := 0, idx := 0x3020, el, abort := 0, detail := 0, value := [] } ∧ t.dict.subs.length = rest.length + 1 ∧ (t.dict.subs.filter fun u => u.sess == n && u.idx == 0x3020 && u.el == el).map (fun u => (u.mode, u.minMs, u.periodMs)) = [(fld v 0 1, fld v 2 2, fld v 4 4)] := by decide +kernel
theorem test_subWriteOnly : let s : State := z; let n : Nat := 0xFF00; let idx : Nat := 0x1602; let el : Nat := 0; let v : Bytes := subW; let x : Session := port0; let row : ObjRow := (objRow? 0x1602 0).getD noRow; let t := after (.subscribe n idx el v) s;
    (Up s ∧ sessOf s n = some x ∧ x.opened = true ∧ x.exec = none ∧ x.rights = 2 ∧ s.upd.resetDue = false) ∧ isFwIdx idx = false ∧ (objRow? idx el).isSome = true ∧ row.acc = .wo ∧ t.lastResp = some { opcode := 7, flags := 0, idx, el, abort := aAccess, detail := 0x70000012, value := [] } := by decide +kernel
theorem test_traverseStates : let s : State := z; let n : Nat := 0xFF00; let x : Session := port0; let t := after (.close n) s;
    (Up s ∧ sessOf s n = some x ∧ x.opened = true ∧ x.exec = none ∧ x.rights = 2 ∧ s.upd.resetDue = false) ∧ (travOf s n).all (fun k => decide ((travAt s k).st ≠ .opened)) = true ∧ t.lastResp = some { opcode := 4, flags := 0, idx := 0, el := 0, abort := aState, detail := 0x70000008, value := [] } := by decide +kernel
theorem test_traverseStates_2 : let s : State := own .opened; let n : Nat := 0xFF00; let x : Session := port0; let v := zeros 16; let p := true; let t := after (.stake n v p) s;
    (Up s ∧ sessOf s n = some x ∧ x.opened = true ∧ x.exec = none ∧ x.rights = 2 ∧ s.upd.resetDue = false) ∧ v.length = 16 ∧ (travOf s n).all (fun k => decide ((travAt s k).st ≠ .closed)) = true ∧ t.lastResp = some { opcode := 5, flags := if p then 2 else 0, idx := 0, el := 0, abort := aState, detail := 0x70000008, value := [] } := by decide +kernel
theorem test_traverseStates_3 : let s : State := own .armed; let n : Nat := 0xFF00; let x : Session := port0; let el := 1; let v := s.objB 0x3020 1; let k := 1; let t := after (.stage n 0x3020 el v) s;
    (Up s ∧ sessOf s n = some x ∧ x.opened = true ∧ x.exec = none ∧ x.rights = 2 ∧ s.upd.resetDue = false) ∧ 1 ≤ el ∧ el ≤ 3 ∧ passes s 0x3020 el v = true ∧ travOf s n = some k ∧ ((travAt s k).st = .armed ∨ (travAt s k).st = .applying) ∧ t.lastResp = some { opcode := 3, flags := 0, idx := 0x3020, el, abort := aState, detail := 0x70000008, value := [] } := by decide +kernel
theorem test_traverseStates_4 : let s : State := z; let n : Nat := 0xFF00; let x : Session := port0; let t := after (.abort n) s;
    (Up s ∧ sessOf s n = some x ∧ x.opened = true ∧ x.exec = none ∧ x.rights = 2 ∧ s.upd.resetDue = false) ∧ travOf s n = none ∧ t.lastResp = some { opcode := 6, flags := 0, idx := 0, el := 0, abort := 0, detail := 0, value := [] } := by decide +kernel
theorem test_traverseStates_5 : let s : State := own .applying; let n : Nat := 0xFF00; let x : Session := port0; let k := 1; let t := after (.abort n) s;
    (Up s ∧ sessOf s n = some x ∧ x.opened = true ∧ x.exec = none ∧ x.rights = 2 ∧ s.upd.resetDue = false) ∧ travOf s n = some k ∧ (travAt s k).st = .applying ∧ t.lastResp = some { opcode := 6, flags := 0, idx := 0, el := 0, abort := aState, detail := 0x70000008, value := [] } := by decide +kernel
theorem test_dmaHalts : let s : State := setCur (ch6 1) 5 (some ended3); let c : Fin 64 := 5; let x : DmaCur := ended3; let t := after (.dmaDescriptorDone c) s;
    Up s ∧ dmaCur s c = some x ∧ x.ready = true ∧ 2 ≤ x.status ∧ x.status < 256 ∧ allMemory s x.d.addr 32 = true ∧ dmaCur t c = none ∧ bits (readWord t (x.d.addr + 16)) 8 8 = x.status ∧ bit (readWord t (x.d.addr + 16)) 0 = true := by decide +kernel
theorem test_dmaHalted : let s : State := ch6 4; let c : Fin 64 := 5; let k : CoreId := 0; let tail : Nat := 3; let t := after (.dmaDoorbell k c tail) s;
    Up s ∧ chState s c.val = 4 ∧ chOn s c.val = true ∧ chStop s c.val = false ∧ chState t c.val = 4 := by decide +kernel
theorem test_refReady : let s : State := stepB0; let m : Nat := 78047; let t := after (.refWindow m) s;
    s.start.phase = .stepB ∧ s.start.xoEn = true ∧ s.start.refRun = 0 ∧ t.start.phase = .stepB := by decide +kernel
theorem test_refReady_2 : let s : State := stepB0; let m : Nat := 78046; let t := after (.refWindow m) s;
    s.start.phase = .stepB ∧ s.start.xoEn = true ∧ s.start.refRun = 0 ∧ t.start.phase = .stepB := by decide +kernel
/-- Every key of a list is held by the table that gives each the same value. -/
theorem tget_same {α : Type} (l : List Nat) (v : α) (k : Nat) (h : k ∈ l) : tget (l.map fun j => (j, v)) k = some v := by
  induction l with
  | nil => cases h
  | cons a l ih =>
    show (if a = k then some v else tget (l.map fun j => (j, v)) k) = some v
    by_cases e : a = k
    · simp [e]
    · simpa [e] using ih ((List.mem_cons.mp h).resolve_left (Ne.symm e))
theorem test_createFull : Up fullT ∧ bits (2 ^ 24) 24 8 ≠ 0 ∧ ∀ k, k < 512 → (fullT.thread k).st ≠ .free := by
  refine ⟨rfl, by decide, fun k h => ?_⟩
  simp [State.thread, fullT, tgetD, tget_same _ ({ st := .ready } : Thread) k (List.mem_range.mpr h)]

end Stated

end Sys2Proof.Tests
end

section
/-! SUPPORT. One operation of a session as a command of the table brings it: what the session and the state are left with
when the engine answers it at once. -/

namespace Sys2Proof.Machine
open Sys2Proof

/-- The execution of a command of the table: its one operation is to be answered. -/
def oneOp (x : Session) (o : Op) : Exec := { seq := x.nextSeq, todo := [o], room := pduRoom x.tr - 14, direct := true }

/-- The session's record while its one operation executes. -/
def serving (x : Session) (o : Op) : Session := { x with exec := some (oneOp x o) }

/-- The operation's answer is the last response, and the session executes nothing. -/
def afterOp (s : State) (n : Nat) (o : Op) (r : Res) (v : Bytes) : State :=
  { s with lastResp := some (answerOp o r v)
           dict := { s.dict with sessions := s.dict.sessions.map fun y => if y.num = n then { y with exec := none } else y } }

/-- What a command completes with when its answer is all that shows: the slots, the objects and memory stand as before it. -/
def AnsweredKept (out : Out) (s : State) (a : RespOp) : Prop :=
  ∃ t, out = .next t ∧ t.dict.travs = s.dict.travs ∧ t.lastResp = some a ∧ t.obj = s.obj ∧ t.mem = s.mem

theorem Sender.sess {s : State} {n : Nat} {x : Session} (h : Sender s n x) : sessOf s n = some x := h.2.1

theorem Sender.full {s : State} {n : Nat} {x : Session} (h : Sender s n x) (o : Op) : (serving x o).rights = 2 := h.2.2.2.2.1

theorem Sender.noReset {s : State} {n : Nat} {x : Session} (h : Sender s n x) : s.upd.resetDue = false := h.2.2.2.2.2

/-- The record found under a number carries that number. -/
theorem Sender.num {s : State} {n : Nat} {x : Session} (h : Sender s n x) : x.num = n := by
  simpa using List.find?_some h.sess

@[simp] theorem serving_num (x : Session) (o : Op) : (serving x o).num = x.num := rfl

/-- The record found for a session that serves one operation. -/
theorem sessOf_serving {s : State} {n : Nat} {x : Session} (o : Op) (h : sessOf s n = some x) :
    sessOf (setExec s n (oneOp x o)) n = some (serving x o) := by
  rw [sessOf_setExec, h]; rfl

/-- The last operation of a command's execution is answered: the execution ends. -/
theorem runExec_answered {env : Env} {s t : State} {n k : Nat} {x : Session} {o : Op} {r : Res} {v : Bytes}
    (hx : sessOf s n = some (serving x o)) (ho : o.opcode ≠ 0x13) (hv : v.length + 28 ≤ pduRoom x.tr)
    (hw : runOp env (serving x o) o (pduRoom x.tr - 28) s = (t, .done r v))
    (hs : sessOf t n ≠ none) (hr : t.upd.resetDue = false) :
    runExec env n (k + 2) s = afterOp t n o r v := by
  have hroom : ¬ pduRoom x.tr - 14 < 14 + v.length := by omega
  have hroom0 : ¬ pduRoom x.tr - 14 < 14 := by omega
  have hleft : pduRoom x.tr - 14 - 14 = pduRoom x.tr - 28 := by omega
  rw [runExec, hx]
  simp only [serving, oneOp, Option.isSome_none, Bool.false_eq_true, if_false, hroom0, hleft] at hw ⊢
  simp only [hw, hroom, ho, false_and, if_false]
  rw [runExec_done (u := { t with lastResp := some (answerOp o r v) }) hs rfl rfl,
    finishExec_direct (u := { t with lastResp := some (answerOp o r v) }) hs hr rfl rfl]
  rfl

/-- A command of one operation, answered at once: its answer, and the state its operation leaves. -/
theorem directOp_answered {env : Env} {s t : State} {n : Nat} {x : Session} {o : Op} {r : Res} {v : Bytes} (h : Sender s n x)
    (ho : o.opcode ≠ 0x13) (hv : v.length + 28 ≤ pduRoom x.tr)
    (hw : runOp env (serving x o) o (pduRoom x.tr - 28) (setExec s n (oneOp x o)) = (t, .done r v))
    (hs : sessOf t n ≠ none) (hr : t.upd.resetDue = false) :
    directOp env n o s = afterOp t n o r v := by
  have hx' := sessOf_serving o h.sess
  obtain ⟨-, hx, hopen, hexec, -, -⟩ := h
  unfold directOp
  simp only [hx, hopen, hexec, Option.isSome_none, Bool.false_eq_true, or_self, if_false, Bool.true_eq_false]
  show runLeft env n (setExec s n (oneOp x o)) = _
  unfold runLeft
  rw [hx']
  exact runExec_answered hx' ho hv hw hs hr

/-- An operation that leaves the slots, the sessions, the objects and memory as they were: the command completes with its
answer, and these stand as before it. -/
theorem live_directOp_kept {env : Env} {s t : State} {n : Nat} {x : Session} {o : Op} {r : Res} (h : Sender s n x)
    (ho : o.opcode ≠ 0x13)
    (hw : runOp env (serving x o) o (pduRoom x.tr - 28) (setExec s n (oneOp x o)) = (t, .done r []))
    (htravs : t.dict.travs = s.dict.travs) (hsess : t.dict.sessions = (setExec s n (oneOp x o)).dict.sessions)
    (hupd : t.upd = s.upd) (hobj : t.obj = s.obj) (hmem : t.mem = s.mem) :
    AnsweredKept (live s (directOp env n o)) s (answerOp o r []) := by
  have hfound : sessOf t n = some (serving x o) := by
    have hx := sessOf_serving o h.sess
    unfold sessOf at hx ⊢; rw [hsess, hx]
  have hdone := directOp_answered h ho (by have := pduRoom_ge x.tr; simp; omega) hw (by simp [hfound])
    (by rw [hupd, h.noReset])
  refine ⟨_, live_up h.1, ?_⟩
  rw [hdone]
  exact ⟨htravs, rfl, hobj, hmem⟩

/-- An operation refused with no effect: the command completes with the refusal, and all else stands as before it. -/
theorem live_directOp_refused {env : Env} {s : State} {n : Nat} {x : Session} {o : Op} {r : Res} (h : Sender s n x)
    (ho : o.opcode ≠ 0x13)
    (hw : runOp env (serving x o) o (pduRoom x.tr - 28) (setExec s n (oneOp x o)) = (setExec s n (oneOp x o), .done r [])) :
    AnsweredKept (live s (directOp env n o)) s (answerOp o r []) :=
  live_directOp_kept h ho hw rfl rfl rfl rfl rfl

/-! ### Operations of a session with FULL rights -/

section Dispatch
variable {env : Env} {x : Session} {room : Nat} {s : State} (hfull : x.rights = 2)
include hfull

theorem mayDo_full (op idx el : Nat) : mayDo x op idx el = true := by simp [mayDo, hfull]

theorem runOp_stage (idx el : Nat) (v : Bytes) :
    runOp env x (reqOp 3 0 idx el v) room s = ((opStage x (reqOp 3 0 idx el v) s).1, .done (opStage x (reqOp 3 0 idx el v) s).2 []) := by
  simp [runOp, reqOp, mayDo_full hfull]

theorem runOp_close : runOp env x (reqOp 4 0 0 0 []) room s = opClose x s := by
  simp [runOp, reqOp, mayDo_full hfull]

theorem runOp_stake (flags : Nat) (v : Bytes) : runOp env x (reqOp 5 flags 0 0 v) room s = opStake x (reqOp 5 flags 0 0 v) s := by
  simp [runOp, reqOp, mayDo_full hfull]

theorem runOp_abort :
    runOp env x (reqOp 6 0 0 0 []) room s = ((travAbortOwn s x.num).1, .done (travAbortOwn s x.num).2 []) := by
  simp [runOp, reqOp, mayDo_full hfull, noValue]

end Dispatch

end Sys2Proof.Machine
end

section
/-! SUPPORT. CLOSE, STAKE, STAGE and ABORT where *Traverse states* does not list them (R54). -/

namespace Sys2Proof.Machine
open Sys2Proof

/-- A session that serves an operation keeps its slot. -/
@[simp] theorem travOf_setExec (s : State) (n m : Nat) (e : Exec) : travOf (setExec s n e) m = travOf s m := rfl

@[simp] theorem travAt_setExec (s : State) (n k : Nat) (e : Exec) : travAt (setExec s n e) k = travAt s k := rfl

/-- CLOSE outside OPEN. -/
theorem opClose_not_opened {x : Session} {s : State} (h : ∀ k, travOf s x.num = some k → (travAt s k).st ≠ .opened) :
    opClose x s = (s, .done travState []) := by
  unfold opClose travClose
  cases hk : travOf s x.num with
  | none => rfl
  | some k => simp [h k hk]

/-- STAKE outside CLOSED. -/
theorem opStake_not_closed {x : Session} {o : Op} {s : State} (hv : o.value.length = 16)
    (h : ∀ k, travOf s x.num = some k → (travAt s k).st ≠ .closed) : opStake x o s = (s, .done travState []) := by
  unfold opStake travStake
  cases hk : travOf s x.num with
  | none => simp [hv]
  | some k => simp [hv, h k hk]

/-- STAGE of a value that passes every check, in ARMED or APPLYING. -/
theorem opStage_armed_or_applying {x : Session} {o : Op} {s : State} {row : ObjRow} {k : Nat} (hrow : findObj s o.idx o.el = .ok row)
    (hacc : stageDenied row.acc = none) (heng : engineRes s row o.idx o.el o.value = ok)
    (hunit : unitRange o.idx o.el (scrub row o.value) s = ok) (hk : travOf s x.num = some k)
    (hst : (travAt s k).st = .armed ∨ (travAt s k).st = .applying) : opStage x o s = (s, travState) := by
  simp [opStage, hrow, hacc, heng, hunit, hk, hst]

/-- ABORT in IDLE. -/
theorem travAbortOwn_idle {s : State} {n : Nat} (h : travOf s n = none) : travAbortOwn s n = (s, ok) := by
  simp [travAbortOwn, h]

/-- ABORT in APPLYING does not run; its completion is recorded (R64). -/
theorem travAbortOwn_applying {s : State} {n k : Nat} (hk : travOf s n = some k) (hst : (travAt s k).st = .applying) :
    travAbortOwn s n = (s.abortDone 6 (k + 1) aState false 100000, travState) := by
  simp [travAbortOwn, abortTrav, travAbort, hk, hst, show travState.1 = aState from rfl]

/-- A value that passes has a row, whose checks it meets. -/
theorem exists_row_of_passes {s : State} {idx el : Nat} {v : Bytes} (h : passes s idx el v = true) :
    ∃ row, objRow? idx el = some row ∧ engineRes s row idx el v = ok := by
  unfold passes at h
  split at h
  case h_1 row hrow => exact ⟨row, hrow, by simpa using h⟩
  case h_2 => cases h

/-- AC_PARAMS of a radio is changed by a Traverse only. -/
theorem acc_acParams {el : Nat} {row : ObjRow} (h1 : 1 ≤ el) (h3 : el ≤ 3) (h : objRow? 0x3020 el = some row) : row.acc = .rs := by
  have hall : ∀ e ∈ [1, 2, 3], (objRow? 0x3020 e).map (·.acc) = some .rs := by decide
  have := hall el (by simp; omega)
  rw [h] at this
  simpa using this

/-- No unit refuses a value of AC_PARAMS. -/
theorem unitRange_acParams (el : Nat) (v : Bytes) (s : State) : unitRange 0x3020 el v s = ok := by
  simp [unitRange, unitWrite, isFwIdx, tableOf, show isFlagObj 0x3020 = false from by decide]

/-! ### The commands -/

section Commands
variable {n : Nat} {x : Session} {s : State} (hs : Sender s n x)
include hs

theorem exec_close_not_opened (h : ∀ k, travOf s n = some k → (travAt s k).st ≠ .opened) :
    AnsweredKept (exec (.close n) s) s
      { opcode := 4, flags := 0, idx := 0, el := 0, abort := aState, detail := 0x70000008, value := [] } := by
  refine live_directOp_refused (o := reqOp 4 0 0 0 []) (r := travState) hs (by decide) ?_
  rw [runOp_close (hs.full _)]
  exact opClose_not_opened (by simpa [hs.num] using h)

theorem exec_stake_not_closed {v : Bytes} {p : Bool} (hv : v.length = 16)
    (h : ∀ k, travOf s n = some k → (travAt s k).st ≠ .closed) :
    AnsweredKept (exec (.stake n v p) s) s
      { opcode := 5, flags := if p then 2 else 0, idx := 0, el := 0, abort := aState, detail := 0x70000008, value := [] } := by
  refine live_directOp_refused (o := reqOp 5 (if p then 2 else 0) 0 0 v) (r := travState) hs (show 5 ≠ 0x13 by decide) ?_
  rw [runOp_stake (hs.full _)]
  exact opStake_not_closed hv (by simpa [hs.num] using h)

theorem exec_stage_armed_or_applying {el k : Nat} {v : Bytes} (h1 : 1 ≤ el) (h3 : el ≤ 3) (hp : passes s 0x3020 el v = true)
    (hk : travOf s n = some k) (hst : (travAt s k).st = .armed ∨ (travAt s k).st = .applying) :
    AnsweredKept (exec (.stage n 0x3020 el v) s) s
      { opcode := 3, flags := 0, idx := 0x3020, el, abort := aState, detail := 0x70000008, value := [] } := by
  obtain ⟨row, hrow, heng⟩ := exists_row_of_passes hp
  have hacc : stageDenied row.acc = none := by rw [acc_acParams h1 h3 hrow]; rfl
  refine live_directOp_refused (o := reqOp 3 0 0x3020 el v) (r := travState) hs (show 3 ≠ 0x13 by decide) ?_
  rw [runOp_stage (hs.full _), opStage_armed_or_applying (findObj_of rfl hrow) hacc heng
    (unitRange_acParams el _ _) (by simpa [hs.num] using hk) (by simpa using hst)]

theorem exec_abort_idle (h : travOf s n = none) :
    AnsweredKept (exec (.abort n) s) s
      { opcode := 6, flags := 0, idx := 0, el := 0, abort := 0, detail := 0, value := [] } := by
  refine live_directOp_refused (o := reqOp 6 0 0 0 []) (r := ok) hs (by decide) ?_
  rw [runOp_abort (hs.full _), travAbortOwn_idle (by simpa [hs.num] using h)]

theorem exec_abort_applying {k : Nat} (hk : travOf s n = some k) (hst : (travAt s k).st = .applying) :
    AnsweredKept (exec (.abort n) s) s
      { opcode := 6, flags := 0, idx := 0, el := 0, abort := aState, detail := 0x70000008, value := [] } := by
  refine live_directOp_kept (o := reqOp 6 0 0 0 []) (r := travState)
    (t := (setExec s n (oneOp x (reqOp 6 0 0 0 []))).abortDone 6 (k + 1) aState false 100000) hs (by decide) ?_ rfl rfl rfl rfl rfl
  rw [runOp_abort (hs.full _), travAbortOwn_applying (by simpa [hs.num] using hk) (by simpa using hst)]

end Commands

/-- Settles O13: each command is its session's one operation, which the engine answers at once and which leaves the slots, the
objects and memory alone. -/
theorem traverseStates : Obligations.TraverseStates := by
  intro n x s hs
  exact ⟨exec_close_not_opened hs, fun v p => exec_stake_not_closed hs, fun el v k => exec_stage_armed_or_applying hs,
    exec_abort_idle hs, fun k => exec_abort_applying hs⟩

end Sys2Proof.Machine
end

section
/-! SUPPORT. A session's next command after an answered one, and a READ of a command object. -/

namespace Sys2Proof.Machine
open Sys2Proof

@[simp] theorem afterOp_cmds (s : State) (n : Nat) (o : Op) (r : Res) (v : Bytes) :
    (afterOp s n o r v).dict.cmds = s.dict.cmds := rfl

/-- The answered session executes nothing, its record otherwise the one found. -/
theorem sessOf_afterOp (s : State) (n : Nat) (o : Op) (r : Res) (v : Bytes) :
    sessOf (afterOp s n o r v) n = (sessOf s n).map fun y => { y with exec := none } :=
  sessOf_modSess (s := s) fun _ => rfl

/-- A session whose operation has been answered may send its next command. -/
theorem Sender.keepQueue_afterOp {q s t : State} {n : Nat} {x : Session} {o p : Op} {r : Res} {v : Bytes} (h : Sender s n x)
    (hstart : t.start = s.start) (hupd : t.upd = s.upd) (hsess : sessOf t n = some (serving x o)) :
    Sender (q.keepQueue (afterOp t n p r v)) n x := by
  have hfound : sessOf (q.keepQueue (afterOp t n p r v)) n = some { serving x o with exec := none } := by
    show sessOf (afterOp t n p r v) n = _
    rw [sessOf_afterOp, hsess]; rfl
  obtain ⟨hup, -, hopen, hexec, hfull, hreset⟩ := h
  refine ⟨?_, ?_, hopen, hexec, hfull, ?_⟩
  · show t.start.phase = .released
    rw [hstart]; exact hup
  · rw [hfound, ← hexec]; rfl
  · show t.upd.resetDue = false
    rw [hupd]; exact hreset

/-- An operation answered with a value that changes nothing: the command completes with that answer. -/
theorem live_directOp_value {env : Env} {s : State} {n : Nat} {x : Session} {o : Op} {r : Res} {v : Bytes} (h : Sender s n x)
    (ho : o.opcode ≠ 0x13) (hv : v.length + 28 ≤ pduRoom x.tr)
    (hw : runOp env (serving x o) o (pduRoom x.tr - 28) (setExec s n (oneOp x o)) = (setExec s n (oneOp x o), .done r v)) :
    ∃ u, live s (directOp env n o) = .next u ∧ u.lastResp = some (answerOp o r v) := by
  have hdone := directOp_answered h ho hv hw (by simp [sessOf_serving o h.sess]) h.noReset
  refine ⟨_, live_up h.1, ?_⟩
  rw [hdone]; rfl

theorem runOp_read {env : Env} {x : Session} {room : Nat} {s : State} (hfull : x.rights = 2) (flags idx el : Nat) (v : Bytes) :
    runOp env x (reqOp 1 flags idx el v) room s = opRead env x (reqOp 1 flags idx el v) room s := by
  simp [runOp, reqOp, mayDo_full hfull]

/-- A READ of one element of a unit's command object, while no slot that applies holds it. -/
theorem opRead_cmd {env : Env} {x : Session} {room idx el : Nat} {s : State} {row : ObjRow} (hfw : isFwIdx idx = false)
    (hrow : objRow? idx el = some row) (hacc : row.acc = .cmd) (hidx : idx ≠ 0x1200 ∧ idx ≠ 0x2121 ∧ clearsOnRead idx = false)
    (hslot : applyingSlot s idx el 1 = none) (hpoison : env.poisoned = false) :
    opRead env x (reqOp 1 0 idx el []) room s = (s, .done ok (readCmd s row idx el)) := by
  obtain ⟨hnow, hcca, hclear⟩ := hidx
  have hread : readObj s row idx el = (s, ok, readCmd s row idx el) := by
    simp [readObj, valueOf, hnow, hcca, hclear, hacc]
  have hone : readOne s idx el = (s, ok, readCmd s row idx el) := by
    simp [readOne, findObj_of hfw hrow, hacc, hread]
  simp [opRead, reqOp, bit, findObj_of hfw hrow, hacc, hslot, hfw, hpoison, hone]

/-- The slots alone decide whether a READ is held. -/
theorem applyingSlot_congr {s t : State} (h : t.dict.travs = s.dict.travs) (idx el k : Nat) :
    applyingSlot t idx el k = applyingSlot s idx el k := by
  simp only [applyingSlot, travAt, h]

/-- What a READ of a command object answers does not turn on what the session executes. -/
theorem readCmd_setExec (s : State) (n : Nat) (e : Exec) (row : ObjRow) (idx el : Nat) :
    readCmd (setExec s n e) row idx el = readCmd s row idx el := rfl

/-- READ of one element is its session's one operation. -/
theorem exec_read_one (n idx el : Nat) (env : Env) (s : State) :
    exec (.read n idx el ⟨none, env⟩) s = live s (directOp env n (reqOp 1 0 idx el [])) := rfl

/-- A READ of a unit's command object completes and answers its value. -/
theorem exec_read_cmd {env : Env} {s : State} {n idx el : Nat} {x : Session} {row : ObjRow} (h : Sender s n x)
    (hfw : isFwIdx idx = false) (hrow : objRow? idx el = some row) (hacc : row.acc = .cmd)
    (hidx : idx ≠ 0x1200 ∧ idx ≠ 0x2121 ∧ clearsOnRead idx = false) (hslot : applyingSlot s idx el 1 = none)
    (hpoison : env.poisoned = false) (hlen : (readCmd s row idx el).length + 28 ≤ pduRoom x.tr) :
    ∃ u, exec (.read n idx el ⟨none, env⟩) s = .next u ∧
      u.lastResp = some (answerOp (reqOp 1 0 idx el []) ok (readCmd s row idx el)) := by
  have hslot' : applyingSlot (setExec s n (oneOp x (reqOp 1 0 idx el []))) idx el 1 = none := hslot
  rw [exec_read_one]
  refine live_directOp_value h (show 1 ≠ 0x13 by decide) hlen ?_
  rw [runOp_read (h.full _), opRead_cmd hfw hrow hacc hidx hslot' hpoison, readCmd_setExec]

/-- The code a command leaves is the one its record holds. -/
theorem recordCmd_code (s : State) (idx el : Nat) (v : Bytes) (code : Nat) :
    (tgetD (recordCmd s idx el v code).dict.cmds (okey idx el) {}).code = code := by
  simp [recordCmd, State.setDict, tgetD]

end Sys2Proof.Machine
end

section
/-! SUPPORT. CAPTURE_POP: the oldest record leaves its input's FIFO and is what a READ returns (R327). -/

namespace Sys2Proof.Machine
open Sys2Proof

/-- Storing the value that stands at a place changes nothing. -/
theorem vset_vget {α : Type} {n : Nat} {v : Vector α n} {i : Nat} {d x : α} (h : vget v i d = x) : vset v i x = v := by
  subst h
  ext j hj
  by_cases hij : i = j
  · subst hij; simp [vset, vget, hj]
  · simp [vset, hij]

/-- What a READ of CAPTURE_POP returns of an input whose FIFO held these records. -/
def popAnswer (i : Nat) : List CapRec → Bytes
  | r :: _ => [1] ++ le 1 i ++ boolByte r.falling ++ [0] ++ le 4 r.gen ++ r.stamp.enc
  | [] => [0] ++ le 1 i ++ zeros 18

/-- The unit after the pop of an input. -/
def DatumUnit.popInput (d : DatumUnit) (i : Nat) : DatumUnit :=
  { d with fifo := vset d.fifo i (vget d.fifo i []).tail, popped := popAnswer i (vget d.fifo i []) }

theorem capturePop_eq (v : Bytes) (s : State) : capturePop v s = (s.setDatum (s.datum.popInput (fld v 0 1)), ok) := by
  unfold capturePop DatumUnit.popInput
  cases h : vget s.datum.fifo (fld v 0 1) [] with
  | cons r l => simp [h, popAnswer]
  | nil => simp [h, popAnswer, vset_vget h]

/-- The oldest record of the input leaves. -/
theorem fifo_popInput_same (d : DatumUnit) (i : Fin 3) : vget (d.popInput i).fifo i [] = (vget d.fifo i []).tail := by
  simp [DatumUnit.popInput, vget_vset]

/-- Another input keeps its records. -/
theorem fifo_popInput_other (d : DatumUnit) {i k : Fin 3} (h : k ≠ i) : vget (d.popInput i).fifo k [] = vget d.fifo k [] := by
  have hne : i.val ≠ k.val := fun e => h (Fin.ext e.symm)
  simp [DatumUnit.popInput, vget_vset, hne]

/-- The answer is a whole RECORD. -/
theorem popAnswer_length (i : Nat) (l : List CapRec) : (popAnswer i l).length = 20 := by
  cases l <;> simp [popAnswer, boolByte, DatumVal.enc, zeros]

theorem padTo_of_length {n : Nat} {b : Bytes} (h : b.length = n) : padTo n b = b := by
  subst h; simp [padTo]

/-- A READ of CAPTURE_POP after a pop that was accepted. -/
theorem readCmd_capturePop {s : State} {d : DatumUnit} {i : Nat} (row : ObjRow) (hdatum : s.datum = d.popInput i)
    (hcode : (tgetD s.dict.cmds (okey 0x1222 0) {}).code = 0) :
    readCmd s row 0x1222 0 = popAnswer i (vget d.fifo i []) := by
  have hpopped : s.datum.popped = popAnswer i (vget d.fifo i []) := by rw [hdatum]; rfl
  simp [readCmd, hcode, hpopped, padTo_of_length (popAnswer_length _ _)]

theorem acc_capturePop {row : ObjRow} (h : objRow? 0x1222 0 = some row) : row.acc = .cmd := by
  have hrow : (objRow? 0x1222 0).map (·.acc) = some .cmd := by decide
  rw [h] at hrow
  simpa using hrow

/-- The state in which CAPTURE_POP of input `i` leaves the device. -/
def popState (s : State) (n : Nat) (x : Session) (v : Bytes) (i : Nat) : State :=
  let executing := (setExec s n (oneOp x (writeOp 0x1222 0 v))).cmdOut 0x1222 0 []
  let recorded := recordCmd (executing.setDatum (s.datum.popInput i)) 0x1222 0 (taken 0x1222 0 v) 0
  s.keepQueue (afterOp recorded n (writeOp 0x1222 0 v) ok [])

@[simp] theorem popState_datum (s : State) (n : Nat) (x : Session) (v : Bytes) (i : Nat) :
    (popState s n x v i).datum = s.datum.popInput i := rfl

theorem popState_answered (s : State) (n : Nat) (x : Session) (v : Bytes) (i : Nat) :
    answered (popState s n x v i) 0x1222 0 ok := rfl

theorem popState_code (s : State) (n : Nat) (x : Session) (v : Bytes) (i : Nat) :
    (tgetD (popState s n x v i).dict.cmds (okey 0x1222 0) {}).code = 0 := by
  simp [popState, recordCmd_code]

theorem popState_travs (s : State) (n : Nat) (x : Session) (v : Bytes) (i : Nat) :
    (popState s n x v i).dict.travs = s.dict.travs := rfl

section Commands
variable {n : Nat} {x : Session} {s : State} {v : Bytes} {i : Fin 3} (hs : Sender s n x) (hp : passes s 0x1222 0 v = true)
include hs

theorem sender_popState : Sender (popState s n x v i) n x :=
  hs.keepQueue_afterOp rfl rfl (sessOf_serving (writeOp 0x1222 0 v) hs.sess)

include hp

theorem exec_capturePop (hi : fld (taken 0x1222 0 v) 0 1 = i.val) : exec (.capturePop n v) s = .next (popState s n x v i) := by
  obtain ⟨row, hrow, -⟩ := exists_row_of_passes hp
  have hunit : unitCmd {} (writing s n x 0x1222 0 v).2 0x1222 (taken 0x1222 0 v)
      ((writing s n x 0x1222 0 v).1.cmdOut 0x1222 0 []) = (_, ok) :=
    (capturePop_eq _ _).trans (by rw [hi])
  have hsess := sessOf_serving (writeOp 0x1222 0 v) hs.sess
  have hdone := valueRow_cmd (env := {}) hs rfl hrow (acc_capturePop hrow) hp hunit
    (fun hnone => Option.some_ne_none _ (hsess.symm.trans hnone)) hs.noReset
  show live s (fun s => valueRow {} n 0x1222 0 v s) = _
  rw [live_up hs.1, hdone]
  rfl

/-- The READ that follows a pop answers what the input's FIFO held before it. -/
theorem exec_read_popState {env : Env} (hpoison : env.poisoned = false) (hslot : applyingSlot s 0x1222 0 1 = none) :
    ∃ u, exec (.read n 0x1222 0 ⟨none, env⟩) (popState s n x v i) = .next u ∧
      u.lastResp = some (answerOp (reqOp 1 0 0x1222 0 []) ok (popAnswer i (vget s.datum.fifo i []))) := by
  obtain ⟨row, hrow, -⟩ := exists_row_of_passes hp
  have hvalue : readCmd (popState s n x v i) row 0x1222 0 = popAnswer i (vget s.datum.fifo i []) :=
    readCmd_capturePop row (popState_datum s n x v i) (popState_code s n x v i)
  have hlen : (readCmd (popState s n x v i) row 0x1222 0).length + 28 ≤ pduRoom x.tr := by
    have := pduRoom_ge x.tr
    rw [hvalue, popAnswer_length]; omega
  have hread := exec_read_cmd (sender_popState hs) rfl hrow (acc_capturePop hrow) (by decide)
    ((applyingSlot_congr (popState_travs s n x v i) 0x1222 0 1).trans hslot) hpoison hlen
  rwa [hvalue] at hread

end Commands

/-- Settles O11: the pop answers at once and leaves its session free to send, and the READ returns the record the pop took,
or the empty one. -/
theorem capturePopAndRead : Obligations.CapturePopAndRead := by
  intro n v i env x s hs hpoison hp hi hslot
  obtain ⟨u, hread, hresp⟩ := exec_read_popState hs hp hpoison hslot
  refine ⟨_, exec_capturePop hs hp hi, popState_answered s n x v i, u, hread, fun r l hl => ?_, fun hl => ?_, fun k hk => ?_⟩
  · rw [popState_datum, fifo_popInput_same, hl]
    rw [hl] at hresp
    exact ⟨rfl, hresp⟩
  · rw [popState_datum, fifo_popInput_same, hl]
    rw [hl] at hresp
    exact ⟨rfl, hresp⟩
  · rw [popState_datum, fifo_popInput_other s.datum hk]

end Sys2Proof.Machine
end

section
/-! SUPPORT. What the parts of a descriptor's completion leave alone: memory, the descriptors in progress, and every register
below the dispatcher's blocks, among them those of the channels. -/

namespace Sys2Proof.Machine
open Sys2Proof

/-- Memory, the descriptors in progress and the registers below the dispatcher's core blocks are the same in both states. -/
structure KeepsChannels (s t : State) : Prop where
  mem : t.mem = s.mem
  dma : t.dma = s.dma
  regAt : ∀ a, a < 0x10200000 → t.regAt a = s.regAt a

theorem KeepsChannels.refl (s : State) : KeepsChannels s s := ⟨rfl, rfl, fun _ _ => rfl⟩

theorem KeepsChannels.trans {s t u : State} (h : KeepsChannels s t) (k : KeepsChannels t u) : KeepsChannels s u :=
  ⟨k.mem.trans h.mem, k.dma.trans h.dma, fun a ha => (k.regAt a ha).trans (h.regAt a ha)⟩

theorem keepsChannels_ite {p : Prop} [Decidable p] {s t u : State} (ht : KeepsChannels s t) (hu : KeepsChannels s u) :
    KeepsChannels s (if p then t else u) := by
  split
  · exact ht
  · exact hu

theorem keepsChannels_setFlag (s : State) (i e b : Nat) : KeepsChannels s (s.setFlag i e b) := ⟨rfl, rfl, fun _ _ => rfl⟩

theorem keepsChannels_addObjF (s : State) (i e o w n : Nat) : KeepsChannels s (s.addObjF i e o w n) :=
  ⟨rfl, rfl, fun _ _ => rfl⟩

/-- The registers of a dispatcher cause stand in the core's block. -/
theorem keepsChannels_setCause (s : State) (c : CoreId) (b : Nat) : KeepsChannels s (setCause s c b) := by
  refine ⟨rfl, rfl, fun a ha => ?_⟩
  have hcause : a ≠ dspBase c + 0x30 := by unfold dspBase; omega
  have hcount : a ≠ dspBase c + 0x34 + 4 * b := by unfold dspBase; omega
  simp only [setCause, regAt_setReg, if_neg hcause, if_neg hcount]

theorem keepsChannels_reserve (s : State) (c : CoreId) (t : Nat) : KeepsChannels s (reserve s c t) :=
  .trans (t := s.modCore c fun k => { k with reserved := some t }) ⟨rfl, rfl, fun _ _ => rfl⟩ (keepsChannels_setCause _ c 0)

theorem keepsChannels_offerThread (s : State) (t : Nat) : KeepsChannels s (offerThread s t) := by
  unfold offerThread
  refine keepsChannels_ite ?_ (.refl s)
  split
  case h_1 =>
    split
    case h_1 c _ =>
      have hpreempt : KeepsChannels s (s.modCore c fun k => { k with preempts := k.preempts + 1 }) := ⟨rfl, rfl, fun _ _ => rfl⟩
      exact (hpreempt.trans (keepsChannels_setCause _ c 1)).trans (keepsChannels_addObjF ..)
    case h_2 => exact .refl s
  case h_2 => exact .trans (t := s.draw.2) ⟨rfl, rfl, fun _ _ => rfl⟩ (keepsChannels_reserve ..)

theorem keepsChannels_makeReady (s : State) (t : Nat) (x : Thread) : KeepsChannels s (makeReady s t x) := by
  unfold makeReady
  refine .trans ?_ (keepsChannels_offerThread _ t)
  exact ⟨rfl, rfl, fun _ _ => rfl⟩

/-- A post reaches threads and cores, and the cause registers of a core. -/
theorem keepsChannels_postOperand (s : State) (o v : Nat) : KeepsChannels s (s.postOperand o v) := by
  unfold State.postOperand
  extract_lets x counted flagged
  have hcounted : KeepsChannels s counted := ⟨rfl, rfl, fun _ _ => rfl⟩
  have hflagged : KeepsChannels s flagged :=
    hcounted.trans (keepsChannels_ite (.refl counted) (keepsChannels_setFlag ..))
  split
  case h_1 t _ => exact hflagged.trans (keepsChannels_ite (keepsChannels_makeReady ..) (.refl flagged))
  case h_2 => exact hflagged

theorem keepsChannels_dmaFlag (s : State) (b : Nat) : KeepsChannels s (dmaFlag s b) := keepsChannels_setFlag s _ _ _

theorem keepsChannels_chStat (s : State) (c off w n : Nat) : KeepsChannels s (chStat s c off w n) :=
  keepsChannels_addObjF s _ _ _ _ _

/-- A channel's registers stand below the dispatcher's blocks. -/
theorem chBase_add_lt (c : Fin 64) {off : Nat} (h : off < 0x40) : chBase c.val + off < 0x10200000 := by
  unfold chBase; omega

end Sys2Proof.Machine
end

section
/-! SUPPORT. A channel's status register: what a flag, a new STATE and the writes of other registers leave of it. -/

namespace Sys2Proof.Machine
open Sys2Proof

theorem regAt_setReg_other (s : State) {a b : Nat} (v : Nat) (h : b ≠ a) : (s.setReg a v).regAt b = s.regAt b := by
  rw [regAt_setReg, if_neg h]

/-- A channel's STATE is a field of its status register alone. -/
theorem chState_congr {s t : State} {c : Nat} (h : t.regAt (chBase c + 0x14) = s.regAt (chBase c + 0x14)) :
    chState t c = chState s c := by
  simp only [chState, h]

@[simp] theorem chFlag_mem (s : State) (c b : Nat) : (chFlag s c b).mem = s.mem := rfl

@[simp] theorem chFlag_dma (s : State) (c b : Nat) : (chFlag s c b).dma = s.dma := rfl

@[simp] theorem setChState_mem (s : State) (c st : Nat) : (setChState s c st).mem = s.mem := rfl

@[simp] theorem setChState_dma (s : State) (c st : Nat) : (setChState s c st).dma = s.dma := rfl

@[simp] theorem dmaFlag_mem (s : State) (b : Nat) : (dmaFlag s b).mem = s.mem := by simp [dmaFlag]

@[simp] theorem dmaFlag_dma (s : State) (b : Nat) : (dmaFlag s b).dma = s.dma := by simp [dmaFlag]

@[simp] theorem regAt_dmaFlag (s : State) (b a : Nat) : (dmaFlag s b).regAt a = s.regAt a := by simp [dmaFlag]

@[simp] theorem chStat_mem (s : State) (c off w n : Nat) : (chStat s c off w n).mem = s.mem := rfl

@[simp] theorem chStat_dma (s : State) (c off w n : Nat) : (chStat s c off w n).dma = s.dma := rfl

@[simp] theorem regAt_chStat (s : State) (c off w n a : Nat) : (chStat s c off w n).regAt a = s.regAt a := rfl

theorem regAt_chFlag_other (s : State) (c b : Nat) {a : Nat} (hstatus : a ≠ chBase c + 0x14)
    (hcount : a ≠ chBase c + 0x18 + 4 * b) : (chFlag s c b).regAt a = s.regAt a := by
  rw [chFlag, regAt_setReg_other _ _ hcount, regAt_setReg_other _ _ hstatus]

theorem regAt_chFlag_status (s : State) (c b : Nat) :
    (chFlag s c b).regAt (chBase c + 0x14) = setBit (s.regAt (chBase c + 0x14)) b true := by
  rw [chFlag, regAt_setReg_other _ _ (by omega), regAt_setReg_same]

theorem chHead_chFlag (s : State) (c b : Nat) : chHead (chFlag s c b) c = chHead s c :=
  regAt_chFlag_other s c b (by omega) (by omega)

theorem chState_setChState (s : State) (c : Nat) {st : Nat} (h : st < 8) : chState (setChState s c st) c = st := by
  simp only [chState, setChState, regAt_setReg_same, bits]
  omega

theorem chHead_setChState (s : State) (c st : Nat) : chHead (setChState s c st) c = chHead s c :=
  regAt_setReg_other _ _ (by omega)

/-- A new STATE leaves DONE and ERROR. -/
theorem bit_setChState (s : State) (c st : Nat) {b : Nat} (h : b < 2) :
    bit ((setChState s c st).regAt (chBase c + 0x14)) b = bit (s.regAt (chBase c + 0x14)) b := by
  have hstate : s.regAt (chBase c + 0x14) % 4 + st * 65536 = 2 ^ 2 * (st * 16384) + s.regAt (chBase c + 0x14) % 2 ^ 2 := by omega
  rw [setChState, regAt_setReg_same, hstate, bit, bit, Nat.testBit_two_pow_mul_add _ (Nat.mod_lt _ (by decide)), if_pos h,
    Nat.testBit_mod_two_pow]
  simp [h]

theorem chHead_chGo (s : State) (c : Nat) : chHead (chGo s c) c = chHead s c := by
  unfold chGo
  split
  · split
    · exact chHead_setChState s c 3
    · exact chHead_setChState s c _
  · exact chHead_setChState s c 0

/-- An enabled channel that nobody stops runs when it has work. -/
theorem chState_chGo {s : State} {c : Nat} (hon : chOn s c = true) (hstop : chStop s c = false) :
    chState (chGo s c) c = if chWork s c then 1 else 0 := by
  have hgo : chGo s c = setChState s c (if chWork s c then 1 else 0) := by simp [chGo, hon, hstop]
  rw [hgo, chState_setChState]
  split <;> decide

theorem chGo_mem (s : State) (c : Nat) : (chGo s c).mem = s.mem := by
  unfold chGo
  split
  · split <;> rfl
  · rfl

end Sys2Proof.Machine
end

section
/-! SUPPORT. The word of a descriptor that its completion writes (R391): DONE and the status. -/

namespace Sys2Proof.Machine
open Sys2Proof

/-- A word reads as it was stored. -/
theorem readWord_storeWord (s : State) (a v : Nat) : readWord (storeWord s a v) a = v % 256 ^ 8 := by
  have hread := readMemN_writeMemN (le 8 v) s.mem a
  rw [le_length] at hread
  rw [readWord, storeWord, storeBytes_mem, hread, leNat_le]

/-- Memory alone decides what a word reads as. -/
theorem readWord_congr {s t : State} (h : t.mem = s.mem) (a : Nat) : readWord t a = readWord s a := by
  simp only [readWord, h]

/-- Word 2 of a descriptor with its status and DONE. -/
def doneWord (w status : Nat) : Nat := setBit (w - bits w 8 8 * 256 + status * 256) 0 true

theorem bit_doneWord (w status : Nat) : bit (doneWord w status % 256 ^ 8) 0 = true := by
  rw [show 256 ^ 8 = 2 ^ 64 from rfl, bit, Nat.testBit_mod_two_pow, doneWord, testBit_setBit]
  rfl

/-- DONE is below the status. -/
theorem setBit_zero_div (n : Nat) : setBit n 0 true / 256 = n / 256 := by
  unfold setBit
  rw [if_pos rfl]
  split
  · rfl
  case isFalse h =>
    rw [Nat.testBit_zero] at h
    simp only [decide_eq_true_eq] at h
    omega

theorem bits_doneWord (w : Nat) {status : Nat} (h : status < 256) : bits (doneWord w status % 256 ^ 8) 8 8 = status := by
  have hlow := setBit_zero_div (w - bits w 8 8 * 256 + status * 256)
  simp only [doneWord, bits] at hlow ⊢
  omega

theorem storeBytes_keeps (s : State) (a : Nat) (v : Bytes) :
    (storeBytes s a v).dma = s.dma ∧ ∀ b, (storeBytes s a v).regAt b = s.regAt b := by
  unfold storeBytes
  split <;> exact ⟨rfl, fun _ => rfl⟩

end Sys2Proof.Machine
end

section
/-! SUPPORT. A completion with an error, in its four parts: the descriptor is written, HEAD moves past it, what else the status
tells is noted, and the channel halts (R391). -/

namespace Sys2Proof.Machine
open Sys2Proof

/-- Words 3 and 2 of the descriptor are written, if it lies in memory; COMPARE's result is cleared on an error. -/
def writeBack (s : State) (x : DmaCur) (status : Nat) : State :=
  if allMemory s x.d.addr 32 then
    storeWord (storeWord s (x.d.addr + 24) (readWord s (x.d.addr + 24) / 2 ^ 24 * 2 ^ 24)) (x.d.addr + 16)
      (doneWord (readWord s (x.d.addr + 16)) status)
  else s

/-- HEAD moves past the descriptor, which is no longer in progress; it is counted, and the channel's DONE is set. -/
def passDescriptor (s : State) (c : Fin 64) (pos : Nat) : State :=
  let moved := s.setReg (chBase c + 0x10) ((chHead s c + 1) % chSize s c)
  chFlag (chStat (chStat (setCur moved c none) c 0 8 1) c 8 8 pos) c 0

/-- The operand that NOTIFY asks for is posted, and POISON and ABORTED set their flags. -/
def noteError (s : State) (c : Fin 64) (x : DmaCur) (status : Nat) : State :=
  let s := if x.d.notify then s.postFixed x.opnd else s
  let s := if status = 5 then dmaFlag s 2 else s
  if status = 6 then chStat (dmaFlag s 1) c 24 4 1 else s

/-- The channel's ERROR is set and counted, and it enters HALTED. -/
def haltChannel (s : State) (c : Fin 64) : State := setChState (dmaFlag (chStat (chFlag s c 1) c 20 4 1) 0) c 4

theorem dmaComplete_error (s : State) (c : Fin 64) (x : DmaCur) {status : Nat} (h : 2 ≤ status) :
    dmaComplete s c x status = haltChannel (noteError (passDescriptor (writeBack s x status) c x.pos) c x status) c := by
  have hmismatch : status ≠ 1 := by omega
  have hok : status ≠ 0 := by omega
  simp only [dmaComplete, hmismatch, hok, h, and_false, if_false, if_true, Nat.add_zero]
  rfl

/-! ### The descriptor -/

theorem writeBack_keeps (s : State) (x : DmaCur) (status : Nat) :
    (writeBack s x status).dma = s.dma ∧ ∀ a, (writeBack s x status).regAt a = s.regAt a := by
  unfold writeBack
  split
  · obtain ⟨hdma3, hreg3⟩ :=
      storeBytes_keeps s (x.d.addr + 24) (le 8 (readWord s (x.d.addr + 24) / 2 ^ 24 * 2 ^ 24))
    obtain ⟨hdma2, hreg2⟩ :=
      storeBytes_keeps (storeWord s (x.d.addr + 24) (readWord s (x.d.addr + 24) / 2 ^ 24 * 2 ^ 24)) (x.d.addr + 16)
        (le 8 (doneWord (readWord s (x.d.addr + 16)) status))
    exact ⟨hdma2.trans hdma3, fun a => (hreg2 a).trans (hreg3 a)⟩
  · exact ⟨rfl, fun _ => rfl⟩

theorem readWord_writeBack {s : State} {x : DmaCur} (status : Nat) (h : allMemory s x.d.addr 32 = true) :
    readWord (writeBack s x status) (x.d.addr + 16) = doneWord (readWord s (x.d.addr + 16)) status % 256 ^ 8 := by
  rw [writeBack, if_pos h, readWord_storeWord]

/-! ### HEAD and the descriptors in progress -/

theorem passDescriptor_mem (s : State) (c : Fin 64) (pos : Nat) : (passDescriptor s c pos).mem = s.mem := by
  simp [passDescriptor]

theorem dmaCur_passDescriptor (s : State) (c k : Fin 64) (pos : Nat) :
    dmaCur (passDescriptor s c pos) k = if c = k then none else dmaCur s k := by
  have hcur : (passDescriptor s c pos).dma.cur = vmod s.dma.cur c fun _ => none := by
    simp [passDescriptor, setCur]
  rw [dmaCur, hcur, vmod_get, dmaCur]

theorem chHead_passDescriptor (s : State) (c : Fin 64) (pos : Nat) :
    chHead (passDescriptor s c pos) c.val = (chHead s c.val + 1) % chSize s c.val := by
  rw [passDescriptor, chHead_chFlag, chHead]
  simp

/-! ### What else the status tells -/

theorem keepsChannels_noteError (s : State) (c : Fin 64) (x : DmaCur) (status : Nat) :
    KeepsChannels s (noteError s c x status) := by
  unfold noteError
  extract_lets notified poisoned
  have hnotified : KeepsChannels s notified := keepsChannels_ite (keepsChannels_postOperand ..) (.refl s)
  have hpoisoned : KeepsChannels s poisoned := hnotified.trans (keepsChannels_ite (keepsChannels_dmaFlag ..) (.refl notified))
  exact hpoisoned.trans (keepsChannels_ite ((keepsChannels_dmaFlag ..).trans (keepsChannels_chStat ..)) (.refl poisoned))

/-! ### HALTED -/

theorem haltChannel_mem (s : State) (c : Fin 64) : (haltChannel s c).mem = s.mem := by simp [haltChannel]

theorem haltChannel_dma (s : State) (c : Fin 64) : (haltChannel s c).dma = s.dma := by simp [haltChannel]

theorem chHead_haltChannel (s : State) (c : Fin 64) : chHead (haltChannel s c) c.val = chHead s c.val := by
  rw [haltChannel, chHead_setChState, chHead, regAt_dmaFlag, regAt_chStat, ← chHead, chHead_chFlag]

theorem chState_haltChannel (s : State) (c : Fin 64) : chState (haltChannel s c) c.val = 4 := chState_setChState _ _ (by decide)

theorem error_haltChannel (s : State) (c : Fin 64) : bit ((haltChannel s c).regAt (chBase c.val + 0x14)) 1 = true := by
  rw [haltChannel, bit_setChState _ _ _ (by decide), regAt_dmaFlag, regAt_chStat, regAt_chFlag_status]
  exact testBit_setBit _ 1

/-! ### The whole completion -/

section Error
variable (s : State) (c : Fin 64) (x : DmaCur) {status : Nat} (h : 2 ≤ status)
include h

theorem dmaComplete_error_mem : (dmaComplete s c x status).mem = (writeBack s x status).mem := by
  rw [dmaComplete_error s c x h, haltChannel_mem, (keepsChannels_noteError ..).mem, passDescriptor_mem]

theorem dmaCur_dmaComplete_error (k : Fin 64) : dmaCur (dmaComplete s c x status) k = if c = k then none else dmaCur s k := by
  have hpassed : dmaCur (dmaComplete s c x status) k = dmaCur (passDescriptor (writeBack s x status) c x.pos) k := by
    rw [dmaComplete_error s c x h]
    simp only [dmaCur, haltChannel_dma, (keepsChannels_noteError ..).dma]
  rw [hpassed, dmaCur_passDescriptor]
  simp only [dmaCur, (writeBack_keeps s x status).1]

theorem chHead_dmaComplete_error : chHead (dmaComplete s c x status) c.val = (chHead s c.val + 1) % chSize s c.val := by
  have hreg := (writeBack_keeps s x status).2
  rw [dmaComplete_error s c x h, chHead_haltChannel, chHead, (keepsChannels_noteError ..).regAt _ (chBase_add_lt c (by decide)),
    ← chHead, chHead_passDescriptor]
  simp only [chHead, chSize, hreg]

theorem chState_dmaComplete_error : chState (dmaComplete s c x status) c.val = 4 := by
  rw [dmaComplete_error s c x h, chState_haltChannel]

theorem error_dmaComplete_error : bit ((dmaComplete s c x status).regAt (chBase c.val + 0x14)) 1 = true := by
  rw [dmaComplete_error s c x h, error_haltChannel]

end Error

theorem exec_dmaDescriptorDone (c : Fin 64) (s : State) : exec (.dmaDescriptorDone c) s = execDmaDescriptorDone c s := rfl

/-- A descriptor that has only its completion left completes with the status it ended with. -/
theorem exec_dmaDescriptorDone_ready {c : Fin 64} {x : DmaCur} {s : State} (hup : Up s) (hx : dmaCur s c = some x)
    (hready : x.ready = true) :
    exec (.dmaDescriptorDone c) s = .next (s.keepQueue (dmaComplete s c x x.status)) := by
  rw [exec_dmaDescriptorDone, execDmaDescriptorDone, live_up hup]
  simp only [hx, hready, if_true]

/-- R391, for every status that halts: DMA_DESCRIPTOR_DONE. -/
theorem dmaHalts : Claim.DmaHalts := by
  intro c x s hup hx hready herror hbyte hin
  have hmem : (s.keepQueue (dmaComplete s c x x.status)).mem = (writeBack s x x.status).mem := dmaComplete_error_mem s c x herror
  refine ⟨_, exec_dmaDescriptorDone_ready hup hx hready, ?_, ?_, ?_, chHead_dmaComplete_error s c x herror,
    chState_dmaComplete_error s c x herror, error_dmaComplete_error s c x herror, fun k hk => ?_⟩
  · exact (dmaCur_dmaComplete_error s c x herror c).trans (if_pos rfl)
  · rw [readWord_congr hmem, readWord_writeBack _ hin, bits_doneWord _ hbyte]
  · rw [readWord_congr hmem, readWord_writeBack _ hin, bit_doneWord]
  · exact (dmaCur_dmaComplete_error s c x herror k).trans (if_neg (Ne.symm hk))

end Sys2Proof.Machine
end

section
/-! SUPPORT. A HALTED channel: no burst, no start by its doorbell, and RESUME (R391). -/

namespace Sys2Proof.Machine
open Sys2Proof

section Halted
variable {s : State} {c : Nat} (h : chState s c = 4)
include h

theorem hasBurst_halted : hasBurst s c = false := by simp [hasBurst, h]

/-- The doorbell of a HALTED channel writes TAIL and starts nothing. -/
theorem chDoorbell_halted (tail : Nat) : chDoorbell s c tail = s.setReg (chBase c + 0xC) (tail % 4096) := by
  have hstill : chState (s.setReg (chBase c + 0xC) (tail % 4096)) c = 4 :=
    (chState_congr (regAt_setReg_other _ _ (by omega))).trans h
  simp [chDoorbell, hstill]

theorem chState_chDoorbell_halted (tail : Nat) : chState (chDoorbell s c tail) c = 4 := by
  rw [chDoorbell_halted h, chState_congr (regAt_setReg_other _ _ (by omega)), h]

theorem chResume_halted : chResume s c = chGo s c := if_pos h

end Halted

theorem exec_dmaDoorbell {s : State} (hup : Up s) (k : CoreId) (c : Fin 64) (tail : Nat) :
    exec (.dmaDoorbell k c tail) s = .next (s.keepQueue (chDoorbell s c tail)) := by
  rw [show exec (.dmaDoorbell k c tail) s = execDmaDoorbell k c tail s from rfl, execDmaDoorbell, live_up hup]

theorem exec_dmaResume {s : State} (hup : Up s) (k : CoreId) (c : Fin 64) :
    exec (.dmaResume k c) s = .next (s.keepQueue (chResume s c)) := by
  rw [show exec (.dmaResume k c) s = execDmaResume k c s from rfl, execDmaResume, live_up hup]

/-- R391, for a channel that is HALTED: DMA_DOORBELL and DMA_RESUME. -/
theorem dmaHalted : Claim.DmaHalted := by
  intro c k tail s hup h
  refine ⟨hasBurst_halted h, ⟨_, exec_dmaDoorbell hup k c tail, chState_chDoorbell_halted h tail, ?_⟩,
    fun hon hstop => ⟨_, exec_dmaResume hup k c, ?_⟩⟩
  · rw [keepQueue_mem, chDoorbell_halted h, setReg_mem]
  · rw [chResume_halted h]
    exact ⟨chState_chGo hon hstop, chHead_chGo s c, chGo_mem s c⟩

/-- Settles O14: a completion with an error writes the descriptor, moves HEAD and halts the channel, whatever NOTIFY posts; and
HALTED ends only by RESUME, which leaves HEAD. -/
theorem dmaErrorsHalt : Obligations.DmaErrorsHalt := ⟨dmaHalts, dmaHalted⟩

end Sys2Proof.Machine
end

section
/-! SUPPORT. CREATE with every thread slot in use: refused with FULL (R409). -/

namespace Sys2Proof.Machine
open Sys2Proof

/-- The search finds nothing where no number it visits passes. -/
theorem findFrom_eq_none {p : Nat → Bool} {k i : Nat} (h : ∀ j, i ≤ j → j < i + k → p j = false) : findFrom p k i = none := by
  induction k generalizing i with
  | zero => rfl
  | succ k ih =>
    have hfirst : p i = false := h i (by omega) (by omega)
    have hrest : findFrom p k (i + 1) = none := ih fun j hlo hhi => h j (by omega) (by omega)
    simp [findFrom, hfirst, hrest]

theorem findLt_eq_none {n : Nat} {p : Nat → Bool} (h : ∀ j, j < n → p j = false) : findLt n p = none :=
  findFrom_eq_none fun j _ hj => h j (by omega)

theorem lowestFree_eq_none {s : State} (h : ∀ k, k < 512 → (s.thread k).st ≠ .free) : lowestFree s = none :=
  findLt_eq_none fun k hk => decide_eq_false (h k hk)

/-- A core's dispatcher has written DSP_ARG and refuses with FULL: counted, and THREAD_FULL is set. -/
def threadsFull (s : State) (c : CoreId) (arg : Nat) : State :=
  (((s.setReg (dspBase c + 0x18) arg).stat 0x6820 0 6 1).setFlag 0x6821 0 1).modCore c fun k => { k with result := 0x10000 }

/-- CREATE of a thread that some core may run, with no slot FREE. -/
theorem exec_create_full {c : CoreId} {op arg : Nat} {s : State} (hup : Up s) (hmask : bits op 24 8 ≠ 0)
    (hfull : ∀ k, k < 512 → (s.thread k).st ≠ .free) : exec (.create c op arg) s = .next (threadsFull s c arg) := by
  have hnone : lowestFree (s.setReg (dspBase c + 0x18) arg) = none := lowestFree_eq_none (by simpa using hfull)
  rw [show exec (.create c op arg) s = execCreate c op arg s from rfl, execCreate, live_up hup]
  simp only [hmask, if_false, hnone]
  rfl

theorem result_threadsFull (s : State) (c : CoreId) (arg : Nat) : ((threadsFull s c arg).core c).result = 0x10000 := by
  simp [threadsFull]

theorem bit_threadsFull (s : State) (c : CoreId) (arg : Nat) : bit ((threadsFull s c arg).objN 0x6821 0) 1 = true := by
  rw [threadsFull, objN_modCore, bit_setFlag _ (by decide) (by decide)]

/-- Settles O10: with no slot FREE the search for the lowest one finds none, and CREATE takes its refusing branch. -/
theorem createRefusedWhenFull : Obligations.CreateRefusedWhenFull := by
  intro c op arg s hup hmask hfull
  exact ⟨threadsFull s c arg, exec_create_full hup hmask hfull, result_threadsFull s c arg, bit_threadsFull s c arg, rfl⟩

end Sys2Proof.Machine
end

section
/-! SUPPORT. REF_WINDOW in step B: the run of good windows, and that the step is complete at two in a row (R475). -/

namespace Sys2Proof.Machine
open Sys2Proof

theorem windowGood_iff {n : Nat} : windowGood n = true ↔ 78047 ≤ n ∧ n ≤ 78203 := decide_eq_true_iff

/-- The run of good windows after one more window of `n` edges. -/
def runAfter (run n : Nat) : Nat := if windowGood n then run + 1 else 0

/-- Two windows complete the pair, from no good window, only when both are good: a bad one ends the run. -/
theorem two_le_runAfter_runAfter {m n : Nat} :
    2 ≤ runAfter (runAfter 0 m) n ↔ windowGood m = true ∧ windowGood n = true := by
  by_cases hn : windowGood n = true
  · by_cases hm : windowGood m = true <;> simp [runAfter, hm, hn]
  · simp [runAfter, hn]

theorem runAfter_zero_lt_two (m : Nat) : runAfter 0 m < 2 := by
  unfold runAfter; split <;> omega

/-- A start-up that has counted one more window of REF_CLK edges. -/
def countWindow (x : Start) (n : Nat) : Start := { x with lastWindow := n, refRun := runAfter x.refRun n }

section StepB
variable {x : Start} (hphase : x.phase = .stepB)
include hphase

/-- Step B is not left before two good windows in a row. -/
theorem advanceStart_stepB_waits (hrun : x.refRun < 2) : advanceStart x = x := by
  have hB : stepB x = x := if_neg fun h => absurd h.2 (by omega)
  simp [advanceStart, stepA, hB, stepC, hphase]

/-- Two good windows in a row end step B, in step C or, with the MAIN rails already good, beyond it. -/
theorem advanceStart_stepB_leaves (hrun : 2 ≤ x.refRun) : (advanceStart x).phase ≠ .stepB := by
  have hB : stepB x = { x with phase := .stepC, enMain := true, attempts := 0 } := if_pos ⟨hphase, hrun⟩
  have hA : stepA x = x := if_neg fun h => by simp [hphase] at h
  rw [advanceStart, hA, hB, stepC]
  split <;> simp

theorem advanceStart_phase_ne_stepB_iff : (advanceStart x).phase ≠ .stepB ↔ 2 ≤ x.refRun := by
  refine ⟨fun hleft => Nat.le_of_not_lt fun hrun => hleft ?_, advanceStart_stepB_leaves hphase⟩
  rw [advanceStart_stepB_waits hphase hrun, hphase]

end StepB

/-- A window of a start-up in step B with the crystal oscillator enabled is counted, and the step ends where it is complete. -/
theorem exec_refWindow {s : State} (hphase : s.start.phase = .stepB) (hxo : s.start.xoEn = true) (n : Nat) :
    exec (.refWindow n) s = .next (s.keepQueue (s.setStart (advanceStart (countWindow s.start n)))) := by
  rw [show exec (.refWindow n) s = execRefWindow n s from rfl, execRefWindow, aon_next,
    if_pos ⟨hxo, by simp [hphase]⟩]
  rfl

/-- Settles O15: the first window makes the run at most one, so step B waits; the second makes it two exactly when both are
good. -/
theorem refReady : Obligations.RefReady := by
  intro m n s hphase hxo hrun
  have hfirst : advanceStart (countWindow s.start m) = countWindow s.start m :=
    advanceStart_stepB_waits hphase (by simpa [countWindow, hrun] using runAfter_zero_lt_two m)
  have hwait : exec (.refWindow m) s = .next (s.keepQueue (s.setStart (countWindow s.start m))) := by
    rw [exec_refWindow hphase hxo, hfirst]
  have hsecond := exec_refWindow (s := s.keepQueue (s.setStart (countWindow s.start m))) hphase hxo n
  refine ⟨_, hwait, hphase, _, hsecond, ?_⟩
  calc (advanceStart (countWindow (countWindow s.start m) n)).phase ≠ .stepB
      ↔ 2 ≤ runAfter (runAfter s.start.refRun m) n := advanceStart_phase_ne_stepB_iff hphase
    _ ↔ windowGood m = true ∧ windowGood n = true := hrun ▸ two_le_runAfter_runAfter
    _ ↔ (78047 ≤ m ∧ m ≤ 78203) ∧ (78047 ≤ n ∧ n ≤ 78203) := and_congr windowGood_iff windowGood_iff

end Sys2Proof.Machine
end
